-- ==== Sys2Proof/Word.lean ====
section
/-!
DEFINITION. The word types of the PH4800: a set-up register is 32 bits (spec/00_scope.md R9), a byte 8. Quantities the
manual counts or adds exactly (times, energies, currents in mA) are Nat or Int and are narrowed where the manual narrows them.
-/
namespace Sys2Proof

/-- A set-up register's contents (spec/00_scope.md R9). -/
abbrev Word := BitVec 32

/-- One byte of a frame, a record or a descriptor. -/
abbrev Byte := BitVec 8

/-- One 66-bit block of a serial lane (spec/07_serial_lanes.md R149): the sync header, 01 for data and 10 for control, and the 64
bits after it, byte 0 lowest. -/
structure LaneBlock where
  sync : BitVec 2
  data : BitVec 64
  deriving DecidableEq, Repr

/-- A descriptor in flight: its ring and its free-running index (spec/17 R407, R410). -/
structure DescRef where
  ring : Fin 64
  idx : BitVec 32
  deriving DecidableEq, Repr

end Sys2Proof
end

