-- ==== Sys2Proof/Machine/Table.lean ====
section
/-!
DEFINITION. Per-entity storage of the model (registers, lanes, ports, strings, table entries ...): a list of
(index, value) pairs in ONE canonical form, indices strictly rising and no entry equal to what an unlisted index reads as,
so that equal contents are equal data. `d` gives what an unlisted index reads as.
-/
namespace Sys2Proof.Machine

/-- A sparse table keyed by a natural number. -/
abbrev Tab (α : Type) := List (Nat × α)

/-- What index `k` of table `t` holds; an unlisted index holds `d k`. -/
def tget {α : Type} (d : Nat → α) (t : Tab α) (k : Nat) : α :=
  match t with
  | [] => d k
  | (i, v) :: r => if i = k then v else tget d r k

/-- Puts `v` at index `k`, in front of every larger index, whatever was listed for `k` dropped. -/
def tput {α : Type} (t : Tab α) (k : Nat) (v : α) : Tab α :=
  match t with
  | [] => [(k, v)]
  | (i, u) :: r => if k < i then (k, v) :: (i, u) :: r else if i = k then (k, v) :: r else (i, u) :: tput r k v

/-- Takes index `k` off the list. -/
def tdel {α : Type} (t : Tab α) (k : Nat) : Tab α :=
  match t with
  | [] => []
  | (i, u) :: r => if i = k then tdel r k else (i, u) :: tdel r k

/-- Writes `v` at index `k`; writing what an unlisted index reads as removes the entry. -/
def tset {α : Type} [DecidableEq α] (d : Nat → α) (t : Tab α) (k : Nat) (v : α) : Tab α :=
  if v = d k then tdel t k else tput t k v

/-- Indices strictly rising from `b` on, and no entry equal to what an unlisted index reads as. -/
def tabWfFrom {α : Type} [DecidableEq α] (d : Nat → α) : Nat → Tab α → Bool
  | _, [] => true
  | b, (i, v) :: r => decide (b ≤ i) && decide (v ≠ d i) && tabWfFrom d (i + 1) r

/-- The canonical form. -/
def tabWf {α : Type} [DecidableEq α] (d : Nat → α) (t : Tab α) : Bool := tabWfFrom d 0 t

/-! ### MRAM areas with two copies (spec/10 R241) -/

/-- One copy of an MRAM area: whether its CRC-32 holds, its sequence number and its contents. -/
structure Copy (α : Type) where
  valid : Bool
  seq : Nat
  val : α
  deriving DecidableEq, Repr

/-- The two copies of an MRAM area. -/
structure Twins (α : Type) where
  a : Option (Copy α)
  b : Option (Copy α)
  deriving DecidableEq, Repr

/-- An area nothing has been written to. -/
def Twins.blank {α : Type} : Twins α := { a := none, b := none }

/-- The valid copy with the higher sequence number wins (spec/10 R241). -/
def Twins.winner {α : Type} (t : Twins α) : Option (Copy α) :=
  match t.a.filter (·.valid), t.b.filter (·.valid) with
  | some x, some y => if x.seq < y.seq then some y else some x
  | some x, none => some x
  | none, y => y

/-- What the area holds. -/
def Twins.get {α : Type} (t : Twins α) : Option α := t.winner.map (·.val)

/-- New contents are written to both copies, one after the other, under the next sequence number (spec/10 R241). -/
def Twins.put {α : Type} (t : Twins α) (v : α) : Twins α :=
  let c : Copy α := { valid := true, seq := (t.winner.map (·.seq)).getD 0 + 1, val := v }
  { a := some c, b := some c }

/-- A copy fails its CRC-32; `second` names copy B. -/
def Twins.spoil {α : Type} (t : Twins α) (second : Bool) : Twins α :=
  if second then { t with b := t.b.map (fun c => { c with valid := false }) }
  else { t with a := t.a.map (fun c => { c with valid := false }) }

/-- A refresh rewrites each copy: a valid one as it is, sequence number included, a failing one from the other (spec/10 R242). -/
def Twins.refresh {α : Type} (t : Twins α) : Twins α :=
  match t.winner with
  | none => t
  | some w =>
    let fix (c : Option (Copy α)) : Option (Copy α) := if (c.filter (·.valid)).isSome then c else some w
    { a := fix t.a, b := fix t.b }

/-- A copy fails while the other is there to repair it. -/
def Twins.failing {α : Type} (t : Twins α) : Bool :=
  t.winner.isSome && !((t.a.filter (·.valid)).isSome && (t.b.filter (·.valid)).isSome)

end Sys2Proof.Machine
end

