-- ==== Sys2Proof/Machine/Entries.lean ====
section
/-!
DEFINITION. Constraint entries and running migrations as data (spec/05_constraints_and_allocation.md): the Churn keeps them
and the twin copies them (spec/16 R385).
-/
namespace Sys2Proof.Machine

/-- A constraint entry (spec/05 R94). -/
structure Entry where
  type : Nat
  enabled : Bool
  windowed : Bool
  device : Bool
  target : Nat
  ownerTag : Nat
  start : Nat
  stop : Nat
  a : Int
  b : Int
  deriving DecidableEq, Repr

/-- An index nothing has been written to: disabled, all fields 0. -/
def Entry.zero : Entry :=
  { type := 0, enabled := false, windowed := false, device := false, target := 0, ownerTag := 0, start := 0, stop := 0, a := 0, b := 0 }

/-- A running migration (spec/05 R122). -/
structure Mig where
  slot : Nat
  block : Nat
  /-- old port, 0xFF for none -/
  old : Nat
  /-- new port, 0xFF for none -/
  new : Nat
  ramp : Nat
  set : Nat
  /-- tick of the snapshot it enters -/
  start : Nat
  /-- normal curds sealed since it entered -/
  e : Nat
  /-- MIG_STEP of the last curd sealed, 0 before the first -/
  step : Nat
  ring : Nat
  idx : Nat
  deriving DecidableEq, Repr

end Sys2Proof.Machine
end

