-- ==== Sys2Proof/Machine/StateCce.lean ====
section
/-!
DEFINITION. State of the Press beside its registers (spec/08_press_converter_control.md).
-/
namespace Sys2Proof.Machine

/-- STATE of a converter (spec/08 R196). -/
inductive CState where
  | off | soft | running | latched
  deriving DecidableEq, Repr

/-- The code of a converter state (R196, R88). -/
def CState.code : CState → Nat
  | .off => 0 | .soft => 1 | .running => 2 | .latched => 3

/-- A duty as an exact fraction. -/
structure Duty where
  num : Int
  den : Nat
  deriving DecidableEq, Repr

/-- A phase removal in progress (spec/08 R185). -/
structure Removal where
  phase : Nat
  /-- first cycle of the removal -/
  c0 : Nat
  /-- cycle from which the phase is back at full duty, once cancelled -/
  stopAt : Option Nat
  deriving DecidableEq, Repr

/-- Sums of the averaging window (spec/08 R193). -/
structure CceSum where
  n : Nat
  i : Int
  bat : Int
  bus : Int
  duty : Int
  sw : Int
  cbc : Nat
  /-- site time of the last sample -/
  last : Nat
  deriving DecidableEq, Repr

def CceSum.zero : CceSum := { n := 0, i := 0, bat := 0, bus := 0, duty := 0, sw := 0, cbc := 0, last := 0 }

/-- One converter beside its registers. -/
structure Cce where
  /-- STATE; 2 bits; spec/08 R196; reset off -/
  state : CState
  /-- active phases in ascending order; spec/08 R183, R185; reset none -/
  act : List Nat
  /-- HOLD_REASON 1 to 3 found at the last request for ACTIVE or SHADOW; spec/08 R177; reset 0 -/
  cfgHold : Nat
  /-- off by a ZERO curd or a cleared CONNECT, HOLD_REASON 5; 1 bit; spec/08 R191; reset false -/
  zeroHold : Bool
  /-- TEMP_OFF; 1 bit; spec/08 R191; reset 0 -/
  tempOff : Bool
  /-- assigned channels at WARN; spec/08 R191; reset none -/
  warned : List Nat
  /-- site time of the event that lets soft start begin with the next curd; spec/08 R186; reset none -/
  arm : Option Nat
  /-- site time at which soft start began; spec/08 R186; reset 0 -/
  ssAt : Nat
  /-- BUS_V at the start of soft start, mV; spec/08 R186; reset 0 -/
  ssV0 : Int
  /-- cycle in which soft start began: the one that carries RESTART; spec/08 R186; reset 0 -/
  ssCycle : Nat
  /-- READY; 1 bit; spec/08 R187; reset 0 -/
  ready : Bool
  /-- consecutive samples within 2 % of SS_TGT; spec/08 R187; reset 0 -/
  good : Nat
  /-- consecutive samples below 60 % of V_R; spec/08 R187; reset 0 -/
  lowBus : Nat
  /-- soft-start failure found by the monitor; spec/08 R187; reset false -/
  monitor : Bool
  /-- the present cycle is current-limited; 1 bit; spec/08 R189; reset false -/
  limNow : Bool
  /-- consecutive current-limited cycles; spec/08 R187, R190; reset 0 -/
  limRun : Nat
  /-- RETRIES used; 4 bits; spec/08 R196; reset 0 -/
  retries : Nat
  /-- uptime at which the retry delay ends; spec/08 R187; reset none -/
  retryAt : Option Nat
  /-- retry delay left while paused at SHUT, ns; spec/08 R192; reset none -/
  retryLeft : Option Nat
  /-- uptime of the entry into running; spec/08 R188; reset 0 -/
  runAt : Nat
  /-- uptime since which the converter regulates to 0 A to switch off; spec/08 R191; reset none -/
  zeroAt : Option Nat
  /-- consecutive samples below 2 % of I_RATED; spec/08 R191; reset 0 -/
  zeroRun : Nat
  /-- compensator history u[n−1], u[n−2], u[n−3], mV; spec/08 R181; reset 0 -/
  u1 : Int
  u2 : Int
  u3 : Int
  /-- compensator history e[n−1], e[n−2], e[n−3], mA; spec/08 R181; reset 0 -/
  e1 : Int
  e2 : Int
  e3 : Int
  /-- last control samples of BAT_I with their cycles, newest first, two kept; spec/08 R185; reset empty -/
  lastI : List (Nat × Int)
  /-- last BAT_V, mV; spec/08 R179; reset 0 -/
  batV : Int
  /-- last BUS_V, mV; spec/08 R179; reset 0 -/
  busV : Int
  /-- mean switch-node voltage of the previous tick, mV; spec/08 R179; reset 0 -/
  swMean : Int
  /-- current reference of the last sample, mA; spec/08 R180; reset 0 -/
  iRef : Int
  /-- duty by cycle for the cycles still to come; spec/08 R179, R182; reset empty -/
  duties : List (Nat × Duty)
  /-- cycle of the last firing of the load-step detector; spec/08 R185; reset none -/
  stepAt : Option Nat
  /-- removal in progress; spec/08 R185; reset none -/
  removal : Option Removal
  /-- added phases still ramping, with the cycle they were added; spec/08 R185; reset empty -/
  adds : List (Nat × Nat)
  /-- site time before which lowered requests are ignored; spec/08 R185; reset none -/
  lockTo : Option Nat
  /-- averaging window; spec/08 R193; reset zero -/
  sum : CceSum
  deriving DecidableEq, Repr

def Cce.reset : Cce :=
  { state := .off, act := [], cfgHold := 0, zeroHold := false, tempOff := false, warned := [], arm := none, ssAt := 0,
    ssV0 := 0, ssCycle := 0, ready := false, good := 0, lowBus := 0, monitor := false, limNow := false, limRun := 0,
    retries := 0, retryAt := none, retryLeft := none, runAt := 0, zeroAt := none, zeroRun := 0, u1 := 0, u2 := 0, u3 := 0,
    e1 := 0, e2 := 0, e3 := 0, lastI := [], batV := 0, busV := 0, swMean := 0, iRef := 0, duties := [], stepAt := none,
    removal := none, adds := [], lockTo := none, sum := CceSum.zero }

/-- The pulse of a phase in the present cycle, offsets from S_k in units of 156.25 ps (spec/08 R183, spec/06 R134). -/
structure Pulse where
  en : Bool
  on : Nat
  off : Nat
  /-- the low side's turn-off before, and turn-on after, the high-side pulse; none when the low side does not switch -/
  loOff : Option Int
  loOn : Option Nat
  deriving DecidableEq, Repr

def Pulse.none : Pulse := { en := false, on := 0, off := 0, loOff := Option.none, loOn := Option.none }

/-- The Press. -/
structure Press where
  /-- converters C0 to C3; spec/08 R177; reset all Cce.reset -/
  convs : Tab Cce
  /-- number of the present cycle k; spec/08 R178; reset none -/
  cycle : Option Nat
  /-- pulses of the present cycle by phase; spec/08 R183; reset all off -/
  pulses : Tab Pulse
  /-- switches truncated in the present cycle: phase, true for the low side; spec/08 R189; reset none -/
  cuts : List (Nat × Bool)
  /-- launch instant of the curd last taken; spec/08 R185; reset none -/
  launch : Option Nat
  deriving DecidableEq, Repr

def Press.reset : Press := { convs := [], cycle := none, pulses := [], cuts := [], launch := none }

end Sys2Proof.Machine
end

