-- ==== Sys2Proof/Machine/StateMte.lean ====
section
/-!
DEFINITION. State of the Metrology Engine (spec/09_metrology.md), of the Record Sealer and of the Key Vault
(spec/10_records_and_keys.md) beside their registers.
-/
namespace Sys2Proof.Machine

/-- One metering channel, 0 to 71 (spec/09 R198). -/
structure MChan where
  /-- fault causes in force, one bit each: 1 stuck, 2 filter, 4 table; spec/09 R216; reset 0 -/
  cause : Nat
  /-- uptime of the last detection of cause 1 or 2; spec/09 R216; reset 0 -/
  since : Nat
  /-- uptime at which the present run at full scale began; spec/09 R216; reset none -/
  fullAt : Option Nat
  /-- sample windows missing since detection; spec/09 R216, R228; reset 0 -/
  lost : Nat
  /-- samples still missing after restoration; spec/09 R216; reset 0 -/
  skip : Nat
  /-- uptime of the last restoration; spec/09 R216; reset 0 -/
  back : Nat
  /-- last 16 kS/s output, 2^−8 mV or mA; 40 bits; spec/09 R202, R203; reset 0 -/
  out : Int
  deriving DecidableEq, Repr

def MChan.reset : MChan := { cause := 0, since := 0, fullAt := none, lost := 0, skip := 0, back := 0, out := 0 }

/-- An energy accumulator (spec/09 R207). -/
structure EnAcc where
  /-- ACC; 64 bits, 10 µWh; reset 0 -/
  acc : Nat
  /-- residue below Q; reset 0 -/
  res : Nat
  /-- 32-bit wraps since the last read of MTE_ROLL_STAT, saturating at 255; spec/09 R210; reset 0 -/
  wraps : Nat
  deriving DecidableEq, Repr

def EnAcc.reset : EnAcc := { acc := 0, res := 0, wraps := 0 }

/-- What is counted over an interval or a session (spec/09 R212); each 32 bits, saturating. -/
structure Span where
  rev : Nat
  samples : Nat
  zero : Nat
  missing : Nat
  ovr : Bool
  gap : Bool
  deriving DecidableEq, Repr

def Span.zeroed : Span := { rev := 0, samples := 0, zero := 0, missing := 0, ovr := false, gap := false }

/-- A metered entity: ports 0–23, then G0 and G1 as 24 and 25. -/
structure Meter where
  /-- import and export accumulators; spec/09 R206, R207; reset 0 -/
  imp : EnAcc
  exp : EnAcc
  /-- sign of the last product that was not 0; spec/09 R208; reset 0 -/
  sign : Int
  /-- open interval; spec/09 R212; reset zero -/
  span : Span
  /-- open session; spec/09 R212; reset zero -/
  sess : Span
  /-- stamp of the last sample window, site ns, with the accumulators and the session span before it and what it alone counts: a session
  boundary at that stamp lies before it; spec/09 R212, R213; reset none and zero -/
  lastT : Option Nat
  imp0 : Nat
  exp0 : Nat
  sess0 : Span
  one : Span
  /-- CAL_ID of the last reading; spec/09 R212; reset none -/
  cal : Option Nat
  /-- uptime of the last sample window; spec/09 R200; reset none -/
  lastAt : Option Nat
  /-- last three-phase products of an AC point, newest first, 2^−16 µW; spec/09 R218; reset empty -/
  hist : List Int
  deriving DecidableEq, Repr

def Meter.reset : Meter :=
  { imp := EnAcc.reset, exp := EnAcc.reset, sign := 0, span := Span.zeroed, sess := Span.zeroed, lastT := none,
    imp0 := 0, exp0 := 0, sess0 := Span.zeroed, one := Span.zeroed, cal := none, lastAt := none, hist := [] }

/-- A boundary reading (spec/09 R212). -/
structure Reading where
  /-- metered entity: 0–23 ports, 24, 25 AC points -/
  e : Nat
  /-- 0 interval, 1 session start, 2 session end, 3 resume -/
  kind : Nat
  /-- bits 0 MISSING, 1 OVERRANGE, 2 POWER_GAP, 3 CAL_CHANGED -/
  flags : Nat
  calId : Nat
  tBound : Nat
  /-- stamp of the first sample at or after the boundary, once it is there -/
  tFirst : Option Nat
  imp : Nat
  exp : Nat
  rev : Nat
  samples : Nat
  zero : Nat
  missing : Nat
  deriving DecidableEq, Repr

/-- One copy of the checkpoint (MRAM; spec/09 R214). -/
structure Ckpt where
  /-- its CRC-32 holds -/
  valid : Bool
  seq : Nat
  t : Nat
  meters : Tab Meter
  deriving DecidableEq, Repr

/-- A capture job (spec/09 R221). -/
structure MCap where
  ring : Nat
  idx : Nat
  a : Nat
  b : Nat
  kind : Nat
  count : Nat
  addr : Nat
  /-- CORRECTED, and the test frequency, Hz -/
  corrected : Bool
  freq : Nat
  /-- a named channel went into fault during the job -/
  hit : Bool
  /-- samples taken; for kind 0 their values, newest first; sum, sum of squares, minimum and maximum; summed products in each
  direction and samples of product 0 -/
  n : Nat
  data : List Int
  sum : Int
  sq : Nat
  lo : Int
  hi : Int
  imp : Nat
  exp : Nat
  zero : Nat
  deriving DecidableEq, Repr

/-- Values of one basic window of an AC point, at their registers' layout +0x14 to +0x60 (spec/09 R217, R226), and the
detectors. -/
structure AcPoint where
  /-- words of registers +0x14 to +0x60 of the last window; spec/09 R226; reset 0 -/
  words : List Nat
  /-- frequency of the last completed window, mHz; spec/09 R203; reset none -/
  freq : Option Nat
  /-- uptime of the end of the last basic window; spec/09 R217; reset none -/
  winAt : Option Nat
  /-- windows within F_DEV since the frequency left it; spec/09 R219; reset 0 -/
  freqOk : Nat
  /-- consecutive windows with, and without, a missing-neutral condition; spec/09 R219; reset 0 -/
  neuOn : Nat
  neuOff : Nat
  /-- the sequence detector is past its onset; spec/09 R219; reset false -/
  seqOn : Bool
  deriving DecidableEq, Repr

def AcPoint.reset : AcPoint := { words := [], freq := none, winAt := none, freqOk := 0, neuOn := 0, neuOff := 0, seqOn := false }

/-- Metrology Engine. -/
structure Mte where
  /-- channels 0 to 71; spec/09 R198; reset all MChan.reset -/
  chans : Tab MChan
  /-- metered entities; spec/09 R206; reset all Meter.reset -/
  meters : Tab Meter
  /-- AC points; spec/09 R217; reset all AcPoint.reset -/
  ac : Tab AcPoint
  /-- site time, ns, up to which billing boundaries have been taken; spec/09 R211; reset none -/
  upTo : Option Nat
  /-- uptime of the end of an 8 kS/s window: the pairing that both AC points share; spec/09 R200; reset none -/
  pairAt : Option Nat
  /-- checkpoint copies A and B (MRAM); spec/09 R214; reset none (an unwritten MRAM, DESIGN CHOICE, log entry 6) -/
  ckptA : Option Ckpt
  ckptB : Option Ckpt
  /-- MTE_CAL_ID and digest of the last sealed tables (MRAM); 32 bits each; spec/09 R223; reset 0 -/
  calId : Nat
  digest : Nat
  /-- capture jobs running, at most 8; spec/09 R222; reset empty -/
  caps : List MCap
  /-- capture jobs waiting; spec/09 R222; reset empty -/
  capWait : List MCap
  deriving DecidableEq, Repr

def Mte.reset : Mte :=
  { chans := [], meters := [], ac := [], upTo := none, pairAt := none, ckptA := none, ckptB := none, calId := 0, digest := 0, caps := [], capWait := [] }

/-- A Fjarpin record (spec/10 R232). -/
structure Rec where
  type : Nat
  flags : Nat
  e : Nat
  gen : Nat
  seq : Nat
  claim : Nat
  calId : Nat
  tStart : Nat
  tEnd : Nat
  openImp : Nat
  openExp : Nat
  closeImp : Nat
  closeExp : Nat
  rev : Nat
  samples : Nat
  zero : Nat
  missing : Nat
  /-- 64 bytes -/
  body : List Nat
  /-- 32 bytes -/
  prevHash : List Nat
  tSeal : Nat
  /-- 64 bytes -/
  sig : List Nat
  deriving DecidableEq, Repr

/-- Chain head of an entity (MRAM; spec/10 R243): SEQ, J, HASH and L_e, with the CAL_ID of the record that L_e closes. -/
structure ChainHead where
  seq : Nat
  j : Nat
  hash : List Nat
  calId : Nat
  tEnd : Nat
  imp : Nat
  exp : Nat
  deriving DecidableEq, Repr

/-- The open-session slot of a head entry (MRAM; spec/10 R243). -/
structure OpenSess where
  reading : Reading
  id : Nat
  evcc : List Nat
  contract : List Nat
  deriving DecidableEq, Repr

/-- Intervals skipped since the last INTERVAL record of an entity (spec/10 R231). -/
structure Merge where
  n : Nat
  flags : Nat
  rev : Nat
  samples : Nat
  zero : Nat
  missing : Nat
  deriving DecidableEq, Repr

def Merge.none : Merge := { n := 0, flags := 0, rev := 0, samples := 0, zero := 0, missing := 0 }

/-- A TAKEOVER record still to be built (spec/10 R239). -/
structure Takeover where
  tPromote : Nat
  failedClaim : Nat
  failedSerial : Nat
  failedGen : Nat
  acceptedSeq : Nat
  tStart : Nat
  imp : Nat
  exp : Nat
  unmetered : Bool
  deriving DecidableEq, Repr

/-- What opens the SESSION record of a session that was open at promotion (spec/10 R240). -/
structure TakenSess where
  preValid : Bool
  preImp : Nat
  preExp : Nat
  imp : Nat
  exp : Nat
  deriving DecidableEq, Repr

/-- Work the Record Sealer has before it: a KIND 0 reading with the session open at it, or a session end. -/
inductive Work where
  | interval (r : Reading) (session : Nat)
  | session (r : Reading) (o : OpenSess) (reason : Nat) (taken : Option TakenSess) (gap : Bool)
  deriving DecidableEq, Repr

/-- Record Sealer. -/
structure Rsl where
  /-- readings that wait for their records, oldest first; spec/10 R235; reset empty -/
  work : List Work
  /-- SESSION records that wait for a slot, at most 24; spec/10 R245; reset empty -/
  waiting : List Work
  /-- journal by position, newest first, the last 61,440 (MRAM); spec/10 R241; reset empty -/
  journal : List (Nat × Rec)
  /-- RSL_JPOS_NEXT; 64 bits; spec/10 R244; reset 0 -/
  next : Nat
  /-- RSL_JPOS_ACK; 64 bits (MRAM); spec/10 R244; reset 0 -/
  ack : Nat
  /-- RSL_JPOS_EXP; 64 bits; spec/10 R244; reset 0 -/
  exported : Nat
  /-- chain heads by entity (MRAM); spec/10 R243; reset none -/
  heads : Tab (Option ChainHead)
  /-- open-session slots by port (MRAM); spec/10 R243; reset none -/
  opens : Tab (Option OpenSess)
  /-- skipped intervals by entity; spec/10 R231; reset none -/
  merges : Tab Merge
  /-- last 16 KIND 0 readings by entity in SHADOW, newest first; spec/10 R238; reset empty -/
  kept : Tab (List Reading)
  /-- own KIND 1 reading of each open session received in SHADOW; spec/10 R238; reset none -/
  kept1 : Tab (Option Reading)
  /-- takeovers still to be recorded; spec/10 R239; reset none -/
  takeover : Tab (Option Takeover)
  /-- sessions open at promotion; spec/10 R240; reset none -/
  taken : Tab (Option TakenSess)
  /-- KIND 3 readings for the first records after a power gap; spec/10 R236; reset none -/
  resume : Tab (Option Reading)
  /-- entities whose next record must be a KEY_ROLL with UNLINKED; spec/10 R252; reset none -/
  unlinked : List Nat
  /-- time of the last MRAM refresh, ns of site time or the RTC (MRAM); spec/10 R242; reset 0 -/
  refreshAt : Nat
  /-- both copies of the journal header, which hold RSL_JPOS_ACK (MRAM); spec/10 R241; reset blank (an unwritten MRAM, DESIGN CHOICE, log entry 6) -/
  hdr : Twins Nat
  /-- record written to the slot at RSL_JPOS_NEXT before the power failed, and whether it is whole (MRAM); spec/10 R236; reset none -/
  tail : Option (Bool × Rec)
  /-- the power is failing within a record or a key replacement: nothing more is written until the reset; 1 bit; spec/10 R236, R251; reset false -/
  cut : Bool
  deriving DecidableEq, Repr

def Rsl.reset : Rsl :=
  { work := [], waiting := [], journal := [], next := 0, ack := 0, exported := 0, heads := [], opens := [], merges := [],
    kept := [], kept1 := [], takeover := [], taken := [], resume := [], unlinked := [], refreshAt := 0,
    hdr := Twins.blank, tail := none, cut := false }

/-- A key pointer slot (MRAM; spec/10 R249). -/
structure KeySlot where
  /-- its CRC-32 holds -/
  valid : Bool
  /-- 32 bits -/
  seq : Nat
  /-- 16 bits -/
  gen : Nat
  /-- 32 bits -/
  tag : Nat
  deriving DecidableEq, Repr

/-- The pending key block (MRAM; spec/10 R250): generation, target measurement and public key. -/
structure PendKey where
  gen : Nat
  target : List Nat
  pub : List Nat
  deriving DecidableEq, Repr

/-- Key Vault. -/
structure Kvt where
  /-- root regenerated; 1 bit; spec/10 R246; reset false -/
  rootOk : Bool
  /-- identity of the root the helper data stands for, as read from the copy that wins: the model's own number of the enrolment; spec/10 R246; reset none -/
  helper : Option Nat
  /-- both copies of the helper data (MRAM); spec/10 R241, R246; reset blank (an unwritten MRAM, DESIGN CHOICE, log entry 6) -/
  helpers : Twins Nat
  /-- enrolments done (the model's own counter, MRAM); reset 0 -/
  enrols : Nat
  /-- ROOT_TRIES; 4 bits; spec/10 R255; reset 0 -/
  tries : Nat
  /-- private key in the working key register: that of the meter key; spec/10 R248; reset none -/
  key : Option Nat
  /-- UNBOUND; 1 bit; spec/10 R252; reset 0 -/
  unbound : Bool
  /-- key pointer slots (MRAM); spec/10 R249; reset none -/
  slotA : Option KeySlot
  slotB : Option KeySlot
  /-- pending key block (MRAM); spec/10 R250; reset none -/
  pend : Option PendKey
  /-- chains still without their KEY_ROLL record of the pending key; spec/10 R250, R251; reset empty -/
  rolls : List Nat
  /-- KEY_ROLL descriptor that has not completed; spec/10 R250; reset none -/
  rollDesc : Option DescRef
  /-- MEAS, 48 bytes; spec/10 R247; reset empty before the first boot -/
  meas : List Nat
  deriving DecidableEq, Repr

def Kvt.reset : Kvt :=
  { rootOk := false, helper := none, enrols := 0, helpers := Twins.blank, tries := 0, key := none, unbound := false, slotA := none,
    slotB := none, pend := none, rolls := [], rollDesc := none, meas := [] }

end Sys2Proof.Machine
end

