-- ==== Sys2Proof/Machine/StatePlu.lean ====
section
/-!
DEFINITION. State of the port link units and their session guards beside their registers (spec/12_vehicle_links.md).
-/
namespace Sys2Proof.Machine

/-- One port's link unit and guard. -/
structure Plu where
  /-- DUTY and F of the present pilot period; spec/12 R280; reset 1000, 0 -/
  dutyNow : Nat
  fNow : Bool
  /-- classification of the last periods and how many in a row gave it; spec/12 R282; reset 7, 0 -/
  cand : Nat
  candN : Nat
  /-- site time at which the present period ends; spec/12 R280; reset none -/
  periodAt : Option Nat
  /-- the guard holds DUTY; 1 bit; spec/12 R298; reset false -/
  held : Bool
  /-- NID, NMK, NEK of the association; 7, 16 and 16 bytes; spec/12 R284, R303; reset none -/
  nid : List Nat
  nmk : List Nat
  nek : List Nat
  /-- site time of the last beacon; spec/12 R284; reset none -/
  beaconAt : Option Nat
  /-- uptimes of the consecutive failed unicast frames; spec/12 R286; reset empty -/
  fails : List Nat
  /-- uptime of the last failed frame, and of the change to STD-ROBO; spec/12 R286; reset 0 -/
  failAt : Nat
  stdAt : Nat
  /-- the port stopped answering soundings in this arming; spec/12 R288; reset false -/
  mute : Bool
  /-- source address of the vehicle's last frame; 48 bits; spec/12 R297; reset 0 -/
  lastSrc : Nat
  /-- EVCC_ID of the session; 48 bits; spec/12 R292; reset 0 -/
  evcc : Nat
  /-- EV_MAX_I mA, EV_MAX_V mV, EV_MAX_P W; 32 bits each; spec/12 R292; reset 0 -/
  maxI : Nat
  maxV : Nat
  maxP : Nat
  /-- uptime of the last REQUEST accepted, or of the session start or promotion; spec/12 R296; reset 0 -/
  reqAt : Nat
  /-- REQ_I and REQ_P last accepted in the session; spec/12 R295; reset 0 -/
  lastI : Int
  lastP : Int
  /-- uptimes of the class B violations of the last 60 s; spec/12 R297; reset empty -/
  bTimes : List Nat
  /-- cause of the class C violation that waits for its boundary; spec/12 R298; reset none -/
  classC : Option Nat
  /-- exits from state 1 to be decided for the next snapshot, by END_REASON; spec/12 R299; reset empty -/
  exits : List Nat
  /-- tick at whose boundary DUTY goes to 1,000; spec/12 R298; reset none -/
  dutyAt : Option Nat
  /-- uptime at which cool-off ends; spec/12 R301; reset none -/
  coolEnd : Option Nat
  /-- SESSION_END descriptors that wait for the end instant: ring, index; spec/12 R300; reset empty -/
  ending : List (Nat × Nat)
  /-- frames to send: ring, index, uptime of the start, bytes; spec/17 R415; reset empty -/
  tx : List (Nat × Nat × Nat × List Nat)
  /-- posted receive buffers: ring, index, address; spec/12 R302; reset empty -/
  rx : List (Nat × Nat × Nat)
  /-- records and notices that wait for buffers, at most 16: kind, bytes, stamp; spec/12 R302; reset empty -/
  items : List (Nat × List Nat × Nat)
  deriving DecidableEq, Repr

def Plu.reset : Plu :=
  { dutyNow := 1000, fNow := false, cand := 7, candN := 0, periodAt := none, held := false, nid := [], nmk := [], nek := [],
    beaconAt := none, fails := [], failAt := 0, stdAt := 0, mute := false, lastSrc := 0, evcc := 0, maxI := 0, maxV := 0,
    maxP := 0, reqAt := 0, lastI := 0, lastP := 0, bTimes := [], classC := none, exits := [], dutyAt := none,
    coolEnd := none, ending := [], tx := [], rx := [], items := [] }

/-- A sounding round: a row of the attenuation matrix (spec/12 R287, R288). -/
structure Round where
  runId : Nat
  /-- soundings received so far, whatever PHY heard them -/
  total : Nat
  /-- by port: sum of the attenuations measured, 0.1 dB, and their number -/
  sums : List (Nat × Nat)
  /-- uptime at which the sounding window closed -/
  closedAt : Option Nat
  deriving DecidableEq, Repr

/-- The port link units. -/
structure Plus where
  /-- ports P0 to P23; spec/12; reset all Plu.reset -/
  ports : Tab Plu
  /-- attenuation matrix, rows 0 to 23; spec/12 R287; reset all free -/
  rows : Tab (Option Round)
  /-- session counter of each port, 27 bits (MRAM, at 0xF8 of its head entry); spec/12 R293; reset 0 -/
  counters : Tab Nat
  deriving DecidableEq, Repr

def Plus.reset : Plus := { ports := [], rows := [], counters := [] }

end Sys2Proof.Machine
end

