-- ==== Sys2Proof/Machine/StateSee.lean ====
section
/-!
DEFINITION. State of the Storage Estimator beside its registers (spec/11_storage_estimation.md).
-/
namespace Sys2Proof.Machine

/-- A management unit's status frame (spec/11 R267). -/
structure BmuFrame where
  ocv : Bool
  contactor : Bool
  fault : Bool
  /-- mV -/
  vs : Nat
  /-- mA -/
  disI : Nat
  chgI : Nat
  iBmu : Int
  /-- 0.01 % -/
  soc : Nat
  /-- 0.1 °C -/
  temp : Int
  serial : Nat
  /-- software stamp, site ns -/
  stamp : Nat
  deriving DecidableEq, Repr

/-- One string of the estimator. -/
structure Str where
  /-- Q_C, µAs; signed 64 bits; spec/11 R258; reset 0 -/
  q : Int
  /-- charge below 1 µAs, units of 1/1,024,000 µAs; spec/11 R258; reset 0 -/
  qRes : Int
  /-- THRU_DIS and THRU_CHG, µAs, 64 bits, with their residues; spec/11 R258; reset 0 -/
  dis : Nat
  disRes : Nat
  chg : Nat
  chgRes : Nat
  /-- U_Q, µAs, 64 bits, with its residue in units of 10^−4/1,024,000 µAs; spec/11 R262; reset 0 -/
  u : Nat
  uRes : Nat
  /-- charge integrated since the coulomb input started after reset, 1/1,024,000 µAs; spec/11 R271; reset 0 -/
  gap : Int
  /-- last current integrated, 2^−8 mA; spec/11 R257; reset 0 -/
  i : Int
  /-- sum and number of the filter outputs of the last two windows [t_(n−1), t_n), by n; spec/11 R266; reset empty -/
  win : List (Nat × Int × Nat)
  /-- outputs of the present tick in SHADOW, with their uptimes: they count only when the tick brings no delta; spec/11 R274; reset empty -/
  held : List (Nat × Int)
  /-- uptime of the last filter output; spec/11 R257; reset none -/
  lastAt : Option Nat
  /-- STATE_UNTRUSTED; 1 bit; spec/11 R264; reset 0 -/
  untrusted : Bool
  /-- NEED_REF; 1 bit; spec/11 R262; reset 0 -/
  needRef : Bool
  /-- authenticated; 1 bit; spec/11 R268; reset 0 -/
  auth : Bool
  /-- EOC_HOLD; 1 bit; spec/11 R265; reset 0 -/
  eocHold : Bool
  /-- end of discharge; 1 bit; spec/11 R265; reset 0 -/
  eod : Bool
  /-- BMU_STALE; 1 bit; spec/11 R267; reset 0 -/
  stale : Bool
  /-- cause of the input's fault, 1 stuck, 2 filter; 0 for none (Q_FAULT); spec/11 R259; reset 0 -/
  qFault : Nat
  /-- Q_FAULT as the leading unit reports it, shown in SHADOW; 1 bit; spec/11 R274; reset 0 -/
  qFlag : Bool
  /-- uptime of the fault's onset; spec/11 R259; reset 0 -/
  faultAt : Nat
  /-- COLD; 1 bit; spec/11 R271; reset 0 -/
  cold : Bool
  /-- started cold and still waiting for its unit's first fresh frame; spec/11 R271; reset false -/
  coldWait : Bool
  /-- U has reached U_MAX; spec/11 R262; reset false -/
  atMax : Bool
  /-- in a run of clipped outputs; spec/11 R261; reset false -/
  clip : Bool
  /-- uptime since which every output meets the rest, and the end-of-charge, condition; spec/11 R263; reset none -/
  restAt : Option Nat
  eocAt : Option Nat
  /-- uptime since which V_S is at or above V_EOD × 1.02; spec/11 R265; reset none -/
  eodOkAt : Option Nat
  /-- site time of the last reference point; 64 bits; spec/11 R270; reset 0 -/
  tRef : Nat
  /-- REF_KIND; spec/11 R270; reset 0xFF none -/
  refKind : Nat
  /-- latest status frame; spec/11 R267; reset none -/
  frame : Option BmuFrame
  /-- serial number last authenticated; 64 bits; spec/11 R269, R270; reset none -/
  serial : Option Nat
  /-- uptime at which an authentication exchange is due; spec/11 R268; reset none -/
  authDue : Option Nat
  /-- attempts made since the last success or AUTH_PERIOD; spec/11 R268; reset 0 -/
  attempts : Nat
  deriving DecidableEq, Repr

def Str.reset : Str :=
  { q := 0, qRes := 0, dis := 0, disRes := 0, chg := 0, chgRes := 0, u := 0, uRes := 0, gap := 0, i := 0, win := [], held := [],
    lastAt := none, untrusted := false, needRef := false, auth := false, eocHold := false, eod := false, stale := false,
    qFault := 0, qFlag := false, faultAt := 0, cold := false, coldWait := false, atMax := false, clip := false, restAt := none, eocAt := none,
    eodOkAt := none, tRef := 0, refKind := 0xFF, frame := none, serial := none, authDue := none, attempts := 0 }

/-- The authentication exchange that runs (spec/11 R268). -/
structure Exchange where
  str : Nat
  seq : Nat
  /-- 16 bytes -/
  nonce : List Nat
  /-- uptime at which AUTH_TMO has passed -/
  limit : Nat
  deriving DecidableEq, Repr

/-- Storage Estimator. -/
structure See where
  /-- strings S0 to S15; spec/11 R258; reset all Str.reset -/
  strs : Tab Str
  /-- F is held at 10,000: the cycle table breaks its rule; spec/11 R260; reset false -/
  cycBad : Bool
  /-- ACTIVE or SHADOW has been entered since reset; spec/11 R271; reset false -/
  entered : Bool
  /-- the state was adopted or the strings started cold; spec/11 R272; reset false -/
  begun : Bool
  /-- buffer being read (1 for B), whether it is the other one, and the GEN the named one carried; spec/11 R271; reset none -/
  reading : Option (Nat × Bool × Option Nat)
  /-- exchange that runs; spec/11 R268; reset none -/
  exch : Option Exchange
  /-- SEQ of the last challenge; 32 bits; spec/11 R268; reset DESIGN CHOICE 0 (log entry 6) -/
  seq : Nat
  /-- public keys provisioned, by string, 64 bytes; spec/11 R272; reset none -/
  keys : Tab (List Nat)
  /-- the keys in the sealed configuration (MRAM); spec/11 R272; reset none (an unwritten MRAM, DESIGN CHOICE, log entry 6) -/
  sealedKeys : Tab (List Nat)
  deriving DecidableEq, Repr

def See.reset : See :=
  { strs := [], cycBad := false, entered := false, begun := false, reading := none, exch := none, seq := 0, keys := [],
    sealedKeys := [] }

end Sys2Proof.Machine
end

