-- ==== Sys2Proof/Machine/StateTwin.lean ====
section
/-!
DEFINITION. The twin layer (spec/16_redundancy.md): the replicated objects that deltas and epoch copies carry, and the state
of the layer beside its registers. The spec states the byte layouts of sections 1, 2 and 5 and gives the others by content
(R385); frames here carry the objects themselves, each whole (log entry 60). Instants in them are site times.
-/
namespace Sys2Proof.Machine

/-- One replicated object (R385). -/
inductive RepItem where
  /-- section 1: an entry of the constraint table -/
  | entry (i : Nat) (e : Entry)
  /-- section 2: the staged edits, in staging order -/
  | staged (l : List (Nat × Entry))
  /-- section 3: the running migrations -/
  | migs (l : List Mig)
  /-- section 4: a port (spec/12 R303): registers PLU_SESS, PLU_SESS_ID, PLU_CP_CTL and ASSOC, violation counters, session
  counter, and the guard's state -/
  | port (p : Nat) (sess reason id duty f assoc aCnt cCnt counter : Nat) (x : Plu)
  /-- section 5: a chain head, by entity 0–25 -/
  | head (e : Nat) (h : Option ChainHead)
  /-- section 5: an open-session slot -/
  | openSess (p : Nat) (o : Option OpenSess)
  /-- section 6: a string (spec/11 R274) -/
  | str (i : Nat) (x : Str)
  /-- section 7: a converter (spec/08 R194) with CONNECT -/
  | conv (k : Nat) (connect : Nat) (x : Cce)
  /-- section 8: LSB_ON, the string that rested last, the window of ALP_WHEY_MIN -/
  | site (lsbOn : Nat) (lastRest : Option Nat) (wheys : List (Nat × Int))
  deriving DecidableEq, Repr

/-- A part of a delta received (R384). -/
structure DPart where
  tick : Nat
  part : Nat
  last : Bool
  items : List RepItem
  deriving DecidableEq, Repr

/-- An incomplete epoch copy at the standby (R389). -/
structure ECopy where
  eseq : Nat
  tick : Nat
  chunks : Nat
  /-- chunks held, by number -/
  got : List (Nat × List RepItem)
  deriving DecidableEq, Repr

/-- An epoch copy being sent: its sections' objects as they stood at t_E, their bytes by section, and the chunks sent (R388). -/
structure SCopy where
  eseq : Nat
  tick : Nat
  items : List RepItem
  sent : Nat
  deriving DecidableEq, Repr

/-- The twin layer. -/
structure Twin where
  /-- replicated objects as they stood at the last boundary; spec/16 R386; reset empty -/
  base : List RepItem
  /-- a delta or a copy has been taken since the last strobe; spec/11 R274; reset false -/
  deltaIn : Bool
  /-- deltas closed and not yet sent, oldest first: tick, whether it overran, objects; spec/16 R386; reset empty -/
  deltas : List (Nat × Bool × List RepItem)
  /-- copy being sent; spec/16 R388; reset none -/
  sending : Option SCopy
  /-- whole 100 ms of site time of the last copy started; spec/16 R388; reset none -/
  copyAt : Option Nat
  /-- delta parts held, oldest first; spec/16 R387; reset empty -/
  parts : List DPart
  /-- incomplete copy; spec/16 R389; reset none -/
  copy : Option ECopy
  /-- SNAP parts held: tick, part, CURD_CMP, bytes; spec/16 R390; reset empty -/
  snaps : List (Nat × Nat × Nat × List Nat)
  /-- fitness causes latched, bits 0 and 1 for causes 1 and 2; spec/16 R391; reset 0 -/
  latched : Nat
  /-- consecutive agreeing replays since READY; spec/16 R392; reset 0 -/
  agree : Nat
  /-- FIT_TICKS has been reached since READY; spec/16 R392; reset false -/
  fitSeen : Bool
  /-- replays and disagreeing replays since admission; spec/16 R395; reset 0 -/
  replays : Nat
  disagree : Nat
  /-- triggers refused and still standing; spec/16 R398; reset empty -/
  refused : List Nat
  /-- consecutive ticks in which no endpoint reported the leading claim; spec/16 R398; reset 0 -/
  silent : Nat
  /-- uptime since which LOCKED is 0 while the yoke is up; spec/16 R391; reset none -/
  unlockedAt : Option Nat
  /-- the peer's CAPS frame passed R396 at the last yoke bring-up; 1 bit; spec/16 R396; reset false -/
  admitted : Bool
  /-- some twin frame of the peer was received since reset; spec/16 R384; reset false -/
  heard : Bool
  /-- mode of the peer as last reported; spec/16 R380, spec/03 R53; reset none -/
  peerMode : Option Nat
  /-- uptime of the last HEALTH frame, while reports come; spec/16 R395; reset none -/
  healthAt : Option Nat
  /-- site time of the last HEALTH frame sent, in units of 100 ms; spec/16 R395; reset none -/
  healthSent : Option Nat
  /-- FIT in the peer's last report; spec/16 R395; reset false -/
  peerFit : Bool
  /-- uptime of the last step of the memory test, MiB of the present pass, passes, corrected errors; spec/16 R394, R395; reset 0 -/
  marchAt : Nat
  marchMib : Nat
  passes : Nat
  corrected : Nat
  deriving DecidableEq, Repr

def Twin.reset : Twin :=
  { base := [], deltaIn := false, deltas := [], sending := none, copyAt := none, parts := [], copy := none, snaps := [], latched := 0, agree := 0,
    fitSeen := false, replays := 0, disagree := 0, refused := [], silent := 0, unlockedAt := none, admitted := false,
    heard := false, peerMode := none, healthAt := none, healthSent := none, peerFit := false, marchAt := 0, marchMib := 0,
    passes := 0, corrected := 0 }

end Sys2Proof.Machine
end

