-- ==== Sys2Proof/Syntax.lean ====
section
/-!
DEFINITION. The commands the block takes (spec/opcode_table.json), with their operands. A command is a host register access,
a descriptor that starts, or an event on a pin, bus, lane, supply or timer; its operands are the data the event brings (a
value written, a frame's fields, a sample, an index). Quantities are in the units of spec/ (mV, mA, W, ns ...).
-/
namespace Sys2Proof

/-- What the fetch reads of one descriptor (spec/17 R409): OPCODE, FLAGS, TAG, IDX. -/
structure FetchDesc where
  opcode : BitVec 16
  flags : BitVec 16
  tag : BitVec 16
  idx : BitVec 16
  deriving DecidableEq, Repr

/-- Supplies (spec/02 R26) a command names. -/
inductive SupplyName where
  | vaon | vio33 | vio18 | vana | vcore | vser | vmem1 | vmem2
  deriving DecidableEq, Repr

/-- The 32-byte entry of a constraint edit as the host writes it (spec/05 R94, R98). -/
structure EntryArg where
  type : BitVec 8
  flags : BitVec 8
  target : BitVec 16
  ownerTag : BitVec 16
  reserved : BitVec 16
  start : BitVec 64
  stop : BitVec 64
  a : BitVec 32
  b : BitVec 32
  deriving DecidableEq, Repr

/-- One slot record of a STATUS frame (spec/06 R133). -/
structure StatusSlot where
  state : BitVec 8
  path : BitVec 8
  fault : BitVec 16
  availP : BitVec 32
  outI : BitVec 32
  outV : BitVec 32
  temp : BitVec 16
  deriving DecidableEq, Repr

/-- The fields of a STATUS frame the device reads (spec/06 R133). -/
structure StatusFrame where
  flags : BitVec 8
  seqApplied : BitVec 32
  follow : BitVec 32
  s0 : StatusSlot
  s1 : StatusSlot
  s2 : StatusSlot
  s3 : StatusSlot
  miss : BitVec 16
  deriving DecidableEq, Repr

/-- The fields of a PHASE_STATUS frame (spec/06 R136). -/
structure PhaseStatus where
  flags : BitVec 8
  cycleApplied : BitVec 32
  follow : BitVec 32
  phFault : BitVec 32
  miss : BitVec 16
  late : BitVec 16
  deriving DecidableEq, Repr

/-- The fields of a CAPS frame (spec/07 R158). -/
structure CapsFrame where
  role : BitVec 8
  portId : BitVec 8
  slots : BitVec 8
  features : BitVec 8
  frameVer : BitVec 8
  maxPayload : BitVec 16
  maker : BitVec 16
  serial : BitVec 32
  asym : BitVec 32
  claim : BitVec 32
  cfgDigest : BitVec 32
  deriving DecidableEq, Repr

/-- The arguments of an eye scan (spec/07 R171). -/
structure ScanArg where
  lane : BitVec 16
  phMin : BitVec 8
  phMax : BitVec 8
  phStep : BitVec 8
  vMin : BitVec 8
  vMax : BitVec 8
  vStep : BitVec 8
  dwell : BitVec 8
  reservedZero : Bool
  addr : BitVec 64
  len : BitVec 32
  deriving DecidableEq, Repr

/-- What the MTE measures over one basic window of an AC point (spec/09 R217): RMS of V1–V3, VN in mV and of I1–I3, IN in mA,
active power per phase in W, reactive power in var, frequency in mHz, angles of V2, V3, I1, I2, I3 in 0.01°. -/
structure AcWindow where
  v1 : BitVec 32
  v2 : BitVec 32
  v3 : BitVec 32
  vn : BitVec 32
  i1 : BitVec 32
  i2 : BitVec 32
  i3 : BitVec 32
  inN : BitVec 32
  p1 : BitVec 32
  p2 : BitVec 32
  p3 : BitVec 32
  q : BitVec 32
  f : BitVec 24
  angV2 : BitVec 16
  angV3 : BitVec 16
  angI1 : BitVec 16
  angI2 : BitVec 16
  angI3 : BitVec 16
  deriving DecidableEq, Repr

/-- The arguments of a metrology capture (spec/09 R221). -/
structure McapArg where
  a : BitVec 8
  b : BitVec 8
  kind : BitVec 8
  flags : BitVec 8
  count : BitVec 32
  freq : BitVec 16
  reservedZero : Bool
  addr : BitVec 64
  len : BitVec 32
  deriving DecidableEq, Repr

/-- What the Rind's diagnostic path and the metering path give of one port over a cycle: the diagnostic samples of current and
voltage, mA and mV, eight a cycle, the metering samples of the same windows, and whether its bitstream is stuck or its filter
overflowed (spec/14 R336). -/
structure PortDiag where
  i : List (BitVec 32)
  v : List (BitVec 32)
  mi : List (BitVec 32)
  mv : List (BitVec 32)
  stuck : Bool
  deriving DecidableEq, Repr

/-- One encoder axis over a cycle: quadrature counts and whether a transition was illegal, or the SSI frame and whether its
parity holds (spec/14 R340). -/
structure AxisIn where
  delta : BitVec 16
  illegal : Bool
  ssi : BitVec 32
  parity : Bool
  deriving DecidableEq, Repr

/-- What one logic cycle of the Rind scans (spec/14 R329): samples of SI0–SI15 every 50 µs, IMD_IN, the ports, the mean code
and fault of each coulomb filter, the axes, the temperature of each comparator entry in 0.1 °C and its self-test failures,
the readback and the supply of the safe outputs, and a failing internal diagnostic (rows 1 to 3 of R358). -/
structure RindIn where
  si : List (BitVec 16)
  imd : Bool
  ports : List (Option PortDiag)
  strings : List (BitVec 24 × Bool)
  axes : List AxisIn
  temps : List (BitVec 16)
  tempSelf : BitVec 32
  soRead : BitVec 8
  soSup : BitVec 8
  fault : Option (Fin 3)
  deriving DecidableEq, Repr

/-- The header of a twin frame the device reads: arrival on a Dreak lane with FSEQ and YSEQ, and CLAIM (spec/16 R384). -/
structure TwinHead where
  lane : Fin 2
  fseq : BitVec 16
  yseq : BitVec 24
  claim : BitVec 32
  deriving DecidableEq, Repr

/-- A DELTA part (spec/16 R384): FLAGS bits 0 LAST, 1 the tick overran. -/
structure DeltaFrame where
  part : BitVec 8
  flags : BitVec 8
  tick : BitVec 32
  eseq : BitVec 32
  mode : BitVec 8
  items : List Machine.RepItem
  deriving DecidableEq, Repr

/-- An EPOCH_CHUNK (spec/16 R384): the objects whose bytes begin in it. -/
structure ChunkFrame where
  eseq : BitVec 32
  tick : BitVec 32
  chunk : BitVec 16
  chunks : BitVec 16
  items : List Machine.RepItem
  deriving DecidableEq, Repr

/-- An EPOCH_COMMIT (spec/16 R384); DIGEST as 32 bytes. -/
structure CommitFrame where
  eseq : BitVec 32
  tick : BitVec 32
  chunks : BitVec 16
  total : BitVec 32
  digest : List (BitVec 8)
  deriving DecidableEq, Repr

/-- A part of the MRAM that has its own CRC-32 (spec/10 R241): `second` names copy B of an area with two copies. -/
inductive MramPart where
  | header (second : Bool)
  | helper (second : Bool)
  | slot (second : Bool)
  | config (second : Bool)
  | ckpt (second : Bool)
  | pend
  | head (e : Fin 26)
  deriving DecidableEq, Repr

/-- Where the power fails in the building of a record (spec/10 R235, R236): in step 4 (the slot is torn), after step 4, after
step 5. -/
inductive BuildCut where
  | torn | slot | head
  deriving DecidableEq, Repr

/-- Where the power fails in a key replacement (spec/10 R251): steps 1 to 3; step 4, after the records of `n` chains; the first, the
second slot write of step 5. -/
inductive RollCut where
  | pending
  | records (n : Fin 27)
  | first
  | second
  deriving DecidableEq, Repr

/-- The commands of the block: one constructor per row of spec/opcode_table.json, in the table's order, with the data the
event brings. -/
inductive Instr where
  /-- REGISTER_WRITE (R9): A host write to a set-up register that has no row of its own sets its RW fields and, outside COMMISSION, keeps its RWS fields unchanged. -/
  | registerWrite (off : BitVec 20) (size : Nat) (v : BitVec 32)
  /-- SUPPLY_RISE (R27): A supply rises above its power-good threshold, the monitor checks the supply order, and a completed sequence ends a power-order hold. -/
  | supplyRise (sup : SupplyName) (good : Bool)
  /-- SUPPLY_FALL (R29): A supply leaves regulation or falls below its off threshold, and the monitor checks the power-down order. -/
  | supplyFall (sup : SupplyName) (belowOff : Bool)
  /-- SEQUENCE_WINDOW_EXPIRE (R29): The supply sequence window exceeds 20 ms and is recorded as a power-order violation. -/
  | sequenceWindowExpire
  /-- PWR_EN_REASSERT (R30): After every supply of groups 2 to 4 has been off for 1 ms and at least 10 ms have passed, PWR_EN is driven high again. -/
  | pwrEnReassert
  /-- BROWNOUT_WARNING (R32): VCORE stays below 0.76 V for 1 µs, so the device finishes the MRAM write, stops journal and state writes, sets BROWNOUT and has the Rind request ramp-down. -/
  | brownoutWarning
  /-- BROWNOUT_RIDE_EXPIRE (R32): BO_RIDE passes without recovery, so the device enters HALT in ACTIVE or LIMP or keeps its mode otherwise, and logs GLB_BROWNOUT. -/
  | brownoutRideExpire
  /-- BROWNOUT_RECOVERED (R32): VCORE stays at or above 0.77 V for BO_RIDE, so journal and state writes resume. -/
  | brownoutRecovered (below : BitVec 32)
  /-- BROWNOUT_RESET (R32): VCORE falls below 0.72 V, so every domain except VAON is reset. -/
  | brownoutReset
  /-- RESET_N_ASSERT (R33): RESET_N has been low for the 20 ms debounce, so the main domains reset after GOING_DOWN is sent. -/
  | resetNAssert
  /-- RESET_N_RELEASE (R33): RESET_N has been high for the 20 ms debounce, so release takes effect and boot starts. -/
  | resetNRelease
  /-- RESET_N_STUCK (R34): RESET_N has been low for more than 4 s, so the Rind shows the stuck-reset pattern and STUCK_RESET is set at release. -/
  | resetNStuck
  /-- TWIN_ALIVE_LATCH (R34): RESET_N has been low for 60 s, so the Rind drives TWIN_ALIVE low and latches it until VAON next powers on. -/
  | twinAliveLatch
  /-- BOOT_COMPLETE (R45): Boot completes: the PLLs lock, the key root is regenerated, the sealed configuration is loaded, the self-test ends, BOOTING clears and the kept events are logged. -/
  | bootComplete (rootTries : Fin 6) (badBits : BitVec 16) (meas : List (BitVec 8) × List (BitVec 8)) (bad : List MramPart := [])
  /-- RIND_SELFTEST_COMPLETE (R44): The Rind start-up self-test completes after VAON power-on, and PWR_EN goes high. -/
  | rindSelftestComplete
  /-- GLB_SWRST (R36): A write of 0x0000_5A5A resets the main domains in DORMANT, COMMISSION or HALT, and is refused with code 0x09 in any other mode. -/
  | glbSwrst (v : BitVec 32)
  /-- MODE_REQ_DORMANT (R39): A GLB_MODE_REQ write with target DORMANT is checked and, from COMMISSION or HALT, carried out, sealing the configuration from COMMISSION when R22 passes. -/
  | modeReqDormant (key : BitVec 8)
  /-- MODE_REQ_COMMISSION (R356): A GLB_MODE_REQ write with target COMMISSION is carried out from DORMANT or HALT only when the Rind accepts the commissioning password. -/
  | modeReqCommission (key : BitVec 8)
  /-- MODE_REQ_ACTIVE (R41): A GLB_MODE_REQ write with target ACTIVE is checked against the preconditions and, when they hold, enters ACTIVE with a new epoch where R382 applies. -/
  | modeReqActive (key : BitVec 8) (seeCold : Bool)
  /-- MODE_REQ_SHADOW (R41): A GLB_MODE_REQ write with target SHADOW on a twin site is checked against the preconditions and admits the unit as standby in SYNC. -/
  | modeReqShadow (key : BitVec 8) (seeCold : Bool)
  /-- MODE_REQ_LIMP (R39): A GLB_MODE_REQ write with target LIMP is accepted from ACTIVE and takes effect at the next tick boundary, or is refused. -/
  | modeReqLimp (key : BitVec 8)
  /-- MODE_REQ_HALT (R39): A GLB_MODE_REQ write with target HALT from ACTIVE or LIMP enters HALT at once, or is refused. -/
  | modeReqHalt (key : BitVec 8)
  /-- LIMP_ENTRY (R74): At the tick boundary after a LIMP trigger, the device enters LIMP, freezes the constraint set, discards staged edits and fires the attention vector. -/
  | limpEntry
  /-- HOST_KICK (R43): Any write to GLB_HOST_KICK restarts the host watchdog period. -/
  | hostKick (v : BitVec 32)
  /-- HOST_WATCHDOG_EXPIRE (R43): The host watchdog period passes without a kick, so the unit enters LIMP in ACTIVE or holds fitness cause 7 in SHADOW. -/
  | hostWatchdogExpire
  /-- WAKE_IN_EDGE (R44): A rising edge on WAKE_IN wakes the device from DORMANT when armed. -/
  | wakeInEdge
  /-- RTC_ALARM (R44): STU_RTC_SEC reaches STU_RTC_ALARM and the device wakes when the RTC source is armed. -/
  | rtcAlarm
  /-- CAN_WAKE (R317): A dominant edge or a matching wake frame on CAN2 or CAN4 wakes the device while the main domains are not running. -/
  | canWake (can4 : Bool) (frame : Option (BitVec 29 × Bool × BitVec 8))
  /-- PWR_EN_OFF (R44): After entry to DORMANT with PWR_OFF set, the main domains finish storing their state and PWR_EN goes low. -/
  | pwrEnOff
  /-- REF_LOSS (R49): No TCXO edge arrives for 1 µs, so every domain except VAON is held in reset. -/
  | refLoss
  /-- PLL_UNLOCK (R49): The main or memory PLL loses lock, so every domain except VAON is held in reset. -/
  | pllUnlock (memory : Bool)
  /-- REF_RESTORED (R49): The reference has been present for 10 ms and both PLLs have locked again, so the hold ends and boot runs. -/
  | refRestored
  /-- SERIAL_PLL_UNLOCK (R50): A channel of the serial PLL loses lock, so the lanes of its group return to DETECT and CKG_PLL_UNLOCK is logged. -/
  | serialPllUnlock (dreak : Bool)
  /-- SAF_CHECK_WINDOW (R51): A 10 ms TIM window, or a 1 s RTC window, ends and the Rind compares the SAF count, raising a site-wide trip on a second consecutive mismatch. -/
  | safCheckWindow (count : Nat)
  /-- STU_SET_CMD (R54): A write of 0x0000_5E7E in COMMISSION sets site time to STU_SET_NS and sets VALID. -/
  | stuSetCmd (v : BitVec 32)
  /-- TIME_LATCH_READ (R55): A read of STU_TIME_FRAC latches the whole of site time for the following reads of NS_LO and NS_HI. -/
  | timeLatchRead
  /-- PPS_LABEL_ARM (R53): A write of STU_PPS_LABEL_HI arms the label that the next qualified PPS edge gives site time while it is not valid. -/
  | ppsLabelArm (v : BitVec 32)
  /-- PPS_EDGE (R59): A rising edge on PPS_IN is qualified or logged as an outlier, and a qualified edge acquires site time or feeds the discipline loop. -/
  | ppsEdge
  /-- PPS_LOSS (R59): 3 s pass without a qualified PPS edge, so the STU enters holdover and changes to the next qualified source. -/
  | ppsLoss
  /-- REF10M_MEASUREMENT (R59): The 100 ms averaging of REF10M_IN against TIM ends and gives a rate measurement, or loses the source when it is out of range. -/
  | ref10mMeasurement (devPpb : Int)
  /-- REF10M_LOSS (R59): 100 µs pass without an edge on REF10M_IN, so the STU enters holdover and changes source. -/
  | ref10mLoss
  /-- HOST_OFFSET_LOSS (R59): 10 s pass without an accepted host offset, so the host source is lost. -/
  | hostOffsetLoss
  /-- TIME_OFFSET (R61): A host offset descriptor on ring 60 or 61 is checked for age and source and feeds the discipline loop. -/
  | timeOffset (d : DescRef) (offset : BitVec 64) (measuredAt : BitVec 64)
  /-- RTC_ALIGN (R65): At each whole second of valid site time the STU aligns the RTC and STU_RTC_SEC. -/
  | rtcAlign
  /-- PPS_OUT_RISE (R68): PPS_OUT rises at each whole second of valid site time, advanced by COMP. -/
  | ppsOutRise
  /-- PPS_OUT_FALL (R68): PPS_OUT falls after WIDTH milliseconds high. -/
  | ppsOutFall
  /-- TICK_STROBE (R62): At tick boundary t_N the STU strobes snapshot N and the Churn runs its stages to seal curd N and hand it to the LCH. -/
  | tickStrobe (stages : List Nat)
  /-- PIPELINE_OVERRUN (R83): Seal of tick N has not completed by t_N + D, or a memory error hits its data, so the tick is abandoned and a repeat curd is issued. -/
  | pipelineOverrun (stage : Fin 8) (cycles : BitVec 16) (mem : Option (BitVec 16 × Fin 3))
  /-- TICK_LEN_WRITE (R73): A write of STU_TICK_CFG.TICK_LEN is refused with ALP_LIMIT_REFUSED when the new entry limit would fall below the host-enabled count. -/
  | tickLenWrite (v : BitVec 32)
  /-- ALP_CLR_STAGE (R92): A 1 in ALP_CLR.STAGE clears the peak stage-time registers. -/
  | alpClrStage
  /-- ALP_CLR_COUNTS (R92): A 1 in ALP_CLR.COUNTS clears the clamp, substitution and overrun counters. -/
  | alpClrCounts
  /-- ALP_CLR_WHEY (R92): A 1 in ALP_CLR.WHEY restarts the ALP_WHEY_MIN window. -/
  | alpClrWhey
  /-- CAPTURE (R91): A capture descriptor on rings 48–51 is checked and starts copying snapshot or curd records into host memory. -/
  | capture (d : DescRef) (first : BitVec 32) (count : BitVec 16) (kind : Fin 3) (addr : BitVec 64) (len : BitVec 32)
  /-- CAPTURE_COMPLETE (R91): The last record named by a capture has been sealed and written to host memory, and the capture completes. -/
  | captureComplete
  /-- CONSTRAINT_WRITE_ENABLE (R99): Constraint edit operation 0 checks and writes an entry and enables it. -/
  | constraintWriteEnable (d : DescRef) (index : BitVec 16) (argOk : Bool) (e : EntryArg)
  /-- CONSTRAINT_DISABLE (R98): Constraint edit operation 1 clears ENABLED of a host entry. -/
  | constraintDisable (d : DescRef) (index : BitVec 16) (argOk : Bool)
  /-- CONSTRAINT_STAGE (R99): Constraint edit operation 2 checks and stages a write-and-enable. -/
  | constraintStage (d : DescRef) (index : BitVec 16) (argOk : Bool) (e : EntryArg)
  /-- CONSTRAINT_COMMIT (R100): Constraint edit operation 3 checks every staged edit again and applies all of them at once, or none. -/
  | constraintCommit (d : DescRef) (argOk : Bool)
  /-- CONSTRAINT_DISCARD (R100): Constraint edit operation 4 discards the staged edits. -/
  | constraintDiscard (d : DescRef) (argOk : Bool)
  /-- CONSTRAINT_READ (R98): Constraint edit operation 5 writes any entry of the table to host memory, in every mode. -/
  | constraintRead (d : DescRef) (index : BitVec 16) (argOk : Bool) (addr : BitVec 64)
  /-- GROUP_WRITE (R101): A write of ALP_GROUP_n is refused with ALP_GROUP_REFUSED when it would put a port in a fifth group. -/
  | groupWrite (n : Fin 64) (v : BitVec 32)
  /-- MIGRATE (R120): A migration proposal descriptor is accepted from its ring and awaits its check. -/
  | migrate (d : DescRef) (block : BitVec 16) (port : BitVec 16) (ramp : BitVec 16) (force : Bool) (reservedZero : Bool)
  /-- MIGRATION_CHECK (R121): Within one tick of acceptance the Churn checks a proposal and either takes a migration slot or refuses it. -/
  | migrationCheck
  /-- SETPOINT_SEND (R129): At t_{N+1} + OFS, and for copy 1 at + COPY_GAP, the LCH sends the SETPOINT frames of curd N on every lane that carries blocks. -/
  | setpointSend (copy : Fin 2)
  /-- SLOW_LOAD_SEND (R137): At t_{N+1} + 5 µs the LCH hands the slow-load frames of the scheduled slots to CAN0 or CAN1 with their deadline. -/
  | slowLoadSend
  /-- STATUS_FRAME_RECEIVE (R133): A cabinet board STATUS frame is stamped and stored for the snapshot, and missed instants, interlock refusals and higher claims are logged. -/
  | statusFrameReceive (lane : Fin 12) (fseq : BitVec 16) (f : StatusFrame)
  /-- PHASE_STATUS_RECEIVE (R136): A PHASE_STATUS frame is stored, and a selector that shows all phases off or awaiting RESTART makes the Press restart its converters. -/
  | phaseStatusReceive (lane : Fin 12) (fseq : BitVec 16) (f : PhaseStatus)
  /-- SLOW_NODE_STATUS_RECEIVE (R138): A slow-load node status frame is stored as slow-node status and its FOLLOW enters LCH_FOLLOW_SLOW. -/
  | slowNodeStatusReceive (slot : Fin 16) (code : BitVec 16) (follow : BitVec 32) (seqApplied : BitVec 32)
  /-- LCH_CLR_COUNTS (R147): A 1 in LCH_CLR.COUNTS clears LCH_CNT_LATE and LCH_CNT_EPMISS. -/
  | lchClrCounts
  /-- LANE_DETECT_TEST (R155): Every 10 ms, or once per second in backoff, a lane in DETECT tests for the far-end termination and enters TRAIN after 2 successes. -/
  | laneDetectTest (lane : Fin 14) (found : Bool)
  /-- LANE_TRAIN_COMPLETE (R156): Both sides have declared ready in TRAIN, so the lane turns on scrambling and enters CAPS. -/
  | laneTrainComplete (lane : Fin 14) (inverted : Bool) (ctle : BitVec 8) (dfe : BitVec 40)
  /-- LANE_BRINGUP_TIMEOUT (R157): A lane times out of TRAIN, CAPS or DELAY, returns to DETECT, counts the failure and enters backoff after 8. -/
  | laneBringupTimeout (lane : Fin 14)
  /-- CAPS_RESEND (R158): Every 1 ms until the far CAPS frame arrives, the lane sends its CAPS frame again. -/
  | capsResend (lane : Fin 14)
  /-- CAPS_FRAME_RECEIVE (R159): A far-end CAPS frame is checked, and the lane enters DELAY or returns to DETECT with a mismatch event. -/
  | capsFrameReceive (lane : Fin 14) (fseq : BitVec 16) (f : CapsFrame)
  /-- DELAY_MEASUREMENT_START (R164): At bring-up and once every second, a delay measurement of 8 exchanges starts on a cabinet lane. -/
  | delayMeasurementStart (lane : Fin 12)
  /-- DLY_REQ_SEND (R164): Every 125 µs within a measurement, and every 1 ms on the yoke from SHADOW, the requester sends DLY_REQ. -/
  | dlyReqSend (lane : Fin 14)
  /-- DLY_REQ_RECEIVE (R166): A unit receiving DLY_REQ on a Dreak lane schedules and sends DLY_RESP with its stamps. -/
  | dlyReqReceive (lane : Fin 2) (fseq : BitVec 16) (xid : BitVec 16) (wait : Nat)
  /-- DLY_RESP_RECEIVE (R163): A DLY_RESP yields the delay and offset of one exchange, and on the yoke feeds the twin discipline source or acquires site time. -/
  | dlyRespReceive (lane : Fin 14) (fseq : BitVec 16) (xid : BitVec 16) (t2Ns : BitVec 32) (t2Frac : BitVec 16) (t3Ns : BitVec 32) (t3Frac : BitVec 16)
  /-- DELAY_MEASUREMENT_COMPLETE (R164): The 8 exchanges end, the trimmed mean goes to LCH_DELAY_Lk and the TIME frames, deadline risks are checked, and a lane in DELAY enters ACTIVE. -/
  | delayMeasurementComplete (lane : Fin 14)
  /-- TIME_FRAME_SEND (R165): Every 1 ms on an active cabinet lane, the PH4800 sends a TIME frame. -/
  | timeFrameSend (lane : Fin 12)
  /-- ALIVE_SEND (R160): A side that has sent no frame for 50 µs sends an ALIVE frame. -/
  | aliveSend (lane : Fin 14)
  /-- ALIVE_RECEIVE (R160): An ALIVE frame restarts the lane's no-frame timer. -/
  | aliveReceive (lane : Fin 14) (fseq : BitVec 16)
  /-- LANE_FRAME_INVALID (R151): A frame that fails CRC, LEN or block count, or has an unknown TYPE, is discarded and counted. -/
  | laneFrameInvalid (lane : Fin 14) (blocks : List LaneBlock)
  /-- LANE_ERROR_LIMIT (R160): ERR_LIMIT frames are discarded within 1 ms, so the lane leaves ACTIVE with cause 2. -/
  | laneErrorLimit (lane : Fin 14)
  /-- LANE_BLOCK_LOCK_LOSS (R160): 16 invalid sync headers within 64 blocks lose block lock, so the lane leaves ACTIVE with cause 1. -/
  | laneBlockLockLoss (lane : Fin 14)
  /-- LANE_FRAME_TIMEOUT (R160): No valid frame arrives for LOSS_TIME, so the lane leaves ACTIVE with cause 3. -/
  | laneFrameTimeout (lane : Fin 14)
  /-- LANE_SIGNAL_LOSS (R160): Signal is lost for 1 µs outside IDLE and DEEP, so the lane leaves ACTIVE with cause 6 and goes to DETECT. -/
  | laneSignalLoss (lane : Fin 14)
  /-- LANE_SIGNAL_DETECT (R169): A lane in IDLE or DEEP detects the far end's signal and follows it out of the low-power state. -/
  | laneSignalDetect (lane : Fin 14)
  /-- LANE_RETRAIN (R160): A 1 in CLC_CTL.RETRAIN makes the lane leave ACTIVE with cause 5. -/
  | laneRetrain (lane : Fin 14)
  /-- LANE_LP_UP (R170): A write of LP = 0 brings the lane up from its low-power or OFF state. -/
  | laneLpUp (lane : Fin 14)
  /-- LANE_LP_IDLE (R170): A write of LP = 1 starts the IDLE entry with LP_REQ where the mode allows, or is refused and logged. -/
  | laneLpIdle (lane : Fin 14)
  /-- LANE_LP_DEEP (R170): A write of LP = 2 starts the DEEP entry with LP_REQ where the mode allows, or is refused and logged. -/
  | laneLpDeep (lane : Fin 14)
  /-- LANE_LP_OFF (R170): A write of LP = 3 turns the lane OFF in any mode with cause 7. -/
  | laneLpOff (lane : Fin 14)
  /-- LP_REQ_RECEIVE (R169): A responder receiving LP_REQ answers with LP_ACK, with TARGET 0x00 when it did not declare the target. -/
  | lpReqReceive (lane : Fin 2) (fseq : BitVec 16) (target : BitVec 8)
  /-- LP_ACK_RECEIVE (R168): LP_ACK completes the entry into IDLE or DEEP, or keeps the lane ACTIVE when TARGET is 0x00. -/
  | lpAckReceive (lane : Fin 14) (fseq : BitVec 16) (target : BitVec 8)
  /-- CLC_CLR_COUNTS (R174): A 1 in CLC_CLR.COUNTS clears every counter of every cabinet lane. -/
  | clcClrCounts
  /-- DLC_CLR_COUNTS (R175): A 1 in DLC_CLR.COUNTS clears every DLC counter and YSEQ_GAP. -/
  | dlcClrCounts
  /-- EYE_SCAN (R171): An eye-scan descriptor is checked for arguments, buffer and lane state and waits for a scan slot. -/
  | eyeScan (d : DescRef) (a : ScanArg)
  /-- EYE_SCAN_COMPLETE (R173): An eye scan finishes its points and writes the header and error counts. -/
  | eyeScanComplete (lane : Fin 14) (counts : List (BitVec 32))
  /-- PRESS_CYCLE_START (R183): At each switching cycle start the Press applies the current curd reference, skimming and soft-start decisions and drives or frames the edges. -/
  | pressCycleStart
  /-- PHASE_SEND (R134): At S_{k−1} the Press sends the PHASE frame for cycle k on PRESS_LANE. -/
  | phaseSend
  /-- PRESS_CONTROL_SAMPLE (R181): A converter control sample runs the compensator, the load-step detector and the soft-start and current-limit supervision. -/
  | pressControlSample (conv : Fin 4) (batI : BitVec 32) (busV : BitVec 32) (batV : BitVec 32)
  /-- ILIM_ASSERT (R189): A phase current-limit input asserts, the conducting switch is cut for the cycle and the cycle counts as current-limited. -/
  | ilimAssert (phase : Fin 32)
  /-- SS_RETRY_DELAY_EXPIRE (R187): SS_RETRY_DELAY after a soft-start failure ends, and the converter retries soft start. -/
  | ssRetryDelayExpire (conv : Fin 4)
  /-- RUNNING_RETRY_CLEAR (R188): After 10 s of running, the converter's retry count is cleared. -/
  | runningRetryClear (conv : Fin 4)
  /-- ZERO_CURD_SWITCH_OFF (R191): 10 ms after a ZERO curd takes effect, a running converter switches off at the latest. -/
  | zeroCurdSwitchOff (conv : Fin 4)
  /-- CCE_CONNECT (R188): Setting CONNECT moves a READY converter into running. -/
  | cceConnect (conv : Fin 4)
  /-- CCE_DISCONNECT (R188): Clearing CONNECT makes a running converter regulate to 0 A and switch off. -/
  | cceDisconnect (conv : Fin 4)
  /-- CCE_UNLATCH (R190): A 1 in UNLATCH clears the converter's latch and retry count. -/
  | cceUnlatch (conv : Fin 4)
  /-- CCE_CLR_PEAK (R195): A 1 in CCE_CLR.PEAK restarts every peak register. -/
  | cceClrPeak
  /-- CCE_CLR_COUNTS (R195): A 1 in CCE_CLR.COUNTS clears the current-limit and skimming counters. -/
  | cceClrCounts
  /-- METERING_SAMPLE (R206): A 16 kS/s port sample pair is corrected and its product added to the import or export accumulator, with reversals and zero samples counted. -/
  | meteringSample (port : Fin 28) (lead : Nat) (codesV : List (BitVec 24)) (codesI : List (BitVec 24))
  /-- AC_SAMPLE (R218): An 8 kS/s AC sample adds its three-phase product to the accumulators and to G0_P or G1_P. -/
  | acSample (point : Fin 2) (lead : Nat) (codesV : List (List (BitVec 24))) (codesI : List (List (BitVec 24)))
  /-- AC_WINDOW_END (R217): A basic window of 10 or 12 cycles ends, the AC quantities are computed and the detectors act. -/
  | acWindowEnd (point : Fin 2) (w : AcWindow)
  /-- AC_FREQ10_WINDOW (R217): A 10 s frequency window aligned to site time ends and gives the 10 s frequency. -/
  | acFreq10Window (point : Fin 2) (f : BitVec 24)
  /-- INTERVAL_BOUNDARY (R212): At a billing boundary the MTE takes a KIND 0 boundary reading of each enabled entity and hands it to the RSL. -/
  | intervalBoundary
  /-- MTE_CHECKPOINT (R214): Every PERIOD seconds the MTE writes a checkpoint of accumulators, residues and span counters to the MRAM journal. -/
  | mteCheckpoint
  /-- MODULATOR_STUCK (R216): A channel bitstream shows no transition for 256 clocks, so the channel is in fault and its samples are missing. -/
  | modulatorStuck (chan : Fin 72)
  /-- SINC3_OVERFLOW (R216): A sinc3 filter overflows, so the channel is in fault. -/
  | sinc3Overflow (chan : Fin 72)
  /-- MODULATOR_RESTORED (R216): A faulted channel passes 1 ms of good bitstream, is restored and logs MTE_MOD_RESTORED. -/
  | modulatorRestored (chan : Fin 72)
  /-- MTE_OVERRANGE (R216): A channel sits at full-scale code for 16 values, enters overrange and logs once per run. -/
  | mteOverrange (chan : Fin 72) (full : Bool)
  /-- ROLL_LATCH_READ (R209): A read of MTE_ROLL_STAT latches the group's readouts and accumulators and restarts its wrap counts, logging MTE_ROLL_LAPPED. -/
  | rollLatchRead (entity : Fin 26)
  /-- AC_STAT_LATCH_READ (R226): A read of MTE_AC_STAT_g latches every window value of the group from one window. -/
  | acStatLatchRead (point : Fin 2)
  /-- MTE_CAPTURE (R221): A metrology capture descriptor is checked and waits for one of 8 job slots. -/
  | mteCapture (d : DescRef) (a : McapArg)
  /-- MTE_CAPTURE_COMPLETE (R222): A capture job has taken its samples and writes its result, or ends early on a channel fault. -/
  | mteCaptureComplete (d : DescRef) (shift amps : BitVec 64)
  /-- RECORD_BUILD (R235): The RSL builds, signs and journals a Fjarpin record from a boundary reading and advances RSL_JPOS_NEXT, merging or waiting when the journal is full. -/
  | recordBuild (cut : Option BuildCut := none)
  /-- MRAM_REFRESH (R242): Every 365 days, or within 10 s of boot when overdue, the two-copy MRAM areas are rewritten copy by copy. -/
  | mramRefresh (bad : List MramPart)
  /-- EXPORT (R244): Records operation 0 writes the records from RSL_JPOS_EXP onwards and advances it. -/
  | exportRecords (d : DescRef) (argOk : Bool) (addr : BitVec 64) (len : BitVec 32)
  /-- ACK (R244): Records operation 1 acknowledges records below a position so that their slots may be overwritten, and journals waiting SESSION records. -/
  | ack (d : DescRef) (argOk : Bool) (pos : BitVec 64)
  /-- READ (R244): Records operation 2 rewrites records still in the journal to the host. -/
  | read (d : DescRef) (argOk : Bool) (addr : BitVec 64) (len : BitVec 32) (first : BitVec 64) (count : BitVec 32)
  /-- HEADS (R244): Records operation 3 writes the 26 chain head entries. -/
  | heads (d : DescRef) (argOk : Bool) (addr : BitVec 64) (len : BitVec 32)
  /-- ATTEST (R254): Records operation 4 writes an attestation statement signed with the identity key. -/
  | attest (d : DescRef) (argOk : Bool) (addr : BitVec 64) (len : BitVec 32) (nonce : BitVec 128)
  /-- KEY_ROLL (R250): Records operation 5 derives, tests and announces the next meter key and flips the pointer when the target matches. -/
  | keyRoll (d : DescRef) (argOk : Bool) (len : BitVec 32) (target : BitVec 384) (cut : Option RollCut := none)
  /-- ROLL_ABORT (R244): Records operation 6 clears a pending key block whose flip has not taken place. -/
  | rollAbort (d : DescRef) (argOk : Bool)
  /-- ENROL (R246): Records operation 7 creates the helper data and regenerates the root, in COMMISSION only. -/
  | enrol (d : DescRef) (argOk : Bool) (force : Bool)
  /-- REBIND (R252): Records operation 8 derives a new meter key under the current measurement when UNBOUND, in COMMISSION only. -/
  | rebind (d : DescRef) (argOk : Bool)
  /-- PUBKEY (R244): Records operation 9 writes the identity, meter and pending public keys. -/
  | pubkey (d : DescRef) (argOk : Bool) (addr : BitVec 64) (len : BitVec 32)
  /-- COULOMB_SAMPLE (R258): A coulomb filter output updates the string charge, throughput, uncertainty and reference timers, clipping at the bounds. -/
  | coulombSample (string : Fin 16) (code : BitVec 24)
  /-- REST_REFERENCE (R263): A string has rested for T_REST with OCV reported, so its charge and uncertainty are reset at a rest reference point. -/
  | restReference (string : Fin 16)
  /-- EOC_REFERENCE (R263): End-of-charge conditions hold for T_EOC, so the string is set full and EOC_HOLD is set. -/
  | eocReference (string : Fin 16)
  /-- EOD_CLEAR (R265): V_S has stayed at or above V_EOD × 1.02 for 10 s, so end of discharge clears. -/
  | eodClear (string : Fin 16)
  /-- COULOMB_INPUT_FAULT (R259): A coulomb input is stuck or overflows, so the SEE integrates the management unit's current and zeroes the string's limits. -/
  | coulombInputFault (string : Fin 16) (overflow : Bool)
  /-- COULOMB_INPUT_RESTORED (R259): A faulted coulomb input is restored and the string becomes untrusted. -/
  | coulombInputRestored (string : Fin 16)
  /-- BMU_STATUS_RECEIVE (R267): A management unit status frame is stored, end of discharge is evaluated and a changed serial number starts the string cold. -/
  | bmuStatusReceive (ctrl : Fin 6) (id : BitVec 29) (ide : Bool) (frame : List (BitVec 8))
  /-- BMU_STALE (R267): No fresh status frame is held for BMU_AGE, so BMU_STALE is set and logged. -/
  | bmuStale (string : Fin 16)
  /-- AUTH_CHALLENGE (R268): The SEE sends a challenge to a string's management unit, on a start condition, a retry or AUTH_PERIOD expiry. -/
  | authChallenge (obj : Fin 128)
  /-- AUTH_RESPONSE_RECEIVE (R268): The two answer frames of a unit arrive and the KVT verifies the signature, setting or clearing the authenticated flag. -/
  | authResponseReceive (ctrl : Fin 6) (id1 id2 : BitVec 29) (ide : Bool) (frame1 frame2 : List (BitVec 8))
  /-- AUTH_TIMEOUT (R268): AUTH_TMO passes without an answer, so authentication fails and is retried. -/
  | authTimeout 
  /-- SEE_COMMIT (R271): A write of SEE_COMMIT with the key starts reading the named state buffer, or is refused outside the allowed modes. -/
  | seeCommit (v : BitVec 32)
  /-- SEE_BUFFER_READ_COMPLETE (R271): The read of a committed buffer ends and the state is adopted, the other buffer is tried, or ADOPT becomes 3. -/
  | seeBufferReadComplete (readOk : Bool) (block : List (BitVec 8))
  /-- SAVE (R272): Storage operation 0 writes the state block with the next GEN into buffer A or B. -/
  | save (d : DescRef) (argOk : Bool) (buffer : BitVec 8)
  /-- AUTH_KEY (R272): Storage operation 1 provisions a string's public key into the sealed configuration, in COMMISSION only. -/
  | authKey (d : DescRef) (argOk : Bool) (string : BitVec 8) (key : List (BitVec 8))
  /-- AUTH_NOW (R272): Storage operation 2 starts authentication of a string at once. -/
  | authNow (d : DescRef) (argOk : Bool) (string : BitVec 8)
  /-- QC_LATCH_READ (R276): A read of SEE_QC_LO_s latches SEE_QC_HI_s. -/
  | qcLatchRead (string : Fin 16)
  /-- PILOT_PERIOD (R282): Each 1 ms pilot period is measured and classified, and a debounced change of STATE is logged, notified and may end a session with class C. -/
  | pilotPeriod (port : Fin 24) (high low : List (BitVec 16))
  /-- PILOT_CONTROL_WRITE (R280): A write of PLU_CP_CTL_p sets DUTY and F for the next period, arms or disarms SLAC, or is ignored while the guard holds the duty. -/
  | pilotControlWrite (port : Fin 24) (v : BitVec 32)
  /-- BEACON_SEND (R284): Every 40 ms at its scheduled instant each CCS-type port's Green PHY engine sends a beacon. -/
  | beaconSend (port : Fin 24)
  /-- VEHICLE_FRAME_RECEIVE (R285): A valid frame from the vehicle is consumed by the firmware when it is a management message, or written to the port's receive ring. -/
  | vehicleFrameReceive (port : Fin 24) (frame : List (BitVec 8)) (lead : Nat)
  /-- UNICAST_FRAME_FAIL (R286): A unicast frame fails FEC or CRC, is retransmitted and counted, and 3 failures within 200 ms change the link to STD-ROBO. -/
  | unicastFrameFail (port : Fin 24)
  /-- ROBO_RESTORE (R286): 2 s pass without a failed frame, so the link returns to HS-ROBO. -/
  | roboRestore (port : Fin 24)
  /-- IMPULSE_EVENT (R286): A burst shorter than 50 µs above the clipping level is counted. -/
  | impulseEvent (port : Fin 24)
  /-- SLAC_PARM_REQ (R287): A CM_SLAC_PARM.REQ is answered by an armed port and opens a sounding round in a free matrix row. -/
  | slacParmReq (port : Fin 24) (runId : BitVec 64)
  /-- SLAC_SOUND (R288): Every PHY measures the attenuation of a received CM_MNBC_SOUND.IND into the matrix. -/
  | slacSound (runId : BitVec 64) (atten : List (BitVec 16))
  /-- SLAC_WINDOW_CLOSE (R288): A round's sounding window closes and the PLU accepts or rejects it on the best port and writes a SLAC record. -/
  | slacWindowClose (runId : BitVec 64)
  /-- SLAC_ROW_FREE (R287): 100 ms after a round's window closes, its matrix row is freed. -/
  | slacRowFree (runId : BitVec 64)
  /-- FRAME (R415): Port transmit operation 0 sends one Ethernet frame to the vehicle. -/
  | frame (d : DescRef) (argOk : Bool) (len : BitVec 32) (data : List (BitVec 8))
  /-- FRAME_SENT (R415): A port frame has left the PHY, and its descriptor completes with the start-of-frame stamp. -/
  | frameSent (port : Fin 24) (lead : Nat)
  /-- FRAME_TX_TIMEOUT (R415): A port frame has not left within 200 ms, so it completes with PLU_TX_TIMEOUT and is not sent. -/
  | frameTxTimeout (port : Fin 24)
  /-- SESSION_START (R293): Port transmit operation 1 checks and starts a session, writes the open-session slot and takes a KIND 1 reading. -/
  | sessionStart (d : DescRef) (argOk : Bool) (evcc : BitVec 48) (maxV maxI maxP : BitVec 32) (contract : List (BitVec 8))
  /-- REQUEST (R295): Port transmit operation 2 checks and clamps a vehicle request, times it against the request period and hands it to the snapshot. -/
  | request (d : DescRef) (argOk : Bool) (reqI reqV reqP presentV newI newV newP : BitVec 32)
  /-- SESSION_END (R300): Port transmit operation 3 moves an active session to terminating until its end instant. -/
  | sessionEnd (d : DescRef) (argOk : Bool) (reason : BitVec 8)
  /-- REPORT (R297): Port transmit operation 4 records a host-found violation and terminates the session for class C. -/
  | report (d : DescRef) (argOk : Bool) (cls cause : BitVec 8)
  /-- PORT_RX (R302): A receive buffer is posted on ring 24 + p and waits for a frame, SLAC record or guard notice. -/
  | portRx (d : DescRef) (argOk : Bool) (len : BitVec 32) (addr : BitVec 64)
  /-- SESSION_TIMEOUT (R296): SESSION_TMO passes without an accepted request, so the guard takes a class C decision with cause 0x04. -/
  | sessionTimeout (port : Fin 24)
  /-- COOLOFF_END (R301): PORT_COOLOFF after the end instant passes, so the port returns to session state 0 and the duty is released. -/
  | cooloffEnd (port : Fin 24)
  /-- PLU_CLR_COUNTS (R304): A 1 in PLU_CLR_p.COUNTS clears every counter of the port. -/
  | pluClrCounts (port : Fin 24)
  /-- CAN_FRAME_RECEIVE (R311): A received CAN frame is matched to a receive object and delivered to its destination, or dropped. -/
  | canFrameReceive (ctrl : Fin 6) (id : BitVec 29) (ide fdf brs : Bool) (data : List (BitVec 8)) (lead : Nat) (hkcTakes : Bool)
  /-- CAN_FRAME_SENT (R325): A CAN frame completes transmission, and a host SEND completes with DONE. -/
  | canFrameSent (ctrl : Fin 6) (start : Bool)
  /-- CAN_TX_DEADLINE (R312): A transmit request's deadline passes, so it is withdrawn, counted and logged, with LCH_CAN_LATE or CAN_REF_LATE where it applies. -/
  | canTxDeadline (ctrl : Fin 6)
  /-- CAN_BUS_ERROR (R320): A bus error updates TEC and REC, logs warning, passive or bus-off, and counts identifier contention. -/
  | canBusError (ctrl : Fin 6) (kind : Fin 5)
  /-- CAN_SUSPECT_EXPIRE (R324): 1 s after a contention, received frames of that identifier are no longer suspect. -/
  | canSuspectExpire (ctrl : Fin 6)
  /-- CAN_BUS_ON (R321): A bus-off controller has counted 128 × 11 recessive bits, recovers and sends its held frames first. -/
  | canBusOn (ctrl : Fin 6)
  /-- CAN_RECOVERY_REQUEST (R321): A 1 in REC_REQ starts bus-off recovery counting. -/
  | canRecoveryRequest (ctrl : Fin 6)
  /-- CAN_SLEEP (R316): SLEEP = 1 finishes the frame in transmission, drives TXD recessive and STB high and stops reception. -/
  | canSleep (ctrl : Fin 6)
  /-- CAN_SLEEP_EXIT (R316): SLEEP = 0 lowers STB and returns the controller to the bus after 11 recessive bits. -/
  | canSleepExit (ctrl : Fin 6)
  /-- CAN_REF_MESSAGE (R318): At each multiple of REF_PERIOD the time master requests a reference message from REF_OBJ. -/
  | canRefMessage (ctrl : Fin 6)
  /-- CAN_UNBLOCK (R324): A 1 written to BLOCKED releases a blocked transmit object. -/
  | canUnblock (ctrl : Fin 6) (obj : Fin 128)
  /-- CAN_CLR_COUNTS (R326): A 1 in CAN_CLR_n.COUNTS clears the controller's counters. -/
  | canClrCounts (ctrl : Fin 6)
  /-- SEND (R325): A CAN SEND descriptor requests transmission of a host frame from a host-owned transmit object. -/
  | send (d : DescRef) (argOk : Bool) (ctrl : BitVec 8) (obj : BitVec 16) (len : BitVec 8) (data : List (BitVec 8)) (deadline : BitVec 64)
  /-- RX_POST (R325): A CAN RX_POST descriptor posts a buffer for one received frame. -/
  | rxPost (d : DescRef) (argOk : Bool) (len : BitVec 32) (addr : BitVec 64)
  /-- RIND_CYCLE (R329): Every 0.5 ms the Rind scans its inputs, evaluates safety functions and diagnostics, updates its outputs and publishes caps and status. -/
  | rindCycle (x : RindIn)
  /-- HEARTBEAT_RECEIVE (R35): The Rind receives a Churn heartbeat, ends a ramp-down request and resumes supervision or treats an orderly stop. -/
  | heartbeatReceive
  /-- HEARTBEAT_LOSS (R35): 5 ms pass without a heartbeat after a running mode, so the Rind requests ramp-down. -/
  | heartbeatLoss
  /-- SAFE_GRACE_EXPIRE (R35): SAFE_GRACE passes after heartbeat loss or a HALT heartbeat, so the Rind forces safe switch-off unless the twin rule withholds it. -/
  | safeGraceExpire
  /-- SAFETY_FUNCTION_TIME_EXPIRE (R340): A safety function condition has held for its time parameter, such as SLC_TIME, IMD_TIME or OFF_CONFIRM, and its trip or safe-off is decided. -/
  | safetyFunctionTimeExpire (which : Fin 5) (idx : Fin 32)
  /-- C1_GRACE_EXPIRE (R341): C1_GRACE passes after a category 1 trip, so its outputs are de-energised. -/
  | c1GraceExpire
  /-- DISCREPANCY_TIMEOUT (R330): A pair discrepancy lasts DISC × 10 ms, so a latched discrepancy fault puts the pair in demand. -/
  | discrepancyTimeout (pair : Fin 8)
  /-- TEST_PULSE (R331): Once per TP_PERIOD a test-pulse source goes low for 200 µs and the assigned channels and energised outputs are checked. -/
  | testPulse (source : Bool) (follows : BitVec 16) (soRead : BitVec 8) (stuck : Bool)
  /-- EDM_TIMEOUT (R335): EDM_TIME passes without the expected feedback after an output change, so an EDM fault latches the output off. -/
  | edmTimeout (out : Fin 8)
  /-- RELAY_HOLD_TAKE (R346): Peer frames have reported the peer not holding for 20 ms, so the Rind drives VLR_HOLD high. -/
  | relayHoldTake
  /-- TWIN_ALIVE_CHANGE (R347): TWIN_ALIVE_I changes level and is qualified high after 10 ms, feeding the withholding rule and promotion trigger 2. -/
  | twinAliveChange (level : Bool)
  /-- SOELAONE_SEND (R353): Every connection PERIOD the Rind sends a Soelaone frame on CAN5 and its mirror. -/
  | soelaoneSend (conn : Fin 8)
  /-- SOELAONE_RECEIVE (R350): A Soelaone frame is checked and accepted, discarded as a duplicate or faults the connection. -/
  | soelaoneReceive (frame : List (BitVec 8))
  /-- SOELAONE_TIMEOUT (R350): No frame is accepted on a connection for TEXP, so it goes SAFE. -/
  | soelaoneTimeout (conn : Fin 8)
  /-- SFI_PDATA_WRITE (R355): A write of SFI_PDATA stages an image word in COMMISSION, advances ADDR and abandons a running confirmation when it changes a word. -/
  | sfiPdataWrite (v : BitVec 32)
  /-- SFI_PDATA_READ (R360): A read of SFI_PDATA returns the staged word and advances ADDR by 4. -/
  | sfiPdataRead
  /-- SFI_CV_REQ (R355): A write of 0x0000_4356 starts the range check and check-value computation of the staged image. -/
  | sfiCvReq (v : BitVec 32)
  /-- CV_COMPUTE_COMPLETE (R355): Within 10 ms the check value is shown with STATE 5, or the request is refused with a bad offset. -/
  | cvComputeComplete
  /-- SFI_CONFIRM (R355): A write of SFI_CONFIRM with the matching value awaits the site acknowledgement, or refuses on a mismatch. -/
  | sfiConfirm (v : BitVec 32)
  /-- CONFIRM_TIMEOUT (R355): 60 s pass without acknowledgement, so the confirmation is refused with code 0x04. -/
  | confirmTimeout
  /-- SFI_PWD_CMD (R356): A write of 0x0000_5057 in COMMISSION sets the commissioning password from SFI_PWD. -/
  | sfiPwdCmd (v : BitVec 32)
  /-- PASSWORD_LOCKOUT_END (R356): 15 min of lockout pass, so LOCKED clears. -/
  | passwordLockoutEnd
  /-- RIND_STORE_REFRESH (R328): Every 365 days of VAON power, or within 1 s of VAON power-on when overdue, the Rind rewrites and reads back its store. -/
  | rindStoreRefresh
  /-- HKA_SLOT_CONVERSION (R367): A 100 µs HKA slot converts a channel, corrects it and compares it with WARN, THR and SHUT, promoting, faulting and placing throttle entries. -/
  | hkaSlotConversion (value : BitVec 32) (pin : BitVec 16)
  /-- SLOW_ROUND_START (R363): Every 200 ms of site time a slow round of 124 conversions starts. -/
  | slowRoundStart
  /-- DIE_SENSOR_READ (R371): Every 2 ms the on-die sensors are read, warnings logged, and a TRIP level holds every domain except VAON in reset. -/
  | dieSensorRead (temps : List (BitVec 16))
  /-- DIE_TRIP_RELEASE (R371): Every sensor has been 15 °C below TRIP for 10 ms, so the hold ends and boot runs. -/
  | dieTripRelease
  /-- THM_CLR_PEAK (R377): A 1 in THM_CLR.PEAK restarts every on-die peak. -/
  | thmClrPeak
  /-- LSB_ON_WRITE (R372): A write of LSB_ON commands the load-switch channels, ignored in SHADOW. -/
  | lsbOnWrite (v : BitVec 32)
  /-- LSB_ON_SET (R377): Each 1 written to LSB_ON_SET sets the bit in LSB_ON, ignored in SHADOW. -/
  | lsbOnSet (v : BitVec 32)
  /-- LSB_ON_CLR (R377): Each 1 written to LSB_ON_CLR clears the bit in LSB_ON, stopping a retry wait, ignored in SHADOW. -/
  | lsbOnClr (v : BitVec 32)
  /-- LSB_UNLOCK (R373): Each 1 written to LSB_UNLOCK clears LOCKED and USED of the channel. -/
  | lsbUnlock (v : BitVec 32)
  /-- LSB_CLR_COUNTS (R377): A 1 in LSB_CLR.COUNTS clears the channel trip counters. -/
  | lsbClrCounts
  /-- LSB_SHORT (R373): A channel's 8 A comparator fires, switching it off within 5 µs and starting the retry sequence or LOCKED. -/
  | lsbShort (sw : Fin 24)
  /-- LSB_OVERLOAD (R373): A channel's current stays above its latch-off threshold for LO_TIME, so it trips. -/
  | lsbOverload (sw : Fin 24)
  /-- LSB_THERMAL_TRIP (R373): A channel junction reaches 150 °C, sets THERM, trips and pauses its retry timer. -/
  | lsbThermalTrip (sw : Fin 24)
  /-- LSB_THERMAL_RELEASE (R374): The junction falls below 130 °C, THERM releases and the retry timer resumes. -/
  | lsbThermalRelease (sw : Fin 24)
  /-- LSB_RETRY (R373): RETRY_DELAY expires, one retry is consumed and the channel switches on again. -/
  | lsbRetry (sw : Fin 24)
  /-- LSB_RETRY_CLEAR (R373): RETRY_CLEAR of conduction without a trip clears USED. -/
  | lsbRetryClear (sw : Fin 24)
  /-- LSB_INRUSH_END (R373): INRUSH_T after a LAMP channel switches on, its latch-off threshold returns to ILIM. -/
  | lsbInrushEnd (sw : Fin 24)
  /-- VSW_UNDERVOLTAGE (R375): VSW falls below VSW_UV, so every channel holds its state and overload timers pause. -/
  | vswUndervoltage (vsw : BitVec 16)
  /-- VSW_HOLD_EXPIRE (R375): VSW is still low 10 ms after the fall, so every channel switches off and UV_OFF is set. -/
  | vswHoldExpire
  /-- VSW_RESTORED (R375): VSW stays at or above VSW_UV + 0.5 V for 10 ms, so the channels return to LSB_ON. -/
  | vswRestored (vsw : BitVec 16)
  /-- DELTA_SEND (R386): The leading unit sends the parts of delta N, the last with LAST set by t_{N+1} + 5 µs. -/
  | deltaSend
  /-- SNAP_RECEIVE (R390): The standby receives SNAP parts, replays tick N on the leading unit's snapshot and compares CURD_CMP, counting agreement or mismatch. -/
  | snapReceive (h : TwinHead) (part : BitVec 8) (tick cmp : BitVec 32) (data : List (BitVec 8))
  /-- DELTA_RECEIVE (R387): The standby receives a delta part and applies the complete delta when its state is contiguous, or buffers it. -/
  | deltaReceive (h : TwinHead) (f : DeltaFrame)
  /-- DELTA_TIMEOUT (R387): The LAST part of delta N has not arrived by t_{N+1} + 20 µs, so contiguity breaks and DLC_DELTA_GAP is logged. -/
  | deltaTimeout
  /-- EPOCH_CHUNK_RECEIVE (R389): The standby stores an epoch chunk, discarding an older incomplete copy on a higher ESEQ. -/
  | epochChunkReceive (h : TwinHead) (f : ChunkFrame)
  /-- EPOCH_COMMIT_RECEIVE (R389): EPOCH_COMMIT arrives and the standby adopts a complete, verified copy or discards it. -/
  | epochCommitReceive (h : TwinHead) (f : CommitFrame)
  /-- EPOCH_COMMIT_TIMEOUT (R389): No commit arrives within 50 ms of t_E, so the incomplete copy is discarded. -/
  | epochCommitTimeout
  /-- HEALTH_SEND (R395): At each whole 100 ms plus 50 ms each unit sends a HEALTH frame. -/
  | healthSend
  /-- HEALTH_RECEIVE (R395): A HEALTH frame is mirrored into GLB_PEER_HEALTH, and a change of the peer's FIT is logged. -/
  | healthReceive (h : TwinHead) (words : List (BitVec 32))
  /-- HEALTH_TIMEOUT (R395): No health report arrives for 300 ms, so DLC_PEER_HEALTH is logged. -/
  | healthTimeout
  /-- GOING_DOWN_RECEIVE (R398): GOING_DOWN from the leading unit is promotion trigger 1. -/
  | goingDownReceive (h : TwinHead) (cause : BitVec 8) (tick : BitVec 32)
  /-- PROMOTE (R401): A PROMOTE descriptor on the standby is promotion trigger 5 and completes after step 4. -/
  | promote (d : DescRef) (reservedZero : Bool)
  /-- GLB_TWIN_RESYNC (R393): A 1 in RESYNC in SHADOW clears latched fitness causes, drops replicated state and returns the unit to SYNC. -/
  | glbTwinResync (v : BitVec 32)
  /-- MEMORY_MARCH_STEP (R394): Every 100 ms a unit march-tests 1 MiB of free working memory and scrubs the memory in use. -/
  | memoryMarchStep (corrected : BitVec 16) (uncorrectable : Bool)
  /-- DOORBELL (R416): A write to BAR2 at 0x40 × r sets the new TAIL of ring r, is ignored, or halts the ring on overrun. -/
  | doorbell (off : BitVec 12) (size : Nat) (v : BitVec 32)
  /-- DESCRIPTOR_FETCH (R418): The fetch arbiter takes posted descriptors into the in-flight pool, checks IDX, OPCODE and FLAGS, and stalls when the pool is empty. -/
  | descriptorFetch (fetched : List FetchDesc)
  /-- RING_ENABLE (R420): A write of EN = 1 with nothing in flight resets the ring indices and starts the ring. -/
  | ringEnable (ring : Fin 64) (v : BitVec 32)
  /-- RING_DISABLE (R420): A write of EN = 0 stops fetching and flushes descriptors that have not started or wait on an outside event. -/
  | ringDisable (ring : Fin 64) (v : BitVec 32)
  /-- HOST_ACCESS_FAILURE (R413): A host memory access for a descriptor fails or times out, completing it with HIF_DMA or halting its ring. -/
  | hostAccessFailure (d : DescRef) (kind : Fin 4)
  /-- PCIE_LINK_DOWN (R423): The link goes down or PCIE_PERST_N is low, halting every running ring and logging HIF_LINK_DOWN. -/
  | pcieLinkDown
  /-- PCIE_LINK_UP (R423): The link trains again and HIF_LINK_UP is logged. -/
  | pcieLinkUp (speed : Fin 4) (width : Fin 16)
  /-- PCIE_HOT_RESET (R423): A hot reset halts every ring and returns the HIF registers and configuration space to reset values. -/
  | pcieHotReset
  /-- FUNCTION_LEVEL_RESET (R423): A Function Level Reset halts every ring and returns the HIF registers and configuration space to reset values. -/
  | functionLevelReset
  /-- BUS_MASTER_DISABLE (R423): Bus Master Enable is cleared, halting every running ring. -/
  | busMasterDisable
  /-- D3HOT_ENTRY (R423): The function enters D3hot, halting every running ring. -/
  | d3hotEntry
  /-- HIF_ATTN_CAUSE_WRITE (R424): A W1C write of HIF_ATTN_CAUSE clears causes and resends the MSI-X message when enabled causes remain. -/
  | hifAttnCauseWrite (v : BitVec 32)
  /-- MSIX_ENABLE (R424): MSI-X Enable changes from 0 to 1 while enabled causes are latched, so the message is sent at once or marked pending. -/
  | msixEnable
  /-- MSIX_UNMASK (R424): Unmasking the vector or function sends a pending attention message. -/
  | msixUnmask (function : Bool)
  /-- HIF_CLR_COUNTS (R428): A 1 in HIF_CLR.COUNTS clears HIF_LOST_CNT, HIF_DB_IGN_CNT and LOW. -/
  | hifClrCounts
  /-- NOP (R414): A NOP descriptor completes without effect, or with HIF_ARG on a non-zero reserved byte. -/
  | nop (d : DescRef) (reservedZero : Bool)
  /-- EVENT_READ (R426): An EVENT_READ descriptor writes logged events from FIRST onwards, or waits when WAIT is set and none is available. -/
  | eventRead (d : DescRef) (first : BitVec 64) (addr : BitVec 64) (len : BitVec 32) (wait : Bool) (reservedZero : Bool)
  /-- EVENT_READ_WAKE (R426): An event is logged while an EVENT_READ with WAIT is waiting, so it writes the available events and completes. -/
  | eventReadWake
  /-- EVT_HEAD_LATCH_READ (R429): A read of GLB_EVT_HEAD_LO latches GLB_EVT_HEAD_HI. -/
  | evtHeadLatchRead
  /-- EVT_OLDEST_LATCH_READ (R429): A read of GLB_EVT_OLDEST_LO latches GLB_EVT_OLDEST_HI. -/
  | evtOldestLatchRead
  /-- SELF_TEST_MARCH (R427): Self-test kind 0 runs a march test of free working memory with ECC scrubbing of the rest. -/
  | selfTestMarch (d : DescRef) (reservedZero : Bool)
  /-- SELF_TEST_LANE_DELAY (R427): Self-test kind 1 runs one delay measurement on every active lane. -/
  | selfTestLaneDelay (d : DescRef) (reservedZero : Bool)
  /-- SELF_TEST_MRAM_CRC (R427): Self-test kind 2 checks the CRC of every MRAM area and the PREV_HASH links of the journal. -/
  | selfTestMramCrc (d : DescRef) (reservedZero : Bool)
  /-- SELF_TEST_COMPLETE (R427): A running self-test finishes and completes with its counts, with SELFTEST_FAIL on any failure. -/
  | selfTestComplete (a : BitVec 32) (b : BitVec 32)
  /-- SERIAL_PLL_LOCK (R50): A channel of the serial PLL regains lock, SER_CAB_LOCK or SER_DRK_LOCK is set again and the lanes of its group can leave DETECT. -/
  | serialPllLock (dreak : Bool)
  /-- D3HOT_EXIT (R423): The function returns from D3hot to D0, resetting nothing, with halted rings staying halted until re-enabled. -/
  | d3hotExit
  /-- BUS_MASTER_ENABLE (R423): The host sets Bus Master Enable again, allowing the device to reach host memory while halted rings stay halted. -/
  | busMasterEnable
  /-- MSIX_MASK (R424): The host masks the vector or the function, so that a due attention message sets the pending bit instead of being sent. -/
  | msixMask (function : Bool)
  /-- MSIX_DISABLE (R424): MSI-X Enable changes from 1 to 0, after which no message is sent and attention causes stay latched for polling. -/
  | msixDisable
  deriving DecidableEq, Repr

end Sys2Proof
end

