-- ==== Sys2Proof/Decode.lean ====
section
/-!
DEFINITION. Decoding by the bits of spec/opcode_table.json. The table gives no row any bits: a command of this block is an
access or an event with operands, not a word. Nothing decodes.
-/
namespace Sys2Proof

/-- The command that a word spells by the table's bits: none, as no row of the table has bits. -/
def decodeTableWord (_nbits _w : Nat) : Option Instr := none

end Sys2Proof
end

