-- ==== Sys2Proof/Config.lean ====
section
/-!
DEFINITION. What the spec leaves to the part or does not state as a value: FREE VALUES. Each is an opaque constant with no
body, so no proof can see what it is and a claim about it holds whatever it is.
-/
namespace Sys2Proof

/-- A fresh unconstrained number; the machine applies it to its own counter (log entry 3). -/
opaque Config.freeNat : Nat → Nat

/-- Contents of a lane's scrambler register when a frame starts to leave at an uptime: no rule states its start value (spec/07 R149;
log entry 127). -/
opaque Config.scrambler : Nat → Nat → BitVec 58

/-- The 32 bytes of the root an enrolment fixes (spec/10 R246; log entry 4). -/
opaque Config.root : Nat → List Nat

/-- A corrected sample that does not fit its 40 signed bits (spec/09, "Scaling and correction"; log entry 27). -/
opaque Config.wide : Int → Int

/-- Frequency term of the discipline loop from the terms before and the phase error (gains not stated, R58; log entry 5). -/
opaque Config.loopFreq : Int → Int → Int

/-- Phase term of the discipline loop from the phase error (gains not stated, R58; log entry 5). -/
opaque Config.loopPhase : Int → Int

/-- Frequency term from the term before and a measured rate deviation of REF10M_IN in 10^−9 (R58; log entry 5). -/
opaque Config.loopRate : Int → Int → Int

/-- Age logged, at a tick, of an input that has had no value yet: no rule states it (spec/04 R76; log entry 67). -/
opaque Config.neverAge : Nat → Nat

/-- Whether a slow-node status code is a defined one: spec/04 R77 checks it and no rule lists the codes (log entry 15). -/
opaque Config.slowDefined : Nat → Bool

/-- Slow-load setpoint, W, of a slot in the curd of a tick: spec/04 R89 carries it and no rule says how it is formed
(log entry 16). -/
opaque Config.slowLoad : Nat → Nat → Int

/-- A quotient whose divisor is 0, of its dividend: the rules divide by a measured value and state no result for 0
(spec/08 R180, R182; log entry 23). -/
opaque Config.byZero : Int → Int

/-- Module serial number, 32 bits: a property of the part (spec/07 R158, spec/10 R230; log entry 21). -/
opaque Config.serial : Nat

/-- Low 32 bits of the sealed configuration digest of an image: the digest is named by spec/16 R396, its function is not
stated (log entry 21). -/
opaque Config.cfgDigest : List (Nat × Nat) → Nat

/-- Temperature, 0.1 °C, of a conversion after the three corrections of spec/15 R365, whose arithmetic no rule states: sensor type
(NTC or Pt1000), BETA and R25 of the group, the conversion of the channel, the last conversion of the group's reference (0.01 % of
nominal), and on-die sensor 10 (log entry 51). -/
opaque Config.hkaTemp : Bool → Nat → Nat → Nat → Int → Int → Int

/-- Output current, mA, of a conducting load switch at an uptime: LSB_CH_STAT.I shows it and no command brings it (spec/15 R377;
log entry 52). -/
opaque Config.switchAmps : Nat → Nat → Nat

/-- Bytes of a replicated object in its section; the layouts of sections 3, 4, 6, 7 and 8 are not stated (spec/16 R385; log
entry 60). -/
opaque Config.repBytes : Machine.RepItem → List Nat

end Sys2Proof
end

