-- ==== Sys2Proof/Machine/RegMap.lean ====
section
/-!
DEFINITION. The set-up registers of BAR0 (spec/17_host_interface.md, "Set-up register map"), one row per register and one
entry per field, as the register tables of each chapter of spec/ give them: offset, places of the bits, access
code (R9, R445), reset value and the range a written value must lie in. A register array has its stride and
count in the row. The abbreviations after the tables name every field by the manual's own names.
-/
namespace Sys2Proof.Machine

/-- Access codes of a register field (spec/00_scope.md R9, R445). -/
inductive Acc where
  | ro | rw | wo | w1c | rws
  deriving DecidableEq, Repr

/-- Which written values a field takes; a write outside leaves the field unchanged.
`le lo hi`: lo to hi. `sle m`: signed, −m to m. `pairAge`: BLK_AGE and BLK_DROP judged as a pair (R92).
`divisor`: 60 to 3,600 and a divisor of 3,600 (R224). `kind`: fixed for channels 0–55 and 64–71 (R198, R227).
`delay`: ±10,000, or ±5,000 for the AC current channels (R203, R227). `uMax`: U_WARN to 5,000 (R275).
`input`: 56–63 or 0x3F (R196). `temp`: 0–95 or 0x7F (R196). `band`: LO not above HI (R305). -/
inductive Rng where
  | any | le (lo hi : Nat) | sle (m : Nat) | pairAge | divisor | kind | delay | uMax | input | temp | band
  deriving DecidableEq, Repr

/-- One field of a register: lowest bit, width, access, reset value, accepted values. -/
structure FieldDef where
  lo : Nat
  w : Nat
  acc : Acc
  reset : Nat
  rng : Rng
  deriving DecidableEq, Repr

/-- One register or register array: offset of the first, two strides with their counts (a count of 1 where there is
no such dimension), and its fields. -/
structure RegDef where
  base : Nat
  s1 : Nat
  n1 : Nat
  s2 : Nat
  n2 : Nat
  fields : List FieldDef
  deriving DecidableEq, Repr

/-- A field of one register of BAR0: register offset, lowest bit, width. -/
structure Fld where
  off : Nat
  lo : Nat
  w : Nat
  deriving DecidableEq, Repr

/-- Registers of the GLB window at 0x00000, part 0. -/
def regsGlb0 : List RegDef := [
  -- GLB_ID (R5)
  ⟨0x0, 0x0, 1, 0x0, 1, [⟨0, 16, .ro, 0x4800, .any⟩, ⟨16, 8, .ro, 0x11, .any⟩, ⟨24, 8, .ro, 0x3, .any⟩]⟩,
  -- GLB_CAPS (R6)
  ⟨0x4, 0x0, 1, 0x0, 1, [⟨0, 8, .ro, 0x18, .any⟩, ⟨8, 8, .ro, 0x30, .any⟩, ⟨16, 8, .ro, 0x10, .any⟩, ⟨24, 1, .ro, 0x1, .any⟩, ⟨25, 1, .ro, 0x1, .any⟩]⟩,
  -- GLB_SITE_CFG (R21)
  ⟨0x10, 0x0, 1, 0x0, 1, [⟨0, 2, .rws, 0x0, .le 0 1⟩, ⟨2, 1, .rws, 0x0, .any⟩, ⟨3, 1, .rws, 0x0, .any⟩, ⟨4, 4, .rws, 0x0, .any⟩, ⟨8, 1, .rws, 0x0, .any⟩, ⟨9, 1, .rws, 0x0, .any⟩]⟩,
  -- GLB_PORT_EN (R21)
  ⟨0x14, 0x0, 1, 0x0, 1, [⟨0, 24, .rws, 0x0, .any⟩]⟩,
  -- GLB_BLOCK_EN0 (R21)
  ⟨0x18, 0x0, 1, 0x0, 1, [⟨0, 32, .rws, 0x0, .any⟩]⟩,
  -- GLB_BLOCK_EN1 (R21)
  ⟨0x1C, 0x0, 1, 0x0, 1, [⟨0, 16, .rws, 0x0, .any⟩]⟩,
  -- GLB_STRING_EN (R21)
  ⟨0x20, 0x0, 1, 0x0, 1, [⟨0, 16, .rws, 0x0, .any⟩]⟩,
  -- GLB_MODE (R46)
  ⟨0x40, 0x0, 1, 0x0, 1, [⟨0, 3, .ro, 0x0, .any⟩, ⟨3, 1, .ro, 0x1, .any⟩, ⟨4, 1, .ro, 0x0, .any⟩, ⟨8, 8, .ro, 0x0, .any⟩, ⟨16, 3, .ro, 0x0, .any⟩]⟩,
  -- GLB_MODE_REQ (R46)
  ⟨0x44, 0x0, 1, 0x0, 1, [⟨0, 3, .wo, 0x0, .any⟩, ⟨3, 1, .wo, 0x0, .any⟩, ⟨24, 8, .wo, 0x0, .any⟩]⟩,
  -- GLB_MODE_STAT (R46)
  ⟨0x48, 0x0, 1, 0x0, 1, [⟨0, 1, .ro, 0x0, .any⟩, ⟨8, 8, .ro, 0x0, .any⟩, ⟨16, 9, .ro, 0x0, .any⟩]⟩,
  -- GLB_HOST_WDOG (R46)
  ⟨0x50, 0x0, 1, 0x0, 1, [⟨0, 16, .rw, 0x7D0, .any⟩]⟩,
  -- GLB_HOST_KICK (R46)
  ⟨0x54, 0x0, 1, 0x0, 1, [⟨0, 32, .wo, 0x0, .any⟩]⟩,
  -- GLB_SWRST (R46)
  ⟨0x58, 0x0, 1, 0x0, 1, [⟨0, 32, .wo, 0x0, .any⟩]⟩,
  -- GLB_PWR_STAT (R46)
  ⟨0x60, 0x0, 1, 0x0, 1, [⟨0, 8, .ro, 0x0, .any⟩, ⟨8, 1, .w1c, 0x0, .any⟩, ⟨9, 1, .w1c, 0x0, .any⟩, ⟨10, 1, .ro, 0x0, .any⟩, ⟨16, 8, .ro, 0x0, .any⟩]⟩,
  -- GLB_PWR_CFG (R46)
  ⟨0x64, 0x0, 1, 0x0, 1, [⟨0, 10, .rws, 0x32, .le 10 1000⟩]⟩,
  -- GLB_RST_CAUSE (R46)
  ⟨0x68, 0x0, 1, 0x0, 1, [⟨0, 1, .w1c, 0x1, .any⟩, ⟨1, 1, .w1c, 0x0, .any⟩, ⟨2, 1, .w1c, 0x0, .any⟩, ⟨3, 1, .ro, 0x0, .any⟩, ⟨4, 1, .w1c, 0x0, .any⟩, ⟨5, 1, .w1c, 0x0, .any⟩, ⟨6, 1, .w1c, 0x0, .any⟩]⟩,
  -- GLB_WAKE_CFG (R46)
  ⟨0x6C, 0x0, 1, 0x0, 1, [⟨0, 2, .rw, 0x0, .le 0 2⟩, ⟨2, 2, .rw, 0x0, .le 0 2⟩, ⟨4, 1, .rw, 0x0, .any⟩, ⟨5, 1, .rw, 0x1, .any⟩, ⟨8, 1, .rw, 0x0, .any⟩]⟩,
  -- GLB_WAKE_STAT (R46)
  ⟨0x70, 0x0, 1, 0x0, 1, [⟨0, 4, .w1c, 0x0, .any⟩]⟩,
  -- GLB_TWIN_CFG (R402)
  ⟨0x200, 0x0, 1, 0x0, 1, [⟨0, 2, .rws, 0x1, .le 1 2⟩, ⟨8, 8, .rws, 0x8, .le 2 64⟩, ⟨16, 8, .rws, 0x10, .le 1 255⟩, ⟨24, 1, .rws, 0x0, .any⟩]⟩,
  -- GLB_TWIN_CTL (R402)
  ⟨0x204, 0x0, 1, 0x0, 1, [⟨0, 1, .wo, 0x0, .any⟩]⟩,
  -- GLB_TWIN_STAT (R402)
  ⟨0x208, 0x0, 1, 0x0, 1, [⟨0, 2, .ro, 0x0, .any⟩, ⟨2, 1, .ro, 0x0, .any⟩, ⟨3, 1, .ro, 0x0, .any⟩, ⟨4, 1, .ro, 0x0, .any⟩, ⟨8, 7, .ro, 0x0, .any⟩, ⟨16, 8, .ro, 0x0, .any⟩, ⟨24, 3, .ro, 0x0, .any⟩]⟩,
  -- GLB_TWIN_CLAIM (R402)
  ⟨0x20C, 0x0, 1, 0x0, 1, [⟨0, 32, .ro, 0x0, .any⟩]⟩,
  -- GLB_TWIN_PEER_CLAIM (R402)
  ⟨0x210, 0x0, 1, 0x0, 1, [⟨0, 32, .ro, 0x0, .any⟩]⟩,
  -- GLB_TWIN_EPOCH (R402)
  ⟨0x214, 0x0, 1, 0x0, 1, [⟨0, 24, .ro, 0x0, .any⟩]⟩,
  -- GLB_TWIN_ESEQ (R402)
  ⟨0x218, 0x0, 1, 0x0, 1, [⟨0, 32, .ro, 0x0, .any⟩]⟩,
  -- GLB_TWIN_DTICK (R402)
  ⟨0x21C, 0x0, 1, 0x0, 1, [⟨0, 32, .ro, 0x0, .any⟩]⟩,
  -- GLB_TWIN_CNT (R402)
  ⟨0x220, 0x0, 1, 0x0, 1, [⟨0, 16, .ro, 0x0, .any⟩, ⟨16, 16, .ro, 0x0, .any⟩]⟩,
  -- GLB_PEER_HEALTH_i (R402)
  ⟨0x240, 0x4, 16, 0x0, 1, [⟨0, 32, .ro, 0x0, .any⟩]⟩,
  -- GLB_EVT_HEAD_LO (R429)
  ⟨0x300, 0x0, 1, 0x0, 1, [⟨0, 32, .ro, 0x0, .any⟩]⟩,
  -- GLB_EVT_HEAD_HI (R429)
  ⟨0x304, 0x0, 1, 0x0, 1, [⟨0, 32, .ro, 0x0, .any⟩]⟩]

/-- Registers of the GLB window at 0x00000, part 1. -/
def regsGlb1 : List RegDef := [
  -- GLB_EVT_OLDEST_LO (R429)
  ⟨0x308, 0x0, 1, 0x0, 1, [⟨0, 32, .ro, 0x0, .any⟩]⟩,
  -- GLB_EVT_OLDEST_HI (R429)
  ⟨0x30C, 0x0, 1, 0x0, 1, [⟨0, 32, .ro, 0x0, .any⟩]⟩]

/-- Registers of the GLB window. -/
def regsGlb : List RegDef := regsGlb0 ++ regsGlb1

/-- Registers of the STU window at 0x08000. -/
def regsStu : List RegDef := [
  -- CKG_STAT (R69)
  ⟨0x8000, 0x0, 1, 0x0, 1, [⟨0, 1, .ro, 0x0, .any⟩, ⟨1, 1, .ro, 0x0, .any⟩, ⟨2, 1, .ro, 0x0, .any⟩, ⟨3, 1, .ro, 0x0, .any⟩, ⟨4, 1, .ro, 0x0, .any⟩, ⟨8, 1, .w1c, 0x0, .any⟩, ⟨16, 8, .ro, 0x0, .any⟩]⟩,
  -- STU_TIME_FRAC (R69)
  ⟨0x8100, 0x0, 1, 0x0, 1, [⟨0, 16, .ro, 0x0, .any⟩]⟩,
  -- STU_TIME_NS_LO (R69)
  ⟨0x8104, 0x0, 1, 0x0, 1, [⟨0, 32, .ro, 0x0, .any⟩]⟩,
  -- STU_TIME_NS_HI (R69)
  ⟨0x8108, 0x0, 1, 0x0, 1, [⟨0, 32, .ro, 0x0, .any⟩]⟩,
  -- STU_SET_NS_LO (R69)
  ⟨0x8110, 0x0, 1, 0x0, 1, [⟨0, 32, .rws, 0x0, .any⟩]⟩,
  -- STU_SET_NS_HI (R69)
  ⟨0x8114, 0x0, 1, 0x0, 1, [⟨0, 32, .rws, 0x0, .any⟩]⟩,
  -- STU_SET_CMD (R69)
  ⟨0x8118, 0x0, 1, 0x0, 1, [⟨0, 32, .wo, 0x0, .any⟩]⟩,
  -- STU_TICK_CFG (R69)
  ⟨0x8120, 0x0, 1, 0x0, 1, [⟨0, 8, .rws, 0x19, .le 10 200⟩]⟩,
  -- STU_TICK_ORIGIN_LO (R69)
  ⟨0x8124, 0x0, 1, 0x0, 1, [⟨0, 32, .rws, 0x0, .any⟩]⟩,
  -- STU_TICK_ORIGIN_HI (R69)
  ⟨0x8128, 0x0, 1, 0x0, 1, [⟨0, 32, .rws, 0x0, .any⟩]⟩,
  -- STU_TICK_NUM (R69)
  ⟨0x812C, 0x0, 1, 0x0, 1, [⟨0, 32, .ro, 0x0, .any⟩]⟩,
  -- STU_DISC_CFG (R69)
  ⟨0x8140, 0x0, 1, 0x0, 1, [⟨0, 1, .rws, 0x0, .any⟩, ⟨1, 1, .rws, 0x0, .any⟩, ⟨2, 1, .rws, 0x0, .any⟩, ⟨8, 8, .rws, 0x64, .any⟩, ⟨16, 16, .rws, 0x64, .any⟩]⟩,
  -- STU_DISC_STAT (R69)
  ⟨0x8144, 0x0, 1, 0x0, 1, [⟨0, 1, .ro, 0x0, .any⟩, ⟨1, 1, .ro, 0x0, .any⟩, ⟨2, 1, .ro, 0x0, .any⟩, ⟨4, 3, .ro, 0x0, .any⟩, ⟨8, 8, .w1c, 0x0, .any⟩]⟩,
  -- STU_RATE (R69)
  ⟨0x8148, 0x0, 1, 0x0, 1, [⟨0, 32, .ro, 0x0, .any⟩]⟩,
  -- STU_PHASE_ERR (R69)
  ⟨0x814C, 0x0, 1, 0x0, 1, [⟨0, 32, .ro, 0x0, .any⟩]⟩,
  -- STU_PPS_LABEL_LO (R69)
  ⟨0x8150, 0x0, 1, 0x0, 1, [⟨0, 32, .rw, 0x0, .any⟩]⟩,
  -- STU_PPS_LABEL_HI (R69)
  ⟨0x8154, 0x0, 1, 0x0, 1, [⟨0, 32, .rw, 0x0, .any⟩]⟩,
  -- STU_PPS_OUT_CFG (R69)
  ⟨0x8158, 0x0, 1, 0x0, 1, [⟨0, 1, .rw, 0x0, .any⟩, ⟨8, 8, .rw, 0x64, .le 1 250⟩, ⟨16, 16, .rw, 0x0, .any⟩]⟩,
  -- STU_RTC_SEC (R69)
  ⟨0x8160, 0x0, 1, 0x0, 1, [⟨0, 32, .ro, 0x0, .any⟩]⟩,
  -- STU_RTC_ALARM (R69)
  ⟨0x8164, 0x0, 1, 0x0, 1, [⟨0, 32, .rw, 0x0, .any⟩]⟩]

/-- Registers of the ALP window at 0x10000, part 0. -/
def regsAlp0 : List RegDef := [
  -- ALP_STAT (R92)
  ⟨0x10000, 0x0, 1, 0x0, 1, [⟨0, 32, .ro, 0x0, .any⟩]⟩,
  -- ALP_SEAL_TICK (R92)
  ⟨0x10004, 0x0, 1, 0x0, 1, [⟨0, 32, .ro, 0x0, .any⟩]⟩,
  -- ALP_STAGE_MAX0 (R92)
  ⟨0x10008, 0x0, 1, 0x0, 1, [⟨0, 16, .ro, 0x0, .any⟩, ⟨16, 16, .ro, 0x0, .any⟩]⟩,
  -- ALP_STAGE_MAX1 (R92)
  ⟨0x1000C, 0x0, 1, 0x0, 1, [⟨0, 16, .ro, 0x0, .any⟩, ⟨16, 16, .ro, 0x0, .any⟩]⟩,
  -- ALP_STAGE_MAX2 (R92)
  ⟨0x10010, 0x0, 1, 0x0, 1, [⟨0, 16, .ro, 0x0, .any⟩, ⟨16, 16, .ro, 0x0, .any⟩]⟩,
  -- ALP_STAGE_MAX3 (R92)
  ⟨0x10014, 0x0, 1, 0x0, 1, [⟨0, 16, .ro, 0x0, .any⟩, ⟨16, 16, .ro, 0x0, .any⟩]⟩,
  -- ALP_CLR (R92)
  ⟨0x10018, 0x0, 1, 0x0, 1, [⟨0, 1, .wo, 0x0, .any⟩, ⟨1, 1, .wo, 0x0, .any⟩, ⟨2, 1, .wo, 0x0, .any⟩]⟩,
  -- ALP_LIMIT (R92)
  ⟨0x10020, 0x0, 1, 0x0, 1, [⟨0, 12, .ro, 0x800, .any⟩, ⟨16, 12, .ro, 0x0, .any⟩]⟩,
  -- ALP_DEADLINE (R92)
  ⟨0x10024, 0x0, 1, 0x0, 1, [⟨0, 14, .ro, 0x2EE0, .any⟩]⟩,
  -- ALP_OVR_CFG (R92)
  ⟨0x10030, 0x0, 1, 0x0, 1, [⟨0, 4, .rws, 0x3, .le 1 15⟩, ⟨4, 8, .rws, 0x8, .le 1 255⟩, ⟨16, 16, .rws, 0xFA0, .le 16 65535⟩]⟩,
  -- ALP_OVR_STAT (R92)
  ⟨0x10034, 0x0, 1, 0x0, 1, [⟨0, 16, .ro, 0x0, .any⟩, ⟨16, 8, .ro, 0x0, .any⟩, ⟨24, 8, .ro, 0x0, .any⟩]⟩,
  -- ALP_AGE_CFG0 (R92)
  ⟨0x10040, 0x0, 1, 0x0, 1, [⟨0, 16, .rws, 0x190, .le 50 5000⟩, ⟨16, 16, .rws, 0x64, .le 10 5000⟩]⟩,
  -- ALP_AGE_CFG1 (R92)
  ⟨0x10044, 0x0, 1, 0x0, 1, [⟨0, 12, .rws, 0xFA, .le 100 2000⟩, ⟨16, 12, .rws, 0xFA, .le 150 2000⟩]⟩,
  -- ALP_AGE_CFG2 (R92)
  ⟨0x10048, 0x0, 1, 0x0, 1, [⟨0, 8, .rws, 0x2, .pairAge⟩, ⟨8, 8, .rws, 0x8, .pairAge⟩, ⟨16, 8, .rws, 0x2, .le 1 16⟩, ⟨24, 8, .rws, 0x4, .le 1 64⟩]⟩,
  -- ALP_AGE_CFG3 (R92)
  ⟨0x1004C, 0x0, 1, 0x0, 1, [⟨0, 12, .rws, 0x7D0, .le 500 2000⟩, ⟨16, 4, .rws, 0x3, .le 1 15⟩]⟩,
  -- ALP_PLAUS_CFG0 (R92)
  ⟨0x10050, 0x0, 1, 0x0, 1, [⟨0, 16, .rws, 0x14, .any⟩, ⟨16, 8, .rws, 0x14, .any⟩, ⟨24, 8, .rws, 0x19, .any⟩]⟩,
  -- ALP_PLAUS_CFG1 (R92)
  ⟨0x10054, 0x0, 1, 0x0, 1, [⟨0, 16, .rws, 0x14, .any⟩, ⟨16, 8, .rws, 0x14, .any⟩, ⟨24, 8, .rws, 0x32, .le 0 100⟩]⟩,
  -- ALP_AUX_FB (R92)
  ⟨0x10058, 0x0, 1, 0x0, 1, [⟨0, 32, .rws, 0x493E0, .any⟩]⟩,
  -- ALP_AUX_MAX (R92)
  ⟨0x1005C, 0x0, 1, 0x0, 1, [⟨0, 32, .rws, 0xF4240, .any⟩]⟩,
  -- ALP_AUX_NEG (R92)
  ⟨0x10060, 0x0, 1, 0x0, 1, [⟨0, 32, .rws, 0xC350, .any⟩]⟩,
  -- ALP_AUX_CFG (R92)
  ⟨0x10064, 0x0, 1, 0x0, 1, [⟨0, 1, .rws, 0x0, .any⟩]⟩,
  -- ALP_WHEY_LAST_LO (R92)
  ⟨0x10070, 0x0, 1, 0x0, 1, [⟨0, 32, .ro, 0x0, .any⟩]⟩,
  -- ALP_WHEY_LAST_HI (R92)
  ⟨0x10074, 0x0, 1, 0x0, 1, [⟨0, 32, .ro, 0x0, .any⟩]⟩,
  -- ALP_WHEY_MIN_LO (R92)
  ⟨0x10078, 0x0, 1, 0x0, 1, [⟨0, 32, .ro, 0x0, .any⟩]⟩,
  -- ALP_WHEY_MIN_HI (R92)
  ⟨0x1007C, 0x0, 1, 0x0, 1, [⟨0, 32, .ro, 0x0, .any⟩]⟩,
  -- ALP_WHEY_CFG (R92)
  ⟨0x10080, 0x0, 1, 0x0, 1, [⟨0, 32, .rws, 0xFA0, .le 1 4294967295⟩]⟩,
  -- ALP_CLAMP_CNT (R92)
  ⟨0x10090, 0x0, 1, 0x0, 1, [⟨0, 32, .ro, 0x0, .any⟩]⟩,
  -- ALP_SUBST_CNT (R92)
  ⟨0x10094, 0x0, 1, 0x0, 1, [⟨0, 32, .ro, 0x0, .any⟩]⟩,
  -- ALP_SUBST_PORT (R92)
  ⟨0x100A0, 0x0, 1, 0x0, 1, [⟨0, 24, .ro, 0x0, .any⟩]⟩,
  -- ALP_SUBST_BLK0 (R92)
  ⟨0x100A4, 0x0, 1, 0x0, 1, [⟨0, 32, .ro, 0x0, .any⟩]⟩]

/-- Registers of the ALP window at 0x10000, part 1. -/
def regsAlp1 : List RegDef := [
  -- ALP_SUBST_BLK1 (R92)
  ⟨0x100A8, 0x0, 1, 0x0, 1, [⟨0, 16, .ro, 0x0, .any⟩]⟩,
  -- ALP_SUBST_SITE (R92)
  ⟨0x100AC, 0x0, 1, 0x0, 1, [⟨0, 16, .ro, 0x0, .any⟩, ⟨16, 4, .ro, 0x0, .any⟩, ⟨20, 4, .ro, 0x0, .any⟩, ⟨24, 1, .ro, 0x0, .any⟩]⟩,
  -- ALP_GRID_CAP (R126)
  ⟨0x10100, 0x0, 1, 0x0, 1, [⟨0, 32, .rws, 0x0, .le 0 2147483647⟩]⟩,
  -- ALP_GRID_RAMP (R126)
  ⟨0x10104, 0x0, 1, 0x0, 1, [⟨0, 32, .rws, 0x0, .any⟩]⟩,
  -- ALP_STOR_CFG (R126)
  ⟨0x10108, 0x0, 1, 0x0, 1, [⟨0, 16, .rws, 0x3C, .le 1 3600⟩]⟩,
  -- ALP_STOR_CHG (R126)
  ⟨0x1010C, 0x0, 1, 0x0, 1, [⟨0, 32, .rws, 0x0, .any⟩]⟩,
  -- ALP_PORT_DEF (R126)
  ⟨0x10110, 0x0, 1, 0x0, 1, [⟨0, 3, .rws, 0x4, .le 1 7⟩, ⟨16, 16, .rws, 0x64, .le 1 65535⟩]⟩,
  -- ALP_KEEP_I (R126)
  ⟨0x10114, 0x0, 1, 0x0, 1, [⟨0, 32, .rws, 0x1388, .le 0 100000⟩]⟩,
  -- ALP_RAMP_DEF (R126)
  ⟨0x10118, 0x0, 1, 0x0, 1, [⟨0, 32, .rws, 0xC350, .le 1 4000000⟩]⟩,
  -- ALP_VREF_MIN (R126)
  ⟨0x1011C, 0x0, 1, 0x0, 1, [⟨0, 32, .rws, 0xC350, .le 1000 500000⟩]⟩,
  -- ALP_BLK_SLEW (R126)
  ⟨0x10120, 0x0, 1, 0x0, 1, [⟨0, 32, .rws, 0x0, .any⟩]⟩,
  -- ALP_MIG_CFG (R126)
  ⟨0x10124, 0x0, 1, 0x0, 1, [⟨0, 16, .rws, 0x8, .le 1 1000⟩]⟩,
  -- ALP_REST_CFG (R126)
  ⟨0x10128, 0x0, 1, 0x0, 1, [⟨0, 1, .rws, 0x0, .any⟩]⟩,
  -- ALP_REST_MARGIN (R126)
  ⟨0x1012C, 0x0, 1, 0x0, 1, [⟨0, 32, .rws, 0x30D40, .any⟩]⟩,
  -- ALP_MIG_STAT (R126)
  ⟨0x10130, 0x0, 1, 0x0, 1, [⟨0, 8, .ro, 0x0, .any⟩]⟩,
  -- ALP_SHORT_CNT (R126)
  ⟨0x10134, 0x0, 1, 0x0, 1, [⟨0, 32, .ro, 0x0, .any⟩]⟩,
  -- ALP_PATH_Bb (R126)
  ⟨0x10200, 0x4, 48, 0x0, 1, [⟨0, 24, .rws, 0x0, .any⟩, ⟨24, 8, .rws, 0x14, .le 1 255⟩]⟩,
  -- ALP_GROUP_n (R126)
  ⟨0x10300, 0x4, 64, 0x0, 1, [⟨0, 24, .rws, 0x0, .any⟩]⟩]

/-- Registers of the ALP window. -/
def regsAlp : List RegDef := regsAlp0 ++ regsAlp1

/-- Registers of the LCH window at 0x18000. -/
def regsLch : List RegDef := [
  -- LCH_TX_CFG (R147)
  ⟨0x18000, 0x0, 1, 0x0, 1, [⟨0, 8, .rws, 0x2, .le 1 50⟩, ⟨8, 1, .rws, 0x1, .any⟩, ⟨16, 8, .rws, 0x14, .le 5 100⟩]⟩,
  -- LCH_EP_CFG (R147)
  ⟨0x18004, 0x0, 1, 0x0, 1, [⟨0, 8, .rws, 0x4, .le 1 32⟩, ⟨8, 8, .rws, 0x4, .le 1 32⟩, ⟨16, 8, .rws, 0x10, .le 4 64⟩]⟩,
  -- LCH_CAN_CFG (R147)
  ⟨0x18008, 0x0, 1, 0x0, 1, [⟨0, 5, .rws, 0x10, .le 1 16⟩, ⟨8, 8, .rws, 0x32, .le 10 200⟩, ⟨16, 8, .rws, 0x4, .le 1 16⟩]⟩,
  -- LCH_FOLLOW (R147)
  ⟨0x18010, 0x0, 1, 0x0, 1, [⟨0, 12, .ro, 0x0, .any⟩]⟩,
  -- LCH_FOLLOW_SLOW (R147)
  ⟨0x18014, 0x0, 1, 0x0, 1, [⟨0, 16, .ro, 0x0, .any⟩]⟩,
  -- LCH_HIGHER (R147)
  ⟨0x18018, 0x0, 1, 0x0, 1, [⟨0, 12, .ro, 0x0, .any⟩, ⟨16, 1, .ro, 0x0, .any⟩]⟩,
  -- LCH_CNT_LATE (R147)
  ⟨0x18020, 0x0, 1, 0x0, 1, [⟨0, 32, .ro, 0x0, .any⟩]⟩,
  -- LCH_CNT_EPMISS (R147)
  ⟨0x18024, 0x0, 1, 0x0, 1, [⟨0, 32, .ro, 0x0, .any⟩]⟩,
  -- LCH_CLR (R147)
  ⟨0x18028, 0x0, 1, 0x0, 1, [⟨0, 1, .wo, 0x0, .any⟩]⟩,
  -- LCH_DELAY_Lk (R147)
  ⟨0x18040, 0x4, 12, 0x0, 1, [⟨0, 24, .ro, 0x0, .any⟩, ⟨24, 8, .ro, 0xFF, .any⟩]⟩,
  -- LCH_CAN_SLOT_j (R147)
  ⟨0x18100, 0x4, 16, 0x0, 1, [⟨0, 1, .rws, 0x0, .any⟩, ⟨1, 1, .rws, 0x0, .any⟩, ⟨4, 7, .rws, 0x0, .any⟩, ⟨11, 7, .rws, 0x0, .any⟩]⟩]

/-- Registers of the CLC window at 0x20000. -/
def regsClc : List RegDef := [
  -- CLC_CTL_Lk (R174)
  ⟨0x20000, 0x40, 12, 0x0, 1, [⟨0, 2, .rw, 0x0, .any⟩, ⟨2, 1, .wo, 0x0, .any⟩, ⟨3, 1, .rws, 0x1, .any⟩]⟩,
  -- CLC_STAT_Lk (R174)
  ⟨0x20004, 0x40, 12, 0x0, 1, [⟨0, 4, .ro, 0x2, .any⟩, ⟨4, 1, .ro, 0x0, .any⟩, ⟨5, 1, .ro, 0x0, .any⟩, ⟨8, 8, .ro, 0x0, .any⟩]⟩,
  -- CLC_TXEQ_Lk (R174)
  ⟨0x20008, 0x40, 12, 0x0, 1, [⟨0, 5, .rws, 0x4, .any⟩, ⟨8, 5, .rws, 0x1F, .any⟩, ⟨16, 5, .rws, 0x8, .any⟩]⟩,
  -- CLC_ERR_Lk (R174)
  ⟨0x2000C, 0x40, 12, 0x0, 1, [⟨0, 16, .ro, 0x0, .any⟩, ⟨16, 16, .ro, 0x0, .any⟩]⟩,
  -- CLC_ERR2_Lk (R174)
  ⟨0x20010, 0x40, 12, 0x0, 1, [⟨0, 16, .ro, 0x0, .any⟩, ⟨16, 16, .ro, 0x0, .any⟩]⟩,
  -- CLC_CAPS0_Lk (R174)
  ⟨0x20014, 0x40, 12, 0x0, 1, [⟨0, 8, .ro, 0x0, .any⟩, ⟨8, 8, .ro, 0x0, .any⟩, ⟨16, 8, .ro, 0x0, .any⟩, ⟨24, 8, .ro, 0x0, .any⟩]⟩,
  -- CLC_CAPS1_Lk (R174)
  ⟨0x20018, 0x40, 12, 0x0, 1, [⟨0, 16, .ro, 0x0, .any⟩, ⟨16, 16, .ro, 0x0, .any⟩]⟩,
  -- CLC_CAPS2_Lk (R174)
  ⟨0x2001C, 0x40, 12, 0x0, 1, [⟨0, 32, .ro, 0x0, .any⟩]⟩,
  -- CLC_RXEQ_Lk (R174)
  ⟨0x20020, 0x40, 12, 0x0, 1, [⟨0, 8, .ro, 0x0, .any⟩, ⟨8, 24, .ro, 0x0, .any⟩]⟩,
  -- CLC_CFG (R174)
  ⟨0x20400, 0x0, 1, 0x0, 1, [⟨0, 8, .rws, 0x8, .le 1 255⟩, ⟨8, 12, .rws, 0xC8, .le 100 2000⟩]⟩,
  -- CLC_CLR (R174)
  ⟨0x20404, 0x0, 1, 0x0, 1, [⟨0, 1, .wo, 0x0, .any⟩]⟩,
  -- CLC_UP (R174)
  ⟨0x20408, 0x0, 1, 0x0, 1, [⟨0, 12, .ro, 0x0, .any⟩]⟩]

/-- Registers of the DLC window at 0x28000. -/
def regsDlc : List RegDef := [
  -- DLC_CTL_Dd (R175)
  ⟨0x28000, 0x40, 2, 0x0, 1, [⟨0, 2, .rw, 0x3, .any⟩, ⟨2, 1, .wo, 0x0, .any⟩, ⟨3, 1, .rws, 0x1, .any⟩]⟩,
  -- DLC_STAT_Dd (R175)
  ⟨0x28004, 0x40, 2, 0x0, 1, [⟨0, 4, .ro, 0x0, .any⟩, ⟨4, 1, .ro, 0x0, .any⟩, ⟨5, 1, .ro, 0x0, .any⟩, ⟨8, 8, .ro, 0x0, .any⟩]⟩,
  -- DLC_TXEQ_Dd (R175)
  ⟨0x28008, 0x40, 2, 0x0, 1, [⟨0, 5, .rws, 0x4, .any⟩, ⟨8, 5, .rws, 0x1F, .any⟩, ⟨16, 5, .rws, 0x8, .any⟩]⟩,
  -- DLC_ERR_Dd (R175)
  ⟨0x2800C, 0x40, 2, 0x0, 1, [⟨0, 16, .ro, 0x0, .any⟩, ⟨16, 16, .ro, 0x0, .any⟩]⟩,
  -- DLC_ERR2_Dd (R175)
  ⟨0x28010, 0x40, 2, 0x0, 1, [⟨0, 16, .ro, 0x0, .any⟩, ⟨16, 16, .ro, 0x0, .any⟩]⟩,
  -- DLC_CAPS0_Dd (R175)
  ⟨0x28014, 0x40, 2, 0x0, 1, [⟨0, 8, .ro, 0x0, .any⟩, ⟨8, 8, .ro, 0x0, .any⟩, ⟨16, 8, .ro, 0x0, .any⟩, ⟨24, 8, .ro, 0x0, .any⟩]⟩,
  -- DLC_CAPS1_Dd (R175)
  ⟨0x28018, 0x40, 2, 0x0, 1, [⟨0, 16, .ro, 0x0, .any⟩, ⟨16, 16, .ro, 0x0, .any⟩]⟩,
  -- DLC_CAPS2_Dd (R175)
  ⟨0x2801C, 0x40, 2, 0x0, 1, [⟨0, 32, .ro, 0x0, .any⟩]⟩,
  -- DLC_RXEQ_Dd (R175)
  ⟨0x28020, 0x40, 2, 0x0, 1, [⟨0, 8, .ro, 0x0, .any⟩, ⟨8, 24, .ro, 0x0, .any⟩]⟩,
  -- DLC_CFG (R175)
  ⟨0x28400, 0x0, 1, 0x0, 1, [⟨0, 8, .rws, 0x8, .le 1 255⟩, ⟨8, 12, .rws, 0xC8, .le 100 2000⟩]⟩,
  -- DLC_CLR (R175)
  ⟨0x28404, 0x0, 1, 0x0, 1, [⟨0, 1, .wo, 0x0, .any⟩]⟩,
  -- DLC_YOKE_STAT (R175)
  ⟨0x28408, 0x0, 1, 0x0, 1, [⟨0, 2, .ro, 0x0, .any⟩, ⟨2, 1, .ro, 0x0, .any⟩, ⟨3, 1, .ro, 0x0, .any⟩, ⟨16, 16, .ro, 0x0, .any⟩]⟩,
  -- DLC_DELAY_Dd (R175)
  ⟨0x28410, 0x4, 2, 0x0, 1, [⟨0, 24, .ro, 0x0, .any⟩]⟩]

/-- Registers of the CCE window at 0x30000, part 0. -/
def regsCce0 : List RegDef := [
  -- CCE_CFG (R195)
  ⟨0x30000, 0x0, 1, 0x0, 1, [⟨0, 19, .rws, 0x27100, .le 25600 320000⟩]⟩,
  -- CCE_DEAD (R195)
  ⟨0x30004, 0x0, 1, 0x0, 1, [⟨0, 16, .rws, 0x500, .any⟩, ⟨16, 16, .rws, 0x500, .any⟩]⟩,
  -- CCE_SKIM_CFG (R195)
  ⟨0x30008, 0x0, 1, 0x0, 1, [⟨0, 8, .rws, 0x8, .le 1 255⟩, ⟨8, 8, .rws, 0x3C, .le 10 100⟩, ⟨16, 16, .rws, 0x28, .any⟩]⟩,
  -- CCE_SS_CFG (R195)
  ⟨0x3000C, 0x0, 1, 0x0, 1, [⟨0, 16, .rws, 0xC8, .le 10 10000⟩, ⟨16, 4, .rws, 0x3, .any⟩]⟩,
  -- CCE_SS_RETRY (R195)
  ⟨0x30010, 0x0, 1, 0x0, 1, [⟨0, 16, .rws, 0x1F4, .le 10 60000⟩]⟩,
  -- CCE_PULSE (R195)
  ⟨0x30014, 0x0, 1, 0x0, 1, [⟨0, 12, .rws, 0x280, .le 64 4095⟩, ⟨16, 8, .rws, 0xA, .le 0 200⟩, ⟨24, 8, .rws, 0xA, .le 0 200⟩]⟩,
  -- CCE_CLR (R195)
  ⟨0x30018, 0x0, 1, 0x0, 1, [⟨0, 1, .wo, 0x0, .any⟩, ⟨1, 1, .wo, 0x0, .any⟩]⟩,
  -- CCE_STAT (R195)
  ⟨0x3001C, 0x0, 1, 0x0, 1, [⟨0, 4, .ro, 0x0, .any⟩, ⟨4, 4, .ro, 0x0, .any⟩, ⟨8, 1, .ro, 0x1, .any⟩]⟩,
  -- CCE_CONV_k (R196)
  ⟨0x30100, 0x80, 4, 0x0, 1, [⟨0, 1, .rws, 0x0, .any⟩, ⟨1, 5, .rws, 0x0, .any⟩, ⟨6, 6, .rws, 0x0, .le 0 32⟩, ⟨12, 6, .rws, 0x2, .le 1 32⟩, ⟨18, 1, .rws, 0x0, .any⟩]⟩,
  -- CCE_IN_k (R196)
  ⟨0x30104, 0x80, 4, 0x0, 1, [⟨0, 6, .rws, 0x3F, .input⟩, ⟨8, 6, .rws, 0x3F, .input⟩, ⟨16, 6, .rws, 0x3F, .input⟩]⟩,
  -- CCE_P_RATED_k (R196)
  ⟨0x30108, 0x80, 4, 0x0, 1, [⟨0, 32, .rws, 0x0, .any⟩]⟩,
  -- CCE_I_RATED_k (R196)
  ⟨0x3010C, 0x80, 4, 0x0, 1, [⟨0, 16, .rws, 0x0, .le 0 20000⟩]⟩,
  -- CCE_VLIM_k (R196)
  ⟨0x30110, 0x80, 4, 0x0, 1, [⟨0, 32, .rws, 0x0, .le 0 2000000⟩]⟩,
  -- CCE_SS_TGT_k (R196)
  ⟨0x30114, 0x80, 4, 0x0, 1, [⟨0, 32, .rws, 0x0, .le 0 2000000⟩]⟩,
  -- CCE_FF_k (R196)
  ⟨0x30118, 0x80, 4, 0x0, 1, [⟨0, 16, .rws, 0x4000, .le 0 0x8000⟩, ⟨16, 16, .rws, 0x32, .any⟩]⟩,
  -- CCE_LSTEP_k (R196)
  ⟨0x3011C, 0x80, 4, 0x0, 1, [⟨0, 16, .rws, 0xC8, .le 1 20000⟩]⟩,
  -- CCE_B0_k (R196)
  ⟨0x30120, 0x80, 4, 0x0, 1, [⟨0, 32, .rws, 0x0, .any⟩]⟩,
  -- CCE_B1_k (R196)
  ⟨0x30124, 0x80, 4, 0x0, 1, [⟨0, 32, .rws, 0x0, .any⟩]⟩,
  -- CCE_B2_k (R196)
  ⟨0x30128, 0x80, 4, 0x0, 1, [⟨0, 32, .rws, 0x0, .any⟩]⟩,
  -- CCE_B3_k (R196)
  ⟨0x3012C, 0x80, 4, 0x0, 1, [⟨0, 32, .rws, 0x0, .any⟩]⟩,
  -- CCE_A1_k (R196)
  ⟨0x30130, 0x80, 4, 0x0, 1, [⟨0, 32, .rws, 0x0, .any⟩]⟩,
  -- CCE_A2_k (R196)
  ⟨0x30134, 0x80, 4, 0x0, 1, [⟨0, 32, .rws, 0x0, .any⟩]⟩,
  -- CCE_A3_k (R196)
  ⟨0x30138, 0x80, 4, 0x0, 1, [⟨0, 32, .rws, 0x0, .any⟩]⟩,
  -- CCE_TEMP_k (R196)
  ⟨0x3013C, 0x80, 4, 0x0, 1, [⟨0, 7, .rws, 0x7F, .temp⟩, ⟨8, 7, .rws, 0x7F, .temp⟩, ⟨16, 7, .rws, 0x7F, .temp⟩, ⟨24, 7, .rws, 0x7F, .temp⟩]⟩,
  -- CCE_TEMP_LIM_k (R196)
  ⟨0x30140, 0x80, 4, 0x0, 1, [⟨0, 12, .rws, 0x384, .any⟩, ⟨12, 12, .rws, 0x41A, .any⟩, ⟨24, 8, .rws, 0x64, .any⟩]⟩,
  -- CCE_CTL_k (R196)
  ⟨0x30144, 0x80, 4, 0x0, 1, [⟨0, 1, .rw, 0x0, .any⟩, ⟨1, 1, .wo, 0x0, .any⟩]⟩,
  -- CCE_STAT_k (R196)
  ⟨0x30148, 0x80, 4, 0x0, 1, [⟨0, 2, .ro, 0x0, .any⟩, ⟨2, 6, .ro, 0x0, .any⟩, ⟨8, 1, .ro, 0x0, .any⟩, ⟨9, 1, .ro, 0x0, .any⟩, ⟨10, 1, .ro, 0x0, .any⟩, ⟨11, 1, .ro, 0x0, .any⟩, ⟨12, 1, .ro, 0x0, .any⟩, ⟨13, 3, .ro, 0x0, .any⟩, ⟨16, 4, .ro, 0x0, .any⟩]⟩,
  -- CCE_AVG_I_k (R196)
  ⟨0x3014C, 0x80, 4, 0x0, 1, [⟨0, 32, .ro, 0x0, .any⟩]⟩,
  -- CCE_AVG_BAT_k (R196)
  ⟨0x30150, 0x80, 4, 0x0, 1, [⟨0, 32, .ro, 0x0, .any⟩]⟩,
  -- CCE_AVG_BUS_k (R196)
  ⟨0x30154, 0x80, 4, 0x0, 1, [⟨0, 32, .ro, 0x0, .any⟩]⟩]

/-- Registers of the CCE window at 0x30000, part 1. -/
def regsCce1 : List RegDef := [
  -- CCE_AVG_P_k (R196)
  ⟨0x30158, 0x80, 4, 0x0, 1, [⟨0, 32, .ro, 0x0, .any⟩]⟩,
  -- CCE_AVG_DUTY_k (R196)
  ⟨0x3015C, 0x80, 4, 0x0, 1, [⟨0, 16, .ro, 0x0, .any⟩, ⟨16, 16, .ro, 0x0, .any⟩]⟩,
  -- CCE_PEAK_I_k (R196)
  ⟨0x30160, 0x80, 4, 0x0, 1, [⟨0, 32, .ro, 0x0, .any⟩]⟩,
  -- CCE_PEAK_BUS_k (R196)
  ⟨0x30164, 0x80, 4, 0x0, 1, [⟨0, 16, .ro, 0x0, .any⟩, ⟨16, 16, .ro, 0xFFFF, .any⟩]⟩,
  -- CCE_CBC_CNT_k (R196)
  ⟨0x30168, 0x80, 4, 0x0, 1, [⟨0, 32, .ro, 0x0, .any⟩]⟩,
  -- CCE_SKIM_CNT_k (R196)
  ⟨0x3016C, 0x80, 4, 0x0, 1, [⟨0, 16, .ro, 0x0, .any⟩, ⟨16, 16, .ro, 0x0, .any⟩]⟩]

/-- Registers of the CCE window. -/
def regsCce : List RegDef := regsCce0 ++ regsCce1

/-- Registers of the MTE window at 0x38000, part 0. -/
def regsMte0 : List RegDef := [
  -- MTE_CFG (R224)
  ⟨0x38000, 0x0, 1, 0x0, 1, [⟨0, 8, .rws, 0x0, .any⟩, ⟨16, 12, .rws, 0x384, .divisor⟩]⟩,
  -- MTE_INT_ORIGIN_LO (R224)
  ⟨0x38004, 0x0, 1, 0x0, 1, [⟨0, 32, .rws, 0x0, .any⟩]⟩,
  -- MTE_INT_ORIGIN_HI (R224)
  ⟨0x38008, 0x0, 1, 0x0, 1, [⟨0, 32, .rws, 0x0, .any⟩]⟩,
  -- MTE_CKPT (R224)
  ⟨0x3800C, 0x0, 1, 0x0, 1, [⟨0, 8, .rws, 0x1, .le 1 60⟩]⟩,
  -- MTE_FAULT0 (R224)
  ⟨0x38010, 0x0, 1, 0x0, 1, [⟨0, 32, .ro, 0x0, .any⟩]⟩,
  -- MTE_FAULT1 (R224)
  ⟨0x38014, 0x0, 1, 0x0, 1, [⟨0, 32, .ro, 0x0, .any⟩]⟩,
  -- MTE_FAULT2 (R224)
  ⟨0x38018, 0x0, 1, 0x0, 1, [⟨0, 8, .ro, 0x0, .any⟩]⟩,
  -- MTE_OVR0 (R224)
  ⟨0x3801C, 0x0, 1, 0x0, 1, [⟨0, 32, .w1c, 0x0, .any⟩]⟩,
  -- MTE_OVR1 (R224)
  ⟨0x38020, 0x0, 1, 0x0, 1, [⟨0, 32, .w1c, 0x0, .any⟩]⟩,
  -- MTE_OVR2 (R224)
  ⟨0x38024, 0x0, 1, 0x0, 1, [⟨0, 8, .w1c, 0x0, .any⟩]⟩,
  -- MTE_CAL_ID (R224)
  ⟨0x38028, 0x0, 1, 0x0, 1, [⟨0, 32, .ro, 0x0, .any⟩]⟩,
  -- MTE_CAL_DIGEST (R224)
  ⟨0x3802C, 0x0, 1, 0x0, 1, [⟨0, 32, .ro, 0x0, .any⟩]⟩,
  -- MTE_ROLL_STAT_p (R225)
  ⟨0x38100, 0x20, 24, 0x0, 1, [⟨0, 8, .ro, 0x0, .any⟩, ⟨8, 8, .ro, 0x0, .any⟩, ⟨16, 2, .ro, 0x0, .any⟩]⟩,
  -- MTE_ROLL_IMP_p (R225)
  ⟨0x38104, 0x20, 24, 0x0, 1, [⟨0, 32, .ro, 0x0, .any⟩]⟩,
  -- MTE_ROLL_EXP_p (R225)
  ⟨0x38108, 0x20, 24, 0x0, 1, [⟨0, 32, .ro, 0x0, .any⟩]⟩,
  -- MTE_ACC_IMP_LO_p (R225)
  ⟨0x3810C, 0x20, 24, 0x0, 1, [⟨0, 32, .ro, 0x0, .any⟩]⟩,
  -- MTE_ACC_IMP_HI_p (R225)
  ⟨0x38110, 0x20, 24, 0x0, 1, [⟨0, 32, .ro, 0x0, .any⟩]⟩,
  -- MTE_ACC_EXP_LO_p (R225)
  ⟨0x38114, 0x20, 24, 0x0, 1, [⟨0, 32, .ro, 0x0, .any⟩]⟩,
  -- MTE_ACC_EXP_HI_p (R225)
  ⟨0x38118, 0x20, 24, 0x0, 1, [⟨0, 32, .ro, 0x0, .any⟩]⟩,
  -- MTE_PORT_STAT_p (R225)
  ⟨0x3811C, 0x20, 24, 0x0, 1, [⟨0, 16, .ro, 0x0, .any⟩, ⟨16, 1, .ro, 0x0, .any⟩, ⟨17, 1, .ro, 0x0, .any⟩]⟩,
  -- MTE_AC_CFG_g (R226)
  ⟨0x38400, 0x100, 2, 0x0, 1, [⟨0, 1, .rws, 0x0, .any⟩, ⟨1, 1, .rws, 0x0, .any⟩, ⟨16, 8, .rws, 0x1, .le 1 160⟩]⟩,
  -- MTE_AC_VNOM_g (R226)
  ⟨0x38404, 0x100, 2, 0x0, 1, [⟨0, 32, .rws, 0x3823E00, .le 1000 100000000⟩]⟩,
  -- MTE_AC_THR_g (R226)
  ⟨0x38408, 0x100, 2, 0x0, 1, [⟨0, 8, .rws, 0x5A, .le 50 99⟩, ⟨8, 8, .rws, 0x6E, .le 101 150⟩, ⟨16, 8, .rws, 0x14, .le 5 50⟩, ⟨24, 8, .rws, 0x14, .le 1 45⟩]⟩,
  -- MTE_AC_FTHR_g (R226)
  ⟨0x3840C, 0x100, 2, 0x0, 1, [⟨0, 16, .rws, 0x1F4, .le 10 5000⟩]⟩,
  -- MTE_AC_STAT_g (R226)
  ⟨0x38410, 0x100, 2, 0x0, 1, [⟨0, 2, .ro, 0x0, .any⟩, ⟨2, 1, .ro, 0x0, .any⟩, ⟨3, 3, .ro, 0x0, .any⟩, ⟨6, 1, .ro, 0x0, .any⟩, ⟨7, 1, .ro, 0x0, .any⟩, ⟨8, 1, .ro, 0x0, .any⟩, ⟨16, 16, .ro, 0x0, .any⟩]⟩,
  -- MTE_AC_RMS0_g (R226)
  ⟨0x38414, 0x100, 2, 0x0, 1, [⟨0, 32, .ro, 0x0, .any⟩]⟩,
  -- MTE_AC_RMS1_g (R226)
  ⟨0x38418, 0x100, 2, 0x0, 1, [⟨0, 32, .ro, 0x0, .any⟩]⟩,
  -- MTE_AC_RMS2_g (R226)
  ⟨0x3841C, 0x100, 2, 0x0, 1, [⟨0, 32, .ro, 0x0, .any⟩]⟩,
  -- MTE_AC_RMS3_g (R226)
  ⟨0x38420, 0x100, 2, 0x0, 1, [⟨0, 32, .ro, 0x0, .any⟩]⟩,
  -- MTE_AC_RMS4_g (R226)
  ⟨0x38424, 0x100, 2, 0x0, 1, [⟨0, 32, .ro, 0x0, .any⟩]⟩]

/-- Registers of the MTE window at 0x38000, part 1. -/
def regsMte1 : List RegDef := [
  -- MTE_AC_RMS5_g (R226)
  ⟨0x38428, 0x100, 2, 0x0, 1, [⟨0, 32, .ro, 0x0, .any⟩]⟩,
  -- MTE_AC_RMS6_g (R226)
  ⟨0x3842C, 0x100, 2, 0x0, 1, [⟨0, 32, .ro, 0x0, .any⟩]⟩,
  -- MTE_AC_RMS7_g (R226)
  ⟨0x38430, 0x100, 2, 0x0, 1, [⟨0, 32, .ro, 0x0, .any⟩]⟩,
  -- MTE_AC_P1_g (R226)
  ⟨0x38434, 0x100, 2, 0x0, 1, [⟨0, 32, .ro, 0x0, .any⟩]⟩,
  -- MTE_AC_P2_g (R226)
  ⟨0x38438, 0x100, 2, 0x0, 1, [⟨0, 32, .ro, 0x0, .any⟩]⟩,
  -- MTE_AC_P3_g (R226)
  ⟨0x3843C, 0x100, 2, 0x0, 1, [⟨0, 32, .ro, 0x0, .any⟩]⟩,
  -- MTE_AC_PT_g (R226)
  ⟨0x38440, 0x100, 2, 0x0, 1, [⟨0, 32, .ro, 0x0, .any⟩]⟩,
  -- MTE_AC_Q_g (R226)
  ⟨0x38444, 0x100, 2, 0x0, 1, [⟨0, 32, .ro, 0x0, .any⟩]⟩,
  -- MTE_AC_S_g (R226)
  ⟨0x38448, 0x100, 2, 0x0, 1, [⟨0, 32, .ro, 0x0, .any⟩]⟩,
  -- MTE_AC_PF_g (R226)
  ⟨0x3844C, 0x100, 2, 0x0, 1, [⟨0, 16, .ro, 0x0, .any⟩]⟩,
  -- MTE_AC_FREQ_g (R226)
  ⟨0x38450, 0x100, 2, 0x0, 1, [⟨0, 24, .ro, 0x0, .any⟩]⟩,
  -- MTE_AC_FREQ10_g (R226)
  ⟨0x38454, 0x100, 2, 0x0, 1, [⟨0, 24, .ro, 0x0, .any⟩]⟩,
  -- MTE_AC_ANG_V_g (R226)
  ⟨0x38458, 0x100, 2, 0x0, 1, [⟨0, 16, .ro, 0x0, .any⟩, ⟨16, 16, .ro, 0x0, .any⟩]⟩,
  -- MTE_AC_ANG_I_g (R226)
  ⟨0x3845C, 0x100, 2, 0x0, 1, [⟨0, 16, .ro, 0x0, .any⟩, ⟨16, 16, .ro, 0x0, .any⟩]⟩,
  -- MTE_AC_ANG_I3_g (R226)
  ⟨0x38460, 0x100, 2, 0x0, 1, [⟨0, 16, .ro, 0x0, .any⟩]⟩,
  -- MTE_AC_ROLL_STAT_g (R226)
  ⟨0x38464, 0x100, 2, 0x0, 1, [⟨0, 8, .ro, 0x0, .any⟩, ⟨8, 8, .ro, 0x0, .any⟩, ⟨16, 2, .ro, 0x0, .any⟩]⟩,
  -- MTE_AC_ROLL_IMP_g (R226)
  ⟨0x38468, 0x100, 2, 0x0, 1, [⟨0, 32, .ro, 0x0, .any⟩]⟩,
  -- MTE_AC_ROLL_EXP_g (R226)
  ⟨0x3846C, 0x100, 2, 0x0, 1, [⟨0, 32, .ro, 0x0, .any⟩]⟩,
  -- MTE_AC_ACC_IMP_LO_g (R226)
  ⟨0x38470, 0x100, 2, 0x0, 1, [⟨0, 32, .ro, 0x0, .any⟩]⟩,
  -- MTE_AC_ACC_IMP_HI_g (R226)
  ⟨0x38474, 0x100, 2, 0x0, 1, [⟨0, 32, .ro, 0x0, .any⟩]⟩,
  -- MTE_AC_ACC_EXP_LO_g (R226)
  ⟨0x38478, 0x100, 2, 0x0, 1, [⟨0, 32, .ro, 0x0, .any⟩]⟩,
  -- MTE_AC_ACC_EXP_HI_g (R226)
  ⟨0x3847C, 0x100, 2, 0x0, 1, [⟨0, 32, .ro, 0x0, .any⟩]⟩,
  -- MTE_CH_CFG_c (R227)
  ⟨0x39000, 0x10, 72, 0x0, 1, [⟨0, 1, .rws, 0x0, .any⟩, ⟨1, 1, .rws, 0x0, .kind⟩, ⟨2, 1, .rws, 0x0, .any⟩, ⟨8, 5, .rws, 0x1, .le 1 16⟩]⟩,
  -- MTE_CH_SCALE_c (R227)
  ⟨0x39004, 0x10, 72, 0x0, 1, [⟨0, 32, .rws, 0x0, .any⟩]⟩,
  -- MTE_CH_OFFSET_c (R227)
  ⟨0x39008, 0x10, 72, 0x0, 1, [⟨0, 32, .rws, 0x0, .any⟩]⟩,
  -- MTE_CH_VAL_c (R227)
  ⟨0x3900C, 0x10, 72, 0x0, 1, [⟨0, 32, .ro, 0x0, .any⟩]⟩,
  -- MTE_SEG_X_c_k (R227)
  ⟨0x3A000, 0x100, 72, 0x10, 16, [⟨0, 32, .rws, 0x0, .any⟩]⟩,
  -- MTE_SEG_GAIN_c_k (R227)
  ⟨0x3A004, 0x100, 72, 0x10, 16, [⟨0, 32, .rws, 0x0, .sle 671088⟩]⟩,
  -- MTE_SEG_DLY_c_k (R227)
  ⟨0x3A008, 0x100, 72, 0x10, 16, [⟨0, 16, .rws, 0x0, .delay⟩]⟩]

/-- Registers of the MTE window. -/
def regsMte : List RegDef := regsMte0 ++ regsMte1

/-- Registers of the RSL window at 0x40000. -/
def regsRsl : List RegDef := [
  -- RSL_JRNL_CFG (R255)
  ⟨0x40000, 0x0, 1, 0x0, 1, [⟨0, 16, .rws, 0x400, .le 64 8192⟩, ⟨16, 8, .rws, 0x4B, .le 50 95⟩]⟩,
  -- RSL_JRNL_STAT (R255)
  ⟨0x40004, 0x0, 1, 0x0, 1, [⟨0, 16, .ro, 0x0, .any⟩, ⟨16, 1, .ro, 0x0, .any⟩, ⟨17, 1, .ro, 0x0, .any⟩, ⟨18, 1, .ro, 0x0, .any⟩, ⟨24, 8, .ro, 0x0, .any⟩]⟩,
  -- RSL_JPOS_NEXT_LO (R255)
  ⟨0x40008, 0x0, 1, 0x0, 1, [⟨0, 32, .ro, 0x0, .any⟩]⟩,
  -- RSL_JPOS_NEXT_HI (R255)
  ⟨0x4000C, 0x0, 1, 0x0, 1, [⟨0, 32, .ro, 0x0, .any⟩]⟩,
  -- RSL_JPOS_ACK_LO (R255)
  ⟨0x40010, 0x0, 1, 0x0, 1, [⟨0, 32, .ro, 0x0, .any⟩]⟩,
  -- RSL_JPOS_ACK_HI (R255)
  ⟨0x40014, 0x0, 1, 0x0, 1, [⟨0, 32, .ro, 0x0, .any⟩]⟩,
  -- RSL_JPOS_EXP_LO (R255)
  ⟨0x40018, 0x0, 1, 0x0, 1, [⟨0, 32, .ro, 0x0, .any⟩]⟩,
  -- RSL_JPOS_EXP_HI (R255)
  ⟨0x4001C, 0x0, 1, 0x0, 1, [⟨0, 32, .ro, 0x0, .any⟩]⟩,
  -- RSL_FMT (R255)
  ⟨0x40020, 0x0, 1, 0x0, 1, [⟨0, 16, .ro, 0x464A, .any⟩, ⟨16, 8, .ro, 0x1, .any⟩]⟩,
  -- KVT_STAT (R255)
  ⟨0x40100, 0x0, 1, 0x0, 1, [⟨0, 1, .ro, 0x0, .any⟩, ⟨1, 1, .ro, 0x0, .any⟩, ⟨2, 1, .ro, 0x0, .any⟩, ⟨3, 1, .ro, 0x0, .any⟩, ⟨4, 1, .ro, 0x0, .any⟩, ⟨8, 4, .ro, 0x0, .any⟩, ⟨16, 16, .ro, 0x0, .any⟩]⟩,
  -- KVT_PEND (R255)
  ⟨0x40104, 0x0, 1, 0x0, 1, [⟨0, 16, .ro, 0x0, .any⟩]⟩,
  -- KVT_MEAS_i (R255)
  ⟨0x40110, 0x4, 12, 0x0, 1, [⟨0, 32, .ro, 0x0, .any⟩]⟩,
  -- KVT_ID_HASH_i (R255)
  ⟨0x40140, 0x4, 8, 0x0, 1, [⟨0, 32, .ro, 0x0, .any⟩]⟩]

/-- Registers of the SEE window at 0x48000, part 0. -/
def regsSee0 : List RegDef := [
  -- SEE_STAT (R275)
  ⟨0x48000, 0x0, 1, 0x0, 1, [⟨0, 3, .ro, 0x0, .any⟩]⟩,
  -- SEE_GEN (R275)
  ⟨0x48004, 0x0, 1, 0x0, 1, [⟨0, 32, .ro, 0x0, .any⟩]⟩,
  -- SEE_COMMIT (R275)
  ⟨0x48008, 0x0, 1, 0x0, 1, [⟨0, 1, .wo, 0x0, .any⟩, ⟨8, 24, .wo, 0x0, .any⟩]⟩,
  -- SEE_BUF_A_LO (R275)
  ⟨0x48010, 0x0, 1, 0x0, 1, [⟨0, 32, .rw, 0x0, .any⟩]⟩,
  -- SEE_BUF_A_HI (R275)
  ⟨0x48014, 0x0, 1, 0x0, 1, [⟨0, 32, .rw, 0x0, .any⟩]⟩,
  -- SEE_BUF_B_LO (R275)
  ⟨0x48018, 0x0, 1, 0x0, 1, [⟨0, 32, .rw, 0x0, .any⟩]⟩,
  -- SEE_BUF_B_HI (R275)
  ⟨0x4801C, 0x0, 1, 0x0, 1, [⟨0, 32, .rw, 0x0, .any⟩]⟩,
  -- SEE_RES_CFG (R275)
  ⟨0x48020, 0x0, 1, 0x0, 1, [⟨0, 16, .rws, 0x3E8, .le 0 5000⟩, ⟨16, 16, .rws, 0x1F4, .uMax⟩]⟩,
  -- SEE_UNC_CFG (R275)
  ⟨0x48024, 0x0, 1, 0x0, 1, [⟨0, 16, .rws, 0xC8, .le 10 5000⟩, ⟨16, 16, .rws, 0xA, .le 0 1000⟩]⟩,
  -- SEE_ERR_CFG (R275)
  ⟨0x48028, 0x0, 1, 0x0, 1, [⟨0, 16, .rws, 0xC8, .any⟩, ⟨16, 16, .rws, 0xA, .le 0 1000⟩]⟩,
  -- SEE_REST_CFG (R275)
  ⟨0x4802C, 0x0, 1, 0x0, 1, [⟨0, 16, .rws, 0x5, .le 1 100⟩, ⟨16, 16, .rws, 0x12C, .le 10 3600⟩]⟩,
  -- SEE_EOC_CFG (R275)
  ⟨0x48030, 0x0, 1, 0x0, 1, [⟨0, 16, .rws, 0x28, .le 1 500⟩, ⟨16, 8, .rws, 0xA, .le 1 255⟩]⟩,
  -- SEE_REF_CFG (R275)
  ⟨0x48034, 0x0, 1, 0x0, 1, [⟨0, 16, .rws, 0x64, .le 0 1000⟩, ⟨16, 16, .rws, 0x1E, .le 0 1000⟩]⟩,
  -- SEE_AUTH_CFG (R275)
  ⟨0x48038, 0x0, 1, 0x0, 1, [⟨0, 16, .rws, 0x258, .le 10 65535⟩, ⟨16, 8, .rws, 0x14, .le 5 255⟩, ⟨24, 4, .rws, 0x3, .any⟩]⟩,
  -- SEE_BMU_CFG (R275)
  ⟨0x4803C, 0x0, 1, 0x0, 1, [⟨0, 16, .rws, 0x1F4, .le 50 5000⟩, ⟨16, 16, .rws, 0x25E4, .le 5000 9990⟩]⟩,
  -- SEE_CYC_CFG (R275)
  ⟨0x48040, 0x0, 1, 0x0, 1, [⟨0, 5, .rws, 0x1, .le 1 16⟩]⟩,
  -- SEE_CYC_k (R275)
  ⟨0x48080, 0x4, 16, 0x0, 1, [⟨0, 16, .rws, 0x0, .any⟩, ⟨16, 16, .rws, 0x2710, .le 1000 10000⟩]⟩,
  -- SEE_STR_CFG_s (R276)
  ⟨0x48100, 0x40, 16, 0x0, 1, [⟨0, 2, .rws, 0x0, .any⟩]⟩,
  -- SEE_DCAP_s (R276)
  ⟨0x48104, 0x40, 16, 0x0, 1, [⟨0, 32, .rws, 0x0, .le 1 100000⟩]⟩,
  -- SEE_VNOM_s (R276)
  ⟨0x48108, 0x40, 16, 0x0, 1, [⟨0, 32, .rws, 0x0, .le 0 2000000⟩]⟩,
  -- SEE_PMAX_s (R276)
  ⟨0x4810C, 0x40, 16, 0x0, 1, [⟨0, 32, .rws, 0x0, .le 0 4000000⟩]⟩,
  -- SEE_VEOC_s (R276)
  ⟨0x48110, 0x40, 16, 0x0, 1, [⟨0, 32, .rws, 0x0, .any⟩]⟩,
  -- SEE_VEOD_s (R276)
  ⟨0x48114, 0x40, 16, 0x0, 1, [⟨0, 32, .rws, 0x0, .any⟩]⟩,
  -- SEE_QSCALE_s (R276)
  ⟨0x48118, 0x40, 16, 0x0, 1, [⟨0, 32, .rws, 0x0, .any⟩]⟩,
  -- SEE_QOFS_s (R276)
  ⟨0x4811C, 0x40, 16, 0x0, 1, [⟨0, 32, .rws, 0x0, .any⟩]⟩,
  -- SEE_QGAIN_s (R276)
  ⟨0x48120, 0x40, 16, 0x0, 1, [⟨0, 32, .rws, 0x0, .sle 671088⟩]⟩,
  -- SEE_SOC_s (R276)
  ⟨0x48124, 0x40, 16, 0x0, 1, [⟨0, 16, .ro, 0x0, .any⟩, ⟨16, 16, .ro, 0x0, .any⟩]⟩,
  -- SEE_RES_s (R276)
  ⟨0x48128, 0x40, 16, 0x0, 1, [⟨0, 16, .ro, 0x0, .any⟩, ⟨16, 8, .ro, 0x0, .any⟩]⟩,
  -- SEE_CYC_N_s (R276)
  ⟨0x4812C, 0x40, 16, 0x0, 1, [⟨0, 32, .ro, 0x0, .any⟩]⟩,
  -- SEE_QC_LO_s (R276)
  ⟨0x48130, 0x40, 16, 0x0, 1, [⟨0, 32, .ro, 0x0, .any⟩]⟩]

/-- Registers of the SEE window at 0x48000, part 1. -/
def regsSee1 : List RegDef := [
  -- SEE_QC_HI_s (R276)
  ⟨0x48134, 0x40, 16, 0x0, 1, [⟨0, 32, .ro, 0x0, .any⟩]⟩,
  -- SEE_FEFF_s (R276)
  ⟨0x48138, 0x40, 16, 0x0, 1, [⟨0, 16, .ro, 0x2710, .any⟩]⟩]

/-- Registers of the SEE window. -/
def regsSee : List RegDef := regsSee0 ++ regsSee1

/-- Registers of the PLU window at 0x50000. -/
def regsPlu : List RegDef := [
  -- PLU_CFG_p (R304)
  ⟨0x50000, 0x400, 24, 0x0, 1, [⟨0, 1, .rws, 0x0, .any⟩, ⟨1, 1, .rws, 0x1, .any⟩]⟩,
  -- PLU_LIM_I_p (R304)
  ⟨0x50004, 0x400, 24, 0x0, 1, [⟨0, 32, .rws, 0x0, .le 0 4000000⟩]⟩,
  -- PLU_LIM_V_p (R304)
  ⟨0x50008, 0x400, 24, 0x0, 1, [⟨0, 32, .rws, 0x0, .le 0 1500000⟩]⟩,
  -- PLU_LIM_P_p (R304)
  ⟨0x5000C, 0x400, 24, 0x0, 1, [⟨0, 32, .rws, 0x0, .le 0 6000000⟩]⟩,
  -- PLU_GUARD_p (R304)
  ⟨0x50010, 0x400, 24, 0x0, 1, [⟨0, 16, .rws, 0x64, .le 10 10000⟩, ⟨16, 16, .rws, 0x32, .le 1 10000⟩]⟩,
  -- PLU_TMO_p (R304)
  ⟨0x50014, 0x400, 24, 0x0, 1, [⟨0, 16, .rws, 0x7D0, .le 100 60000⟩]⟩,
  -- PLU_CP_CTL_p (R304)
  ⟨0x50018, 0x400, 24, 0x0, 1, [⟨0, 10, .rw, 0x3E8, .le 0 1000⟩, ⟨10, 1, .rw, 0x0, .any⟩]⟩,
  -- PLU_CP_STAT_p (R304)
  ⟨0x5001C, 0x400, 24, 0x0, 1, [⟨0, 3, .ro, 0x7, .any⟩, ⟨3, 1, .ro, 0x0, .any⟩, ⟨4, 1, .ro, 0x0, .any⟩, ⟨5, 1, .ro, 0x0, .any⟩, ⟨8, 8, .ro, 0x0, .any⟩, ⟨16, 16, .ro, 0x0, .any⟩]⟩,
  -- PLU_CP_LVL_p (R304)
  ⟨0x50020, 0x400, 24, 0x0, 1, [⟨0, 16, .ro, 0x0, .any⟩, ⟨16, 16, .ro, 0x0, .any⟩]⟩,
  -- PLU_SESS_p (R304)
  ⟨0x50024, 0x400, 24, 0x0, 1, [⟨0, 2, .ro, 0x0, .any⟩, ⟨8, 8, .ro, 0x0, .any⟩, ⟨16, 16, .ro, 0x0, .any⟩]⟩,
  -- PLU_SESS_ID_p (R304)
  ⟨0x50028, 0x400, 24, 0x0, 1, [⟨0, 32, .ro, 0x0, .any⟩]⟩,
  -- PLU_VIOL_p (R304)
  ⟨0x5002C, 0x400, 24, 0x0, 1, [⟨0, 16, .ro, 0x0, .any⟩, ⟨16, 8, .ro, 0x0, .any⟩, ⟨24, 8, .ro, 0x0, .any⟩]⟩,
  -- PLU_PLC_STAT_p (R304)
  ⟨0x50030, 0x400, 24, 0x0, 1, [⟨0, 2, .ro, 0x0, .any⟩, ⟨2, 1, .ro, 0x0, .any⟩]⟩,
  -- PLU_PLC_CFG_p (R304)
  ⟨0x50034, 0x400, 24, 0x0, 1, [⟨0, 7, .rws, 0x0, .le 0 60⟩]⟩,
  -- PLU_LINK_CNT_p (R304)
  ⟨0x50038, 0x400, 24, 0x0, 1, [⟨0, 16, .ro, 0x0, .any⟩, ⟨16, 16, .ro, 0x0, .any⟩]⟩,
  -- PLU_IMP_CNT_p (R304)
  ⟨0x5003C, 0x400, 24, 0x0, 1, [⟨0, 16, .ro, 0x0, .any⟩, ⟨16, 16, .ro, 0x0, .any⟩]⟩,
  -- PLU_T1S_CFG_p (R304)
  ⟨0x50040, 0x400, 24, 0x0, 1, [⟨0, 8, .rws, 0x8, .le 2 255⟩, ⟨8, 8, .rws, 0x20, .any⟩, ⟨16, 8, .rws, 0x0, .any⟩, ⟨24, 8, .rws, 0x80, .any⟩]⟩,
  -- PLU_MAC_LO_p (R304)
  ⟨0x50044, 0x400, 24, 0x0, 1, [⟨0, 32, .rws, 0x0, .any⟩]⟩,
  -- PLU_MAC_HI_p (R304)
  ⟨0x50048, 0x400, 24, 0x0, 1, [⟨0, 16, .rws, 0x0, .any⟩]⟩,
  -- PLU_RX_DROP_p (R304)
  ⟨0x5004C, 0x400, 24, 0x0, 1, [⟨0, 16, .ro, 0x0, .any⟩, ⟨16, 16, .ro, 0x0, .any⟩]⟩,
  -- PLU_CLR_p (R304)
  ⟨0x50050, 0x400, 24, 0x0, 1, [⟨0, 1, .wo, 0x0, .any⟩]⟩,
  -- PLU_GCFG (R305)
  ⟨0x57000, 0x0, 1, 0x0, 1, [⟨0, 8, .rws, 0x3C, .le 10 200⟩, ⟨8, 4, .rws, 0x3, .le 1 15⟩, ⟨16, 8, .rws, 0xA, .le 1 255⟩]⟩,
  -- PLU_COOL_CFG (R305)
  ⟨0x57004, 0x0, 1, 0x0, 1, [⟨0, 16, .rws, 0x1E, .le 1 3600⟩]⟩,
  -- PLU_CP_BAND_A (R305)
  ⟨0x57010, 0x0, 1, 0x0, 1, [⟨0, 16, .rws, 0x2AF8, .band⟩, ⟨16, 16, .rws, 0x32C8, .band⟩]⟩,
  -- PLU_CP_BAND_B (R305)
  ⟨0x57014, 0x0, 1, 0x0, 1, [⟨0, 16, .rws, 0x1F40, .band⟩, ⟨16, 16, .rws, 0x2710, .band⟩]⟩,
  -- PLU_CP_BAND_C (R305)
  ⟨0x57018, 0x0, 1, 0x0, 1, [⟨0, 16, .rws, 0x1388, .band⟩, ⟨16, 16, .rws, 0x1B58, .band⟩]⟩,
  -- PLU_CP_BAND_D (R305)
  ⟨0x5701C, 0x0, 1, 0x0, 1, [⟨0, 16, .rws, 0x7D0, .band⟩, ⟨16, 16, .rws, 0xFA0, .band⟩]⟩,
  -- PLU_CP_BAND_E (R305)
  ⟨0x57020, 0x0, 1, 0x0, 1, [⟨0, 16, .rws, 0xFC18, .band⟩, ⟨16, 16, .rws, 0x3E8, .band⟩]⟩,
  -- PLU_CP_BAND_F (R305)
  ⟨0x57024, 0x0, 1, 0x0, 1, [⟨0, 16, .rws, 0xCD38, .band⟩, ⟨16, 16, .rws, 0xD508, .band⟩]⟩,
  -- PLU_CP_NEG (R305)
  ⟨0x57028, 0x0, 1, 0x0, 1, [⟨0, 16, .rws, 0xD508, .any⟩]⟩]

/-- Registers of the CAN window at 0x58000. -/
def regsCan : List RegDef := [
  -- CAN_CTL_n (R326)
  ⟨0x58000, 0x1000, 6, 0x0, 1, [⟨0, 1, .rws, 0x0, .any⟩, ⟨1, 1, .rws, 0x0, .any⟩, ⟨2, 1, .rws, 0x0, .any⟩, ⟨3, 1, .rws, 0x1, .any⟩, ⟨4, 1, .wo, 0x0, .any⟩, ⟨5, 1, .rw, 0x0, .any⟩]⟩,
  -- CAN_NBT_n (R326)
  ⟨0x58004, 0x1000, 6, 0x0, 1, [⟨0, 8, .rws, 0x1, .any⟩, ⟨8, 8, .rws, 0x3E, .le 1 255⟩, ⟨16, 7, .rws, 0xF, .le 1 127⟩, ⟨23, 7, .rws, 0xF, .any⟩, ⟨30, 1, .rws, 0x0, .any⟩]⟩,
  -- CAN_DBT_n (R326)
  ⟨0x58008, 0x1000, 6, 0x0, 1, [⟨0, 5, .rws, 0x1, .any⟩, ⟨8, 5, .rws, 0xE, .any⟩, ⟨16, 4, .rws, 0x3, .any⟩, ⟨24, 4, .rws, 0x3, .any⟩]⟩,
  -- CAN_TDC_n (R326)
  ⟨0x5800C, 0x1000, 6, 0x0, 1, [⟨0, 7, .rws, 0x20, .any⟩, ⟨8, 1, .rws, 0x1, .any⟩]⟩,
  -- CAN_STAT_n (R326)
  ⟨0x58010, 0x1000, 6, 0x0, 1, [⟨0, 2, .ro, 0x0, .any⟩, ⟨2, 1, .ro, 0x0, .any⟩, ⟨3, 1, .ro, 0x0, .any⟩, ⟨4, 1, .ro, 0x0, .any⟩, ⟨5, 1, .ro, 0x0, .any⟩, ⟨8, 8, .ro, 0x0, .any⟩, ⟨16, 8, .ro, 0x0, .any⟩]⟩,
  -- CAN_REF_n (R326)
  ⟨0x58014, 0x1000, 6, 0x0, 1, [⟨0, 1, .rws, 0x0, .any⟩, ⟨1, 7, .rws, 0x0, .any⟩, ⟨16, 16, .rws, 0xA, .le 1 1000⟩]⟩,
  -- CAN_ID_CFG_n (R326)
  ⟨0x58018, 0x1000, 6, 0x0, 1, [⟨0, 8, .rws, 0x4, .le 1 255⟩]⟩,
  -- CAN_RANK_n (R326)
  ⟨0x5801C, 0x1000, 6, 0x0, 1, [⟨0, 29, .rws, 0x1, .any⟩]⟩,
  -- CAN_WAKE_ID_n (R326)
  ⟨0x58020, 0x1000, 6, 0x0, 1, [⟨0, 29, .rw, 0x0, .any⟩, ⟨29, 1, .rw, 0x0, .any⟩]⟩,
  -- CAN_WAKE_MASK_n (R326)
  ⟨0x58024, 0x1000, 6, 0x0, 1, [⟨0, 29, .rw, 0x1FFFFFFF, .any⟩]⟩,
  -- CAN_WAKE_DATA_n (R326)
  ⟨0x58028, 0x1000, 6, 0x0, 1, [⟨0, 8, .rw, 0x0, .any⟩, ⟨8, 8, .rw, 0x0, .any⟩]⟩,
  -- CAN_CNT_n (R326)
  ⟨0x58030, 0x1000, 6, 0x0, 1, [⟨0, 16, .ro, 0x0, .any⟩, ⟨16, 16, .ro, 0x0, .any⟩]⟩,
  -- CAN_DROP_n (R326)
  ⟨0x58034, 0x1000, 6, 0x0, 1, [⟨0, 16, .ro, 0x0, .any⟩, ⟨16, 16, .ro, 0x0, .any⟩]⟩,
  -- CAN_TXDROP_n (R326)
  ⟨0x58038, 0x1000, 6, 0x0, 1, [⟨0, 32, .ro, 0x0, .any⟩]⟩,
  -- CAN_TXBUF_n (R326)
  ⟨0x58040, 0x1000, 6, 0x0, 1, [⟨0, 8, .ro, 0x0, .any⟩, ⟨8, 8, .ro, 0x0, .any⟩, ⟨16, 8, .ro, 0x0, .any⟩, ⟨24, 3, .ro, 0x0, .any⟩]⟩,
  -- CAN_CLR_n (R326)
  ⟨0x58050, 0x1000, 6, 0x0, 1, [⟨0, 1, .wo, 0x0, .any⟩]⟩,
  -- CAN_OBJ_CFG_n_o (R326)
  ⟨0x58800, 0x1000, 6, 0x10, 128, [⟨0, 1, .rws, 0x0, .any⟩, ⟨1, 1, .rws, 0x0, .any⟩, ⟨2, 1, .rws, 0x0, .any⟩, ⟨3, 1, .rws, 0x0, .any⟩, ⟨4, 1, .rws, 0x0, .any⟩, ⟨5, 2, .rws, 0x0, .any⟩, ⟨7, 1, .rws, 0x0, .any⟩, ⟨8, 4, .rws, 0x0, .any⟩, ⟨12, 1, .rws, 0x0, .any⟩, ⟨16, 16, .rws, 0x0, .any⟩]⟩,
  -- CAN_OBJ_ID_n_o (R326)
  ⟨0x58804, 0x1000, 6, 0x10, 128, [⟨0, 29, .rws, 0x0, .any⟩]⟩,
  -- CAN_OBJ_MASK_n_o (R326)
  ⟨0x58808, 0x1000, 6, 0x10, 128, [⟨0, 29, .rws, 0x1FFFFFFF, .any⟩]⟩,
  -- CAN_OBJ_STAT_n_o (R326)
  ⟨0x5880C, 0x1000, 6, 0x10, 128, [⟨0, 1, .ro, 0x0, .any⟩, ⟨1, 1, .w1c, 0x0, .any⟩, ⟨2, 1, .w1c, 0x0, .any⟩, ⟨3, 1, .ro, 0x0, .any⟩, ⟨4, 1, .w1c, 0x0, .any⟩, ⟨16, 16, .ro, 0x0, .any⟩]⟩]

/-- Registers of the SFI window at 0x60000. -/
def regsSfi : List RegDef := [
  -- SFI_STAT (R360)
  ⟨0x60000, 0x0, 1, 0x0, 1, [⟨0, 3, .ro, 0x0, .any⟩, ⟨3, 1, .ro, 0x0, .any⟩, ⟨4, 1, .ro, 0x0, .any⟩, ⟨5, 1, .ro, 0x0, .any⟩, ⟨6, 1, .ro, 0x0, .any⟩, ⟨7, 1, .ro, 0x0, .any⟩, ⟨8, 1, .ro, 0x0, .any⟩, ⟨9, 1, .ro, 0x0, .any⟩, ⟨10, 1, .ro, 0x0, .any⟩]⟩,
  -- SFI_PORT_TRIP (R360)
  ⟨0x60004, 0x0, 1, 0x0, 1, [⟨0, 24, .ro, 0x0, .any⟩]⟩,
  -- SFI_PORT_OFF (R360)
  ⟨0x60008, 0x0, 1, 0x0, 1, [⟨0, 24, .ro, 0xFFFFFF, .any⟩]⟩,
  -- SFI_SO_STAT (R360)
  ⟨0x6000C, 0x0, 1, 0x0, 1, [⟨0, 8, .ro, 0x0, .any⟩, ⟨8, 8, .ro, 0x0, .any⟩, ⟨16, 4, .ro, 0x0, .any⟩, ⟨20, 4, .ro, 0x0, .any⟩]⟩,
  -- SFI_SI_STAT (R360)
  ⟨0x60010, 0x0, 1, 0x0, 1, [⟨0, 8, .ro, 0x0, .any⟩, ⟨8, 8, .ro, 0x0, .any⟩, ⟨16, 8, .ro, 0x0, .any⟩, ⟨24, 1, .ro, 0x0, .any⟩]⟩,
  -- SFI_CONN_STAT (R360)
  ⟨0x60014, 0x0, 1, 0x0, 1, [⟨0, 16, .ro, 0x0, .any⟩]⟩,
  -- SFI_CV (R360)
  ⟨0x60018, 0x0, 1, 0x0, 1, [⟨0, 32, .ro, 0x0, .any⟩]⟩,
  -- SFI_STR_AUTH (R360)
  ⟨0x6001C, 0x0, 1, 0x0, 1, [⟨0, 16, .ro, 0x0, .any⟩]⟩,
  -- SFI_AXIS_POS_a (R360)
  ⟨0x60020, 0x4, 2, 0x0, 1, [⟨0, 32, .ro, 0x0, .any⟩]⟩,
  -- SFI_PWD_i (R360)
  ⟨0x64000, 0x4, 4, 0x0, 1, [⟨0, 32, .wo, 0x0, .any⟩]⟩,
  -- SFI_PWD_CMD (R360)
  ⟨0x64010, 0x0, 1, 0x0, 1, [⟨0, 32, .wo, 0x0, .any⟩]⟩,
  -- SFI_PADDR (R360)
  ⟨0x64014, 0x0, 1, 0x0, 1, [⟨0, 11, .rw, 0x0, .any⟩]⟩,
  -- SFI_PDATA (R360)
  ⟨0x64018, 0x0, 1, 0x0, 1, [⟨0, 32, .rws, 0x0, .any⟩]⟩,
  -- SFI_CV_REQ (R360)
  ⟨0x6401C, 0x0, 1, 0x0, 1, [⟨0, 32, .wo, 0x0, .any⟩]⟩,
  -- SFI_CV_STAGED (R360)
  ⟨0x64020, 0x0, 1, 0x0, 1, [⟨0, 32, .ro, 0x0, .any⟩]⟩,
  -- SFI_CONFIRM (R360)
  ⟨0x64024, 0x0, 1, 0x0, 1, [⟨0, 32, .wo, 0x0, .any⟩]⟩,
  -- SFI_CONFIRM_STAT (R360)
  ⟨0x64028, 0x0, 1, 0x0, 1, [⟨0, 3, .ro, 0x0, .any⟩, ⟨8, 8, .ro, 0x0, .any⟩, ⟨16, 11, .ro, 0x0, .any⟩]⟩,
  -- SFI_PWD_STAT (R360)
  ⟨0x6402C, 0x0, 1, 0x0, 1, [⟨0, 4, .ro, 0x0, .any⟩, ⟨4, 1, .ro, 0x0, .any⟩, ⟨5, 1, .ro, 0x0, .any⟩, ⟨16, 16, .ro, 0x0, .any⟩]⟩,
  -- SFI_LOG_IDX (R360)
  ⟨0x64030, 0x0, 1, 0x0, 1, [⟨0, 6, .rw, 0x0, .any⟩, ⟨8, 3, .rw, 0x0, .any⟩]⟩,
  -- SFI_LOG_DATA (R360)
  ⟨0x64034, 0x0, 1, 0x0, 1, [⟨0, 32, .ro, 0x0, .any⟩]⟩]

/-- Registers of the THM window at 0x68000. -/
def regsThm : List RegDef := [
  -- THM_CFG (R377)
  ⟨0x68000, 0x0, 1, 0x0, 1, [⟨0, 8, .rws, 0x32, .le 10 200⟩]⟩,
  -- THM_GRP_g (R377)
  ⟨0x68010, 0x4, 12, 0x0, 1, [⟨0, 1, .rws, 0x0, .any⟩, ⟨16, 16, .rws, 0xF6E, .le 1000 10000⟩]⟩,
  -- THM_NTC_R25_g (R377)
  ⟨0x68040, 0x4, 12, 0x0, 1, [⟨0, 24, .rws, 0x2710, .le 100 1000000⟩]⟩,
  -- THM_CH_CFG_c (R377)
  ⟨0x68100, 0x10, 96, 0x0, 1, [⟨0, 1, .rws, 0x0, .any⟩, ⟨1, 7, .rws, 0x7F, .any⟩, ⟨16, 16, .rws, 0x0, .any⟩]⟩,
  -- THM_CH_LIM_c (R377)
  ⟨0x68104, 0x10, 96, 0x0, 1, [⟨0, 12, .rws, 0x320, .any⟩, ⟨12, 12, .rws, 0x384, .any⟩, ⟨24, 8, .rws, 0x32, .le 5 200⟩]⟩,
  -- THM_CH_LIM2_c (R377)
  ⟨0x68108, 0x10, 96, 0x0, 1, [⟨0, 12, .rws, 0x3E8, .any⟩, ⟨12, 10, .rws, 0x1F4, .le 0 999⟩]⟩,
  -- THM_CH_VAL_c (R377)
  ⟨0x6810C, 0x10, 96, 0x0, 1, [⟨0, 16, .ro, 0x8000, .any⟩, ⟨16, 5, .ro, 0x0, .any⟩]⟩,
  -- THM_DIE_s (R377)
  ⟨0x68800, 0x4, 12, 0x0, 1, [⟨0, 16, .ro, 0x0, .any⟩, ⟨16, 16, .ro, 0x8000, .any⟩]⟩,
  -- THM_DIE_CFG (R377)
  ⟨0x68840, 0x0, 1, 0x0, 1, [⟨0, 12, .rws, 0x47E, .any⟩, ⟨12, 12, .rws, 0x578, .le 1250 1450⟩]⟩,
  -- THM_STAT (R377)
  ⟨0x68844, 0x0, 1, 0x0, 1, [⟨0, 5, .ro, 0x0, .any⟩, ⟨5, 1, .ro, 0x0, .any⟩, ⟨6, 1, .w1c, 0x0, .any⟩, ⟨8, 6, .ro, 0x0, .any⟩]⟩,
  -- THM_FAST_i (R377)
  ⟨0x68850, 0x4, 3, 0x0, 1, [⟨0, 32, .ro, 0x0, .any⟩]⟩,
  -- THM_CLR (R377)
  ⟨0x68860, 0x0, 1, 0x0, 1, [⟨0, 1, .wo, 0x0, .any⟩]⟩,
  -- HKA_AUX_i (R377)
  ⟨0x68900, 0x4, 16, 0x0, 1, [⟨0, 16, .ro, 0x0, .any⟩]⟩,
  -- HKA_STAT (R377)
  ⟨0x68940, 0x0, 1, 0x0, 1, [⟨0, 12, .ro, 0x0, .any⟩, ⟨16, 16, .ro, 0x0, .any⟩]⟩]

/-- Registers of the LSB window at 0x70000. -/
def regsLsb : List RegDef := [
  -- LSB_ON (R377)
  ⟨0x70000, 0x0, 1, 0x0, 1, [⟨0, 24, .rw, 0x0, .any⟩]⟩,
  -- LSB_ON_SET (R377)
  ⟨0x70004, 0x0, 1, 0x0, 1, [⟨0, 24, .wo, 0x0, .any⟩]⟩,
  -- LSB_ON_CLR (R377)
  ⟨0x70008, 0x0, 1, 0x0, 1, [⟨0, 24, .wo, 0x0, .any⟩]⟩,
  -- LSB_CFG (R377)
  ⟨0x7000C, 0x0, 1, 0x0, 1, [⟨0, 8, .rws, 0x55, .le 60 200⟩, ⟨8, 8, .rws, 0xA, .le 1 255⟩]⟩,
  -- LSB_OUT (R377)
  ⟨0x70010, 0x0, 1, 0x0, 1, [⟨0, 24, .ro, 0x0, .any⟩]⟩,
  -- LSB_UNLOCK (R377)
  ⟨0x70014, 0x0, 1, 0x0, 1, [⟨0, 24, .wo, 0x0, .any⟩]⟩,
  -- LSB_STAT (R377)
  ⟨0x70018, 0x0, 1, 0x0, 1, [⟨0, 1, .ro, 0x0, .any⟩, ⟨1, 1, .ro, 0x0, .any⟩]⟩,
  -- LSB_CLR (R377)
  ⟨0x7001C, 0x0, 1, 0x0, 1, [⟨0, 1, .wo, 0x0, .any⟩]⟩,
  -- LSB_CH_CFG_n (R377)
  ⟨0x70100, 0x10, 24, 0x0, 1, [⟨0, 6, .rws, 0x14, .le 5 60⟩, ⟨6, 1, .rws, 0x0, .any⟩, ⟨8, 8, .rws, 0xA, .le 1 255⟩, ⟨16, 6, .rws, 0x32, .le 1 50⟩, ⟨22, 4, .rws, 0x3, .any⟩]⟩,
  -- LSB_CH_RETRY_n (R377)
  ⟨0x70104, 0x10, 24, 0x0, 1, [⟨0, 16, .rws, 0x3E8, .le 10 60000⟩]⟩,
  -- LSB_CH_STAT_n (R377)
  ⟨0x70108, 0x10, 24, 0x0, 1, [⟨0, 3, .ro, 0x0, .any⟩, ⟨3, 1, .ro, 0x0, .any⟩, ⟨4, 4, .ro, 0x0, .any⟩, ⟨8, 2, .ro, 0x0, .any⟩, ⟨16, 16, .ro, 0x0, .any⟩]⟩,
  -- LSB_CH_CNT_n (R377)
  ⟨0x7010C, 0x10, 24, 0x0, 1, [⟨0, 16, .ro, 0x0, .any⟩, ⟨16, 16, .ro, 0x0, .any⟩]⟩]

/-- Registers of the HIF window at 0x78000. -/
def regsHif : List RegDef := [
  -- HIF_ATTN_CAUSE (R428)
  ⟨0x78000, 0x0, 1, 0x0, 1, [⟨0, 6, .w1c, 0x0, .any⟩]⟩,
  -- HIF_ATTN_EN (R428)
  ⟨0x78004, 0x0, 1, 0x0, 1, [⟨0, 6, .rw, 0x3F, .any⟩]⟩,
  -- HIF_POOL_STAT (R428)
  ⟨0x78008, 0x0, 1, 0x0, 1, [⟨0, 11, .ro, 0x400, .any⟩, ⟨16, 11, .ro, 0x400, .any⟩]⟩,
  -- HIF_LINK_STAT (R428)
  ⟨0x7800C, 0x0, 1, 0x0, 1, [⟨0, 2, .ro, 0x0, .any⟩, ⟨2, 4, .ro, 0x0, .any⟩, ⟨16, 16, .ro, 0x0, .any⟩]⟩,
  -- HIF_LOST_CNT (R428)
  ⟨0x78010, 0x0, 1, 0x0, 1, [⟨0, 32, .ro, 0x0, .any⟩]⟩,
  -- HIF_DB_IGN_CNT (R428)
  ⟨0x78014, 0x0, 1, 0x0, 1, [⟨0, 32, .ro, 0x0, .any⟩]⟩,
  -- HIF_CLR (R428)
  ⟨0x78018, 0x0, 1, 0x0, 1, [⟨0, 1, .wo, 0x0, .any⟩]⟩,
  -- HIF_RING_RUN0 (R428)
  ⟨0x78020, 0x0, 1, 0x0, 1, [⟨0, 32, .ro, 0x0, .any⟩]⟩,
  -- HIF_RING_RUN1 (R428)
  ⟨0x78024, 0x0, 1, 0x0, 1, [⟨0, 32, .ro, 0x0, .any⟩]⟩,
  -- HIF_RING_HALT0 (R428)
  ⟨0x78028, 0x0, 1, 0x0, 1, [⟨0, 32, .ro, 0x0, .any⟩]⟩,
  -- HIF_RING_HALT1 (R428)
  ⟨0x7802C, 0x0, 1, 0x0, 1, [⟨0, 32, .ro, 0x0, .any⟩]⟩,
  -- HIF_RING_BASE_LO_r (R428)
  ⟨0x78100, 0x20, 64, 0x0, 1, [⟨0, 32, .rw, 0x0, .any⟩]⟩,
  -- HIF_RING_BASE_HI_r (R428)
  ⟨0x78104, 0x20, 64, 0x0, 1, [⟨0, 32, .rw, 0x0, .any⟩]⟩,
  -- HIF_RING_SHADOW_LO_r (R428)
  ⟨0x78108, 0x20, 64, 0x0, 1, [⟨0, 32, .rw, 0x0, .any⟩]⟩,
  -- HIF_RING_SHADOW_HI_r (R428)
  ⟨0x7810C, 0x20, 64, 0x0, 1, [⟨0, 32, .rw, 0x0, .any⟩]⟩,
  -- HIF_RING_CFG_r (R428)
  ⟨0x78110, 0x20, 64, 0x0, 1, [⟨0, 4, .rw, 0x4, .le 4 12⟩, ⟨4, 1, .rw, 0x0, .any⟩, ⟨16, 11, .rw, 0x40, .le 1 1024⟩]⟩,
  -- HIF_RING_STAT_r (R428)
  ⟨0x78114, 0x20, 64, 0x0, 1, [⟨0, 16, .ro, 0x0, .any⟩, ⟨16, 11, .ro, 0x0, .any⟩]⟩,
  -- HIF_RING_HEAD_r (R428)
  ⟨0x78118, 0x20, 64, 0x0, 1, [⟨0, 32, .ro, 0x0, .any⟩]⟩,
  -- HIF_RING_OLDEST_r (R428)
  ⟨0x7811C, 0x20, 64, 0x0, 1, [⟨0, 32, .ro, 0x0, .any⟩]⟩]

/-- The register table of the 32 KiB window that holds an offset; the PLU window spans none other (spec/17, "BAR0 windows"). -/
def windowRegs (off : Nat) : List RegDef :=
  match off / 0x8000 with
  | 0 => regsGlb
  | 1 => regsStu
  | 2 => regsAlp
  | 3 => regsLch
  | 4 => regsClc
  | 5 => regsDlc
  | 6 => regsCce
  | 7 => regsMte
  | 8 => regsRsl
  | 9 => regsSee
  | 10 => regsPlu
  | 11 => regsCan
  | 12 => regsSfi
  | 13 => regsThm
  | 14 => regsLsb
  | 15 => regsHif
  | _ => []

/-- Whether a register row holds the register at an offset. -/
def RegDef.holds (r : RegDef) (off : Nat) : Bool :=
  let a := off - r.base
  r.base ≤ off &&
    (if r.n2 = 1 then (if r.n1 = 1 then a = 0 else a % r.s1 = 0 && a / r.s1 < r.n1)
     else a / r.s1 < r.n1 && a % r.s1 % r.s2 = 0 && a % r.s1 / r.s2 < r.n2)

/-- The register row of an offset, if a register is assigned there. -/
def regFind (off : Nat) : Option RegDef := (windowRegs off).find? (·.holds off)

/-- The bits a field occupies, as a 32-bit mask. -/
def FieldDef.mask (f : FieldDef) : Nat := (2 ^ f.w - 1) <<< f.lo

/-- The value of a register after reset: each field at its reset value (the register tables of spec/). -/
def regReset (off : Nat) : Word :=
  match regFind off with
  | none => 0
  | some r => BitVec.ofNat 32 (r.fields.foldl (fun a f => a ||| (f.reset <<< f.lo)) 0)

abbrev GLB_ID.PART : Fld := ⟨0x0, 0, 16⟩
abbrev GLB_ID.STEPPING : Fld := ⟨0x0, 16, 8⟩
abbrev GLB_ID.BUILD : Fld := ⟨0x0, 24, 8⟩
abbrev GLB_CAPS.PORTS : Fld := ⟨0x4, 0, 8⟩
abbrev GLB_CAPS.BLOCKS : Fld := ⟨0x4, 8, 8⟩
abbrev GLB_CAPS.STRINGS : Fld := ⟨0x4, 16, 8⟩
abbrev GLB_CAPS.TWIN : Fld := ⟨0x4, 24, 1⟩
abbrev GLB_CAPS.PRESS : Fld := ⟨0x4, 25, 1⟩
abbrev GLB_SITE_CFG.TOPO : Fld := ⟨0x10, 0, 2⟩
abbrev GLB_SITE_CFG.PRESS_OUT : Fld := ⟨0x10, 2, 1⟩
abbrev GLB_SITE_CFG.PRESS_EN : Fld := ⟨0x10, 3, 1⟩
abbrev GLB_SITE_CFG.PRESS_LANE : Fld := ⟨0x10, 4, 4⟩
abbrev GLB_SITE_CFG.G0_EN : Fld := ⟨0x10, 8, 1⟩
abbrev GLB_SITE_CFG.G1_EN : Fld := ⟨0x10, 9, 1⟩
abbrev GLB_PORT_EN.PORT : Fld := ⟨0x14, 0, 24⟩
abbrev GLB_BLOCK_EN0.BLK_LO : Fld := ⟨0x18, 0, 32⟩
abbrev GLB_BLOCK_EN1.BLK_HI : Fld := ⟨0x1C, 0, 16⟩
abbrev GLB_STRING_EN.STR : Fld := ⟨0x20, 0, 16⟩
abbrev GLB_MODE.MODE : Fld := ⟨0x40, 0, 3⟩
abbrev GLB_MODE.BOOTING : Fld := ⟨0x40, 3, 1⟩
abbrev GLB_MODE.ORPHAN : Fld := ⟨0x40, 4, 1⟩
abbrev GLB_MODE.LAST_CAUSE : Fld := ⟨0x40, 8, 8⟩
abbrev GLB_MODE.PREV_MODE : Fld := ⟨0x40, 16, 3⟩
abbrev GLB_MODE_REQ.TARGET : Fld := ⟨0x44, 0, 3⟩
abbrev GLB_MODE_REQ.SEE_COLD : Fld := ⟨0x44, 3, 1⟩
abbrev GLB_MODE_REQ.KEY : Fld := ⟨0x44, 24, 8⟩
abbrev GLB_MODE_STAT.REQ_PEND : Fld := ⟨0x48, 0, 1⟩
abbrev GLB_MODE_STAT.REFUSE : Fld := ⟨0x48, 8, 8⟩
abbrev GLB_MODE_STAT.PRECOND : Fld := ⟨0x48, 16, 9⟩
abbrev GLB_HOST_WDOG.PERIOD : Fld := ⟨0x50, 0, 16⟩
abbrev GLB_HOST_KICK.KICK : Fld := ⟨0x54, 0, 32⟩
abbrev GLB_SWRST.KEY : Fld := ⟨0x58, 0, 32⟩
abbrev GLB_PWR_STAT.PGOOD : Fld := ⟨0x60, 0, 8⟩
abbrev GLB_PWR_STAT.ORDER_FAULT : Fld := ⟨0x60, 8, 1⟩
abbrev GLB_PWR_STAT.BROWNOUT : Fld := ⟨0x60, 9, 1⟩
abbrev GLB_PWR_STAT.HOLD : Fld := ⟨0x60, 10, 1⟩
abbrev GLB_PWR_STAT.ORDER_SUPPLY : Fld := ⟨0x60, 16, 8⟩
abbrev GLB_PWR_CFG.BO_RIDE : Fld := ⟨0x64, 0, 10⟩
abbrev GLB_RST_CAUSE.VAON_POR : Fld := ⟨0x68, 0, 1⟩
abbrev GLB_RST_CAUSE.RESET_N : Fld := ⟨0x68, 1, 1⟩
abbrev GLB_RST_CAUSE.STUCK_RESET : Fld := ⟨0x68, 2, 1⟩
abbrev GLB_RST_CAUSE.TWIN_LATCH : Fld := ⟨0x68, 3, 1⟩
abbrev GLB_RST_CAUSE.ORDER : Fld := ⟨0x68, 4, 1⟩
abbrev GLB_RST_CAUSE.BROWNOUT : Fld := ⟨0x68, 5, 1⟩
abbrev GLB_RST_CAUSE.SWRST : Fld := ⟨0x68, 6, 1⟩
abbrev GLB_WAKE_CFG.CAN2 : Fld := ⟨0x6C, 0, 2⟩
abbrev GLB_WAKE_CFG.CAN4 : Fld := ⟨0x6C, 2, 2⟩
abbrev GLB_WAKE_CFG.RTC : Fld := ⟨0x6C, 4, 1⟩
abbrev GLB_WAKE_CFG.PIN : Fld := ⟨0x6C, 5, 1⟩
abbrev GLB_WAKE_CFG.PWR_OFF : Fld := ⟨0x6C, 8, 1⟩
abbrev GLB_WAKE_STAT.SOURCE : Fld := ⟨0x70, 0, 4⟩
abbrev GLB_TWIN_CFG.RANK : Fld := ⟨0x200, 0, 2⟩
abbrev GLB_TWIN_CFG.PROMOTE_TIMEOUT : Fld := ⟨0x200, 8, 8⟩
abbrev GLB_TWIN_CFG.FIT_TICKS : Fld := ⟨0x200, 16, 8⟩
abbrev GLB_TWIN_CFG.LANES_REQ : Fld := ⟨0x200, 24, 1⟩
abbrev GLB_TWIN_CTL.RESYNC : Fld := ⟨0x204, 0, 1⟩
abbrev GLB_TWIN_STAT.SUB : Fld := ⟨0x208, 0, 2⟩
abbrev GLB_TWIN_STAT.FIT : Fld := ⟨0x208, 2, 1⟩
abbrev GLB_TWIN_STAT.ORPHAN : Fld := ⟨0x208, 3, 1⟩
abbrev GLB_TWIN_STAT.CONTIG : Fld := ⟨0x208, 4, 1⟩
abbrev GLB_TWIN_STAT.UNFIT : Fld := ⟨0x208, 8, 7⟩
abbrev GLB_TWIN_STAT.MM_RUN : Fld := ⟨0x208, 16, 8⟩
abbrev GLB_TWIN_STAT.LAST_TRIGGER : Fld := ⟨0x208, 24, 3⟩
abbrev GLB_TWIN_CLAIM.CLAIM : Fld := ⟨0x20C, 0, 32⟩
abbrev GLB_TWIN_PEER_CLAIM.CLAIM : Fld := ⟨0x210, 0, 32⟩
abbrev GLB_TWIN_EPOCH.EPOCH : Fld := ⟨0x214, 0, 24⟩
abbrev GLB_TWIN_ESEQ.ESEQ : Fld := ⟨0x218, 0, 32⟩
abbrev GLB_TWIN_DTICK.TICK : Fld := ⟨0x21C, 0, 32⟩
abbrev GLB_TWIN_CNT.MISMATCH : Fld := ⟨0x220, 0, 16⟩
abbrev GLB_TWIN_CNT.DISCARD : Fld := ⟨0x220, 16, 16⟩
abbrev GLB_PEER_HEALTH.WORD (i : Nat) : Fld := ⟨0x240 + 0x4 * i, 0, 32⟩
abbrev GLB_EVT_HEAD_LO.SEQ : Fld := ⟨0x300, 0, 32⟩
abbrev GLB_EVT_HEAD_HI.SEQ : Fld := ⟨0x304, 0, 32⟩
abbrev GLB_EVT_OLDEST_LO.SEQ : Fld := ⟨0x308, 0, 32⟩
abbrev GLB_EVT_OLDEST_HI.SEQ : Fld := ⟨0x30C, 0, 32⟩
abbrev CKG_STAT.MAIN_LOCK : Fld := ⟨0x8000, 0, 1⟩
abbrev CKG_STAT.SER_CAB_LOCK : Fld := ⟨0x8000, 1, 1⟩
abbrev CKG_STAT.SER_DRK_LOCK : Fld := ⟨0x8000, 2, 1⟩
abbrev CKG_STAT.MEM_LOCK : Fld := ⟨0x8000, 3, 1⟩
abbrev CKG_STAT.REF_OK : Fld := ⟨0x8000, 4, 1⟩
abbrev CKG_STAT.SER_UNLOCKED : Fld := ⟨0x8000, 8, 1⟩
abbrev CKG_STAT.SAF_DEV : Fld := ⟨0x8000, 16, 8⟩
abbrev STU_TIME_FRAC.FRAC : Fld := ⟨0x8100, 0, 16⟩
abbrev STU_TIME_NS_LO.NS_LO : Fld := ⟨0x8104, 0, 32⟩
abbrev STU_TIME_NS_HI.NS_HI : Fld := ⟨0x8108, 0, 32⟩
abbrev STU_SET_NS_LO.NS_LO : Fld := ⟨0x8110, 0, 32⟩
abbrev STU_SET_NS_HI.NS_HI : Fld := ⟨0x8114, 0, 32⟩
abbrev STU_SET_CMD.KEY : Fld := ⟨0x8118, 0, 32⟩
abbrev STU_TICK_CFG.TICK_LEN : Fld := ⟨0x8120, 0, 8⟩
abbrev STU_TICK_ORIGIN_LO.ORG_LO : Fld := ⟨0x8124, 0, 32⟩
abbrev STU_TICK_ORIGIN_HI.ORG_HI : Fld := ⟨0x8128, 0, 32⟩
abbrev STU_TICK_NUM.N : Fld := ⟨0x812C, 0, 32⟩
abbrev STU_DISC_CFG.SRC_PPS : Fld := ⟨0x8140, 0, 1⟩
abbrev STU_DISC_CFG.SRC_REF10 : Fld := ⟨0x8140, 1, 1⟩
abbrev STU_DISC_CFG.SRC_HOST : Fld := ⟨0x8140, 2, 1⟩
abbrev STU_DISC_CFG.PPS_WIN : Fld := ⟨0x8140, 8, 8⟩
abbrev STU_DISC_CFG.OFS_ALARM : Fld := ⟨0x8140, 16, 16⟩
abbrev STU_DISC_STAT.VALID : Fld := ⟨0x8144, 0, 1⟩
abbrev STU_DISC_STAT.LOCKED : Fld := ⟨0x8144, 1, 1⟩
abbrev STU_DISC_STAT.HOLDOVER : Fld := ⟨0x8144, 2, 1⟩
abbrev STU_DISC_STAT.SOURCE : Fld := ⟨0x8144, 4, 3⟩
abbrev STU_DISC_STAT.PPS_OUTLIERS : Fld := ⟨0x8144, 8, 8⟩
abbrev STU_RATE.RATE : Fld := ⟨0x8148, 0, 32⟩
abbrev STU_PHASE_ERR.ERR : Fld := ⟨0x814C, 0, 32⟩
abbrev STU_PPS_LABEL_LO.LBL_LO : Fld := ⟨0x8150, 0, 32⟩
abbrev STU_PPS_LABEL_HI.LBL_HI : Fld := ⟨0x8154, 0, 32⟩
abbrev STU_PPS_OUT_CFG.EN : Fld := ⟨0x8158, 0, 1⟩
abbrev STU_PPS_OUT_CFG.WIDTH : Fld := ⟨0x8158, 8, 8⟩
abbrev STU_PPS_OUT_CFG.COMP : Fld := ⟨0x8158, 16, 16⟩
abbrev STU_RTC_SEC.SEC : Fld := ⟨0x8160, 0, 32⟩
abbrev STU_RTC_ALARM.ALARM : Fld := ⟨0x8164, 0, 32⟩
abbrev ALP_STAT.STATUS : Fld := ⟨0x10000, 0, 32⟩
abbrev ALP_SEAL_TICK.TICK : Fld := ⟨0x10004, 0, 32⟩
abbrev ALP_STAGE_MAX0.GATHER : Fld := ⟨0x10008, 0, 16⟩
abbrev ALP_STAGE_MAX0.SANITIZE : Fld := ⟨0x10008, 16, 16⟩
abbrev ALP_STAGE_MAX1.CONSTRAIN : Fld := ⟨0x1000C, 0, 16⟩
abbrev ALP_STAGE_MAX1.ALLOCATE : Fld := ⟨0x1000C, 16, 16⟩
abbrev ALP_STAGE_MAX2.SHAPE : Fld := ⟨0x10010, 0, 16⟩
abbrev ALP_STAGE_MAX2.SEAL : Fld := ⟨0x10010, 16, 16⟩
abbrev ALP_STAGE_MAX3.LAUNCH : Fld := ⟨0x10014, 0, 16⟩
abbrev ALP_STAGE_MAX3.TOTAL : Fld := ⟨0x10014, 16, 16⟩
abbrev ALP_CLR.STAGE : Fld := ⟨0x10018, 0, 1⟩
abbrev ALP_CLR.COUNTS : Fld := ⟨0x10018, 1, 1⟩
abbrev ALP_CLR.WHEY : Fld := ⟨0x10018, 2, 1⟩
abbrev ALP_LIMIT.ENTRY_MAX : Fld := ⟨0x10020, 0, 12⟩
abbrev ALP_LIMIT.ENABLED : Fld := ⟨0x10020, 16, 12⟩
abbrev ALP_DEADLINE.D : Fld := ⟨0x10024, 0, 14⟩
abbrev ALP_OVR_CFG.CONSEC : Fld := ⟨0x10030, 0, 4⟩
abbrev ALP_OVR_CFG.WIN_CNT : Fld := ⟨0x10030, 4, 8⟩
abbrev ALP_OVR_CFG.WIN_LEN : Fld := ⟨0x10030, 16, 16⟩
abbrev ALP_OVR_STAT.TOTAL : Fld := ⟨0x10034, 0, 16⟩
abbrev ALP_OVR_STAT.RUN : Fld := ⟨0x10034, 16, 8⟩
abbrev ALP_OVR_STAT.WIN : Fld := ⟨0x10034, 24, 8⟩
abbrev ALP_AGE_CFG0.REQ_AGE : Fld := ⟨0x10040, 0, 16⟩
abbrev ALP_AGE_CFG0.SLOW_AGE : Fld := ⟨0x10040, 16, 16⟩
abbrev ALP_AGE_CFG1.MEAS_AGE : Fld := ⟨0x10044, 0, 12⟩
abbrev ALP_AGE_CFG1.GRID_AGE : Fld := ⟨0x10044, 16, 12⟩
abbrev ALP_AGE_CFG2.BLK_AGE : Fld := ⟨0x10048, 0, 8⟩
abbrev ALP_AGE_CFG2.BLK_DROP : Fld := ⟨0x10048, 8, 8⟩
abbrev ALP_AGE_CFG2.CONV_AGE : Fld := ⟨0x10048, 16, 8⟩
abbrev ALP_AGE_CFG2.RESTORE_TICKS : Fld := ⟨0x10048, 24, 8⟩
abbrev ALP_AGE_CFG3.CAP_AGE : Fld := ⟨0x1004C, 0, 12⟩
abbrev ALP_AGE_CFG3.PLAUS_TICKS : Fld := ⟨0x1004C, 16, 4⟩
abbrev ALP_PLAUS_CFG0.PLAUS_I_ABS : Fld := ⟨0x10050, 0, 16⟩
abbrev ALP_PLAUS_CFG0.PLAUS_I_PCT : Fld := ⟨0x10050, 16, 8⟩
abbrev ALP_PLAUS_CFG0.PLAUS_V : Fld := ⟨0x10050, 24, 8⟩
abbrev ALP_PLAUS_CFG1.STOR_PLAUS_A : Fld := ⟨0x10054, 0, 16⟩
abbrev ALP_PLAUS_CFG1.STOR_PLAUS_PCT : Fld := ⟨0x10054, 16, 8⟩
abbrev ALP_PLAUS_CFG1.STOR_FB_PCT : Fld := ⟨0x10054, 24, 8⟩
abbrev ALP_AUX_FB.AUX_FB : Fld := ⟨0x10058, 0, 32⟩
abbrev ALP_AUX_MAX.AUX_MAX : Fld := ⟨0x1005C, 0, 32⟩
abbrev ALP_AUX_NEG.AUX_NEG : Fld := ⟨0x10060, 0, 32⟩
abbrev ALP_AUX_CFG.FIXED : Fld := ⟨0x10064, 0, 1⟩
abbrev ALP_WHEY_LAST_LO.LO : Fld := ⟨0x10070, 0, 32⟩
abbrev ALP_WHEY_LAST_HI.HI : Fld := ⟨0x10074, 0, 32⟩
abbrev ALP_WHEY_MIN_LO.LO : Fld := ⟨0x10078, 0, 32⟩
abbrev ALP_WHEY_MIN_HI.HI : Fld := ⟨0x1007C, 0, 32⟩
abbrev ALP_WHEY_CFG.WHEY_WIN : Fld := ⟨0x10080, 0, 32⟩
abbrev ALP_CLAMP_CNT.CNT : Fld := ⟨0x10090, 0, 32⟩
abbrev ALP_SUBST_CNT.CNT : Fld := ⟨0x10094, 0, 32⟩
abbrev ALP_SUBST_PORT.PORT : Fld := ⟨0x100A0, 0, 24⟩
abbrev ALP_SUBST_BLK0.BLK_LO : Fld := ⟨0x100A4, 0, 32⟩
abbrev ALP_SUBST_BLK1.BLK_HI : Fld := ⟨0x100A8, 0, 16⟩
abbrev ALP_SUBST_SITE.STR : Fld := ⟨0x100AC, 0, 16⟩
abbrev ALP_SUBST_SITE.SITE : Fld := ⟨0x100AC, 16, 4⟩
abbrev ALP_SUBST_SITE.CONV : Fld := ⟨0x100AC, 20, 4⟩
abbrev ALP_SUBST_SITE.SLOW : Fld := ⟨0x100AC, 24, 1⟩
abbrev ALP_GRID_CAP.CAP : Fld := ⟨0x10100, 0, 32⟩
abbrev ALP_GRID_RAMP.RAMP : Fld := ⟨0x10104, 0, 32⟩
abbrev ALP_STOR_CFG.HORIZON : Fld := ⟨0x10108, 0, 16⟩
abbrev ALP_STOR_CHG.CHG : Fld := ⟨0x1010C, 0, 32⟩
abbrev ALP_PORT_DEF.CLASS : Fld := ⟨0x10110, 0, 3⟩
abbrev ALP_PORT_DEF.WEIGHT : Fld := ⟨0x10110, 16, 16⟩
abbrev ALP_KEEP_I.KEEP_I : Fld := ⟨0x10114, 0, 32⟩
abbrev ALP_RAMP_DEF.RISE : Fld := ⟨0x10118, 0, 32⟩
abbrev ALP_VREF_MIN.VMIN : Fld := ⟨0x1011C, 0, 32⟩
abbrev ALP_BLK_SLEW.SLEW : Fld := ⟨0x10120, 0, 32⟩
abbrev ALP_MIG_CFG.RAMP : Fld := ⟨0x10124, 0, 16⟩
abbrev ALP_REST_CFG.ALLOW : Fld := ⟨0x10128, 0, 1⟩
abbrev ALP_REST_MARGIN.MARGIN : Fld := ⟨0x1012C, 0, 32⟩
abbrev ALP_MIG_STAT.SLOTS : Fld := ⟨0x10130, 0, 8⟩
abbrev ALP_SHORT_CNT.CNT : Fld := ⟨0x10134, 0, 32⟩
abbrev ALP_PATH.PORTS (i : Nat) : Fld := ⟨0x10200 + 0x4 * i, 0, 24⟩
abbrev ALP_PATH.SETTLE (i : Nat) : Fld := ⟨0x10200 + 0x4 * i, 24, 8⟩
abbrev ALP_GROUP.PORTS (i : Nat) : Fld := ⟨0x10300 + 0x4 * i, 0, 24⟩
abbrev LCH_TX_CFG.OFS : Fld := ⟨0x18000, 0, 8⟩
abbrev LCH_TX_CFG.COPIES : Fld := ⟨0x18000, 8, 1⟩
abbrev LCH_TX_CFG.COPY_GAP : Fld := ⟨0x18000, 16, 8⟩
abbrev LCH_EP_CFG.HOLD : Fld := ⟨0x18004, 0, 8⟩
abbrev LCH_EP_CFG.RAMP : Fld := ⟨0x18004, 8, 8⟩
abbrev LCH_EP_CFG.CLAIM_WIN : Fld := ⟨0x18004, 16, 8⟩
abbrev LCH_CAN_CFG.DIV : Fld := ⟨0x18008, 0, 5⟩
abbrev LCH_CAN_CFG.GUARD : Fld := ⟨0x18008, 8, 8⟩
abbrev LCH_CAN_CFG.HOLD : Fld := ⟨0x18008, 16, 8⟩
abbrev LCH_FOLLOW.LANES : Fld := ⟨0x18010, 0, 12⟩
abbrev LCH_FOLLOW_SLOW.SLOTS : Fld := ⟨0x18014, 0, 16⟩
abbrev LCH_HIGHER.LANES : Fld := ⟨0x18018, 0, 12⟩
abbrev LCH_HIGHER.SLOW : Fld := ⟨0x18018, 16, 1⟩
abbrev LCH_CNT_LATE.CNT : Fld := ⟨0x18020, 0, 32⟩
abbrev LCH_CNT_EPMISS.CNT : Fld := ⟨0x18024, 0, 32⟩
abbrev LCH_CLR.COUNTS : Fld := ⟨0x18028, 0, 1⟩
abbrev LCH_DELAY.DELAY (i : Nat) : Fld := ⟨0x18040 + 0x4 * i, 0, 24⟩
abbrev LCH_DELAY.AGE (i : Nat) : Fld := ⟨0x18040 + 0x4 * i, 24, 8⟩
abbrev LCH_CAN_SLOT.EN (i : Nat) : Fld := ⟨0x18100 + 0x4 * i, 0, 1⟩
abbrev LCH_CAN_SLOT.CTRL (i : Nat) : Fld := ⟨0x18100 + 0x4 * i, 1, 1⟩
abbrev LCH_CAN_SLOT.TX_OBJ (i : Nat) : Fld := ⟨0x18100 + 0x4 * i, 4, 7⟩
abbrev LCH_CAN_SLOT.RX_OBJ (i : Nat) : Fld := ⟨0x18100 + 0x4 * i, 11, 7⟩
abbrev CLC_CTL.LP (i : Nat) : Fld := ⟨0x20000 + 0x40 * i, 0, 2⟩
abbrev CLC_CTL.RETRAIN (i : Nat) : Fld := ⟨0x20000 + 0x40 * i, 2, 1⟩
abbrev CLC_CTL.INV_AUTO (i : Nat) : Fld := ⟨0x20000 + 0x40 * i, 3, 1⟩
abbrev CLC_STAT.STATE (i : Nat) : Fld := ⟨0x20004 + 0x40 * i, 0, 4⟩
abbrev CLC_STAT.POL_INV (i : Nat) : Fld := ⟨0x20004 + 0x40 * i, 4, 1⟩
abbrev CLC_STAT.BACKOFF (i : Nat) : Fld := ⟨0x20004 + 0x40 * i, 5, 1⟩
abbrev CLC_STAT.RETRIES (i : Nat) : Fld := ⟨0x20004 + 0x40 * i, 8, 8⟩
abbrev CLC_TXEQ.PRE (i : Nat) : Fld := ⟨0x20008 + 0x40 * i, 0, 5⟩
abbrev CLC_TXEQ.MAIN (i : Nat) : Fld := ⟨0x20008 + 0x40 * i, 8, 5⟩
abbrev CLC_TXEQ.POST (i : Nat) : Fld := ⟨0x20008 + 0x40 * i, 16, 5⟩
abbrev CLC_ERR.CRC_CNT (i : Nat) : Fld := ⟨0x2000C + 0x40 * i, 0, 16⟩
abbrev CLC_ERR.LOST_CNT (i : Nat) : Fld := ⟨0x2000C + 0x40 * i, 16, 16⟩
abbrev CLC_ERR2.UNK_CNT (i : Nat) : Fld := ⟨0x20010 + 0x40 * i, 0, 16⟩
abbrev CLC_ERR2.LOCK_CNT (i : Nat) : Fld := ⟨0x20010 + 0x40 * i, 16, 16⟩
abbrev CLC_CAPS0.ROLE (i : Nat) : Fld := ⟨0x20014 + 0x40 * i, 0, 8⟩
abbrev CLC_CAPS0.SLOTS (i : Nat) : Fld := ⟨0x20014 + 0x40 * i, 8, 8⟩
abbrev CLC_CAPS0.FEATURES (i : Nat) : Fld := ⟨0x20014 + 0x40 * i, 16, 8⟩
abbrev CLC_CAPS0.PORT_ID (i : Nat) : Fld := ⟨0x20014 + 0x40 * i, 24, 8⟩
abbrev CLC_CAPS1.MAKER (i : Nat) : Fld := ⟨0x20018 + 0x40 * i, 0, 16⟩
abbrev CLC_CAPS1.MAX_PAYLOAD (i : Nat) : Fld := ⟨0x20018 + 0x40 * i, 16, 16⟩
abbrev CLC_CAPS2.SERIAL (i : Nat) : Fld := ⟨0x2001C + 0x40 * i, 0, 32⟩
abbrev CLC_RXEQ.CTLE (i : Nat) : Fld := ⟨0x20020 + 0x40 * i, 0, 8⟩
abbrev CLC_RXEQ.DFE (i : Nat) : Fld := ⟨0x20020 + 0x40 * i, 8, 24⟩
abbrev CLC_CFG.ERR_LIMIT : Fld := ⟨0x20400, 0, 8⟩
abbrev CLC_CFG.LOSS_TIME : Fld := ⟨0x20400, 8, 12⟩
abbrev CLC_CLR.COUNTS : Fld := ⟨0x20404, 0, 1⟩
abbrev CLC_UP.ACTIVE : Fld := ⟨0x20408, 0, 12⟩
abbrev DLC_CTL.LP (i : Nat) : Fld := ⟨0x28000 + 0x40 * i, 0, 2⟩
abbrev DLC_CTL.RETRAIN (i : Nat) : Fld := ⟨0x28000 + 0x40 * i, 2, 1⟩
abbrev DLC_CTL.INV_AUTO (i : Nat) : Fld := ⟨0x28000 + 0x40 * i, 3, 1⟩
abbrev DLC_STAT.STATE (i : Nat) : Fld := ⟨0x28004 + 0x40 * i, 0, 4⟩
abbrev DLC_STAT.POL_INV (i : Nat) : Fld := ⟨0x28004 + 0x40 * i, 4, 1⟩
abbrev DLC_STAT.BACKOFF (i : Nat) : Fld := ⟨0x28004 + 0x40 * i, 5, 1⟩
abbrev DLC_STAT.RETRIES (i : Nat) : Fld := ⟨0x28004 + 0x40 * i, 8, 8⟩
abbrev DLC_TXEQ.PRE (i : Nat) : Fld := ⟨0x28008 + 0x40 * i, 0, 5⟩
abbrev DLC_TXEQ.MAIN (i : Nat) : Fld := ⟨0x28008 + 0x40 * i, 8, 5⟩
abbrev DLC_TXEQ.POST (i : Nat) : Fld := ⟨0x28008 + 0x40 * i, 16, 5⟩
abbrev DLC_ERR.CRC_CNT (i : Nat) : Fld := ⟨0x2800C + 0x40 * i, 0, 16⟩
abbrev DLC_ERR.LOST_CNT (i : Nat) : Fld := ⟨0x2800C + 0x40 * i, 16, 16⟩
abbrev DLC_ERR2.UNK_CNT (i : Nat) : Fld := ⟨0x28010 + 0x40 * i, 0, 16⟩
abbrev DLC_ERR2.LOCK_CNT (i : Nat) : Fld := ⟨0x28010 + 0x40 * i, 16, 16⟩
abbrev DLC_CAPS0.ROLE (i : Nat) : Fld := ⟨0x28014 + 0x40 * i, 0, 8⟩
abbrev DLC_CAPS0.SLOTS (i : Nat) : Fld := ⟨0x28014 + 0x40 * i, 8, 8⟩
abbrev DLC_CAPS0.FEATURES (i : Nat) : Fld := ⟨0x28014 + 0x40 * i, 16, 8⟩
abbrev DLC_CAPS0.PORT_ID (i : Nat) : Fld := ⟨0x28014 + 0x40 * i, 24, 8⟩
abbrev DLC_CAPS1.MAKER (i : Nat) : Fld := ⟨0x28018 + 0x40 * i, 0, 16⟩
abbrev DLC_CAPS1.MAX_PAYLOAD (i : Nat) : Fld := ⟨0x28018 + 0x40 * i, 16, 16⟩
abbrev DLC_CAPS2.SERIAL (i : Nat) : Fld := ⟨0x2801C + 0x40 * i, 0, 32⟩
abbrev DLC_RXEQ.CTLE (i : Nat) : Fld := ⟨0x28020 + 0x40 * i, 0, 8⟩
abbrev DLC_RXEQ.DFE (i : Nat) : Fld := ⟨0x28020 + 0x40 * i, 8, 24⟩
abbrev DLC_CFG.ERR_LIMIT : Fld := ⟨0x28400, 0, 8⟩
abbrev DLC_CFG.LOSS_TIME : Fld := ⟨0x28400, 8, 12⟩
abbrev DLC_CLR.COUNTS : Fld := ⟨0x28404, 0, 1⟩
abbrev DLC_YOKE_STAT.UP : Fld := ⟨0x28408, 0, 2⟩
abbrev DLC_YOKE_STAT.DEGRADED : Fld := ⟨0x28408, 2, 1⟩
abbrev DLC_YOKE_STAT.LOST : Fld := ⟨0x28408, 3, 1⟩
abbrev DLC_YOKE_STAT.YSEQ_GAP : Fld := ⟨0x28408, 16, 16⟩
abbrev DLC_DELAY.DELAY (i : Nat) : Fld := ⟨0x28410 + 0x4 * i, 0, 24⟩
abbrev CCE_CFG.PERIOD : Fld := ⟨0x30000, 0, 19⟩
abbrev CCE_DEAD.DEAD_ON : Fld := ⟨0x30004, 0, 16⟩
abbrev CCE_DEAD.DEAD_OFF : Fld := ⟨0x30004, 16, 16⟩
abbrev CCE_SKIM_CFG.SKIM_WIN : Fld := ⟨0x30008, 0, 8⟩
abbrev CCE_SKIM_CFG.SKIM_TARGET : Fld := ⟨0x30008, 8, 8⟩
abbrev CCE_SKIM_CFG.SKIM_HOLD : Fld := ⟨0x30008, 16, 16⟩
abbrev CCE_SS_CFG.SS_TIME : Fld := ⟨0x3000C, 0, 16⟩
abbrev CCE_SS_CFG.SS_RETRIES : Fld := ⟨0x3000C, 16, 4⟩
abbrev CCE_SS_RETRY.SS_RETRY_DELAY : Fld := ⟨0x30010, 0, 16⟩
abbrev CCE_PULSE.MIN_PULSE : Fld := ⟨0x30014, 0, 12⟩
abbrev CCE_PULSE.DMIN : Fld := ⟨0x30014, 16, 8⟩
abbrev CCE_PULSE.DMAX_MARGIN : Fld := ⟨0x30014, 24, 8⟩
abbrev CCE_CLR.PEAK : Fld := ⟨0x30018, 0, 1⟩
abbrev CCE_CLR.COUNTS : Fld := ⟨0x30018, 1, 1⟩
abbrev CCE_STAT.RUNNING : Fld := ⟨0x3001C, 0, 4⟩
abbrev CCE_STAT.LATCHED : Fld := ⟨0x3001C, 4, 4⟩
abbrev CCE_STAT.ALL_OFF : Fld := ⟨0x3001C, 8, 1⟩
abbrev CCE_CONV.EN (i : Nat) : Fld := ⟨0x30100 + 0x80 * i, 0, 1⟩
abbrev CCE_CONV.FIRST (i : Nat) : Fld := ⟨0x30100 + 0x80 * i, 1, 5⟩
abbrev CCE_CONV.COUNT (i : Nat) : Fld := ⟨0x30100 + 0x80 * i, 6, 6⟩
abbrev CCE_CONV.SKIM_MIN (i : Nat) : Fld := ⟨0x30100 + 0x80 * i, 12, 6⟩
abbrev CCE_CONV.SKIM_EN (i : Nat) : Fld := ⟨0x30100 + 0x80 * i, 18, 1⟩
abbrev CCE_IN.IN_I (i : Nat) : Fld := ⟨0x30104 + 0x80 * i, 0, 6⟩
abbrev CCE_IN.IN_BUS (i : Nat) : Fld := ⟨0x30104 + 0x80 * i, 8, 6⟩
abbrev CCE_IN.IN_BAT (i : Nat) : Fld := ⟨0x30104 + 0x80 * i, 16, 6⟩
abbrev CCE_P_RATED.P_RATED (i : Nat) : Fld := ⟨0x30108 + 0x80 * i, 0, 32⟩
abbrev CCE_I_RATED.I_RATED (i : Nat) : Fld := ⟨0x3010C + 0x80 * i, 0, 16⟩
abbrev CCE_VLIM.VLIM (i : Nat) : Fld := ⟨0x30110 + 0x80 * i, 0, 32⟩
abbrev CCE_SS_TGT.SS_TGT (i : Nat) : Fld := ⟨0x30114 + 0x80 * i, 0, 32⟩
abbrev CCE_FF.FF_GAIN (i : Nat) : Fld := ⟨0x30118 + 0x80 * i, 0, 16⟩
abbrev CCE_FF.VLIM_GAIN (i : Nat) : Fld := ⟨0x30118 + 0x80 * i, 16, 16⟩
abbrev CCE_LSTEP.LSTEP (i : Nat) : Fld := ⟨0x3011C + 0x80 * i, 0, 16⟩
abbrev CCE_B0.B0 (i : Nat) : Fld := ⟨0x30120 + 0x80 * i, 0, 32⟩
abbrev CCE_B1.B1 (i : Nat) : Fld := ⟨0x30124 + 0x80 * i, 0, 32⟩
abbrev CCE_B2.B2 (i : Nat) : Fld := ⟨0x30128 + 0x80 * i, 0, 32⟩
abbrev CCE_B3.B3 (i : Nat) : Fld := ⟨0x3012C + 0x80 * i, 0, 32⟩
abbrev CCE_A1.A1 (i : Nat) : Fld := ⟨0x30130 + 0x80 * i, 0, 32⟩
abbrev CCE_A2.A2 (i : Nat) : Fld := ⟨0x30134 + 0x80 * i, 0, 32⟩
abbrev CCE_A3.A3 (i : Nat) : Fld := ⟨0x30138 + 0x80 * i, 0, 32⟩
abbrev CCE_TEMP.CH0 (i : Nat) : Fld := ⟨0x3013C + 0x80 * i, 0, 7⟩
abbrev CCE_TEMP.CH1 (i : Nat) : Fld := ⟨0x3013C + 0x80 * i, 8, 7⟩
abbrev CCE_TEMP.CH2 (i : Nat) : Fld := ⟨0x3013C + 0x80 * i, 16, 7⟩
abbrev CCE_TEMP.CH3 (i : Nat) : Fld := ⟨0x3013C + 0x80 * i, 24, 7⟩
abbrev CCE_TEMP_LIM.WARN (i : Nat) : Fld := ⟨0x30140 + 0x80 * i, 0, 12⟩
abbrev CCE_TEMP_LIM.SHUT (i : Nat) : Fld := ⟨0x30140 + 0x80 * i, 12, 12⟩
abbrev CCE_TEMP_LIM.HYST (i : Nat) : Fld := ⟨0x30140 + 0x80 * i, 24, 8⟩
abbrev CCE_CTL.CONNECT (i : Nat) : Fld := ⟨0x30144 + 0x80 * i, 0, 1⟩
abbrev CCE_CTL.UNLATCH (i : Nat) : Fld := ⟨0x30144 + 0x80 * i, 1, 1⟩
abbrev CCE_STAT.STATE (i : Nat) : Fld := ⟨0x30148 + 0x80 * i, 0, 2⟩
abbrev CCE_STAT.PHASES (i : Nat) : Fld := ⟨0x30148 + 0x80 * i, 2, 6⟩
abbrev CCE_STAT.READY (i : Nat) : Fld := ⟨0x30148 + 0x80 * i, 8, 1⟩
abbrev CCE_STAT.SKIM_LOCK (i : Nat) : Fld := ⟨0x30148 + 0x80 * i, 9, 1⟩
abbrev CCE_STAT.LSTEP (i : Nat) : Fld := ⟨0x30148 + 0x80 * i, 10, 1⟩
abbrev CCE_STAT.TEMP_OFF (i : Nat) : Fld := ⟨0x30148 + 0x80 * i, 11, 1⟩
abbrev CCE_STAT.BAT_EST (i : Nat) : Fld := ⟨0x30148 + 0x80 * i, 12, 1⟩
abbrev CCE_STAT.HOLD_REASON (i : Nat) : Fld := ⟨0x30148 + 0x80 * i, 13, 3⟩
abbrev CCE_STAT.RETRIES (i : Nat) : Fld := ⟨0x30148 + 0x80 * i, 16, 4⟩
abbrev CCE_AVG_I.BAT_I (i : Nat) : Fld := ⟨0x3014C + 0x80 * i, 0, 32⟩
abbrev CCE_AVG_BAT.BAT_V (i : Nat) : Fld := ⟨0x30150 + 0x80 * i, 0, 32⟩
abbrev CCE_AVG_BUS.BUS_V (i : Nat) : Fld := ⟨0x30154 + 0x80 * i, 0, 32⟩
abbrev CCE_AVG_P.P (i : Nat) : Fld := ⟨0x30158 + 0x80 * i, 0, 32⟩
abbrev CCE_AVG_DUTY.DUTY (i : Nat) : Fld := ⟨0x3015C + 0x80 * i, 0, 16⟩
abbrev CCE_AVG_DUTY.CBC_TICK (i : Nat) : Fld := ⟨0x3015C + 0x80 * i, 16, 16⟩
abbrev CCE_PEAK_I.PEAK_I (i : Nat) : Fld := ⟨0x30160 + 0x80 * i, 0, 32⟩
abbrev CCE_PEAK_BUS.MAX (i : Nat) : Fld := ⟨0x30164 + 0x80 * i, 0, 16⟩
abbrev CCE_PEAK_BUS.MIN (i : Nat) : Fld := ⟨0x30164 + 0x80 * i, 16, 16⟩
abbrev CCE_CBC_CNT.CNT (i : Nat) : Fld := ⟨0x30168 + 0x80 * i, 0, 32⟩
abbrev CCE_SKIM_CNT.DONE (i : Nat) : Fld := ⟨0x3016C + 0x80 * i, 0, 16⟩
abbrev CCE_SKIM_CNT.ABORT (i : Nat) : Fld := ⟨0x3016C + 0x80 * i, 16, 16⟩
abbrev MTE_CFG.CLK_EN : Fld := ⟨0x38000, 0, 8⟩
abbrev MTE_CFG.INT_LEN : Fld := ⟨0x38000, 16, 12⟩
abbrev MTE_INT_ORIGIN_LO.ORG_LO : Fld := ⟨0x38004, 0, 32⟩
abbrev MTE_INT_ORIGIN_HI.ORG_HI : Fld := ⟨0x38008, 0, 32⟩
abbrev MTE_CKPT.PERIOD : Fld := ⟨0x3800C, 0, 8⟩
abbrev MTE_FAULT0.CH_LO : Fld := ⟨0x38010, 0, 32⟩
abbrev MTE_FAULT1.CH_MID : Fld := ⟨0x38014, 0, 32⟩
abbrev MTE_FAULT2.CH_HI : Fld := ⟨0x38018, 0, 8⟩
abbrev MTE_OVR0.CH_LO : Fld := ⟨0x3801C, 0, 32⟩
abbrev MTE_OVR1.CH_MID : Fld := ⟨0x38020, 0, 32⟩
abbrev MTE_OVR2.CH_HI : Fld := ⟨0x38024, 0, 8⟩
abbrev MTE_CAL_ID.ID : Fld := ⟨0x38028, 0, 32⟩
abbrev MTE_CAL_DIGEST.DIGEST : Fld := ⟨0x3802C, 0, 32⟩
abbrev MTE_ROLL_STAT.WRAP_IMP (i : Nat) : Fld := ⟨0x38100 + 0x20 * i, 0, 8⟩
abbrev MTE_ROLL_STAT.WRAP_EXP (i : Nat) : Fld := ⟨0x38100 + 0x20 * i, 8, 8⟩
abbrev MTE_ROLL_STAT.ROLL_LAPPED (i : Nat) : Fld := ⟨0x38100 + 0x20 * i, 16, 2⟩
abbrev MTE_ROLL_IMP.ROLL (i : Nat) : Fld := ⟨0x38104 + 0x20 * i, 0, 32⟩
abbrev MTE_ROLL_EXP.ROLL (i : Nat) : Fld := ⟨0x38108 + 0x20 * i, 0, 32⟩
abbrev MTE_ACC_IMP_LO.ACC (i : Nat) : Fld := ⟨0x3810C + 0x20 * i, 0, 32⟩
abbrev MTE_ACC_IMP_HI.ACC (i : Nat) : Fld := ⟨0x38110 + 0x20 * i, 0, 32⟩
abbrev MTE_ACC_EXP_LO.ACC (i : Nat) : Fld := ⟨0x38114 + 0x20 * i, 0, 32⟩
abbrev MTE_ACC_EXP_HI.ACC (i : Nat) : Fld := ⟨0x38118 + 0x20 * i, 0, 32⟩
abbrev MTE_PORT_STAT.REV (i : Nat) : Fld := ⟨0x3811C + 0x20 * i, 0, 16⟩
abbrev MTE_PORT_STAT.FAULT (i : Nat) : Fld := ⟨0x3811C + 0x20 * i, 16, 1⟩
abbrev MTE_PORT_STAT.OVR (i : Nat) : Fld := ⟨0x3811C + 0x20 * i, 17, 1⟩
abbrev MTE_AC_CFG.NOM_60 (i : Nat) : Fld := ⟨0x38400 + 0x100 * i, 0, 1⟩
abbrev MTE_AC_CFG.VN_FIT (i : Nat) : Fld := ⟨0x38400 + 0x100 * i, 1, 1⟩
abbrev MTE_AC_CFG.PAVG (i : Nat) : Fld := ⟨0x38400 + 0x100 * i, 16, 8⟩
abbrev MTE_AC_VNOM.VNOM (i : Nat) : Fld := ⟨0x38404 + 0x100 * i, 0, 32⟩
abbrev MTE_AC_THR.DIP_PCT (i : Nat) : Fld := ⟨0x38408 + 0x100 * i, 0, 8⟩
abbrev MTE_AC_THR.SWELL_PCT (i : Nat) : Fld := ⟨0x38408 + 0x100 * i, 8, 8⟩
abbrev MTE_AC_THR.MN_PCT (i : Nat) : Fld := ⟨0x38408 + 0x100 * i, 16, 8⟩
abbrev MTE_AC_THR.SEQ_TOL (i : Nat) : Fld := ⟨0x38408 + 0x100 * i, 24, 8⟩
abbrev MTE_AC_FTHR.F_DEV (i : Nat) : Fld := ⟨0x3840C + 0x100 * i, 0, 16⟩
abbrev MTE_AC_STAT.SEQ (i : Nat) : Fld := ⟨0x38410 + 0x100 * i, 0, 2⟩
abbrev MTE_AC_STAT.NEUTRAL (i : Nat) : Fld := ⟨0x38410 + 0x100 * i, 2, 1⟩
abbrev MTE_AC_STAT.LOSS (i : Nat) : Fld := ⟨0x38410 + 0x100 * i, 3, 3⟩
abbrev MTE_AC_STAT.DIP (i : Nat) : Fld := ⟨0x38410 + 0x100 * i, 6, 1⟩
abbrev MTE_AC_STAT.SWELL (i : Nat) : Fld := ⟨0x38410 + 0x100 * i, 7, 1⟩
abbrev MTE_AC_STAT.FREQ (i : Nat) : Fld := ⟨0x38410 + 0x100 * i, 8, 1⟩
abbrev MTE_AC_STAT.WIN (i : Nat) : Fld := ⟨0x38410 + 0x100 * i, 16, 16⟩
abbrev MTE_AC_RMS0.RMS (i : Nat) : Fld := ⟨0x38414 + 0x100 * i, 0, 32⟩
abbrev MTE_AC_RMS1.RMS (i : Nat) : Fld := ⟨0x38418 + 0x100 * i, 0, 32⟩
abbrev MTE_AC_RMS2.RMS (i : Nat) : Fld := ⟨0x3841C + 0x100 * i, 0, 32⟩
abbrev MTE_AC_RMS3.RMS (i : Nat) : Fld := ⟨0x38420 + 0x100 * i, 0, 32⟩
abbrev MTE_AC_RMS4.RMS (i : Nat) : Fld := ⟨0x38424 + 0x100 * i, 0, 32⟩
abbrev MTE_AC_RMS5.RMS (i : Nat) : Fld := ⟨0x38428 + 0x100 * i, 0, 32⟩
abbrev MTE_AC_RMS6.RMS (i : Nat) : Fld := ⟨0x3842C + 0x100 * i, 0, 32⟩
abbrev MTE_AC_RMS7.RMS (i : Nat) : Fld := ⟨0x38430 + 0x100 * i, 0, 32⟩
abbrev MTE_AC_P1.P (i : Nat) : Fld := ⟨0x38434 + 0x100 * i, 0, 32⟩
abbrev MTE_AC_P2.P (i : Nat) : Fld := ⟨0x38438 + 0x100 * i, 0, 32⟩
abbrev MTE_AC_P3.P (i : Nat) : Fld := ⟨0x3843C + 0x100 * i, 0, 32⟩
abbrev MTE_AC_PT.P (i : Nat) : Fld := ⟨0x38440 + 0x100 * i, 0, 32⟩
abbrev MTE_AC_Q.Q (i : Nat) : Fld := ⟨0x38444 + 0x100 * i, 0, 32⟩
abbrev MTE_AC_S.S (i : Nat) : Fld := ⟨0x38448 + 0x100 * i, 0, 32⟩
abbrev MTE_AC_PF.PF (i : Nat) : Fld := ⟨0x3844C + 0x100 * i, 0, 16⟩
abbrev MTE_AC_FREQ.F (i : Nat) : Fld := ⟨0x38450 + 0x100 * i, 0, 24⟩
abbrev MTE_AC_FREQ10.F (i : Nat) : Fld := ⟨0x38454 + 0x100 * i, 0, 24⟩
abbrev MTE_AC_ANG_V.V2 (i : Nat) : Fld := ⟨0x38458 + 0x100 * i, 0, 16⟩
abbrev MTE_AC_ANG_V.V3 (i : Nat) : Fld := ⟨0x38458 + 0x100 * i, 16, 16⟩
abbrev MTE_AC_ANG_I.I1 (i : Nat) : Fld := ⟨0x3845C + 0x100 * i, 0, 16⟩
abbrev MTE_AC_ANG_I.I2 (i : Nat) : Fld := ⟨0x3845C + 0x100 * i, 16, 16⟩
abbrev MTE_AC_ANG_I3.I3 (i : Nat) : Fld := ⟨0x38460 + 0x100 * i, 0, 16⟩
abbrev MTE_AC_ROLL_STAT.WRAP_IMP (i : Nat) : Fld := ⟨0x38464 + 0x100 * i, 0, 8⟩
abbrev MTE_AC_ROLL_STAT.WRAP_EXP (i : Nat) : Fld := ⟨0x38464 + 0x100 * i, 8, 8⟩
abbrev MTE_AC_ROLL_STAT.ROLL_LAPPED (i : Nat) : Fld := ⟨0x38464 + 0x100 * i, 16, 2⟩
abbrev MTE_AC_ROLL_IMP.ROLL (i : Nat) : Fld := ⟨0x38468 + 0x100 * i, 0, 32⟩
abbrev MTE_AC_ROLL_EXP.ROLL (i : Nat) : Fld := ⟨0x3846C + 0x100 * i, 0, 32⟩
abbrev MTE_AC_ACC_IMP_LO.ACC (i : Nat) : Fld := ⟨0x38470 + 0x100 * i, 0, 32⟩
abbrev MTE_AC_ACC_IMP_HI.ACC (i : Nat) : Fld := ⟨0x38474 + 0x100 * i, 0, 32⟩
abbrev MTE_AC_ACC_EXP_LO.ACC (i : Nat) : Fld := ⟨0x38478 + 0x100 * i, 0, 32⟩
abbrev MTE_AC_ACC_EXP_HI.ACC (i : Nat) : Fld := ⟨0x3847C + 0x100 * i, 0, 32⟩
abbrev MTE_CH_CFG.EN (i : Nat) : Fld := ⟨0x39000 + 0x10 * i, 0, 1⟩
abbrev MTE_CH_CFG.KIND (i : Nat) : Fld := ⟨0x39000 + 0x10 * i, 1, 1⟩
abbrev MTE_CH_CFG.INV (i : Nat) : Fld := ⟨0x39000 + 0x10 * i, 2, 1⟩
abbrev MTE_CH_CFG.NSEG (i : Nat) : Fld := ⟨0x39000 + 0x10 * i, 8, 5⟩
abbrev MTE_CH_SCALE.SCALE (i : Nat) : Fld := ⟨0x39004 + 0x10 * i, 0, 32⟩
abbrev MTE_CH_OFFSET.OFFSET (i : Nat) : Fld := ⟨0x39008 + 0x10 * i, 0, 32⟩
abbrev MTE_CH_VAL.VAL (i : Nat) : Fld := ⟨0x3900C + 0x10 * i, 0, 32⟩
abbrev MTE_SEG_X.X (i j : Nat) : Fld := ⟨0x3A000 + 0x100 * i + 0x10 * j, 0, 32⟩
abbrev MTE_SEG_GAIN.GAIN (i j : Nat) : Fld := ⟨0x3A004 + 0x100 * i + 0x10 * j, 0, 32⟩
abbrev MTE_SEG_DLY.DLY (i j : Nat) : Fld := ⟨0x3A008 + 0x100 * i + 0x10 * j, 0, 16⟩
abbrev RSL_JRNL_CFG.RESERVE : Fld := ⟨0x40000, 0, 16⟩
abbrev RSL_JRNL_CFG.WARN_PCT : Fld := ⟨0x40000, 16, 8⟩
abbrev RSL_JRNL_STAT.USED : Fld := ⟨0x40004, 0, 16⟩
abbrev RSL_JRNL_STAT.WARN : Fld := ⟨0x40004, 16, 1⟩
abbrev RSL_JRNL_STAT.LOW : Fld := ⟨0x40004, 17, 1⟩
abbrev RSL_JRNL_STAT.FULL : Fld := ⟨0x40004, 18, 1⟩
abbrev RSL_JRNL_STAT.WAITING : Fld := ⟨0x40004, 24, 8⟩
abbrev RSL_JPOS_NEXT_LO.POS : Fld := ⟨0x40008, 0, 32⟩
abbrev RSL_JPOS_NEXT_HI.POS : Fld := ⟨0x4000C, 0, 32⟩
abbrev RSL_JPOS_ACK_LO.POS : Fld := ⟨0x40010, 0, 32⟩
abbrev RSL_JPOS_ACK_HI.POS : Fld := ⟨0x40014, 0, 32⟩
abbrev RSL_JPOS_EXP_LO.POS : Fld := ⟨0x40018, 0, 32⟩
abbrev RSL_JPOS_EXP_HI.POS : Fld := ⟨0x4001C, 0, 32⟩
abbrev RSL_FMT.FORMAT : Fld := ⟨0x40020, 0, 16⟩
abbrev RSL_FMT.VERSION : Fld := ⟨0x40020, 16, 8⟩
abbrev KVT_STAT.ROOT_OK : Fld := ⟨0x40100, 0, 1⟩
abbrev KVT_STAT.ENROLLED : Fld := ⟨0x40100, 1, 1⟩
abbrev KVT_STAT.METER_LOADED : Fld := ⟨0x40100, 2, 1⟩
abbrev KVT_STAT.ROLL_PENDING : Fld := ⟨0x40100, 3, 1⟩
abbrev KVT_STAT.UNBOUND : Fld := ⟨0x40100, 4, 1⟩
abbrev KVT_STAT.ROOT_TRIES : Fld := ⟨0x40100, 8, 4⟩
abbrev KVT_STAT.GEN : Fld := ⟨0x40100, 16, 16⟩
abbrev KVT_PEND.GEN : Fld := ⟨0x40104, 0, 16⟩
abbrev KVT_MEAS.MEAS (i : Nat) : Fld := ⟨0x40110 + 0x4 * i, 0, 32⟩
abbrev KVT_ID_HASH.HASH (i : Nat) : Fld := ⟨0x40140 + 0x4 * i, 0, 32⟩
abbrev SEE_STAT.ADOPT : Fld := ⟨0x48000, 0, 3⟩
abbrev SEE_GEN.GEN : Fld := ⟨0x48004, 0, 32⟩
abbrev SEE_COMMIT.BUF : Fld := ⟨0x48008, 0, 1⟩
abbrev SEE_COMMIT.KEY : Fld := ⟨0x48008, 8, 24⟩
abbrev SEE_BUF_A_LO.ADDR : Fld := ⟨0x48010, 0, 32⟩
abbrev SEE_BUF_A_HI.ADDR : Fld := ⟨0x48014, 0, 32⟩
abbrev SEE_BUF_B_LO.ADDR : Fld := ⟨0x48018, 0, 32⟩
abbrev SEE_BUF_B_HI.ADDR : Fld := ⟨0x4801C, 0, 32⟩
abbrev SEE_RES_CFG.RES_PCT : Fld := ⟨0x48020, 0, 16⟩
abbrev SEE_RES_CFG.U_MAX : Fld := ⟨0x48020, 16, 16⟩
abbrev SEE_UNC_CFG.U_WARN : Fld := ⟨0x48024, 0, 16⟩
abbrev SEE_UNC_CFG.U_GAP : Fld := ⟨0x48024, 16, 16⟩
abbrev SEE_ERR_CFG.SHUNT_OFS : Fld := ⟨0x48028, 0, 16⟩
abbrev SEE_ERR_CFG.SCALE_ERR : Fld := ⟨0x48028, 16, 16⟩
abbrev SEE_REST_CFG.I_REST : Fld := ⟨0x4802C, 0, 16⟩
abbrev SEE_REST_CFG.T_REST : Fld := ⟨0x4802C, 16, 16⟩
abbrev SEE_EOC_CFG.I_EOC : Fld := ⟨0x48030, 0, 16⟩
abbrev SEE_EOC_CFG.T_EOC : Fld := ⟨0x48030, 16, 8⟩
abbrev SEE_REF_CFG.U_REF_REST : Fld := ⟨0x48034, 0, 16⟩
abbrev SEE_REF_CFG.U_REF_EOC : Fld := ⟨0x48034, 16, 16⟩
abbrev SEE_AUTH_CFG.AUTH_PERIOD : Fld := ⟨0x48038, 0, 16⟩
abbrev SEE_AUTH_CFG.AUTH_TMO : Fld := ⟨0x48038, 16, 8⟩
abbrev SEE_AUTH_CFG.AUTH_RETRIES : Fld := ⟨0x48038, 24, 4⟩
abbrev SEE_BMU_CFG.BMU_AGE : Fld := ⟨0x4803C, 0, 16⟩
abbrev SEE_BMU_CFG.EOC_RELEASE : Fld := ⟨0x4803C, 16, 16⟩
abbrev SEE_CYC_CFG.NPTS : Fld := ⟨0x48040, 0, 5⟩
abbrev SEE_CYC.X (i : Nat) : Fld := ⟨0x48080 + 0x4 * i, 0, 16⟩
abbrev SEE_CYC.F (i : Nat) : Fld := ⟨0x48080 + 0x4 * i, 16, 16⟩
abbrev SEE_STR_CFG.CONV (i : Nat) : Fld := ⟨0x48100 + 0x40 * i, 0, 2⟩
abbrev SEE_DCAP.DESIGN_CAP (i : Nat) : Fld := ⟨0x48104 + 0x40 * i, 0, 32⟩
abbrev SEE_VNOM.VNOM (i : Nat) : Fld := ⟨0x48108 + 0x40 * i, 0, 32⟩
abbrev SEE_PMAX.PMAX (i : Nat) : Fld := ⟨0x4810C + 0x40 * i, 0, 32⟩
abbrev SEE_VEOC.V_EOC (i : Nat) : Fld := ⟨0x48110 + 0x40 * i, 0, 32⟩
abbrev SEE_VEOD.V_EOD (i : Nat) : Fld := ⟨0x48114 + 0x40 * i, 0, 32⟩
abbrev SEE_QSCALE.QSCALE (i : Nat) : Fld := ⟨0x48118 + 0x40 * i, 0, 32⟩
abbrev SEE_QOFS.QOFS (i : Nat) : Fld := ⟨0x4811C + 0x40 * i, 0, 32⟩
abbrev SEE_QGAIN.QGAIN (i : Nat) : Fld := ⟨0x48120 + 0x40 * i, 0, 32⟩
abbrev SEE_SOC.SOC (i : Nat) : Fld := ⟨0x48124 + 0x40 * i, 0, 16⟩
abbrev SEE_SOC.U (i : Nat) : Fld := ⟨0x48124 + 0x40 * i, 16, 16⟩
abbrev SEE_RES.R (i : Nat) : Fld := ⟨0x48128 + 0x40 * i, 0, 16⟩
abbrev SEE_RES.FLAGS (i : Nat) : Fld := ⟨0x48128 + 0x40 * i, 16, 8⟩
abbrev SEE_CYC_N.N (i : Nat) : Fld := ⟨0x4812C + 0x40 * i, 0, 32⟩
abbrev SEE_QC_LO.Q_C (i : Nat) : Fld := ⟨0x48130 + 0x40 * i, 0, 32⟩
abbrev SEE_QC_HI.Q_C (i : Nat) : Fld := ⟨0x48134 + 0x40 * i, 0, 32⟩
abbrev SEE_FEFF.F (i : Nat) : Fld := ⟨0x48138 + 0x40 * i, 0, 16⟩
abbrev PLU_CFG.TYPE (i : Nat) : Fld := ⟨0x50000 + 0x400 * i, 0, 1⟩
abbrev PLU_CFG.PLCA_EN (i : Nat) : Fld := ⟨0x50000 + 0x400 * i, 1, 1⟩
abbrev PLU_LIM_I.LIM_I (i : Nat) : Fld := ⟨0x50004 + 0x400 * i, 0, 32⟩
abbrev PLU_LIM_V.LIM_V (i : Nat) : Fld := ⟨0x50008 + 0x400 * i, 0, 32⟩
abbrev PLU_LIM_P.LIM_P (i : Nat) : Fld := ⟨0x5000C + 0x400 * i, 0, 32⟩
abbrev PLU_GUARD.PERIOD (i : Nat) : Fld := ⟨0x50010 + 0x400 * i, 0, 16⟩
abbrev PLU_GUARD.TOL (i : Nat) : Fld := ⟨0x50010 + 0x400 * i, 16, 16⟩
abbrev PLU_TMO.SESSION_TMO (i : Nat) : Fld := ⟨0x50014 + 0x400 * i, 0, 16⟩
abbrev PLU_CP_CTL.DUTY (i : Nat) : Fld := ⟨0x50018 + 0x400 * i, 0, 10⟩
abbrev PLU_CP_CTL.F (i : Nat) : Fld := ⟨0x50018 + 0x400 * i, 10, 1⟩
abbrev PLU_CP_STAT.STATE (i : Nat) : Fld := ⟨0x5001C + 0x400 * i, 0, 3⟩
abbrev PLU_CP_STAT.ARMED (i : Nat) : Fld := ⟨0x5001C + 0x400 * i, 3, 1⟩
abbrev PLU_CP_STAT.ASSOC (i : Nat) : Fld := ⟨0x5001C + 0x400 * i, 4, 1⟩
abbrev PLU_CP_STAT.LINK (i : Nat) : Fld := ⟨0x5001C + 0x400 * i, 5, 1⟩
abbrev PLU_CP_STAT.ROUNDS (i : Nat) : Fld := ⟨0x5001C + 0x400 * i, 8, 8⟩
abbrev PLU_CP_STAT.INV_CNT (i : Nat) : Fld := ⟨0x5001C + 0x400 * i, 16, 16⟩
abbrev PLU_CP_LVL.HIGH (i : Nat) : Fld := ⟨0x50020 + 0x400 * i, 0, 16⟩
abbrev PLU_CP_LVL.LOW (i : Nat) : Fld := ⟨0x50020 + 0x400 * i, 16, 16⟩
abbrev PLU_SESS.SESSION (i : Nat) : Fld := ⟨0x50024 + 0x400 * i, 0, 2⟩
abbrev PLU_SESS.END_REASON (i : Nat) : Fld := ⟨0x50024 + 0x400 * i, 8, 8⟩
abbrev PLU_SESS.COOL_LEFT (i : Nat) : Fld := ⟨0x50024 + 0x400 * i, 16, 16⟩
abbrev PLU_SESS_ID.ID (i : Nat) : Fld := ⟨0x50028 + 0x400 * i, 0, 32⟩
abbrev PLU_VIOL.A_CNT (i : Nat) : Fld := ⟨0x5002C + 0x400 * i, 0, 16⟩
abbrev PLU_VIOL.B_WIN (i : Nat) : Fld := ⟨0x5002C + 0x400 * i, 16, 8⟩
abbrev PLU_VIOL.C_CNT (i : Nat) : Fld := ⟨0x5002C + 0x400 * i, 24, 8⟩
abbrev PLU_PLC_STAT.MODE (i : Nat) : Fld := ⟨0x50030 + 0x400 * i, 0, 2⟩
abbrev PLU_PLC_STAT.CCO (i : Nat) : Fld := ⟨0x50030 + 0x400 * i, 2, 1⟩
abbrev PLU_PLC_CFG.TXATTN (i : Nat) : Fld := ⟨0x50034 + 0x400 * i, 0, 7⟩
abbrev PLU_LINK_CNT.ERR (i : Nat) : Fld := ⟨0x50038 + 0x400 * i, 0, 16⟩
abbrev PLU_LINK_CNT.RETX (i : Nat) : Fld := ⟨0x50038 + 0x400 * i, 16, 16⟩
abbrev PLU_IMP_CNT.IMP (i : Nat) : Fld := ⟨0x5003C + 0x400 * i, 0, 16⟩
abbrev PLU_IMP_CNT.FALLBACK (i : Nat) : Fld := ⟨0x5003C + 0x400 * i, 16, 16⟩
abbrev PLU_T1S_CFG.NODE_CNT (i : Nat) : Fld := ⟨0x50040 + 0x400 * i, 0, 8⟩
abbrev PLU_T1S_CFG.TO_TIMER (i : Nat) : Fld := ⟨0x50040 + 0x400 * i, 8, 8⟩
abbrev PLU_T1S_CFG.BURST_CNT (i : Nat) : Fld := ⟨0x50040 + 0x400 * i, 16, 8⟩
abbrev PLU_T1S_CFG.BURST_TMR (i : Nat) : Fld := ⟨0x50040 + 0x400 * i, 24, 8⟩
abbrev PLU_MAC_LO.MAC_LO (i : Nat) : Fld := ⟨0x50044 + 0x400 * i, 0, 32⟩
abbrev PLU_MAC_HI.MAC_HI (i : Nat) : Fld := ⟨0x50048 + 0x400 * i, 0, 16⟩
abbrev PLU_RX_DROP.FRAMES (i : Nat) : Fld := ⟨0x5004C + 0x400 * i, 0, 16⟩
abbrev PLU_RX_DROP.NOTICES (i : Nat) : Fld := ⟨0x5004C + 0x400 * i, 16, 16⟩
abbrev PLU_CLR.COUNTS (i : Nat) : Fld := ⟨0x50050 + 0x400 * i, 0, 1⟩
abbrev PLU_GCFG.SLAC_MARGIN : Fld := ⟨0x57000, 0, 8⟩
abbrev PLU_GCFG.CP_DEB : Fld := ⟨0x57000, 8, 4⟩
abbrev PLU_GCFG.B_LIMIT : Fld := ⟨0x57000, 16, 8⟩
abbrev PLU_COOL_CFG.PORT_COOLOFF : Fld := ⟨0x57004, 0, 16⟩
abbrev PLU_CP_BAND_A.LO : Fld := ⟨0x57010, 0, 16⟩
abbrev PLU_CP_BAND_A.HI : Fld := ⟨0x57010, 16, 16⟩
abbrev PLU_CP_BAND_B.LO : Fld := ⟨0x57014, 0, 16⟩
abbrev PLU_CP_BAND_B.HI : Fld := ⟨0x57014, 16, 16⟩
abbrev PLU_CP_BAND_C.LO : Fld := ⟨0x57018, 0, 16⟩
abbrev PLU_CP_BAND_C.HI : Fld := ⟨0x57018, 16, 16⟩
abbrev PLU_CP_BAND_D.LO : Fld := ⟨0x5701C, 0, 16⟩
abbrev PLU_CP_BAND_D.HI : Fld := ⟨0x5701C, 16, 16⟩
abbrev PLU_CP_BAND_E.LO : Fld := ⟨0x57020, 0, 16⟩
abbrev PLU_CP_BAND_E.HI : Fld := ⟨0x57020, 16, 16⟩
abbrev PLU_CP_BAND_F.LO : Fld := ⟨0x57024, 0, 16⟩
abbrev PLU_CP_BAND_F.HI : Fld := ⟨0x57024, 16, 16⟩
abbrev PLU_CP_NEG.NEG_MAX : Fld := ⟨0x57028, 0, 16⟩
abbrev CAN_CTL.EN (i : Nat) : Fld := ⟨0x58000 + 0x1000 * i, 0, 1⟩
abbrev CAN_CTL.FD_EN (i : Nat) : Fld := ⟨0x58000 + 0x1000 * i, 1, 1⟩
abbrev CAN_CTL.TXMODE (i : Nat) : Fld := ⟨0x58000 + 0x1000 * i, 2, 1⟩
abbrev CAN_CTL.AUTO_REC (i : Nat) : Fld := ⟨0x58000 + 0x1000 * i, 3, 1⟩
abbrev CAN_CTL.REC_REQ (i : Nat) : Fld := ⟨0x58000 + 0x1000 * i, 4, 1⟩
abbrev CAN_CTL.SLEEP (i : Nat) : Fld := ⟨0x58000 + 0x1000 * i, 5, 1⟩
abbrev CAN_NBT.NBRP (i : Nat) : Fld := ⟨0x58004 + 0x1000 * i, 0, 8⟩
abbrev CAN_NBT.NTSEG1 (i : Nat) : Fld := ⟨0x58004 + 0x1000 * i, 8, 8⟩
abbrev CAN_NBT.NTSEG2 (i : Nat) : Fld := ⟨0x58004 + 0x1000 * i, 16, 7⟩
abbrev CAN_NBT.NSJW (i : Nat) : Fld := ⟨0x58004 + 0x1000 * i, 23, 7⟩
abbrev CAN_NBT.TRIPLE (i : Nat) : Fld := ⟨0x58004 + 0x1000 * i, 30, 1⟩
abbrev CAN_DBT.DBRP (i : Nat) : Fld := ⟨0x58008 + 0x1000 * i, 0, 5⟩
abbrev CAN_DBT.DTSEG1 (i : Nat) : Fld := ⟨0x58008 + 0x1000 * i, 8, 5⟩
abbrev CAN_DBT.DTSEG2 (i : Nat) : Fld := ⟨0x58008 + 0x1000 * i, 16, 4⟩
abbrev CAN_DBT.DSJW (i : Nat) : Fld := ⟨0x58008 + 0x1000 * i, 24, 4⟩
abbrev CAN_TDC.TDCO (i : Nat) : Fld := ⟨0x5800C + 0x1000 * i, 0, 7⟩
abbrev CAN_TDC.TDC_EN (i : Nat) : Fld := ⟨0x5800C + 0x1000 * i, 8, 1⟩
abbrev CAN_STAT.ESTATE (i : Nat) : Fld := ⟨0x58010 + 0x1000 * i, 0, 2⟩
abbrev CAN_STAT.SLEEP (i : Nat) : Fld := ⟨0x58010 + 0x1000 * i, 2, 1⟩
abbrev CAN_STAT.SEND (i : Nat) : Fld := ⟨0x58010 + 0x1000 * i, 3, 1⟩
abbrev CAN_STAT.MASTER (i : Nat) : Fld := ⟨0x58010 + 0x1000 * i, 4, 1⟩
abbrev CAN_STAT.OFF (i : Nat) : Fld := ⟨0x58010 + 0x1000 * i, 5, 1⟩
abbrev CAN_STAT.TEC (i : Nat) : Fld := ⟨0x58010 + 0x1000 * i, 8, 8⟩
abbrev CAN_STAT.REC (i : Nat) : Fld := ⟨0x58010 + 0x1000 * i, 16, 8⟩
abbrev CAN_REF.REF_EN (i : Nat) : Fld := ⟨0x58014 + 0x1000 * i, 0, 1⟩
abbrev CAN_REF.REF_OBJ (i : Nat) : Fld := ⟨0x58014 + 0x1000 * i, 1, 7⟩
abbrev CAN_REF.REF_PERIOD (i : Nat) : Fld := ⟨0x58014 + 0x1000 * i, 16, 16⟩
abbrev CAN_ID_CFG.ID_CONTEND_LIMIT (i : Nat) : Fld := ⟨0x58018 + 0x1000 * i, 0, 8⟩
abbrev CAN_RANK.STEP (i : Nat) : Fld := ⟨0x5801C + 0x1000 * i, 0, 29⟩
abbrev CAN_WAKE_ID.ID (i : Nat) : Fld := ⟨0x58020 + 0x1000 * i, 0, 29⟩
abbrev CAN_WAKE_ID.IDE (i : Nat) : Fld := ⟨0x58020 + 0x1000 * i, 29, 1⟩
abbrev CAN_WAKE_MASK.MASK (i : Nat) : Fld := ⟨0x58024 + 0x1000 * i, 0, 29⟩
abbrev CAN_WAKE_DATA.DATA (i : Nat) : Fld := ⟨0x58028 + 0x1000 * i, 0, 8⟩
abbrev CAN_WAKE_DATA.DMASK (i : Nat) : Fld := ⟨0x58028 + 0x1000 * i, 8, 8⟩
abbrev CAN_CNT.BUSOFF (i : Nat) : Fld := ⟨0x58030 + 0x1000 * i, 0, 16⟩
abbrev CAN_CNT.ERRFRAME (i : Nat) : Fld := ⟨0x58030 + 0x1000 * i, 16, 16⟩
abbrev CAN_DROP.NOMATCH (i : Nat) : Fld := ⟨0x58034 + 0x1000 * i, 0, 16⟩
abbrev CAN_DROP.HOSTDROP (i : Nat) : Fld := ⟨0x58034 + 0x1000 * i, 16, 16⟩
abbrev CAN_TXDROP.CNT (i : Nat) : Fld := ⟨0x58038 + 0x1000 * i, 0, 32⟩
abbrev CAN_TXBUF.BUF0 (i : Nat) : Fld := ⟨0x58040 + 0x1000 * i, 0, 8⟩
abbrev CAN_TXBUF.BUF1 (i : Nat) : Fld := ⟨0x58040 + 0x1000 * i, 8, 8⟩
abbrev CAN_TXBUF.BUF2 (i : Nat) : Fld := ⟨0x58040 + 0x1000 * i, 16, 8⟩
abbrev CAN_TXBUF.ACTIVE (i : Nat) : Fld := ⟨0x58040 + 0x1000 * i, 24, 3⟩
abbrev CAN_CLR.COUNTS (i : Nat) : Fld := ⟨0x58050 + 0x1000 * i, 0, 1⟩
abbrev CAN_OBJ_CFG.EN (i j : Nat) : Fld := ⟨0x58800 + 0x1000 * i + 0x10 * j, 0, 1⟩
abbrev CAN_OBJ_CFG.DIR (i j : Nat) : Fld := ⟨0x58800 + 0x1000 * i + 0x10 * j, 1, 1⟩
abbrev CAN_OBJ_CFG.IDE (i j : Nat) : Fld := ⟨0x58800 + 0x1000 * i + 0x10 * j, 2, 1⟩
abbrev CAN_OBJ_CFG.FDF (i j : Nat) : Fld := ⟨0x58800 + 0x1000 * i + 0x10 * j, 3, 1⟩
abbrev CAN_OBJ_CFG.BRS (i j : Nat) : Fld := ⟨0x58800 + 0x1000 * i + 0x10 * j, 4, 1⟩
abbrev CAN_OBJ_CFG.DEST (i j : Nat) : Fld := ⟨0x58800 + 0x1000 * i + 0x10 * j, 5, 2⟩
abbrev CAN_OBJ_CFG.OWNER (i j : Nat) : Fld := ⟨0x58800 + 0x1000 * i + 0x10 * j, 7, 1⟩
abbrev CAN_OBJ_CFG.DLC (i j : Nat) : Fld := ⟨0x58800 + 0x1000 * i + 0x10 * j, 8, 4⟩
abbrev CAN_OBJ_CFG.RANKED (i j : Nat) : Fld := ⟨0x58800 + 0x1000 * i + 0x10 * j, 12, 1⟩
abbrev CAN_OBJ_CFG.AGE_LIM (i j : Nat) : Fld := ⟨0x58800 + 0x1000 * i + 0x10 * j, 16, 16⟩
abbrev CAN_OBJ_ID.ID (i j : Nat) : Fld := ⟨0x58804 + 0x1000 * i + 0x10 * j, 0, 29⟩
abbrev CAN_OBJ_MASK.MASK (i j : Nat) : Fld := ⟨0x58808 + 0x1000 * i + 0x10 * j, 0, 29⟩
abbrev CAN_OBJ_STAT.PEND (i j : Nat) : Fld := ⟨0x5880C + 0x1000 * i + 0x10 * j, 0, 1⟩
abbrev CAN_OBJ_STAT.NEW (i j : Nat) : Fld := ⟨0x5880C + 0x1000 * i + 0x10 * j, 1, 1⟩
abbrev CAN_OBJ_STAT.OVR (i j : Nat) : Fld := ⟨0x5880C + 0x1000 * i + 0x10 * j, 2, 1⟩
abbrev CAN_OBJ_STAT.SUSPECT (i j : Nat) : Fld := ⟨0x5880C + 0x1000 * i + 0x10 * j, 3, 1⟩
abbrev CAN_OBJ_STAT.BLOCKED (i j : Nat) : Fld := ⟨0x5880C + 0x1000 * i + 0x10 * j, 4, 1⟩
abbrev CAN_OBJ_STAT.CNT (i j : Nat) : Fld := ⟨0x5880C + 0x1000 * i + 0x10 * j, 16, 16⟩
abbrev SFI_STAT.STATE : Fld := ⟨0x60000, 0, 3⟩
abbrev SFI_STAT.CONFIRMED : Fld := ⟨0x60000, 3, 1⟩
abbrev SFI_STAT.HB_OK : Fld := ⟨0x60000, 4, 1⟩
abbrev SFI_STAT.SITE_TRIP : Fld := ⟨0x60000, 5, 1⟩
abbrev SFI_STAT.LIMP_REQ : Fld := ⟨0x60000, 6, 1⟩
abbrev SFI_STAT.VLR_HOLD : Fld := ⟨0x60000, 7, 1⟩
abbrev SFI_STAT.PEER_HOLD : Fld := ⟨0x60000, 8, 1⟩
abbrev SFI_STAT.PEER_ALIVE : Fld := ⟨0x60000, 9, 1⟩
abbrev SFI_STAT.RAMP_REQ : Fld := ⟨0x60000, 10, 1⟩
abbrev SFI_PORT_TRIP.PORTS : Fld := ⟨0x60004, 0, 24⟩
abbrev SFI_PORT_OFF.PORTS : Fld := ⟨0x60008, 0, 24⟩
abbrev SFI_SO_STAT.ON : Fld := ⟨0x6000C, 0, 8⟩
abbrev SFI_SO_STAT.FAULT : Fld := ⟨0x6000C, 8, 8⟩
abbrev SFI_SO_STAT.AXIS_TRIP : Fld := ⟨0x6000C, 16, 4⟩
abbrev SFI_SO_STAT.CONV_TRIP : Fld := ⟨0x6000C, 20, 4⟩
abbrev SFI_SI_STAT.CLEAR : Fld := ⟨0x60010, 0, 8⟩
abbrev SFI_SI_STAT.DISC : Fld := ⟨0x60010, 8, 8⟩
abbrev SFI_SI_STAT.TPF : Fld := ⟨0x60010, 16, 8⟩
abbrev SFI_SI_STAT.IMD : Fld := ⟨0x60010, 24, 1⟩
abbrev SFI_CONN_STAT.CONN : Fld := ⟨0x60014, 0, 16⟩
abbrev SFI_CV.CV : Fld := ⟨0x60018, 0, 32⟩
abbrev SFI_STR_AUTH.DIS : Fld := ⟨0x6001C, 0, 16⟩
abbrev SFI_AXIS_POS.POS (i : Nat) : Fld := ⟨0x60020 + 0x4 * i, 0, 32⟩
abbrev SFI_PWD.PWD (i : Nat) : Fld := ⟨0x64000 + 0x4 * i, 0, 32⟩
abbrev SFI_PWD_CMD.KEY : Fld := ⟨0x64010, 0, 32⟩
abbrev SFI_PADDR.ADDR : Fld := ⟨0x64014, 0, 11⟩
abbrev SFI_PDATA.DATA : Fld := ⟨0x64018, 0, 32⟩
abbrev SFI_CV_REQ.KEY : Fld := ⟨0x6401C, 0, 32⟩
abbrev SFI_CV_STAGED.CV : Fld := ⟨0x64020, 0, 32⟩
abbrev SFI_CONFIRM.CV : Fld := ⟨0x64024, 0, 32⟩
abbrev SFI_CONFIRM_STAT.STATE : Fld := ⟨0x64028, 0, 3⟩
abbrev SFI_CONFIRM_STAT.REFUSE : Fld := ⟨0x64028, 8, 8⟩
abbrev SFI_CONFIRM_STAT.BAD_OFS : Fld := ⟨0x64028, 16, 11⟩
abbrev SFI_PWD_STAT.FAILS : Fld := ⟨0x6402C, 0, 4⟩
abbrev SFI_PWD_STAT.SET : Fld := ⟨0x6402C, 4, 1⟩
abbrev SFI_PWD_STAT.LOCKED : Fld := ⟨0x6402C, 5, 1⟩
abbrev SFI_PWD_STAT.LOCK_LEFT : Fld := ⟨0x6402C, 16, 16⟩
abbrev SFI_LOG_IDX.ENTRY : Fld := ⟨0x64030, 0, 6⟩
abbrev SFI_LOG_IDX.WORD : Fld := ⟨0x64030, 8, 3⟩
abbrev SFI_LOG_DATA.DATA : Fld := ⟨0x64034, 0, 32⟩
abbrev THM_CFG.PROMO : Fld := ⟨0x68000, 0, 8⟩
abbrev THM_GRP.TYPE (i : Nat) : Fld := ⟨0x68010 + 0x4 * i, 0, 1⟩
abbrev THM_GRP.BETA (i : Nat) : Fld := ⟨0x68010 + 0x4 * i, 16, 16⟩
abbrev THM_NTC_R25.R25 (i : Nat) : Fld := ⟨0x68040 + 0x4 * i, 0, 24⟩
abbrev THM_CH_CFG.EN (i : Nat) : Fld := ⟨0x68100 + 0x10 * i, 0, 1⟩
abbrev THM_CH_CFG.REF (i : Nat) : Fld := ⟨0x68100 + 0x10 * i, 1, 7⟩
abbrev THM_CH_CFG.TARGET (i : Nat) : Fld := ⟨0x68100 + 0x10 * i, 16, 16⟩
abbrev THM_CH_LIM.WARN (i : Nat) : Fld := ⟨0x68104 + 0x10 * i, 0, 12⟩
abbrev THM_CH_LIM.THR (i : Nat) : Fld := ⟨0x68104 + 0x10 * i, 12, 12⟩
abbrev THM_CH_LIM.HYST (i : Nat) : Fld := ⟨0x68104 + 0x10 * i, 24, 8⟩
abbrev THM_CH_LIM2.SHUT (i : Nat) : Fld := ⟨0x68108 + 0x10 * i, 0, 12⟩
abbrev THM_CH_LIM2.FACTOR (i : Nat) : Fld := ⟨0x68108 + 0x10 * i, 12, 10⟩
abbrev THM_CH_VAL.T (i : Nat) : Fld := ⟨0x6810C + 0x10 * i, 0, 16⟩
abbrev THM_CH_VAL.FLAGS (i : Nat) : Fld := ⟨0x6810C + 0x10 * i, 16, 5⟩
abbrev THM_DIE.T (i : Nat) : Fld := ⟨0x68800 + 0x4 * i, 0, 16⟩
abbrev THM_DIE.PEAK (i : Nat) : Fld := ⟨0x68800 + 0x4 * i, 16, 16⟩
abbrev THM_DIE_CFG.WARN : Fld := ⟨0x68840, 0, 12⟩
abbrev THM_DIE_CFG.TRIP : Fld := ⟨0x68840, 12, 12⟩
abbrev THM_STAT.FAST_CNT : Fld := ⟨0x68844, 0, 5⟩
abbrev THM_STAT.FAST_FULL : Fld := ⟨0x68844, 5, 1⟩
abbrev THM_STAT.DIE_TRIP : Fld := ⟨0x68844, 6, 1⟩
abbrev THM_STAT.SLOTS : Fld := ⟨0x68844, 8, 6⟩
abbrev THM_FAST.CH (i : Nat) : Fld := ⟨0x68850 + 0x4 * i, 0, 32⟩
abbrev THM_CLR.PEAK : Fld := ⟨0x68860, 0, 1⟩
abbrev HKA_AUX.V (i : Nat) : Fld := ⟨0x68900 + 0x4 * i, 0, 16⟩
abbrev HKA_STAT.REF_FAULT : Fld := ⟨0x68940, 0, 12⟩
abbrev HKA_STAT.ROUNDS : Fld := ⟨0x68940, 16, 16⟩
abbrev LSB_ON.ON : Fld := ⟨0x70000, 0, 24⟩
abbrev LSB_ON_SET.SET : Fld := ⟨0x70004, 0, 24⟩
abbrev LSB_ON_CLR.CLR : Fld := ⟨0x70008, 0, 24⟩
abbrev LSB_CFG.VSW_UV : Fld := ⟨0x7000C, 0, 8⟩
abbrev LSB_CFG.RETRY_CLEAR : Fld := ⟨0x7000C, 8, 8⟩
abbrev LSB_OUT.OUT : Fld := ⟨0x70010, 0, 24⟩
abbrev LSB_UNLOCK.UNLOCK : Fld := ⟨0x70014, 0, 24⟩
abbrev LSB_STAT.UV : Fld := ⟨0x70018, 0, 1⟩
abbrev LSB_STAT.UV_OFF : Fld := ⟨0x70018, 1, 1⟩
abbrev LSB_CLR.COUNTS : Fld := ⟨0x7001C, 0, 1⟩
abbrev LSB_CH_CFG.ILIM (i : Nat) : Fld := ⟨0x70100 + 0x10 * i, 0, 6⟩
abbrev LSB_CH_CFG.LAMP (i : Nat) : Fld := ⟨0x70100 + 0x10 * i, 6, 1⟩
abbrev LSB_CH_CFG.LO_TIME (i : Nat) : Fld := ⟨0x70100 + 0x10 * i, 8, 8⟩
abbrev LSB_CH_CFG.INRUSH_T (i : Nat) : Fld := ⟨0x70100 + 0x10 * i, 16, 6⟩
abbrev LSB_CH_CFG.RETRIES (i : Nat) : Fld := ⟨0x70100 + 0x10 * i, 22, 4⟩
abbrev LSB_CH_RETRY.RETRY_DELAY (i : Nat) : Fld := ⟨0x70104 + 0x10 * i, 0, 16⟩
abbrev LSB_CH_STAT.STATE (i : Nat) : Fld := ⟨0x70108 + 0x10 * i, 0, 3⟩
abbrev LSB_CH_STAT.THERM (i : Nat) : Fld := ⟨0x70108 + 0x10 * i, 3, 1⟩
abbrev LSB_CH_STAT.USED (i : Nat) : Fld := ⟨0x70108 + 0x10 * i, 4, 4⟩
abbrev LSB_CH_STAT.LAST_TRIP (i : Nat) : Fld := ⟨0x70108 + 0x10 * i, 8, 2⟩
abbrev LSB_CH_STAT.I (i : Nat) : Fld := ⟨0x70108 + 0x10 * i, 16, 16⟩
abbrev LSB_CH_CNT.TRIPS (i : Nat) : Fld := ⟨0x7010C + 0x10 * i, 0, 16⟩
abbrev LSB_CH_CNT.SHORTS (i : Nat) : Fld := ⟨0x7010C + 0x10 * i, 16, 16⟩
abbrev HIF_ATTN_CAUSE.CAUSE : Fld := ⟨0x78000, 0, 6⟩
abbrev HIF_ATTN_EN.EN : Fld := ⟨0x78004, 0, 6⟩
abbrev HIF_POOL_STAT.FREE : Fld := ⟨0x78008, 0, 11⟩
abbrev HIF_POOL_STAT.LOW : Fld := ⟨0x78008, 16, 11⟩
abbrev HIF_LINK_STAT.SPEED : Fld := ⟨0x7800C, 0, 2⟩
abbrev HIF_LINK_STAT.WIDTH : Fld := ⟨0x7800C, 2, 4⟩
abbrev HIF_LINK_STAT.DOWN_CNT : Fld := ⟨0x7800C, 16, 16⟩
abbrev HIF_LOST_CNT.CNT : Fld := ⟨0x78010, 0, 32⟩
abbrev HIF_DB_IGN_CNT.CNT : Fld := ⟨0x78014, 0, 32⟩
abbrev HIF_CLR.COUNTS : Fld := ⟨0x78018, 0, 1⟩
abbrev HIF_RING_RUN0.RUN : Fld := ⟨0x78020, 0, 32⟩
abbrev HIF_RING_RUN1.RUN : Fld := ⟨0x78024, 0, 32⟩
abbrev HIF_RING_HALT0.HALT : Fld := ⟨0x78028, 0, 32⟩
abbrev HIF_RING_HALT1.HALT : Fld := ⟨0x7802C, 0, 32⟩
abbrev HIF_RING_BASE_LO.ADDR (i : Nat) : Fld := ⟨0x78100 + 0x20 * i, 0, 32⟩
abbrev HIF_RING_BASE_HI.ADDR (i : Nat) : Fld := ⟨0x78104 + 0x20 * i, 0, 32⟩
abbrev HIF_RING_SHADOW_LO.ADDR (i : Nat) : Fld := ⟨0x78108 + 0x20 * i, 0, 32⟩
abbrev HIF_RING_SHADOW_HI.ADDR (i : Nat) : Fld := ⟨0x7810C + 0x20 * i, 0, 32⟩
abbrev HIF_RING_CFG.LOG2_DEPTH (i : Nat) : Fld := ⟨0x78110 + 0x20 * i, 0, 4⟩
abbrev HIF_RING_CFG.EN (i : Nat) : Fld := ⟨0x78110 + 0x20 * i, 4, 1⟩
abbrev HIF_RING_CFG.MAX_INFLIGHT (i : Nat) : Fld := ⟨0x78110 + 0x20 * i, 16, 11⟩
abbrev HIF_RING_STAT.STATE (i : Nat) : Fld := ⟨0x78114 + 0x20 * i, 0, 16⟩
abbrev HIF_RING_STAT.IN_FLIGHT (i : Nat) : Fld := ⟨0x78114 + 0x20 * i, 16, 11⟩
abbrev HIF_RING_HEAD.HEAD (i : Nat) : Fld := ⟨0x78118 + 0x20 * i, 0, 32⟩
abbrev HIF_RING_OLDEST.OLDEST (i : Nat) : Fld := ⟨0x7811C + 0x20 * i, 0, 32⟩

end Sys2Proof.Machine
end

