-- ==== Sys2Proof/Machine/StateCan.lean ====
section
/-!
DEFINITION. State of the CAN controllers beside their registers (spec/13_can_controllers.md).
-/
namespace Sys2Proof.Machine

/-- Who asked for a transmission (spec/13, "Transmit buffers"). -/
inductive CanSrc where
  /-- the LCH for slow-load slot j (spec/06 R137) -/
  | slow (j : Nat)
  /-- firmware on the HKC cores -/
  | hkc
  /-- a host SEND: ring and index (R325) -/
  | host (ring idx : Nat)
  /-- a reference message with its CYCLE (R318) -/
  | ref (cycle : Nat)
  /-- the Rind (CAN5 and the mirror objects, R322, R323) -/
  | rind
  deriving DecidableEq, Repr

/-- A transmit request (R312). -/
structure CanReq where
  obj : Nat
  /-- identifier sent (R310) and IDE -/
  id : Nat
  ide : Bool
  fdf : Bool
  brs : Bool
  data : List Nat
  /-- site time, ns; none for no deadline -/
  deadline : Option Nat
  src : CanSrc
  /-- number of the request, or of its loading into a buffer -/
  order : Nat
  deriving DecidableEq, Repr

/-- A frame received (R311). -/
structure CanFrame where
  id : Nat
  ide : Bool
  fdf : Bool
  brs : Bool
  suspect : Bool
  data : List Nat
  stamp : Nat
  deriving DecidableEq, Repr

/-- One CAN controller beside its registers. -/
structure CanCtl where
  /-- requests pending, in the order made; spec/13 R312; reset empty -/
  pend : List CanReq
  /-- transmit buffers 0 to 2; spec/13 "Transmit buffers"; reset all empty -/
  buf : Tab (Option CanReq)
  /-- buffer in transmission, with the site time latched at its start of frame; spec/13 R318, R326 ACTIVE; reset none -/
  tx : Option (Nat × Nat)
  /-- number the next request takes; spec/13 R313; reset 0 -/
  order : Nat
  /-- buffer the next frame is loaded into with TXMODE 1; spec/13 R313; reset 0 -/
  nextBuf : Nat
  /-- uptime of the last bus-off; spec/13 R321; reset 0 -/
  offAt : Nat
  /-- uptime at which the recovery count began, and whether the host began it; spec/13 R321; reset none -/
  recAt : Option (Nat × Bool)
  /-- contentions of the last 10 s: identifier, IDE, uptime; spec/13 R324; reset empty -/
  contends : List (Nat × Bool × Nat)
  /-- suspect identifiers with the uptime of the last contention; spec/13 R324; reset empty -/
  suspects : List (Nat × Bool × Nat)
  /-- frame held by a receive object; spec/13 R311; reset none -/
  held : Tab (Option CanFrame)
  /-- receive objects in a run of overwrites; spec/13 R311; reset empty -/
  ovrRun : List Nat
  /-- CYCLE of the last reference message on the bus and its latched site time; spec/13 R318; reset none -/
  ref : Option (Nat × Nat)
  /-- site time of the last reference message requested; spec/13 R318; reset none -/
  refAt : Option Nat
  deriving DecidableEq, Repr

def CanCtl.reset : CanCtl :=
  { pend := [], buf := [], tx := none, order := 0, nextBuf := 0, offAt := 0, recAt := none, contends := [], suspects := [],
    held := [], ovrRun := [], ref := none, refAt := none }

/-- The CAN controllers. -/
structure Can where
  /-- CAN0 to CAN5; spec/13; reset all CanCtl.reset -/
  ctls : Tab CanCtl
  /-- posted receive buffers, oldest first: ring, index, address; spec/13 R325; reset empty -/
  rx : List (Nat × Nat × Nat)
  deriving DecidableEq, Repr

def Can.reset : Can := { ctls := [], rx := [] }

end Sys2Proof.Machine
end

