-- ==== Sys2Proof/Machine/Arith.lean ====
section
/-!
DEFINITION. The arithmetic the chapters of spec/ share: exact Int or Nat arithmetic, narrowed explicitly where the manual
narrows (saturating counters, clamps, two's complement fields, rounding).
-/
namespace Sys2Proof.Machine

/-- Low `w` bits of a natural number. -/
def low (w n : Nat) : Nat := n % 2 ^ w

/-- Two's complement reading of the low `w` bits. -/
def sx (w n : Nat) : Int := if low w n < 2 ^ (w - 1) then (low w n : Int) else (low w n : Int) - (2 ^ w : Nat)

/-- Two's complement encoding of an integer in `w` bits. -/
def enc (w : Nat) (i : Int) : Nat := (i % ((2 ^ w : Nat) : Int)).toNat

/-- A counter of `w` bits that saturates (R92, R174, R428: "counters saturate"). -/
def satAdd (w n k : Nat) : Nat := min (n + k) (2 ^ w - 1)

/-- Clamp of an integer to `lo` … `hi`. -/
def clampI (lo hi i : Int) : Int := max lo (min hi i)

/-- Clamp to a signed `w`-bit range. -/
def clampS (w : Nat) (i : Int) : Int := clampI (-(2 ^ (w - 1) : Nat)) ((2 ^ (w - 1) : Nat) - 1) i

/-- Clamp of an integer into an unsigned `w`-bit field. -/
def clampU (w : Nat) (i : Int) : Nat := min i.toNat (2 ^ w - 1)

/-- Quotient rounded to nearest, halves away from zero. -/
def divNear (a : Int) (b : Nat) : Int := if 0 ≤ a then (2 * a + b) / (2 * b) else -((2 * (-a) + b) / (2 * b))

/-- Quotient rounded up. -/
def divUp (a b : Nat) : Nat := (a + b - 1) / b

/-- Truncating quotient (toward zero). -/
def divZ (a : Int) (b : Nat) : Int := if 0 ≤ a then a / b else -((-a) / b)

/-- Bit `i` of a natural number. -/
def bit (n i : Nat) : Bool := n.testBit i

/-- `n` with bit `i` set or cleared. -/
def setBit (n i : Nat) (b : Bool) : Nat := if b then n ||| (1 <<< i) else if n.testBit i then n - (1 <<< i) else n

/-- `n` with the bits of `m` cleared. -/
def clearBits (n m : Nat) : Nat := n - (n &&& m)

/-- 1 for true. -/
def b2n (b : Bool) : Nat := if b then 1 else 0

/-- The indices below `k` whose bit is set. -/
def bitsOf (n k : Nat) : List Nat := (List.range k).filter (fun i => n.testBit i)

/-- The number whose set bits are the listed indices. -/
def maskOf (l : List Nat) : Nat := l.foldl (fun a i => a ||| (1 <<< i)) 0

/-- Element `i` of a list, or `d`. -/
def nth {α : Type} (l : List α) (i : Nat) (d : α) : α := l.getD i d

/-- A number as `k` bytes, least significant first (R8). -/
def leBytes : Nat → Nat → List Nat
  | 0, _ => []
  | k + 1, n => (n % 256) :: leBytes k (n / 256)

/-- The number spelled by bytes, least significant first (R8). -/
def ofLe : List Nat → Nat
  | [] => 0
  | b :: r => b % 256 + 256 * ofLe r

/-- Bytes `i` to `i + k − 1` of a byte list as a number, least significant first. -/
def field (b : List Nat) (i k : Nat) : Nat := ofLe ((b.drop i).take k)

/-- Signed difference of two 32-bit times or tick numbers (R56). -/
def diff32 (a b : Nat) : Int := sx 32 (low 32 a + 2 ^ 32 - low 32 b)

/-- Number of trailing zero bits of a nonzero number below 2^64, or 64 for 0. -/
def lowestBit (n : Nat) : Nat := ((List.range 64).find? (fun i => n.testBit i)).getD 64

/-- Sum of a list of integers. -/
def sumI (l : List Int) : Int := l.foldl (· + ·) 0

/-- Sum of a list of naturals. -/
def sumN (l : List Nat) : Nat := l.foldl (· + ·) 0

/-- `k` bytes of zero. -/
def zeros (k : Nat) : List Nat := List.replicate k 0

end Sys2Proof.Machine
end

