-- ==== Sys2Proof/Machine/Wire.lean ====
section
/-!
DEFINITION. What travels on a serial lane (spec/07_serial_lanes.md R149 to R156): 66-bit blocks, the frame container, the
scrambler and the training patterns.
-/
namespace Sys2Proof.Machine

/-! ### CRC-32C -/

/-- One bit step of the reflected CRC-32C (R151). -/
def crcBitC (c : Nat) : Nat := if c % 2 = 1 then (c / 2) ^^^ 0x82F63B78 else c / 2

/-- One byte of CRC-32C. -/
def crcByteC (c b : Nat) : Nat :=
  crcBitC (crcBitC (crcBitC (crcBitC (crcBitC (crcBitC (crcBitC (crcBitC (c ^^^ (b % 256)))))))))

/-- CRC-32C (R151). -/
def crc32c (l : List Nat) : Nat := (l.foldl crcByteC 0xFFFFFFFF) ^^^ 0xFFFFFFFF

/-! ### Blocks (R149, R150) -/

/-- Byte j of the 64 bits of a block. -/
def laneByte (b : LaneBlock) (j : Nat) : Nat := b.data.toNat / 2 ^ (8 * j) % 256

/-- The 8 bytes of a block. -/
def laneBytes (b : LaneBlock) : List Nat := (List.range 8).map (laneByte b)

/-- A block from its sync header and bytes. -/
def mkBlock (sync : BitVec 2) (l : List Nat) : LaneBlock := { sync := sync, data := BitVec.ofNat 64 (ofLe l) }

/-- A control block of a type (R150). -/
def ctlBlock (type : Nat) (rest : List Nat) : LaneBlock := mkBlock 0b10 (type :: rest)

/-- The block is a control block of a type. -/
def isCtl (type : Nat) (b : LaneBlock) : Bool := b.sync == 0b10 && laneByte b 0 == type

/-- The block is a data block. -/
def isData (b : LaneBlock) : Bool := b.sync == 0b01

/-- IDLE, sent between frames. -/
def idleBlock : LaneBlock := ctlBlock 0x1E []

/-- Bytes 1 to 7 of START: LEN, FSEQ and YSEQ. -/
def startBytes (len fseq yseq : Nat) : List Nat := leBytes 2 len ++ leBytes 2 fseq ++ leBytes 3 yseq

/-- LP_ENTER with its target, 1 idle or 2 deep (R150, R168). -/
def lpEnterBlock (target : Nat) : LaneBlock := ctlBlock 0x2D [target]

/-! ### Frames (R151) -/

/-- The CRC of a frame: over bytes 1 to 7 of its START block, then the payload. -/
def frameCrc (fseq yseq : Nat) (payload : List Nat) : Nat := crc32c (startBytes payload.length fseq yseq ++ payload)

/-- The blocks of a frame: START, the payload, END. -/
def frameBlocks (fseq yseq : Nat) (payload : List Nat) : List LaneBlock :=
  ctlBlock 0x78 (startBytes payload.length fseq yseq) ::
  ((List.range (payload.length / 8)).map (fun i => mkBlock 0b01 ((payload.drop (8 * i)).take 8)) ++
   [ctlBlock 0xE1 (leBytes 4 (frameCrc fseq yseq payload))])

/-- What a transmitter sends for a frame: the frame and one IDLE block after it, so that an IDLE block stands in every 2,048
blocks (R153; the longest frame has 514). -/
def sentBlocks (fseq yseq : Nat) (payload : List Nat) : List LaneBlock := frameBlocks fseq yseq payload ++ [idleBlock]

/-- Duration of `k` blocks on lane l in ns, rounded up: 10.56 ns a block on a cabinet lane, 6.4 ns on a Dreak lane (R149). -/
def blocksNs (l k : Nat) : Nat := if l < 12 then divUp (k * 1056) 100 else divUp (k * 64) 10

/-- What a receiver makes of the blocks it was given. -/
inductive RxFrame where
  /-- no START block: nothing but blocks outside a frame, which are ignored (R150) -/
  | nothing
  /-- a frame that is discarded (R150, R151) -/
  | void
  /-- a frame that passed: FSEQ, YSEQ and payload -/
  | frame (fseq yseq : Nat) (payload : List Nat)
  deriving DecidableEq, Repr

/-- The receiver's checks (R150, R151). Blocks before START lie outside a frame, IDLE blocks that the elastic buffer removes or
repeats among them (R153); LEN is a multiple of 8 from 8 to the lane's maximum; LEN / 8 data blocks, END and its CRC follow. -/
def rxFrame (maxLen : Nat) (blocks : List LaneBlock) : RxFrame :=
  match blocks.dropWhile (fun b => !isCtl 0x78 b) with
  | [] => .nothing
  | b :: rest =>
    let len := laneByte b 1 + 256 * laneByte b 2
    let fseq := laneByte b 3 + 256 * laneByte b 4
    let yseq := laneByte b 5 + 256 * laneByte b 6 + 65536 * laneByte b 7
    let body := rest.take (len / 8)
    let payload := body.flatMap laneBytes
    if len % 8 ≠ 0 || len < 8 || maxLen < len || body.length ≠ len / 8 || !body.all isData then .void
    else match rest.drop (len / 8) with
    | [] => .void
    | e :: _ =>
      if isCtl 0xE1 e && ofLe ((laneBytes e).drop 1 |>.take 4) == frameCrc fseq yseq payload then .frame fseq yseq payload
      else .void

/-- Largest payload of a lane (R151). -/
def maxPayload (l : Nat) : Nat := if l < 12 then 512 else 4096

/-- The TYPEs a unit receives on lane l: STATUS and PHASE_STATUS on a cabinet lane (spec/06 R133, R136), the twin frames on a Dreak
lane (spec/16 R384), and of the link-management frames of R158 to R169 those that the far end sends it: the requests of time
and low power come on Dreak lanes only (DEDUCED, log entry 127). -/
def knownType (l t : Nat) : Bool :=
  if l < 12 then [0x02, 0x04, 0x10, 0x12, 0x15, 0x16].contains t
  else [0x10, 0x11, 0x12, 0x14, 0x15, 0x16, 0x20, 0x21, 0x22, 0x23, 0x24, 0x25].contains t

/-! ### The scrambler (R149) -/

/-- One bit through the scrambler x^58 + x^39 + 1: the register holds the last 58 bits sent, newest lowest. -/
def scramBit (r : BitVec 58) (b : Bool) : Bool × BitVec 58 :=
  let o := xor b (xor (r.getLsbD 38) (r.getLsbD 57))
  (o, (r.truncate 57).concat o)

/-- One bit back: the register holds the last 58 bits received. -/
def unscramBit (r : BitVec 58) (b : Bool) : Bool × BitVec 58 :=
  (xor b (xor (r.getLsbD 38) (r.getLsbD 57)), (r.truncate 57).concat b)

/-- A bit string through the scrambler. -/
def scramble : BitVec 58 → List Bool → List Bool
  | _, [] => []
  | r, b :: l => let x := scramBit r b; x.1 :: scramble x.2 l

/-- A bit string back through the descrambler. -/
def unscramble : BitVec 58 → List Bool → List Bool
  | _, [] => []
  | r, b :: l => let x := unscramBit r b; x.1 :: unscramble x.2 l

/-- The register after a bit string was sent. -/
def scramState (r : BitVec 58) (l : List Bool) : BitVec 58 := l.foldl (fun r b => (scramBit r b).2) r

/-- The 64 bits of a block in the order they are sent, least significant first (R149). -/
def dataBits (b : LaneBlock) : List Bool := (List.range 64).map b.data.getLsbD

/-- The bits of blocks on the wire: each sync header, its bit 0 first, then the 64 bits, scrambled from the CAPS state on (R149). -/
def wireBits : BitVec 58 → List LaneBlock → List Bool
  | _, [] => []
  | r, b :: l => [b.sync.getLsbD 0, b.sync.getLsbD 1] ++ scramble r (dataBits b) ++ wireBits (scramState r (dataBits b)) l

/-! ### Training patterns (R156) -/

/-- One step of the PRBS-31 generator x^31 + x^28 + 1: the next bit, and the register with it lowest. -/
def prbsBit (r : BitVec 31) : Bool × BitVec 31 :=
  let o := xor (r.getLsbD 30) (r.getLsbD 27)
  (o, (r.truncate 30).concat o)

/-- The next `k` bits of the generator as a number, first bit lowest, and the register after them. -/
def prbsTake : Nat → BitVec 31 → Nat × BitVec 31
  | 0, r => (0, r)
  | k + 1, r =>
    let (b, r1) := prbsBit r
    let (v, r2) := prbsTake k r1
    (b2n b + 2 * v, r2)

/-- `k` TRAIN blocks: STEP, ROLE, the lane index as the sender knows it, and successive words of the generator (R156). -/
def trainBlocks (step role index : Nat) : Nat → BitVec 31 → List LaneBlock
  | 0, _ => []
  | k + 1, r =>
    let (w, r1) := prbsTake 32 r
    ctlBlock 0x4B ([step, role, index] ++ leBytes 4 w) :: trainBlocks step role index k r1

/-- What a lane's transmitter sends that is no frame. -/
inductive LanePattern where
  /-- TP1, the alternating bit pattern, for a time in ns (R156, R168) -/
  | tp1 (ns : Nat)
  /-- TP2: TRAIN blocks with STEP, ROLE and index, a number of them or until the lane moves on (R156, R168) -/
  | train (step role index : Nat) (count : Option Nat)
  /-- 4 LP_ENTER blocks with a target, then squelch (R168) -/
  | lpEnter (blocks : List LaneBlock)
  /-- the lane group's serial PLL channel is relocked before the lane goes on (R168) -/
  | relock
  deriving DecidableEq, Repr

end Sys2Proof.Machine
end

