-- ==== Sys2Proof/Machine/StateHost.lean ====
section
/-!
DEFINITION. State of the parts every chapter shares: operating mode, supplies and reset (spec/02), site time (spec/03), the
event log and the outgoing traffic, and the host interface (spec/17). Each field's docstring gives what it is, its width
where it is a word, the rule that names it and its reset value.
-/
namespace Sys2Proof.Machine

/-- The grade of the part (spec/00 R1, R2): a property of the module, never changed by a command. -/
inductive Grade where
  | ph4800 | ph4812
  deriving DecidableEq, Repr

/-- Operating modes (spec/02, "Mode encoding"). -/
inductive Mode where
  | dormant | commission | active | shadow | limp | halt
  deriving DecidableEq, Repr

/-- The code of a mode (spec/02, "Mode encoding"). -/
def Mode.code : Mode → Nat
  | .dormant => 0 | .commission => 1 | .active => 2 | .shadow => 3 | .limp => 4 | .halt => 5

/-- The PGOOD bit of a supply (spec/02 R46). -/
def supplyIdx : SupplyName → Nat
  | .vaon => 0 | .vio33 => 1 | .vio18 => 2 | .vana => 3 | .vcore => 4 | .vser => 5 | .vmem1 => 6 | .vmem2 => 7

/-- The group of a supply (spec/02 R26). -/
def supplyGroup : SupplyName → Nat
  | .vaon => 1 | .vio33 => 2 | .vio18 => 2 | .vana => 3 | _ => 4

/-- What holds every domain except VAON in reset. -/
structure Holds where
  /-- RESET_N low is in effect; 1 bit; spec/02 R33; reset DESIGN CHOICE true (the board holds it until it releases, log entry 6) -/
  resetN : Bool
  /-- power-order hold; 1 bit; spec/02 R30; reset false -/
  order : Bool
  /-- reference or PLL hold; 1 bit; spec/03 R49; reset false -/
  ref : Bool
  /-- die temperature trip hold; 1 bit; spec/15 R371; reset false -/
  die : Bool
  /-- VCORE fell below 0.72 V and is not back in regulation; 1 bit; spec/02 R32; reset false -/
  core : Bool
  deriving DecidableEq, Repr

/-- Mode, supplies, reset, watchdog and wake (spec/02). -/
structure Glb where
  /-- current mode, GLB_MODE.MODE; 3 bits; spec/02 R46; reset DORMANT -/
  mode : Mode
  /-- boot in progress, GLB_MODE.BOOTING; 1 bit; spec/02 R46; reset 1 -/
  booting : Bool
  /-- GLB_MODE.LAST_CAUSE; 8 bits; spec/02 R46; reset 0x00 -/
  lastCause : Nat
  /-- GLB_MODE.PREV_MODE; 3 bits; spec/02 R46; reset 0x0 -/
  prevMode : Mode
  /-- what holds the main domains in reset; spec/02 R30, R32, R33, spec/03 R49, spec/15 R371 -/
  holds : Holds
  /-- supplies above their off threshold, bit per supply as PGOOD; 8 bits; spec/02 R26; reset DESIGN CHOICE 0 (log entry 6) -/
  aboveOff : Nat
  /-- supplies in regulation since they were last off, bit per supply as PGOOD; 8 bits; spec/02 R26; reset DESIGN CHOICE 0 (log entry 6) -/
  powered : Nat
  /-- supplies in regulation, bit per supply as PGOOD; 8 bits; spec/02 R26; reset DESIGN CHOICE 0 (log entry 6) -/
  inReg : Nat
  /-- instant the supply sequence window opened; spec/02 R27; reset none -/
  window : Option Nat
  /-- level of PWR_EN; 1 bit; spec/02 R44; reset DESIGN CHOICE low (log entry 6) -/
  pwrEn : Bool
  /-- instant PWR_EN was driven low; spec/02 R30; reset 0 -/
  pwrEnLowAt : Nat
  /-- instant since which every supply of groups 2 to 4 has been off; spec/02 R30; reset DESIGN CHOICE 0 (log entry 6) -/
  allOffAt : Option Nat
  /-- every supply of groups 2 to 4 has been off for 1 ms since the violation; 1 bit; spec/02 R30; reset false -/
  offSeen : Bool
  /-- instant of the brown-out warning in force; spec/02 R32; reset none -/
  brownAt : Option Nat
  /-- BO_RIDE has passed in this brown-out; 1 bit; spec/02 R32; reset false -/
  brownOver : Bool
  /-- instant RESET_N went low; spec/02 R33; reset DESIGN CHOICE instant 0 (log entry 6) -/
  rstLowAt : Option Nat
  /-- RESET_N has been low for more than 4 s; 1 bit; spec/02 R34; reset false -/
  stuck : Bool
  /-- how long RESET_N was low at the last stuck release, ms; spec/02 R34; reset 0 -/
  stuckMs : Nat
  /-- LIMP trigger waiting for the next tick boundary, with its LAST_CAUSE; spec/02 R39, R40; reset none -/
  limpPend : Option Nat
  /-- instant the host watchdog period was last restarted; spec/02 R43; reset 0 -/
  kickAt : Nat
  /-- the watchdog has expired and no kick has come since; 1 bit; spec/02 R43; reset false -/
  wdogOut : Bool
  /-- PWR_EN goes low when the main domains have stored their state; 1 bit; spec/02 R44; reset false -/
  pwrOffPend : Bool
  /-- sealed configuration image in MRAM: the RWS registers that differ from reset; spec/02 R39; reset none (an unwritten MRAM, DESIGN CHOICE, log entry 6) -/
  sealed : Option (Tab (BitVec 32))
  /-- SAFETY_CV sealed with the image; 32 bits; spec/14 R355; reset 0 -/
  sealedCv : Nat
  /-- both copies of the sealed image: registers, SAFETY_CV and the keys of the battery units (MRAM); spec/10 R241; reset blank (an unwritten MRAM, DESIGN CHOICE, log entry 6) -/
  images : Twins (Tab (BitVec 32) × Nat × Tab (List Nat))
  deriving DecidableEq, Repr

/-- Site time and clocks beside the registers (spec/03). -/
structure Stu where
  /-- site time counter, units of 2^−32 ns; 96 bits; spec/03 R52; reset 0 (no value given, DESIGN CHOICE, log entry 6) -/
  site : Nat
  /-- a PPS label is armed; 1 bit; spec/03 R53; reset false -/
  labelArmed : Bool
  /-- instant of the last PPS edge, qualified or not; spec/03 R59, R67; reset none -/
  ppsLast : Option Nat
  /-- instant of the last qualified PPS edge; spec/03 R59; reset none -/
  ppsAt : Option Nat
  /-- instant REF10M_IN was last qualified; spec/03 R59; reset none -/
  ref10At : Option Nat
  /-- instant of the last accepted host offset; spec/03 R59; reset none -/
  hostAt : Option Nat
  /-- the twin source is qualified; 1 bit; spec/03 R59; reset false -/
  twinOk : Bool
  /-- consecutive measurements within ±50 ns; spec/03 R59; reset 0 -/
  goodRun : Nat
  /-- frequency term of the loop, 2^−32 ns per cycle; spec/03 R58; reset 0 -/
  freqTerm : Int
  /-- phase term of the loop; spec/03 R58; reset 0 -/
  phaseTerm : Int
  /-- level of PPS_OUT; 1 bit; spec/03 R68; reset low -/
  ppsOut : Bool
  /-- instant PPS_OUT rose; spec/03 R68; reset 0 -/
  ppsOutAt : Nat
  /-- number of the next tick boundary n; spec/03 R62; reset 0 -/
  nextTick : Nat
  /-- site time at the last RTC alignment, ns (VAON); spec/03 R65; reset 0 -/
  rtcBase : Nat
  /-- uptime of the last RTC alignment (VAON); spec/03 R65; reset 0 -/
  rtcAt : Nat
  /-- consecutive failing SAF windows; spec/03 R51; reset 0 -/
  safBad : Nat
  /-- instant and cause (0 reference, 1 main PLL, 2 memory PLL) of the reference hold (VAON); spec/03 R49; reset none -/
  refHold : Option (Nat × Nat)
  deriving DecidableEq, Repr

/-- One record of the event log (spec/17 R425). -/
structure Event where
  /-- 16 bits -/
  code : Nat
  /-- 16 bits -/
  entity : Nat
  /-- stamp source, 8 bits -/
  source : Nat
  /-- sequence number, 64 bits -/
  seq : Nat
  /-- site time ns, 64 bits -/
  t : Nat
  arg1 : Nat
  arg2 : Nat
  deriving DecidableEq, Repr

/-- The event log (spec/17 R425). -/
structure EvLog where
  /-- the events held, newest first, at most 65,536; spec/17 R425; reset empty -/
  events : List Event
  /-- sequence the next event takes, GLB_EVT_HEAD; 64 bits; spec/17 R425; reset 0 -/
  head : Nat
  /-- events kept in VAON while the main domains are held in reset, oldest first; spec/02 "Events", R45; reset empty -/
  kept : List Event
  deriving DecidableEq, Repr

/-- What the block puts on its buses and pins, in the order it does so: the traffic an observer outside sees. -/
inductive Out where
  /-- the blocks of a frame on lane `lane` (0–11 cabinet, 12–13 Dreak) and the uptime, ns, at which they start to leave (spec/07
  R150, R151, R154) -/
  | lane (lane dep : Nat) (blocks : List LaneBlock)
  /-- a training or low-power pattern on a lane (spec/07 R156, R168) -/
  | pattern (lane : Nat) (p : LanePattern)
  /-- a CAN frame on controller `ctrl`: identifier, IDE, FDF, data (spec/13) -/
  | can (ctrl id : Nat) (ide fdf : Bool) (data : List Nat)
  /-- a frame with its FCS, or a Green PHY message, to the vehicle of a port: kind 0 frame, 1 SLAC_PARM answer, 2 ATTEN_CHAR, 3 beacon;
  robo 0 for a 10BASE-T1S PHY, 1 MINI-ROBO, 2 HS-ROBO, 3 STD-ROBO; `attn` the transmit attenuation, 0.5 dB (spec/12 R284, R285) -/
  | vehicle (port kind robo attn : Nat) (bytes : List Nat)
  /-- a write to host memory (spec/17) -/
  | host (addr : Nat) (bytes : List Nat)
  /-- the completion or progress of a descriptor: ring, index, RESULT bytes 52–63, status word (spec/17 R411) -/
  | status (ring idx : Nat) (result : List Nat) (word : Nat)
  /-- the MSI-X message of vector 0 (spec/17 R424) -/
  | msix
  deriving DecidableEq, Repr

/-- A descriptor held in the in-flight pool (spec/17 R418). -/
structure Flight where
  /-- free-running index; 32 bits -/
  idx : Nat
  tag : Nat
  opcode : Nat
  /-- FLAGS bit 0 -/
  fence : Bool
  /-- FLAGS bit 1 -/
  quiet : Bool
  /-- its serving block has started it (R407, R408) -/
  started : Bool
  /-- started and waits only on an outside event (R420) -/
  outside : Bool
  /-- its completion can no longer be written (R422, R423) -/
  lost : Bool
  /-- PROGRESS last reached, per-mille (R412) -/
  progress : Nat
  /-- uptime of the last STATUS written with PARTIAL set (R412) -/
  wroteAt : Option Nat := none
  deriving DecidableEq, Repr

/-- One descriptor ring beside its set-up registers (spec/17 R416–R422). -/
structure Ring where
  /-- next index to fetch; 32 bits; spec/17 R417; reset 0 -/
  head : Nat
  /-- last TAIL accepted; 32 bits; spec/17 R416; reset 0 -/
  tail : Nat
  /-- STATE bit 0; spec/17 R417; reset 0 -/
  run : Bool
  /-- STATE bit 1; spec/17 R417; reset 0 -/
  halted : Bool
  /-- halt cause; 8 bits; spec/17 R422; reset 0 -/
  cause : Nat
  /-- STATE bit 2, CREDIT_STALL; spec/17 R418; reset 0 -/
  stall : Bool
  /-- STATE bit 3, WAIT: a descriptor waits for a shared resource; spec/17 R417; reset 0 -/
  wait : Bool
  /-- STATE bit 4, AT_CAP; spec/17 R418; reset 0 -/
  atCap : Bool
  /-- fetched and not completed, in index order; spec/17 R418; reset empty -/
  flights : List Flight
  /-- doorbells of this ring ignored; 32 bits, wrapping; spec/17 R417; reset 0 -/
  dbIgn : Nat
  deriving DecidableEq, Repr

/-- A ring after reset. -/
def Ring.reset : Ring :=
  { head := 0, tail := 0, run := false, halted := false, cause := 0, stall := false, wait := false, atCap := false,
    flights := [], dbIgn := 0 }

/-- A waiting EVENT_READ (spec/17 R426). -/
structure EvWait where
  ring : Nat
  idx : Nat
  first : Nat
  addr : Nat
  len : Nat
  deriving DecidableEq, Repr

/-- Host interface beside its registers (spec/17). -/
structure Hif where
  /-- rings by number; spec/17 R416; reset all Ring.reset -/
  rings : Tab Ring
  /-- the ring served last by the fetch arbiter; 6 bits; spec/17 R418; reset 63 (so that ring 0 is served first, DESIGN CHOICE, log entry 6) -/
  lastRing : Nat
  /-- the pool has been empty since it was last logged; spec/17 R418; reset false -/
  poolDry : Bool
  /-- lowest number of free pool entries since HIF_CLR; 11 bits; spec/17 R428; reset 0x400 -/
  poolLow : Nat
  /-- waiting event reads, oldest first; spec/17 R426; reset empty -/
  evWaits : List EvWait
  /-- self-test running: ring, index, kind, deadline; spec/17 R427; reset none -/
  selfTest : Option (Nat × Nat × Nat × Nat)
  /-- self-tests waiting: ring, index, kind; spec/17 R407, R427; reset empty -/
  selfWait : List (Nat × Nat × Nat)
  /-- the PCI Express link is up; spec/17 R423; reset false -/
  linkUp : Bool
  /-- instant the link went down; spec/17 R430; reset 0 -/
  linkDownAt : Nat
  /-- Bus Master Enable; 1 bit; spec/17 R423; reset PRESUMED 0 (PCI Express, log entry 7) -/
  busMaster : Bool
  /-- the function is in D3hot; 1 bit; spec/17 R423; reset false (D0) -/
  d3hot : Bool
  /-- MSI-X Enable; 1 bit; spec/17 R424; reset PRESUMED 0 (PCI Express, log entry 7) -/
  msixEn : Bool
  /-- MSI-X function mask; 1 bit; spec/17 R424; reset PRESUMED 0 (PCI Express, log entry 7) -/
  fnMask : Bool
  /-- mask bit of vector 0; 1 bit; spec/17 R424, R428; reset PRESUMED 1 (PCI Express, log entry 7) -/
  vecMask : Bool
  /-- pending bit of vector 0; 1 bit; spec/17 R424; reset 0 -/
  msixPend : Bool
  deriving DecidableEq, Repr

end Sys2Proof.Machine
end

