-- ==== Sys2Proof/Machine/StateChurn.lean ====
section
/-!
DEFINITION. State of the Churn (spec/04_churn_pipeline.md, spec/05_constraints_and_allocation.md): snapshot and curd records
by their fields, the input values waiting for a strobe, Sanitize's memory, the constraint table, staged edits, migrations.
-/
namespace Sys2Proof.Machine

/-- The latest values of one input with their stamps (site time ns), newest first; sixteen are kept, so that the one before
a boundary can be found (spec/01 R11). -/
abbrev Mail (α : Type) := List (Nat × α)

/-- A new value arrives. -/
def mailPost {α : Type} (m : Mail α) (t : Nat) (v : α) : Mail α := (t, v) :: m.take 15

/-- The most recent value stamped before `t` (R11). -/
def mailBefore {α : Type} (m : Mail α) (t : Nat) : Option (Nat × α) := m.find? (fun x => x.1 < t)

/-- Port record of a snapshot (spec/04 R88). -/
structure PortRec where
  reqI : Int
  reqV : Int
  reqP : Int
  reqT : Nat
  measV : Int
  measI : Int
  measT : Nat
  capI : Nat
  capV : Nat
  exportOk : Bool
  tripped : Bool
  session : Nat
  prevI : Int
  prevP : Int
  subReq : Bool
  subV : Bool
  subI : Bool
  subCaps : Bool
  deriving DecidableEq, Repr

def PortRec.zero : PortRec :=
  { reqI := 0, reqV := 0, reqP := 0, reqT := 0, measV := 0, measI := 0, measT := 0, capI := 0, capV := 0, exportOk := false,
    tripped := false, session := 0, prevI := 0, prevP := 0, subReq := false, subV := false, subI := false, subCaps := false }

/-- Block record of a snapshot (spec/04 R88): STATE 0 absent, 1 ready, 2 derated, 3 fault, 4 dropped; PATH 0xFF none. -/
structure BlockRec where
  state : Nat
  path : Nat
  frozen : Bool
  dropped : Bool
  availP : Int
  outI : Int
  outV : Int
  t : Nat
  temp : Int
  prevI : Int
  deriving DecidableEq, Repr

def BlockRec.zero : BlockRec :=
  { state := 0, path := 0, frozen := false, dropped := false, availP := 0, outI := 0, outV := 0, t := 0, temp := 0, prevI := 0 }

/-- String record of a snapshot (spec/04 R88, spec/11 R266). -/
structure StrRec where
  soc : Nat
  untrusted : Bool
  needRef : Bool
  auth : Bool
  exportOk : Bool
  subst : Bool
  disLim : Int
  chgLim : Int
  usable : Int
  reserve : Int
  i : Int
  capI : Nat
  deriving DecidableEq, Repr

def StrRec.zero : StrRec :=
  { soc := 0, untrusted := false, needRef := false, auth := false, exportOk := false, subst := false, disLim := 0, chgLim := 0,
    usable := 0, reserve := 0, i := 0, capI := 0 }

/-- Converter record of a snapshot (spec/04 R88): STATE 0 off, 1 soft start, 2 running, 3 latched. -/
structure ConvRec where
  batV : Int
  batI : Int
  p : Int
  t : Nat
  state : Nat
  phases : Nat
  subst : Bool
  prevRef : Int
  deriving DecidableEq, Repr

def ConvRec.zero : ConvRec :=
  { batV := 0, batI := 0, p := 0, t := 0, state := 0, phases := 0, subst := false, prevRef := 0 }

/-- The snapshot record of one tick (spec/04 R88). -/
structure Snap where
  tick : Nat
  tN : Nat
  strobe : Nat
  claim : Nat
  entries : Nat
  mode : Nat
  substCount : Nat
  g0 : Int
  g1 : Int
  g0T : Nat
  g1T : Nat
  aux : Int
  subG0 : Bool
  subG1 : Bool
  subAux : Bool
  subCaps : Bool
  prevGrid : Int
  ports : List PortRec
  blocks : List BlockRec
  strings : List StrRec
  convs : List ConvRec
  /-- slots 0–15: status code and substituted flag -/
  slow : List (Nat × Bool)
  deriving DecidableEq, Repr

/-- Port setpoint entry of a curd (spec/04 R89). -/
structure PortSet where
  i : Int
  vLim : Int
  p : Int
  cls : Nat
  clamped : Bool
  ramping : Bool
  scaled : Bool
  fallback : Bool
  deriving DecidableEq, Repr

def PortSet.zero : PortSet :=
  { i := 0, vLim := 0, p := 0, cls := 0, clamped := false, ramping := false, scaled := false, fallback := false }

/-- Block setpoint entry (spec/04 R89): CONTACTOR 0 hold, 1 open path, 2 close path. -/
structure BlockSet where
  i : Int
  v : Int
  port : Nat
  contactor : Nat
  migStep : Nat
  flags : Nat
  deriving DecidableEq, Repr

def BlockSet.zero : BlockSet := { i := 0, v := 0, port := 0, contactor := 0, migStep := 0, flags := 0 }

/-- Converter reference entry (spec/04 R89). -/
structure ConvSet where
  refType : Nat
  skim : Nat
  flags : Nat
  ref : Int
  vLim : Int
  deriving DecidableEq, Repr

def ConvSet.zero : ConvSet := { refType := 0, skim := 0, flags := 0, ref := 0, vLim := 0 }

/-- The curd record of one tick (spec/04 R89). -/
structure Curd where
  tick : Nat
  tN : Nat
  launch : Nat
  claim : Nat
  status : Nat
  sealT : Nat
  clamps : Nat
  substs : Nat
  cmp : Nat
  gCap : Int
  dMax : Int
  pGrid : Int
  pStor : Int
  pPort : Int
  pAux : Int
  whey : Int
  wheyRound : Int
  served : Nat
  shortClass : Nat
  wheyClamp : Int
  ports : List PortSet
  blocks : List BlockSet
  /-- power target, W, and the REST_WINDOW flag -/
  strings : List (Int × Bool)
  convs : List ConvSet
  slow : List Int
  clampPorts : Nat
  clampBlocks : Nat
  clampStrings : Nat
  clampConvs : Nat
  deriving DecidableEq, Repr

/-- Sanitize's memory of one input (spec/04 R76). -/
structure San where
  /-- under fallback -/
  under : Bool
  /-- consecutive implausible snapshots -/
  bad : Nat
  /-- consecutive good snapshots while under fallback -/
  good : Nat
  /-- snapshots under fallback -/
  ticks : Nat
  /-- last good values -/
  v0 : Int
  v1 : Int
  v2 : Int
  deriving DecidableEq, Repr

def San.zero : San := { under := false, bad := 0, good := 0, ticks := 0, v0 := 0, v1 := 0, v2 := 0 }

/-- A migration proposal accepted from its ring and awaiting its check (spec/05 R121). -/
structure Proposal where
  ring : Nat
  idx : Nat
  block : Nat
  /-- new port, 0xFF to park -/
  new : Nat
  ramp : Nat
  force : Bool
  reservedZero : Bool
  deriving DecidableEq, Repr

/-- An accepted capture (spec/04 R91). -/
structure Capture where
  ring : Nat
  idx : Nat
  first : Nat
  count : Nat
  kind : Nat
  addr : Nat
  deriving DecidableEq, Repr

/-- Measured values of a port, mV and mA (spec/09 R205). -/
structure PortMeas where
  v : Int
  i : Int
  deriving DecidableEq, Repr

/-- An accepted vehicle request (spec/12 R294): mA, mV, W. -/
structure Req where
  i : Int
  v : Int
  p : Int
  deriving DecidableEq, Repr

/-- What a board's STATUS frame says of one block (spec/06 R133). -/
structure BlockStat where
  state : Nat
  path : Nat
  availP : Int
  outI : Int
  outV : Int
  temp : Int
  deriving DecidableEq, Repr

/-- Published means of a converter (spec/08 R193). -/
structure ConvMeas where
  batV : Int
  batI : Int
  busV : Int
  p : Int
  duty : Nat
  deriving DecidableEq, Repr

/-- The caps the Rind publishes (spec/14 R338): per port CAP_I, CAP_V, export authorised, tripped; per string CAP_I, export. -/
structure Caps where
  ports : List (Nat × Nat × Bool × Bool)
  strings : List (Nat × Bool)
  /-- SAFE_OFF bit per port -/
  safeOff : Nat
  deriving DecidableEq, Repr

/-- The Churn (spec/04, spec/05). -/
structure Alp where
  /-- port samples waiting for the strobe; spec/01 R11, spec/09 R205; reset empty -/
  inPort : Tab (Mail PortMeas)
  /-- accepted vehicle requests; spec/01 R12, spec/12 R294; reset empty -/
  inReq : Tab (Mail Req)
  /-- block statuses; spec/01 R11, spec/06 R133; reset empty -/
  inBlock : Tab (Mail BlockStat)
  /-- converter telemetry; spec/08 R193; reset empty -/
  inConv : Tab (Mail ConvMeas)
  /-- G0_P (0) and G1_P (1), W; spec/09 R218; reset empty -/
  inAc : Tab (Mail Int)
  /-- Rind cap publications; spec/14 R338; reset empty -/
  inCaps : Mail Caps
  /-- slow-node status codes; spec/06 R138; reset empty -/
  inSlow : Tab (Mail Nat)
  /-- Sanitize memory by 64 × input code + index; spec/04 R76; reset empty -/
  san : Tab San
  /-- snapshot records held, newest first; spec/01 (64 ticks); reset empty -/
  snaps : List Snap
  /-- curd records held, newest first; spec/01 (64 ticks); reset empty -/
  curds : List Curd
  /-- captures not yet complete; spec/04 R91; reset empty -/
  captures : List Capture
  /-- heartbeats on their way to the Rind, oldest first; spec/04 R82; reset empty -/
  heartbeats : List Nat
  /-- fitness cause 7 of a standby by overruns; 1 bit; spec/04 R85; reset false -/
  ovrHold : Bool
  /-- the leading unit is in HALT, so a standby seals zero curds; 1 bit; spec/16 R380; reset false -/
  leadHalt : Bool
  /-- length of the run of repeat curds, of which ALP_OVR_STAT.RUN shows at most 255; spec/04 R84; reset 0 -/
  repeats : Nat
  /-- ticks of the overruns within the last WIN_LEN ticks; spec/04 R85; reset empty -/
  overruns : List Nat
  /-- entities clamped by the last Seal; spec/04 R81; reset empty -/
  clampRun : List Nat
  /-- whey of the last WHEY_WIN curds with their ticks, newest first; spec/04 R87; reset empty -/
  wheys : List (Nat × Int)
  /-- length of the run of ticks with SHORTFALL; spec/05 R112; reset 0 -/
  shortRun : Nat
  /-- block bounds u of the last curd sealed on a snapshot; spec/05 R121; reset empty -/
  lastU : List Int
  /-- changes of SESSION by stamp, port and value before, newest first: a snapshot sees those before its t_N; spec/01 R11; reset empty -/
  lateSess : List (Nat × Nat × Nat)
  /-- P_GRID exceeded G_CAP in the last tick; spec/05 R114; reset false -/
  gridOver : Bool
  deriving DecidableEq, Repr

/-- Constraint table, edits and migrations (spec/05). -/
structure Con where
  /-- constraint entries by index, 2,048 of 32 bytes; spec/05 R94; reset all disabled (DESIGN CHOICE all zero, log entry 6) -/
  table : Tab Entry
  /-- changes of the table by stamp, index and entry before, newest first: a snapshot sees those before its t_N; spec/01 R11; reset
  empty -/
  late : List (Nat × Nat × Entry)
  /-- changes the running snapshot does not see, by stamp, index and entry after; spec/01 R11; reset empty -/
  held : List (Nat × Nat × Entry)
  /-- staged edits in staging order, at most 32: index and entry; spec/05 R100; reset empty -/
  staged : List (Nat × Entry)
  /-- running migrations, at most 8; spec/05 R121; reset empty -/
  migs : List Mig
  /-- proposals awaiting their check, oldest first; spec/05 R121; reset empty -/
  proposals : List Proposal
  /-- string that rested last; spec/05 R118; reset none -/
  lastRest : Option Nat
  /-- last commanded path of a block (0xFF open) and the tick it takes effect; spec/05 R103; reset empty -/
  commanded : Tab (Option (Nat × Nat))
  /-- blocks parked by an abort whose board does not yet report its paths open; spec/05 R124; reset empty -/
  parked : List Nat
  /-- blocks in a path-fault episode; spec/05 R103; reset empty -/
  pathFault : List Nat
  deriving DecidableEq, Repr

def Alp.reset : Alp :=
  { inPort := [], inReq := [], inBlock := [], inConv := [], inAc := [], inCaps := [], inSlow := [], san := [], snaps := [],
    curds := [], captures := [], heartbeats := [], repeats := 0, overruns := [], ovrHold := false, leadHalt := false, clampRun := [], wheys := [], shortRun := 0, lastU := [], lateSess := [], gridOver := false }

def Con.reset : Con :=
  { table := [], late := [], held := [], staged := [], migs := [], proposals := [], lastRest := none, commanded := [], parked := [], pathFault := [] }

end Sys2Proof.Machine
end

