-- ==== Sys2Proof/Machine/StateLink.lean ====
section
/-!
DEFINITION. State of the serial lanes and of the Launch Unit beside their registers (spec/06_launch_and_endpoints.md,
spec/07_serial_lanes.md). Lanes 0 to 11 are the cabinet lanes L0–L11, lanes 12 and 13 the Dreak lanes D0 and D1.
-/
namespace Sys2Proof.Machine

/-- A delay measurement in progress (spec/07 R163, R164). -/
structure Meas where
  /-- uptime of its start -/
  start : Nat
  /-- exchanges started -/
  sent : Nat
  /-- exchange identity of the request outstanding, and t1 in 2^−16 ns of site time -/
  xid : Nat
  t1 : Option Nat
  /-- twice the delays found, in 2^−16 ps -/
  ds : List Int
  deriving DecidableEq, Repr

/-- One lane beside its registers. -/
structure Lane where
  /-- FSEQ of the last frame sent; 16 bits; spec/07 R152; reset DESIGN CHOICE 0 (log entry 6) -/
  fseqTx : Nat
  /-- FSEQ last received; 16 bits; spec/07 R152; reset none -/
  fseqRx : Option Nat
  /-- uptime of the last valid frame; spec/07 R160; reset 0 -/
  rxAt : Nat
  /-- uptime of the last frame sent; spec/07 R160; reset 0 -/
  txAt : Nat
  /-- uptime of the entry into the present state; spec/07 R155; reset 0 -/
  since : Nat
  /-- uptime of the last far-end test; spec/07 R155; reset 0 -/
  testAt : Nat
  /-- consecutive tests that found the far end; spec/07 R155; reset 0 -/
  found : Nat
  /-- uptime of the exit from DETECT; spec/07 R176; reset 0 -/
  exitAt : Nat
  /-- uptimes of the frames discarded within the last 1 ms; spec/07 R160; reset empty -/
  discards : List Nat
  /-- uptime of the last CAPS frame sent; spec/07 R158; reset 0 -/
  capsAt : Nat
  /-- far-end ASYM, ps; 32 bits; spec/07 R158; reset 0 -/
  asym : Int
  /-- measurement in progress; spec/07 R164; reset none -/
  meas : Option Meas
  /-- uptime of the last accepted delay result; spec/06 R147 AGE; reset none -/
  measAt : Option Nat
  /-- uptime of the start of the last measurement; spec/07 R164; reset 0 -/
  measStart : Nat
  /-- the last measurement failed; spec/16 R394; reset false -/
  measBad : Bool
  /-- uptime of the last TIME frame; spec/07 R165; reset 0 -/
  timeAt : Nat
  /-- uptime of the last DLY_REQ on the yoke; spec/07 R166; reset 0 -/
  reqAt : Nat
  /-- delay requests answered since entry to DELAY; spec/07 R166; reset 0 -/
  answered : Nat
  /-- last valid delays of a Dreak lane, at most 8, newest first, twice in 2^−16 ps; spec/07 R166; reset empty -/
  last8 : List Int
  /-- TARGET of the LP_REQ that waits for its LP_ACK; spec/07 R169; reset none -/
  lpReq : Option Nat
  /-- DFE taps 1–5 adapted, s8 each; 40 bits; spec/07 R173; reset 0 -/
  dfe : Nat
  /-- FOLLOW, arrival stamp (site ns) and FLAGS of the endpoint's last reports, newest first, at most 16; spec/06 R147; reset
  empty -/
  follow : List (Nat × Nat × Nat)
  /-- MISS_CNT last reported; 16 bits; spec/06 R148; reset none -/
  miss : Option Nat
  /-- uptime, ns, at which the transmitter has sent its last frame; spec/07 R154; reset 0 -/
  txFree : Nat
  /-- the measurement of this DELAY state has ended without an accepted delay; 1 bit; spec/07 R164; reset false -/
  stuck : Bool
  deriving DecidableEq, Repr

def Lane.reset : Lane :=
  { fseqTx := 0, fseqRx := none, rxAt := 0, txAt := 0, since := 0, testAt := 0, found := 0, exitAt := 0, discards := [],
    capsAt := 0, asym := 0, meas := none, measAt := none, measStart := 0, measBad := false, timeAt := 0, reqAt := 0,
    answered := 0, last8 := [], lpReq := none, dfe := 0, follow := [], miss := none, txFree := 0, stuck := false }

/-- An eye scan, running or waiting (spec/07 R171). -/
structure Scan where
  ring : Nat
  idx : Nat
  lane : Nat
  phMin : Int
  phMax : Int
  phStep : Nat
  vMin : Int
  vMax : Int
  vStep : Nat
  dwell : Nat
  addr : Nat
  /-- start: uptime and site time, ns; CTLE code and DFE taps at the start -/
  start : Nat
  site : Nat
  ctle : Nat
  dfe : Nat
  deriving DecidableEq, Repr

/-- Serial lanes, the yoke and the eye scans (spec/07), and slow-node reports (spec/06). -/
structure Link where
  /-- lanes by number; spec/07 R155; reset all Lane.reset -/
  lanes : Tab Lane
  /-- D0 and D1 are held OFF; 1 bit; spec/07 R170; reset true -/
  dreakHeld : Bool
  /-- YSEQ of the last yoke frame sent; 24 bits; spec/07 R167; reset 0 (the first is 1) -/
  yseqTx : Nat
  /-- YSEQ last received; 24 bits; spec/07 R167; reset none -/
  yseqRx : Option Nat
  /-- YSEQs skipped and not received yet, as first number and count; spec/07 R167; reset empty -/
  yGaps : List (Nat × Nat)
  /-- the yoke has been up since reset; 1 bit; spec/07 R167; reset false -/
  yokeUp : Bool
  /-- uptime of the yoke's loss or degradation; spec/07 R176; reset 0 -/
  yokeLostAt : Nat
  /-- eye scans running, at most 2; spec/07 R172; reset empty -/
  scans : List Scan
  /-- eye scans waiting; spec/07 R172; reset empty -/
  scanWait : List Scan
  /-- FOLLOW last reported by the node of a slow-load slot, with its stamp; spec/06 R147; reset empty -/
  slowFollow : Tab (Option (Nat × Nat))
  deriving DecidableEq, Repr

def Link.reset : Link :=
  { lanes := [], dreakHeld := true, yseqTx := 0, yseqRx := none, yGaps := [], yokeUp := false, yokeLostAt := 0, scans := [],
    scanWait := []  , slowFollow := [] }

end Sys2Proof.Machine
end

