-- ==== Sys2Proof/Machine/StateSfi.lean ====
section
/-!
DEFINITION. State of the Rind, the safety island (spec/14_safety_island.md). All of it lies in the VAON domain.
-/
namespace Sys2Proof.Machine

/-- A latched trip (spec/14 R341, R342). -/
structure Trip where
  /-- tripped entity: entity index of a port, converter or axis, 0 for the site -/
  target : Nat
  /-- function code of spec/14 R361 -/
  func : Nat
  /-- what caused it: pair, port, string, axis, entry, connection or output index -/
  origin : Nat
  /-- stop category -/
  cat : Nat
  /-- uptime of the decision -/
  since : Nat
  /-- its outputs are to be de-energised: category 0, or category 1 after its delay -/
  acting : Bool
  deriving DecidableEq, Repr

/-- A safe input terminal (spec/14 R330, R331). -/
structure SafeIn where
  level : Bool
  /-- consecutive samples that show the other level -/
  run : Nat
  /-- test-pulse fault -/
  tpf : Bool
  deriving DecidableEq, Repr

def SafeIn.reset : SafeIn := { level := false, run := 0, tpf := false }

/-- Progress of an acknowledge sequence, clear to demand to clear (spec/14 R332): a discrepancy on the way, while one channel
has changed and the other not yet, does not break it. -/
inductive AckSeq
  /-- no clear state seen yet, or the sequence was broken -/
  | idle
  | clear
  /-- in demand since an uptime -/
  | demand (since : Nat)
  /-- demand has ended after this time, ns, and clear has not followed yet -/
  | held (len : Nat)
  deriving DecidableEq, Repr

/-- A pair of safe inputs (spec/14 R330, R332). -/
structure Pair where
  /-- uptime since which the pair shows a discrepancy -/
  discAt : Option Nat
  /-- discrepancy fault latched -/
  fault : Bool
  /-- last state: 0 clear, 1 demand, 2 discrepancy -/
  last : Nat
  /-- its acknowledge sequence -/
  ack : AckSeq
  deriving DecidableEq, Repr

def Pair.reset : Pair := { discAt := none, fault := false, last := 1, ack := .idle }

/-- An encoder axis (spec/14 R340). -/
structure Axis where
  /-- position, counts; 32 bits -/
  pos : Int
  /-- count changes of the last two cycles -/
  d0 : Int
  d1 : Int
  /-- last SSI reading -/
  ssi : Option Int
  deriving DecidableEq, Repr

def Axis.reset : Axis := { pos := 0, d0 := 0, d1 := 0, ssi := none }

/-- A Soelaone connection (spec/14 R350, R351). -/
structure Conn where
  /-- 0 CLOSED, 1 OPENING, 2 RUN, 3 SAFE -/
  state : Nat
  /-- SEQ last sent; 32 bits; none before the first -/
  tx : Option Nat
  /-- SEQ last accepted; 32 bits -/
  rx : Option Nat
  /-- uptime of the last accepted frame, or of the entry into the state -/
  lastAt : Nat
  /-- uptime of the last frame sent -/
  sentAt : Option Nat
  /-- an open request of the partner waits for its acknowledgement -/
  answer : Bool
  /-- payload accepted in RUN, zeros otherwise -/
  payload : List Nat
  deriving DecidableEq, Repr

def Conn.reset : Conn := { state := 0, tx := none, rx := none, lastAt := 0, sentAt := none, answer := false, payload := [] }

/-- A safe output (spec/14 R333 to R335). -/
structure SafeOut where
  on : Bool
  /-- output or EDM fault latched -/
  fault : Bool
  /-- consecutive readbacks that contradict the command -/
  bad : Nat
  /-- uptime of the last change, while its feedback is awaited -/
  edmAt : Option Nat
  deriving DecidableEq, Repr

def SafeOut.reset : SafeOut := { on := false, fault := false, bad := 0, edmAt := none }

/-- A cap publication (spec/14 R338): stamp, then per port CAP_I and CAP_V. -/
structure Pub where
  stamp : Nat
  capI : List Nat
  capV : List Nat
  deriving DecidableEq, Repr

/-- The Rind. -/
structure Sfi where
  /-- the start-up self-test has passed; spec/14 R347, R360; reset false -/
  ready : Bool
  /-- uptime of the end of the last logic cycle; spec/14 R329; reset none -/
  cycleAt : Option Nat
  /-- confirmed image in force, by word offset; 1,280 bytes (non-volatile); spec/14 R354; reset the default image (an unwritten store, DESIGN CHOICE, log entry 6) -/
  image : Tab Nat
  /-- an image has been confirmed (non-volatile); spec/14 R360; reset false (log entry 6) -/
  confirmed : Bool
  /-- SAFETY_CV (non-volatile); 32 bits; spec/14 R355; reset 0 -/
  cv : Nat
  /-- staged image; spec/14 R354; reset the default image -/
  staged : Tab Nat
  /-- uptime at which step 2, or the wait of step 4, of a confirmation began; spec/14 R355; reset none -/
  reqAt : Option Nat
  /-- sequence of the acknowledge pair that the staged image names; spec/14 R355; reset idle -/
  cfm : AckSeq
  /-- last heartbeat received; 32 bits; spec/14 R333; reset none -/
  hb : Option Nat
  /-- uptime of the last heartbeat; spec/02 R35; reset 0 -/
  hbAt : Nat
  /-- the heartbeat counts as stopped: its 5 ms passed or the main domains entered reset; spec/02 R35; reset false -/
  hbStop : Bool
  /-- SAFE_GRACE has passed since that heartbeat; spec/02 R35; reset false -/
  grace : Bool
  /-- SFI_HB_LOSS was logged for this loss; spec/14 R361; reset false -/
  lossLogged : Bool
  /-- uptime of the first heartbeat that shows HALT; spec/02 R38; reset none -/
  haltAt : Option Nat
  /-- the outputs were opened under R38; spec/02 R38; reset false -/
  haltOpen : Bool
  /-- safe input terminals SI0 to SI15; spec/14 R330; reset low -/
  si : Tab SafeIn
  /-- uptime at which the last low pulse of TPS0 and of TPS1 began; spec/14 R331; reset none -/
  tps0 : Option Nat
  tps1 : Option Nat
  /-- pairs 0 to 7; spec/14 R330; reset demand -/
  pairs : Tab Pair
  /-- IMD_IN is high; spec/14 R340; reset low -/
  imd : Bool
  /-- consecutive cycles for which a condition has held, by function × 256 + index; spec/14 R340; reset 0 -/
  counts : Tab Nat
  /-- value last measured by such a condition; spec/14 R361; reset 0 -/
  vals : Tab Int
  /-- comparator entries 0 to 31: cause present, and cycles within the clearing range; spec/15 R370; reset false, 0 -/
  temps : Tab (Bool × Nat)
  /-- SOk_S above 15 V, bit k; 8 bits; spec/18 R439; reset DESIGN CHOICE 0 (log entry 6) -/
  supply : Nat
  /-- cycles for which a port's mean current has been below OPEN_I; spec/14 R345; reset 0 -/
  low : Tab Nat
  /-- publications of the last CAP_LAG, newest first; spec/14 R339; reset empty -/
  pubs : List Pub
  /-- LIM_I and LIM_V of a port before the ramp-down request, and of the cycle before; spec/14 R339; reset none -/
  limKeep : Tab (Nat × Nat)
  limPrev : Tab (Option (Nat × Nat))
  /-- export-authorised bits of the ports in the last publication; spec/14 R340; reset 0 -/
  lastExp : Nat
  /-- encoder axes E0 to E3; spec/14 R340; reset all zero -/
  axes : Tab Axis
  /-- safe outputs SO0 to SO7; spec/14 R333; reset off -/
  outs : Tab SafeOut
  /-- latched trips, oldest first; spec/14 R342; reset empty -/
  trips : List Trip
  /-- causes present in the last cycle, as function × 256 + origin; spec/14 R342; reset empty -/
  present : List Nat
  /-- causes of the LIMP request in force: 1,000 + port or string × channel of the cross-check, 2,000 + test-pulse source; spec/14 R358; reset empty -/
  limpBy : List Nat
  /-- test-pulse source stuck, bits TPS0, TPS1; spec/14 R358; reset 0 -/
  tpsStuck : Nat
  /-- connections 0 to 7; spec/14 R351; reset CLOSED -/
  conns : Tab Conn
  /-- uptime since which every peer frame reported the peer not holding; spec/14 R346; reset none -/
  noHoldAt : Option Nat
  /-- consecutive peer frames with HOLD 0; spec/16 R398; reset 0 -/
  hold0 : Nat
  /-- VLR_HOLD; 1 bit; spec/14 R346; reset low -/
  hold : Bool
  /-- TWIN_ALIVE_I: level and uptime of its last change; spec/14 R347; reset low, 0 -/
  aliveIn : Bool
  aliveInAt : Nat
  /-- TWIN_ALIVE_I qualified high; 1 bit; spec/14 R347; reset low -/
  aliveOk : Bool
  /-- the site was a twin by GLB_SITE_CFG.TOPO when the main domains last ran: what the twin rule of R35 goes by while they are in
  reset; 1 bit; spec/02 R35; reset DESIGN CHOICE false (log entry 119) -/
  twinSite : Bool
  /-- TWIN_ALIVE_O latched low by R34; 1 bit; spec/02 R34; reset false -/
  aliveOff : Bool
  /-- internal fault latched: diagnostic number and uptime; spec/14 R358; reset none -/
  fault : Option (Nat × Nat)
  /-- it recurred within 10 s and stays until VAON powers on; spec/14 R358; reset false -/
  faultStays : Bool
  /-- site-wide trip by a clock mismatch (R51) is present; spec/03 R51; reset false -/
  safBad : Bool
  /-- instant from which VAON time has run since the last store refresh, ns of uptime; while VAON is off, the VAON time already
  counted (non-volatile); spec/14 R328; reset 0 -/
  refreshAt : Nat
  /-- SHA-256 over salt and password, and the salt (non-volatile); spec/14 R356; reset none -/
  pwdHash : Option (List Nat × List Nat)
  /-- SFI_PWD_0 to SFI_PWD_3; 128 bits; spec/14 R356; reset 0 -/
  pwd : Tab Nat
  /-- uptime at which the lockout ends; spec/14 R356; reset none -/
  lockEnd : Option Nat
  /-- change log, newest first, at most 64 entries of eight words (non-volatile); spec/14 R357; reset empty -/
  chlog : List (List Nat)
  /-- number of the last entry; spec/14 R357; reset 0 -/
  chnum : Nat
  deriving DecidableEq, Repr

def Sfi.reset : Sfi :=
  { ready := false, cycleAt := none, image := [], confirmed := false, cv := 0, staged := [], reqAt := none, cfm := .idle,
    hb := none, hbAt := 0, hbStop := false, grace := false, lossLogged := false, haltAt := none,
    haltOpen := false, si := [], tps0 := none, tps1 := none, pairs := [], imd := false, vals := [], temps := [], supply := 0, counts := [], low := [], pubs := [], limKeep := [], limPrev := [],
    lastExp := 0, axes := [], outs := [], trips := [], present := [], limpBy := [], tpsStuck := 0, conns := [],
    noHoldAt := none, hold0 := 0, hold := false, aliveIn := false, aliveInAt := 0, aliveOk := false, twinSite := false, aliveOff := false,
    fault := none, faultStays := false, safBad := false, refreshAt := 0, pwdHash := none, pwd := [], lockEnd := none,
    chlog := [], chnum := 0 }

end Sys2Proof.Machine
end

