-- ==== Sys2Proof/Machine/StateThm.lean ====
section
/-!
DEFINITION. State of the Thermal Manager, the Housekeeping ADC and the Load Switch Bank beside their registers
(spec/15_thermal_and_load_switches.md).
-/
namespace Sys2Proof.Machine

/-- One external temperature channel. -/
structure Chan where
  /-- the channel's own temperature, 0.1 °C; spec/15 R365; reset none -/
  own : Option Int
  /-- pin voltage last measured, mV; 16 bits; spec/15 R366, R378; reset 0 -/
  pin : Nat
  /-- in fault; 1 bit; spec/15 R366; reset false -/
  fault : Bool
  /-- consecutive good readings while in fault; spec/15 R366; reset 0 -/
  good : Nat
  /-- WARN crossed; 1 bit; spec/15 R367; reset false -/
  warn : Bool
  /-- THR crossed; 1 bit; spec/15 R367; reset false -/
  thr : Bool
  /-- SHUT crossed; 1 bit; spec/15 R367; reset false -/
  shut : Bool
  /-- consecutive fast samples below THR − PROMO − 2.0 °C; spec/15 R364; reset 0 -/
  below : Nat
  /-- qualifies for promotion; 1 bit; spec/15 R364; reset false -/
  qual : Bool
  deriving DecidableEq, Repr

def Chan.reset : Chan :=
  { own := none, pin := 0, fault := false, good := 0, warn := false, thr := false, shut := false, below := 0, qual := false }

/-- Thermal management. -/
structure Thm where
  /-- channels T0 to T95; spec/15 R362; reset all Chan.reset -/
  chans : Tab Chan
  /-- reference of each group as last converted, 0.01 % of nominal; spec/15 R365; reset nominal (DESIGN CHOICE, log entry 51) -/
  refs : Tab Int
  /-- promoted channels, ascending; spec/15 R364; reset none -/
  fast : List Nat
  /-- channels without a throttle binding until the next sealing; spec/15 R369; reset none -/
  unbound : List Nat
  /-- next conversion of the slow round in progress, 0 to 123; spec/15 R363; reset none -/
  slow : Option Nat
  /-- on-die sensors at or above WARN; 12 bits; spec/15 R371; reset 0 -/
  dieWarn : Nat
  /-- last on-die readings, 0.1 °C (VAON); spec/15 R371; reset none -/
  dieT : List Int
  /-- uptime since which every sensor has been 15.0 °C below TRIP (VAON); spec/15 R371; reset none -/
  dieCool : Option Nat
  /-- TRIP level in force when the hold began, 0.1 °C (VAON); spec/15 R371; reset 0 -/
  dieTrip : Nat
  /-- uptime at which the hold began, and the peak temperature (VAON); spec/15 R371; reset none -/
  dieHold : Option (Nat × Int)
  /-- sensor at the peak (VAON); spec/15 R371; reset 0 -/
  dieSensor : Nat
  deriving DecidableEq, Repr

def Thm.reset : Thm :=
  { chans := [], refs := [], fast := [], unbound := [], slow := none, dieWarn := 0, dieT := [], dieCool := none, dieTrip := 0,
    dieHold := none, dieSensor := 0 }

/-- One load switch (VAON). -/
structure Lsw where
  /-- conducting; 1 bit; spec/15 R372; reset false -/
  on : Bool
  /-- LOCKED; 1 bit; spec/15 R373; reset false -/
  locked : Bool
  /-- THERM; 1 bit; spec/15 R373; reset 0 -/
  therm : Bool
  /-- USED; 4 bits; spec/15 R377; reset 0 -/
  used : Nat
  /-- LAST_TRIP; 2 bits; spec/15 R377; reset 0 -/
  lastTrip : Nat
  /-- uptime at which the retry timer expires; spec/15 R373; reset none -/
  retryAt : Option Nat
  /-- retry time left while the timer is paused, ns; spec/15 R374; reset none -/
  retryLeft : Option Nat
  /-- uptime at which inrush ends; spec/15 R373; reset none -/
  inrushAt : Option Nat
  /-- inrush time left while a VSW hold pauses it, ns; spec/15 R375; reset none -/
  inrushLeft : Option Nat
  /-- uptime since which the channel has conducted; spec/15 R373; reset 0 -/
  since : Nat
  deriving DecidableEq, Repr

def Lsw.reset : Lsw :=
  { on := false, locked := false, therm := false, used := 0, lastTrip := 0, retryAt := none, retryLeft := none,
    inrushAt := none, inrushLeft := none, since := 0 }

/-- Load Switch Bank (VAON). -/
structure Lsb where
  /-- switches SW0 to SW23; spec/15 R372; reset all Lsw.reset -/
  sw : Tab Lsw
  /-- uptime of the fall of VSW below VSW_UV; spec/15 R375; reset none -/
  uvAt : Option Nat
  /-- VSW last measured, mV; spec/15 R378; reset 0 -/
  vsw : Nat
  deriving DecidableEq, Repr

def Lsb.reset : Lsb := { sw := [], uvAt := none, vsw := 0 }

end Sys2Proof.Machine
end

