-- ==== Sys2Proof/Machine/State.lean ====
section
/-!
DEFINITION. The machine's state as plain data: the waiting commands, the register file, and one structure per block of the
PH4800. State.reset is the module as VAON powers on (spec/02, "Start-up", step 1).
-/
namespace Sys2Proof.Machine

/-- No command of this model ends in a fault: the block reports errors as completion codes and logged events. -/
inductive Fault where
  deriving DecidableEq, Repr

/-- Why a command has no meaning. -/
inductive Refusal where
  /-- raised by Machine/Dispatch.lean for a command that has no meaning yet; safe: nothing can be proved of what it does -/
  | notModelled (mnemonic : String)
  deriving DecidableEq, Repr

/-- The state of one PH4800 unit. -/
structure State where
  /-- commands waiting, first in first out; the model's queue; reset empty -/
  pending : List Instr
  /-- grade of the part; 1 bit (fuse); spec/00 R2; reset PH4800 (no command changes it, DESIGN CHOICE, log entry 1) -/
  grade : Grade
  /-- uptime since State.reset, ns: the model's clock; reset 0 -/
  now : Nat
  /-- number of free values taken: the model's own counter (log entry 3); reset DESIGN CHOICE 0 -/
  free : Nat
  /-- set-up registers by BAR0 offset; 32 bits each; spec/00 R9; reset as the register tables give -/
  regs : Tab (BitVec 32)
  /-- what the block has put on its buses and pins, newest first; reset empty -/
  out : List Out
  glb : Glb
  stu : Stu
  log : EvLog
  hif : Hif
  alp : Alp
  con : Con
  link : Link
  cce : Press
  thm : Thm
  lsb : Lsb
  mte : Mte
  rsl : Rsl
  kvt : Kvt
  see : See
  cans : Can
  plu : Plus
  sfi : Sfi
  twin : Twin
  deriving DecidableEq, Repr

/-- Mode, supplies and reset as VAON powers on. -/
def Glb.reset : Glb :=
  { mode := .dormant, booting := true, lastCause := 0, prevMode := .dormant,
    holds := { resetN := true, order := false, ref := false, die := false, core := false },
    aboveOff := 0, powered := 0, inReg := 0, window := none, pwrEn := false, pwrEnLowAt := 0, allOffAt := some 0, offSeen := false,
    brownAt := none, brownOver := false, rstLowAt := some 0, stuck := false, stuckMs := 0, limpPend := none,
    kickAt := 0, wdogOut := false, pwrOffPend := false, sealed := none, sealedCv := 0,
    images := Twins.blank }

/-- Site time as the main domains leave reset. -/
def Stu.reset : Stu :=
  { site := 0, labelArmed := false, ppsLast := none, ppsAt := none, ref10At := none, hostAt := none, twinOk := false, goodRun := 0,
    freqTerm := 0, phaseTerm := 0, ppsOut := false, ppsOutAt := 0, nextTick := 0, rtcBase := 0, rtcAt := 0, safBad := 0,
    refHold := none }

/-- Host interface as the main domains leave reset. -/
def Hif.reset : Hif :=
  { rings := [], lastRing := 63, poolDry := false, poolLow := 1024, evWaits := [], selfTest := none, selfWait := [],
    linkUp := false, linkDownAt := 0, busMaster := false, d3hot := false, msixEn := false, fnMask := false,
    vecMask := true, msixPend := false }

/-- The machine right after reset: VAON powers on (spec/02 "Start-up" step 1), every other supply off. -/
def State.reset : State :=
  { pending := [], grade := .ph4800, now := 0, free := 0, regs := [], out := [],
    glb := Glb.reset, stu := Stu.reset, log := { events := [], head := 0, kept := [] }, hif := Hif.reset,
    alp := Alp.reset, con := Con.reset, link := Link.reset, cce := Press.reset, thm := Thm.reset,
    lsb := Lsb.reset, mte := Mte.reset, rsl := Rsl.reset, kvt := Kvt.reset,
    see := See.reset, cans := Can.reset, plu := Plus.reset, sfi := Sfi.reset, twin := Twin.reset }

end Sys2Proof.Machine
end

