-- ==== Sys2Proof/Machine/Ops.lean ====
section
/-!
DEFINITION. The operations every family uses: reading and writing register fields, the clock, logging an event, raising an
attention cause, and the life of a descriptor from its fetch to its completion (spec/17).
-/
namespace Sys2Proof.Machine

/-! ### Registers -/

/-- The number `x` with the `w` bits from `lo` on replaced by those of `v`. -/
def putBits (x lo w v : Nat) : Nat := x % 2 ^ lo + 2 ^ lo * (v % 2 ^ w) + 2 ^ (lo + w) * (x / 2 ^ (lo + w))

/-- The stored 32 bits of a register. -/
def State.reg (s : State) (off : Nat) : Nat := (tget regReset s.regs off).toNat

/-- A field of a register. -/
def State.rd (s : State) (f : Fld) : Nat := s.reg f.off / 2 ^ f.lo % 2 ^ f.w

/-- A field read as two's complement. -/
def State.rdS (s : State) (f : Fld) : Int := sx f.w (s.rd f)

/-- Bit `i` of a field. -/
def State.rdBit (s : State) (f : Fld) (i : Nat) : Bool := (s.rd f).testBit i

/-- A one-bit field. -/
def State.flag (s : State) (f : Fld) : Bool := s.rd f != 0

/-- Stores 32 bits in a register. -/
def State.setReg (s : State) (off v : Nat) : State :=
  { s with regs := tset regReset s.regs off (BitVec.ofNat 32 v) }

/-- Sets one field of a register, the other bits kept. -/
def State.wr (s : State) (f : Fld) (v : Nat) : State := s.setReg f.off (putBits (s.reg f.off) f.lo f.w v)

/-- Sets a field from an integer, in two's complement. -/
def State.wrS (s : State) (f : Fld) (v : Int) : State := s.wr f (enc f.w v)

/-- Sets bit `i` of a field. -/
def State.wrBit (s : State) (f : Fld) (i : Nat) (b : Bool) : State := s.wr f (setBit (s.rd f) i b)

/-- Counts up a saturating counter field (R92, R174, R195, R304, R326, R428). -/
def State.bump (s : State) (f : Fld) (k : Nat := 1) : State := s.wr f (satAdd f.w (s.rd f) k)

/-- Counts up a wrapping counter field. -/
def State.bumpWrap (s : State) (f : Fld) (k : Nat := 1) : State := s.wr f (s.rd f + k)

/-- Two registers read as one 64-bit number, low half first. -/
def State.rd64 (s : State) (lo hi : Fld) : Nat := s.rd lo + 2 ^ 32 * s.rd hi

/-- Writes one 64-bit number to two registers. -/
def State.wr64 (s : State) (lo hi : Fld) (v : Nat) : State := (s.wr lo (v % 2 ^ 32)).wr hi (v / 2 ^ 32 % 2 ^ 32)

/-! ### Reset, clock and free values -/

/-- The main domains run: nothing holds them in reset, VAON is in regulation, and every supply of groups 2 to 4 has been in
regulation since it was last off (spec/02 R30–R33, spec/03 R49, spec/15 R371; log entry 61). -/
def State.mainUp (s : State) : Bool :=
  !s.glb.holds.resetN && !s.glb.holds.order && !s.glb.holds.ref && !s.glb.holds.die && !s.glb.holds.core &&
  s.rdBit GLB_PWR_STAT.PGOOD 0 && s.glb.powered == 0xFF

/-- The main domains run and boot has ended: the block serves the host and the site (spec/02 R45). -/
def State.up (s : State) : Bool := s.mainUp && !s.glb.booting

/-- Site time in whole nanoseconds, 64 bits (spec/03 R52, R64). -/
def State.siteNs (s : State) : Nat := s.stu.site / 2 ^ 32 % 2 ^ 64

/-- What one TIM cycle adds to site time, in units of 2^−32 ns: 10 ns plus STU_RATE (R52). -/
def State.increment (s : State) : Nat := (10 * 2 ^ 32 + s.rdS STU_RATE.RATE).toNat

/-- `k` TIM cycles of 10 ns pass; site time advances while the main domains run (R52). -/
def State.cycles (s : State) (k : Nat) : State :=
  let s1 := { s with now := s.now + 10 * k }
  if s.mainUp then { s1 with stu := { s1.stu with site := (s.stu.site + k * s.increment) % 2 ^ 96 } } else s1

/-- The clock moves on to uptime `t`, if it has not reached it. -/
def State.waitTill (s : State) (t : Nat) : State := s.cycles (divUp (t - s.now) 10)

/-- The clock moves on until site time reaches or passes `t` nanoseconds, if it has not. -/
def State.waitSite (s : State) (t : Nat) : State :=
  if s.siteNs < t then s.cycles (divUp (t * 2 ^ 32 - s.stu.site) s.increment) else s

/-- Takes a free value: the value and the state with the counter moved on. -/
def State.fresh (s : State) : Nat × State := (Config.freeNat s.free, { s with free := s.free + 1 })

/-- RTC time, ns: the last aligned site time plus the elapsed RTC count (spec/03 R65). -/
def State.rtcNs (s : State) : Nat := s.stu.rtcBase + (s.now - s.stu.rtcAt)

/-- The stamp of an event (R64; R65 while the main domains are held in reset). -/
def State.stamp (s : State) : Nat := if s.mainUp then s.siteNs else s.rtcNs % 2 ^ 64

/-! ### Events -/

/-- Puts an event at the end of the log, with the next sequence number; the last 65,536 are kept (spec/17 R425). -/
def State.pushEvent (s : State) (e : Event) : State :=
  { s with log := { s.log with events := ({ e with seq := s.log.head } :: s.log.events).take 65536,
                               head := (s.log.head + 1) % 2 ^ 64 } }

/-- Logs an event, stamped now; while the main domains are held in reset it is kept in VAON (spec/02 "Events"). -/
def State.logFrom (s : State) (source code entity : Nat) (a1 a2 : Nat) : State :=
  let e : Event := { code := code, entity := entity, source := if s.mainUp then source else 2, seq := 0, t := s.stamp,
                     arg1 := a1 % 2 ^ 64, arg2 := a2 % 2 ^ 64 }
  if s.mainUp then s.pushEvent e else { s with log := { s.log with kept := s.log.kept ++ [e] } }

/-- Puts something on a bus or pin. -/
def State.emit (s : State) (o : Out) : State := { s with out := o :: s.out }

/-! ### Entities -/

/-- Entity index of class `c`, index `i` (spec/01 R19). -/
def ent (c i : Nat) : Nat := c * 2048 + i

/-- Ports, blocks, strings within the grade limits (spec/00 R2). -/
def State.nPorts (s : State) : Nat := if s.grade = .ph4800 then 24 else 12
def State.nBlocks (s : State) : Nat := if s.grade = .ph4800 then 48 else 24
def State.nStrings (s : State) : Nat := if s.grade = .ph4800 then 16 else 8

/-- Port p is enabled (spec/01 R21). -/
def State.portOn (s : State) (p : Nat) : Bool := s.rdBit GLB_PORT_EN.PORT p && p < s.nPorts

/-- A lane carries Press phase frames (spec/01 R18). -/
def State.pressLane (s : State) (l : Nat) : Bool :=
  s.flag GLB_SITE_CFG.PRESS_OUT && s.rd GLB_SITE_CFG.PRESS_LANE == l

/-- Block b is enabled: its bit set and its lane not the Press lane (spec/01 R18, R21). -/
def State.blockOn (s : State) (b : Nat) : Bool :=
  (if b < 32 then s.rdBit GLB_BLOCK_EN0.BLK_LO b else s.rdBit GLB_BLOCK_EN1.BLK_HI (b - 32)) && b < s.nBlocks &&
  !s.pressLane (b / 4)

/-- String i is enabled (spec/01 R21). -/
def State.stringOn (s : State) (i : Nat) : Bool := s.rdBit GLB_STRING_EN.STR i && i < s.nStrings

/-- AC point g is in use (spec/01 R21). -/
def State.acOn (s : State) (g : Nat) : Bool := if g = 0 then s.flag GLB_SITE_CFG.G0_EN else s.flag GLB_SITE_CFG.G1_EN

/-- The site is a twin (spec/01 R21). -/
def State.twinSite (s : State) : Bool := s.rd GLB_SITE_CFG.TOPO == 1

/-- The entity is enabled, for the classes that have enable bits. -/
def State.enabled (s : State) (c i : Nat) : Bool :=
  match c with
  | 1 => s.portOn i
  | 2 => s.blockOn i
  | 5 => s.stringOn i
  | 6 => s.acOn i
  | _ => true

/-- An event that names a disabled entity is not raised (spec/01 R21); GLB_GRADE_LIMIT, which names an absent one, is
(spec/00 R4). The enable bits are in force once boot has ended. -/
def State.muted (s : State) (code entity : Nat) : Bool :=
  s.up && code != 0x0140 && !s.enabled (entity / 2048) (entity % 2048)

/-- Logs an event with a hardware stamp, unless it names a disabled entity (spec/01 R21). -/
def State.ev (s : State) (code entity : Nat) (a1 a2 : Nat := 0) : State :=
  if s.muted code entity then s else s.logFrom 0 code entity a1 a2

/-- Logs a change of the replicated state that the unit's own stages make: in SHADOW they keep no such change, and log none (log
entry 65). -/
def State.evLead (s : State) (code entity : Nat) (a1 a2 : Nat := 0) : State :=
  if s.glb.mode = .shadow then s else s.ev code entity a1 a2

/-! ### Modes -/

/-- The mode leads: it sends frames with its own claim (spec/16 R379). -/
def Mode.leading (m : Mode) : Bool := m == .active || m == .limp || m == .halt

/-- The Churn runs in the mode. -/
def Mode.running (m : Mode) : Bool := m.leading || m == .shadow

/-! ### Mode refusals and LIMP triggers (spec/02 R40) -/

/-- A request is refused with a code (R40, R46). -/
def State.refuseMode (s : State) (target code : Nat) : State :=
  (s.wr GLB_MODE_STAT.REFUSE code).ev 0x0101 0 target code

/-- A transition that the device raises pre-empts a host request for LIMP that is pending (R40). -/
def State.preempt (s : State) : State :=
  if s.glb.limpPend = some 1 then
    ({ s with glb := { s.glb with limpPend := none } }.wr GLB_MODE_STAT.REQ_PEND 0).refuseMode 4 0x0B
  else s

/-- The device raises a LIMP trigger: in ACTIVE it takes effect at the next tick boundary (R39, R40). -/
def State.limpTrigger (s : State) (cause : Nat) : State :=
  if s.glb.mode ≠ .active then s
  else
    let s1 := s.preempt
    if s1.glb.limpPend.isSome then s1 else { s1 with glb := { s1.glb with limpPend := some cause } }

/-! ### Entity classes -/

/-- Entity indices by class (spec/01 R19). -/
abbrev entPort := ent 1
abbrev entBlock := ent 2
abbrev entLane (i : Nat) : Nat := if i < 12 then ent 3 i else ent 4 (i - 12)
abbrev entString := ent 5
abbrev entAc := ent 6
abbrev entConv := ent 7
abbrev entMod := ent 9
abbrev entTemp := ent 11
abbrev entDie := ent 12
abbrev entSwitch := ent 13
abbrev entSafeOut := ent 15
abbrev entAxis := ent 16
abbrev entCan := ent 17
abbrev entRing := ent 18
abbrev entEntry := ent 19
abbrev entGroup := ent 20

/-- The number of valid indices of an entity class (spec/01 R19); none for a reserved class. -/
def classSize : Nat → Nat
  | 0 => 1 | 1 => 24 | 2 => 48 | 3 => 12 | 4 => 2 | 5 => 16 | 6 => 2 | 7 => 4 | 8 => 32 | 9 => 64 | 10 => 16
  | 11 => 96 | 12 => 12 | 13 => 24 | 14 => 16 | 15 => 8 | 16 => 4 | 17 => 6 | 18 => 64 | 19 => 2048 | 20 => 64 | _ => 0

/-- The index lies outside the grade limits of its class (spec/00 R2, R4). -/
def State.absent (s : State) (c i : Nat) : Bool :=
  match c with
  | 1 => s.nPorts ≤ i
  | 2 => s.nBlocks ≤ i
  | 4 => s.grade = .ph4812
  | 5 | 10 => s.nStrings ≤ i
  | _ => false

/-! ### Register writes that name absent entities (spec/00 R4) -/

/-- The register belongs as a whole to an entity that a PH4812 lacks: its entity index (R4, spec/05 R126, spec/07 R175, spec/09
R225, spec/11 R276, spec/12 R304). A DLC register that both lanes share counts as D0's. -/
def absentReg (off : Nat) : Option Nat :=
  if 0x10260 ≤ off && off < 0x102C0 then some (entBlock ((off - 0x10200) / 4))
  else if 0x28000 ≤ off && off < 0x28414 then
    some (entLane (if 0x28040 ≤ off && off < 0x28080 then 13 else 12))
  else if off = 0x28414 then some (entLane 13)
  else if 0x38280 ≤ off && off < 0x38400 then some (entPort ((off - 0x38100) / 0x20))
  else if 0x48300 ≤ off && off < 0x48500 then some (entString ((off - 0x48100) / 0x40))
  else if 0x53000 ≤ off && off < 0x56000 then some (entPort ((off - 0x50000) / 0x400))
  else none

/-- The bits of a register that belong to entities a PH4812 lacks, and the entity of bit `i` (spec/01 R21, spec/05 R101, R126,
spec/14 R360). -/
def absentBits (off : Nat) : Nat × (Nat → Nat) :=
  if off = 0x14 || off = 0x60004 || off = 0x60008 || off = 0x100A0 then (0xFFF000, entPort)
  else if off = 0x18 || off = 0x100A4 then (0xFF000000, entBlock)
  else if off = 0x1C || off = 0x100A8 then (0xFFFF, fun i => entBlock (32 + i))
  else if off = 0x20 || off = 0x100AC || off = 0x6001C then (0xFF00, entString)
  else if 0x10200 ≤ off && off < 0x10260 then (0xFFF000, entPort)
  else if 0x10300 ≤ off && off < 0x10400 then (0xFFF000, entPort)
  else (0, entPort)

/-- GLB_GRADE_LIMIT for a register write (R4). -/
def State.gradeLimit (s : State) (entity off : Nat) : State := s.ev 0x0140 entity off 0

/-- A written value without the bits of absent entities; a bit written 1 is logged once, with the lowest entity (R4). -/
def State.gradeCut (s : State) (off v : Nat) : State × Nat :=
  let (m, e) := absentBits off
  if s.grade = .ph4812 && v &&& m != 0 then
    (match (bitsOf (v &&& m) 32).head? with | some i => s.gradeLimit (e i) off | none => s, clearBits v m)
  else (s, v)

/-! ### Attention vector (spec/17 R424) -/

/-- Sends the MSI-X message of vector 0, or sets its pending bit while the vector or the function is masked; with MSI-X
disabled nothing is sent. -/
def State.message (s : State) : State :=
  if !s.hif.msixEn then s
  else if s.hif.fnMask || s.hif.vecMask then { s with hif := { s.hif with msixPend := true } }
  else { s.emit .msix with hif := { s.hif with msixPend := false } }

/-- The enabled attention causes. -/
def State.attnActive (s : State) : Nat := s.rd HIF_ATTN_CAUSE.CAUSE &&& s.rd HIF_ATTN_EN.EN

/-- Latches attention cause `b`; the message goes out when the enabled causes change from none to some. -/
def State.attn (s : State) (b : Nat) : State :=
  let s1 := s.wrBit HIF_ATTN_CAUSE.CAUSE b true
  if s.attnActive = 0 && s1.attnActive != 0 then s1.message else s1

/-! ### Rings and descriptors (spec/17) -/

/-- Ring r. -/
def State.ring (s : State) (r : Nat) : Ring := tget (fun _ => Ring.reset) s.hif.rings r

/-- Replaces ring r. -/
def State.setRing (s : State) (r : Nat) (x : Ring) : State :=
  { s with hif := { s.hif with rings := tset (fun _ => Ring.reset) s.hif.rings r x } }

/-- OLDEST: the lowest index not yet completed, HEAD when nothing is in flight (spec/17, "Rings"). -/
def Ring.oldest (x : Ring) : Nat := match x.flights with | [] => x.head | f :: _ => f.idx

/-- The STATE word of a ring shadow (R417). -/
def Ring.stateWord (x : Ring) : Nat :=
  b2n x.run + 2 * b2n x.halted + 4 * b2n x.stall + 8 * b2n x.wait + 16 * b2n x.atCap + 256 * x.cause

/-- Descriptors fetched and not completed, on every ring (R418). -/
def State.inFlight (s : State) : Nat := sumN (s.hif.rings.map (fun p => p.2.flights.length))

/-- Writes the shadow of ring r to host memory (R417), unless its completions can no longer be written. -/
def State.shadow (s : State) (r : Nat) : State :=
  let x := s.ring r
  let addr := s.rd64 (HIF_RING_SHADOW_LO.ADDR r) (HIF_RING_SHADOW_HI.ADDR r)
  if x.halted && 3 ≤ x.cause then s else
  s.emit (.host addr (leBytes 4 x.head ++ leBytes 4 x.oldest ++ leBytes 4 x.tail ++ leBytes 4 x.stateWord ++
    leBytes 2 x.flights.length ++ [0, 0] ++ leBytes 4 x.dbIgn ++ leBytes 8 s.siteNs ++ List.replicate 32 0))

/-- The flight of a descriptor. -/
def State.flight (s : State) (r idx : Nat) : Option Flight := (s.ring r).flights.find? (fun f => f.idx = idx)

/-- Changes the flight of a descriptor. -/
def State.mapFlight (s : State) (r idx : Nat) (g : Flight → Flight) : State :=
  let x := s.ring r
  s.setRing r { x with flights := x.flights.map (fun f => if f.idx = idx then g f else f) }

/-- The status word of a completion (R411). -/
def statusWord (partly err : Bool) (progress code : Nat) : Nat :=
  2 ^ 31 + 2 ^ 30 * b2n partly + 2 ^ 29 * b2n err + 2 ^ 16 * progress + code % 2 ^ 16

/-- A descriptor completes: its pool entry frees, RESULT and then STATUS are written, and after them the shadow
(R411, R417). One whose completion can no longer be written is discarded and counted (R422). -/
def State.complete (s : State) (r idx : Nat) (partly err : Bool) (progress code : Nat) (result : List Nat := []) : State :=
  match s.flight r idx with
  | none => s
  | some f =>
    let x := s.ring r
    let s1 := s.setRing r { x with flights := x.flights.filter (fun g => g.idx != idx), atCap := false }
    if f.lost then ((s1.bump HIF_LOST_CNT.CNT).ev 0x1205 (entRing r) idx f.tag)
    else ((s1.emit (.status r idx ((result ++ List.replicate 12 0).take 12) (statusWord partly err progress code))).shadow r)

/-- Completes a descriptor without error (R411, R412). -/
def State.done (s : State) (d : DescRef) (result : List Nat := []) (code : Nat := 0) (progress : Nat := 0) : State :=
  s.complete d.ring.val d.idx.toNat false false progress code result

/-- The PROGRESS a descriptor last reached. -/
def State.progressOf (s : State) (r idx : Nat) : Nat := match s.flight r idx with | none => 0 | some f => f.progress

/-- Completes a descriptor with ERROR set (R411). -/
def State.fail (s : State) (d : DescRef) (code : Nat) (result : List Nat := []) (partly : Bool := false) : State :=
  s.complete d.ring.val d.idx.toNat partly true (s.progressOf d.ring.val d.idx.toNat) code result

/-- A descriptor can start: it is in flight with this opcode and not started, every earlier descriptor of its ring has
started, and with FENCE set every earlier one has completed (R407). -/
def State.canStart (s : State) (d : DescRef) (opcode : Nat) : Bool :=
  match s.flight d.ring.val d.idx.toNat with
  | none => false
  | some f =>
    f.opcode == opcode && !f.started &&
    ((s.ring d.ring.val).flights.takeWhile (fun g => g.idx != d.idx.toNat)).all (fun g => g.started && !f.fence)

/-- The serving block starts a descriptor: its acceptance (R408). -/
def State.start (s : State) (d : DescRef) : State := s.mapFlight d.ring.val d.idx.toNat (fun f => { f with started := true })

/-- A started descriptor now waits only on an outside event (R420). -/
def State.waitOutside (s : State) (d : DescRef) : State :=
  s.mapFlight d.ring.val d.idx.toNat (fun f => { f with outside := true })

/-- Ring r shows, or no longer shows, that a descriptor waits for a shared resource (R417). -/
def State.setWait (s : State) (r : Nat) (w : Bool) : State := s.setRing r { s.ring r with wait := w }

/-- A descriptor waits for a shared resource: it has not started (R407) and its ring shows WAIT (R417). -/
def State.waitShared (s : State) (d : DescRef) : State :=
  (s.mapFlight d.ring.val d.idx.toNat (fun f => { f with started := false })).setWait d.ring.val true

/-- An operation that reports progress has started: STATUS shows it running with progress 0, unless QUIET is set (R411, R412). -/
def State.reportStart (s : State) (r idx : Nat) (result : List Nat := []) : State :=
  match s.flight r idx with
  | none => s
  | some f =>
    if f.quiet || f.lost then s
    else (s.mapFlight r idx (fun g => { g with wroteAt := some s.now })).emit
      (.status r idx ((result ++ List.replicate 12 0).take 12) (2 ^ 30))

/-- STATUS of a flight was written less than 100 µs ago (R412). -/
def Flight.early (f : Flight) (now : Nat) : Bool := match f.wroteAt with | none => false | some t => now < t + 100000

/-- A running operation reports progress: STATUS is rewritten with PARTIAL set unless QUIET is set, and no more often than once
every 100 µs (R412). -/
def State.report (s : State) (r idx : Nat) (progress : Nat) (result : List Nat := []) : State :=
  match s.flight r idx with
  | none => s
  | some f =>
    if f.quiet || f.lost || f.progress = progress || f.early s.now then s.mapFlight r idx (fun g => { g with progress := progress })
    else (s.mapFlight r idx (fun g => { g with progress := progress, wroteAt := some s.now })).emit
      (.status r idx ((result ++ List.replicate 12 0).take 12) (2 ^ 30 + 2 ^ 16 * progress))

/-- A descriptor of `opcode` that can start runs `k` after its start; anything else leaves the state as it is. -/
def State.run (s : State) (d : DescRef) (opcode : Nat) (k : State → State) : State :=
  if s.up && s.canStart d opcode then k (s.start d) else s

/-- The tag of a descriptor in flight. -/
def State.tagOf (s : State) (d : DescRef) : Nat := match s.flight d.ring.val d.idx.toNat with | none => 0 | some f => f.tag

/-- An argument names an absent entity: logged once, and the descriptor fails (spec/00 R4; arg1 is the ring in bits
[31:16] over the tag, log entry 8). -/
def State.failAbsent (s : State) (d : DescRef) (entity code : Nat) : State :=
  (s.ev 0x0140 entity (d.ring.val * 2 ^ 16 + s.tagOf d) 0).fail d code

/-- The entity checks of a descriptor argument in the order invalid, absent, disabled (R20, R4, R21); `k` when all hold. -/
def State.checkEntity (s : State) (d : DescRef) (entity : Nat) (k : State → State) : State :=
  let c := entity / 2048
  let i := entity % 2048
  if classSize c ≤ i then s.fail d 0x0010
  else if s.absent c i then s.failAbsent d entity 0x0011
  else if !s.enabled c i then s.fail d 0x0012
  else k s

/-- The mode check of a descriptor: MODE_DENIED outside the modes given (spec/02 R37, 0x0013). -/
def State.checkMode (s : State) (d : DescRef) (ok : Bool) (k : State → State) : State :=
  if ok then k s else s.fail d 0x0013

end Sys2Proof.Machine
end

