-- ==== Sys2Proof/Machine/SiteTime.lean ====
section
/-!
DEFINITION. Site time, its discipline and the time pins (spec/03_clocks_and_site_time.md).
-/
namespace Sys2Proof.Machine

/-- Tick length in ns of site time (R62). -/
def State.tickNs (s : State) : Nat := 10000 * s.rd STU_TICK_CFG.TICK_LEN

/-- STU_TICK_ORIGIN. -/
def State.tickOrigin (s : State) : Nat := s.rd64 STU_TICK_ORIGIN_LO.ORG_LO STU_TICK_ORIGIN_HI.ORG_HI

/-- The instant of boundary t_n (R62). -/
def State.tickAt (s : State) (n : Nat) : Nat := s.tickOrigin + n * s.tickNs

/-- Current tick: the last boundary strobed. -/
def State.curTick (s : State) : Nat := s.stu.nextTick - 1

/-- The next boundary after the present; t_0 while site time is before the origin (R42, R62). -/
def State.tickFrom (s : State) : Nat :=
  if s.siteNs < s.tickOrigin then 0 else (s.siteNs - s.tickOrigin) / s.tickNs + 1

/-- STU_TICK_NUM: the low 32 bits of the current n; 0 before the origin (R62). -/
def State.tickNum (s : State) : Nat := if s.siteNs < s.tickOrigin then 0 else low 32 ((s.siteNs - s.tickOrigin) / s.tickNs)

/-- The STU recomputes n from site time (R63). -/
def State.retick (s : State) : State := { s with stu := { s.stu with nextTick := s.tickFrom } }

/-- PPS qualified, REF10 qualified, host offsets accepted lately, each with its enable (R59). -/
def State.ppsOk (s : State) : Bool := s.stu.ppsAt.isSome && s.flag STU_DISC_CFG.SRC_PPS
def State.ref10Ok (s : State) : Bool := s.stu.ref10At.isSome && s.flag STU_DISC_CFG.SRC_REF10
def State.hostOk (s : State) : Bool := s.stu.hostAt.isSome && s.flag STU_DISC_CFG.SRC_HOST

/-- The source the STU takes: the other unit in SHADOW outside ORPHAN, else the enabled qualified source of highest
priority (spec/03, "Discipline sources"). -/
def State.bestSource (s : State) : Nat :=
  if s.glb.mode = .shadow && !s.flag GLB_TWIN_STAT.ORPHAN then (if s.stu.twinOk then 1 else 0)
  else if s.ppsOk && s.ref10Ok then 5 else if s.ppsOk then 2 else if s.ref10Ok then 3 else if s.hostOk then 4 else 0

/-- Changes to the best source, logging STU_SOURCE_CHANGE; a source ends holdover (log entry 9). A source whose enable is written 0
counts as not chosen rather than as lost: no HOLDOVER, and the phase term stays (R59; DESIGN CHOICE, log entry 124). -/
def State.selectSource (s : State) : State :=
  let cur := s.rd STU_DISC_STAT.SOURCE
  let new := s.bestSource
  if new = cur then s
  else
    let s1 := (s.wr STU_DISC_STAT.SOURCE new).ev 0x0210 0 cur new
    if new = 0 then s1 else s1.wr STU_DISC_STAT.HOLDOVER 0

/-- Writes STU_RATE: the sum of the frequency and phase terms, clamped to ±50 ppm (R58). -/
def State.setRate (s : State) (f p : Int) : State :=
  { s.wrS STU_RATE.RATE (clampI (-2147483) 2147483 (f + p)) with stu := { s.stu with freqTerm := f, phaseTerm := p } }

/-- The current source is lost: the last frequency term is kept, the phase term dropped, HOLDOVER set, STU_HOLDOVER logged,
and the STU changes to the next qualified source (R59). -/
def State.loseSource (s : State) : State :=
  let s1 := (s.setRate s.stu.freqTerm 0).wr STU_DISC_STAT.HOLDOVER 1
  (s1.ev 0x0211 0 (s.rd STU_DISC_STAT.SOURCE) (s1.rd STU_RATE.RATE)).selectSource

/-- A measured phase error, in units of 2^−16 ns, feeds the loop (R58, R59): the terms are free values (gains not
stated), STU_PHASE_ERR, LOCKED and STU_OFFSET_LARGE follow from the error. -/
def State.discipline (s : State) (err16 : Int) : State :=
  let s1 := s.setRate (Config.loopFreq s.stu.freqTerm err16) (Config.loopPhase err16)
  let ns := divZ err16 65536
  let s2 := s1.wrS STU_PHASE_ERR.ERR (clampS 32 ns)
  let good := err16.natAbs ≤ 50 * 65536
  let run := if good then s.stu.goodRun + 1 else 0
  let s3 := { s2 with stu := { s2.stu with goodRun := run } }
  let s4 := if 16 ≤ run then s3.wr STU_DISC_STAT.LOCKED 1
            else if 1000 * 65536 < err16.natAbs then s3.wr STU_DISC_STAT.LOCKED 0 else s3
  if s.rd STU_DISC_CFG.OFS_ALARM * 1000 * 65536 < err16.natAbs then
    s4.ev 0x0212 0 (enc 64 ns) (s4.rd STU_DISC_STAT.SOURCE)
  else s4

/-- Site time takes a value, becomes VALID, and the change is logged (R53, R54). -/
def State.acquire (s : State) (ns : Nat) (before : Nat) : State :=
  (({ s with stu := { s.stu with site := ns % 2 ^ 64 * 2 ^ 32 }, mte := { s.mte with upTo := none } }.wr STU_DISC_STAT.VALID 1).ev 0x0214 0 before ns).retick

/-- The whole second nearest to site time, ns. -/
def State.nearSecond (s : State) : Nat := (s.siteNs + 500000000) / 1000000000 * 1000000000

/-- The PPS window in ns (R59; 0 is treated as 1). -/
def State.ppsWin (s : State) : Nat := max 1 (s.rd STU_DISC_CFG.PPS_WIN) * 10000

/-- While site time is not VALID no whole second is known: the expected instant of an edge is one second after the edge before it
(R59, R67; DEDUCED, log entry 10). -/
def State.ppsPeriodOk (s : State) : Bool :=
  match s.stu.ppsLast with
  | none => false
  | some t => decide ((((s.now : Nat) : Int) - ((t + 1000000000 : Nat) : Int)).natAbs ≤ s.ppsWin)

/-- A PPS edge before site time is VALID: one that is qualified while a label is armed sets site time to it (R53). -/
def State.ppsAcquire (s : State) : State :=
  if s.stu.labelArmed && s.ppsPeriodOk then
    let s1 := s.acquire (s.rd64 STU_PPS_LABEL_LO.LBL_LO STU_PPS_LABEL_HI.LBL_HI) 0
    { s1 with stu := { s1.stu with labelArmed := false, ppsAt := some s1.now } }.selectSource
  else s

/-- A PPS edge while site time is VALID: within the window of the nearest whole second it is qualified and feeds the loop, else it
is an outlier (R58, R59). The expected second of the event is in nanoseconds (R70; DESIGN CHOICE, log entry 123). -/
def State.ppsMeasure (s : State) : State :=
  let exp := s.nearSecond
  let err16 : Int := (s.stu.site / 2 ^ 16 : Nat) - (exp * 65536 : Nat)
  if s.ppsWin * 65536 < err16.natAbs then (s.bump STU_DISC_STAT.PPS_OUTLIERS).ev 0x0213 0 s.siteNs exp
  else
    let s1 := { s with stu := { s.stu with ppsAt := some s.now } }.selectSource
    if s1.rd STU_DISC_STAT.SOURCE = 2 || s1.rd STU_DISC_STAT.SOURCE = 5 then s1.discipline err16 else s1

/-- A rising edge on PPS_IN, used while the source is enabled, for a label too (R53, R58, R59, R67; DESIGN CHOICE, log entry 123). -/
def State.ppsEdge (s : State) : State :=
  if !s.flag STU_DISC_CFG.SRC_PPS then s
  else
    let s1 := if s.rd STU_DISC_STAT.VALID = 0 then s.ppsAcquire else s.ppsMeasure
    { s1 with stu := { s1.stu with ppsLast := some s.now } }

/-- STU_SET_CMD (R53, R54, R69; outside COMMISSION GLB_SEALED_WRITE, spec/00 R445). -/
def State.setTime (s : State) (v : Nat) : State :=
  if v ≠ 0x5E7E then s
  else if s.glb.mode = .commission then
    (s.cycles 1).acquire (s.rd64 STU_SET_NS_LO.NS_LO STU_SET_NS_HI.NS_HI) s.siteNs
  else s.ev 0x0141 0 0x8118 v

/-- A read of STU_TIME_FRAC latches site time (R55). -/
def State.latchTime (s : State) : State :=
  (s.wr STU_TIME_FRAC.FRAC (s.stu.site / 2 ^ 16)).wr64 STU_TIME_NS_LO.NS_LO STU_TIME_NS_HI.NS_HI s.siteNs

/-- A write of STU_PPS_LABEL_HI: stored, and the label armed while site time is not valid (R53, R54). -/
def State.armLabel (s : State) (v : Nat) : State :=
  let s1 := s.wr STU_PPS_LABEL_HI.LBL_HI v
  { s1 with stu := { s1.stu with labelArmed := s.rd STU_DISC_STAT.VALID == 0 } }

open Host (Outcome)

/-- STU_SET_CMD (R54). -/
def execStuSetCmd (v : BitVec 32) (s : State) : Outcome State Fault Refusal := .next (if s.up then s.setTime v.toNat else s)

/-- TIME_LATCH_READ (R55). -/
def execTimeLatchRead (s : State) : Outcome State Fault Refusal := .next (if s.up then s.latchTime else s)

/-- PPS_LABEL_ARM (R53). -/
def execPpsLabelArm (v : BitVec 32) (s : State) : Outcome State Fault Refusal := .next (if s.up then s.armLabel v.toNat else s)

/-- PPS_EDGE (R59). -/
def execPpsEdge (s : State) : Outcome State Fault Refusal := .next (if s.up then s.ppsEdge else s)

/-- PPS_LOSS: 3 s without a qualified edge (R59). -/
def execPpsLoss (s : State) : Outcome State Fault Refusal :=
  match s.stu.ppsAt with
  | none => .next s
  | some t =>
    let s1 := s.waitTill (t + 3000000000)
    let src := s1.rd STU_DISC_STAT.SOURCE
    let s2 := { s1 with stu := { s1.stu with ppsAt := none } }
    .next (if s.up then (if src = 2 || src = 5 then s2.loseSource else s2) else s)

/-- REF10M_MEASUREMENT: the 100 ms average ends with a deviation in 10^−9 from 10 MHz (R59). -/
def execRef10mMeasurement (devPpb : Int) (s : State) : Outcome State Fault Refusal :=
  if !s.up || !s.flag STU_DISC_CFG.SRC_REF10 then .next s
  else if devPpb.natAbs ≤ 50000 then
    let s1 := { s with stu := { s.stu with ref10At := some s.now } }.selectSource
    .next (if s1.rd STU_DISC_STAT.SOURCE = 3 || s1.rd STU_DISC_STAT.SOURCE = 5 then
      s1.setRate (Config.loopRate s1.stu.freqTerm devPpb) s1.stu.phaseTerm else s1)
  else if s.stu.ref10At.isSome then
    let s1 := { s with stu := { s.stu with ref10At := none } }
    .next (if s.rd STU_DISC_STAT.SOURCE = 3 || s.rd STU_DISC_STAT.SOURCE = 5 then s1.loseSource else s1)
  else .next s

/-- REF10M_LOSS: 100 µs without an edge on REF10M_IN (R59). -/
def execRef10mLoss (s : State) : Outcome State Fault Refusal :=
  if s.up && s.stu.ref10At.isSome then
    let s1 := s.cycles 10000
    let s2 := { s1 with stu := { s1.stu with ref10At := none } }
    .next (if s.rd STU_DISC_STAT.SOURCE = 3 || s.rd STU_DISC_STAT.SOURCE = 5 then s2.loseSource else s2)
  else .next s

/-- HOST_OFFSET_LOSS: 10 s without an accepted offset (R59). -/
def execHostOffsetLoss (s : State) : Outcome State Fault Refusal :=
  match s.stu.hostAt with
  | none => .next s
  | some t =>
    let s1 := s.waitTill (t + 10000000000)
    let s2 := { s1 with stu := { s1.stu with hostAt := none } }
    .next (if s.up then (if s1.rd STU_DISC_STAT.SOURCE = 4 then s2.loseSource else s2) else s)

/-- TIME_OFFSET: a host offset, signed 64-bit in 2^−16 ns, with the site time of its measurement (R61). -/
def execTimeOffset (d : DescRef) (offset measuredAt : BitVec 64) (s : State) : Outcome State Fault Refusal :=
  .next (s.run d 0x0201 fun s =>
    if 2000000000 < (s.siteNs : Int) - (measuredAt.toNat : Int) then s.fail d 0x0020
    else if !s.flag STU_DISC_CFG.SRC_HOST || s.ppsOk || s.ref10Ok || (s.glb.mode = .shadow && s.stu.twinOk) then s.fail d 0x0021
    else
      let s1 := { s with stu := { s.stu with hostAt := some s.now } }.selectSource
      ((if s1.rd STU_DISC_STAT.SOURCE = 4 then s1.discipline (sx 64 offset.toNat) else s1).done d))

/-- RTC_ALIGN: at a whole second of valid site time (R65). -/
def execRtcAlign (s : State) : Outcome State Fault Refusal :=
  if s.mainUp && s.flag STU_DISC_STAT.VALID then
    let s1 := s.waitSite (divUp s.siteNs 1000000000 * 1000000000)
    let s2 := s1.wr STU_RTC_SEC.SEC (s1.siteNs / 1000000000)
    .next { s2 with stu := { s2.stu with rtcBase := s1.siteNs, rtcAt := s1.now } }
  else .next s

/-- PPS_OUT_RISE: at a whole second of valid site time, advanced by COMP ns (R68). -/
def execPpsOutRise (s : State) : Outcome State Fault Refusal :=
  if s.mainUp && s.flag STU_DISC_STAT.VALID && s.flag STU_PPS_OUT_CFG.EN && !s.stu.ppsOut then
    let k := ((s.siteNs : Int) + s.rdS STU_PPS_OUT_CFG.COMP).toNat
    let s1 := s.waitSite ((divUp k 1000000000 * 1000000000 : Nat) - s.rdS STU_PPS_OUT_CFG.COMP).toNat
    .next { s1 with stu := { s1.stu with ppsOut := true, ppsOutAt := s1.now } }
  else .next s

/-- PPS_OUT_FALL: after WIDTH milliseconds high (R68). -/
def execPpsOutFall (s : State) : Outcome State Fault Refusal :=
  if s.stu.ppsOut then
    let s1 := s.waitTill (s.stu.ppsOutAt + 1000000 * s.rd STU_PPS_OUT_CFG.WIDTH)
    .next { s1 with stu := { s1.stu with ppsOut := false } }
  else .next s

end Sys2Proof.Machine
end

