-- ==== Sys2Proof/Machine/Sanitize.lean ====
section
/-!
DEFINITION. Sanitize (spec/04_churn_pipeline.md, R76 to R79): what each gathered value is worth, and its fallback.
-/
namespace Sys2Proof.Machine

/-- Sanitize's memory of an input; the key is 64 × input code + index. -/
def State.san (s : State) (k : Nat) : San := tget (fun _ => San.zero) s.alp.san k

/-- Replaces Sanitize's memory of an input. -/
def State.setSan (s : State) (k : Nat) (m : San) : State :=
  { s with alp := { s.alp with san := tset (fun _ => San.zero) s.alp.san k m } }

/-- The last good values of an input become `a`, `b`, `c`. -/
def State.keepGood (s : State) (k : Nat) (a b c : Int) : State := s.setSan k { s.san k with v0 := a, v1 := b, v2 := c }

/-- One snapshot's verdict on an input: `cause` 0 good, 1 stale, 2 out of range, 3 implausible. The result says whether the
fallback is in force, and the entry into and the return from fallback are logged (R76, R79). `back` is an added condition of
the return. -/
def State.judge (s : State) (code idx entity cause arg : Nat) (back : Bool := true) : State × Bool :=
  let k := 64 * code + idx
  let m := s.san k
  if cause = 0 then
    if !m.under then (s.setSan k { m with bad := 0 }, false)
    else if back && s.rd ALP_AGE_CFG2.RESTORE_TICKS ≤ m.good + 1 then
      ((s.setSan k { m with under := false, bad := 0, good := 0, ticks := 0 }).ev 0x0304 entity code m.ticks, false)
    else (s.setSan k { m with bad := 0, good := if back then m.good + 1 else 0, ticks := m.ticks + 1 }, true)
  else if cause = 3 && !m.under && m.bad + 1 < s.rd ALP_AGE_CFG3.PLAUS_TICKS then (s.setSan k { m with bad := m.bad + 1 }, false)
  else if m.under then (s.setSan k { m with good := 0, ticks := m.ticks + 1 }, true)
  else ((s.setSan k { m with under := true, bad := 0, good := 0, ticks := 1 }).ev 0x0303 entity (code + 256 * cause) arg, true)

/-- One snapshot's verdict on an input that shares a check with others (R77): `hold` while the shared fallback is in force, `back` in
the snapshot in which all of them return together; `cause` and `arg` are of its own checks, `arg3` is the value the shared check
found implausible. -/
def State.judgeShared (s : State) (code idx entity cause arg arg3 : Nat) (hold back plaus : Bool) : State × Bool :=
  let k := 64 * code + idx
  let m := s.san k
  if back then
    (if m.under then (s.setSan k { m with under := false, bad := 0, good := 0, ticks := 0 }).ev 0x0304 entity code m.ticks else s, false)
  else if hold && cause = 0 then
    (if m.under then s.setSan k { m with good := 0, ticks := m.ticks + 1 }
     else (s.setSan k { m with under := true, bad := 0, good := 0, ticks := 1 }).ev 0x0303 entity (code + 256 * 3) arg3, true)
  else s.judge code idx entity cause arg plaus

/-- AUX_P is the fixed value AUX_FB (R75). -/
def State.auxFixed (s : State) : Bool := s.flag ALP_AUX_CFG.FIXED || !s.flag GLB_SITE_CFG.G0_EN

/-- Of two values the one of lower magnitude. -/
def lowerMag (a b : Int) : Int := if a.natAbs ≤ b.natAbs then a else b

/-- Age of a stamp at t_N, ns. -/
def Snap.age (n : Snap) (t : Nat) : Nat := n.tN - t

/-- The value stamped `t` is stale at t_N with the age limit `lim` ns (R76). An input that has had no value yet carries stamp 0
and is never fresh (log entry 67). -/
def Snap.stale (n : Snap) (t lim : Nat) : Bool := t == 0 || decide (lim ≤ n.age t)

/-- The age a substitution logs, µs; a free value where the input has had no value yet (log entry 67). -/
def Snap.ageUs (n : Snap) (t : Nat) : Nat := if t = 0 then Config.neverAge n.tick else n.age t / 1000

/-- V_REF of a port: max(MEAS_V, ALP_VREF_MIN), in mV (R104, step 1). -/
def State.vRef (s : State) (n : Snap) (p : Nat) : Int :=
  max (nth n.ports p PortRec.zero).measV (s.rd ALP_VREF_MIN.VMIN : Nat)

/-- Power of a current at a voltage: mA × mV / 10^6 in W, rounded toward zero. -/
def watts (i v : Int) : Int := divZ (i * v) 1000000

/-- Replaces one record of a list. -/
def Snap.setPort (n : Snap) (p : Nat) (r : PortRec) : Snap := { n with ports := n.ports.set p r }
def Snap.setBlock (n : Snap) (b : Nat) (r : BlockRec) : Snap := { n with blocks := n.blocks.set b r }
def Snap.setString (n : Snap) (i : Nat) (r : StrRec) : Snap := { n with strings := n.strings.set i r }
def Snap.setConv (n : Snap) (k : Nat) (r : ConvRec) : Snap := { n with convs := n.convs.set k r }

/-- The enabled blocks whose closed path is port p and whose status is fresh. -/
def State.freshBlocks (s : State) (n : Snap) (p : Nat) : List BlockRec :=
  ((List.range 48).filter s.blockOn).filterMap fun b =>
    let r := nth n.blocks b BlockRec.zero
    if r.path = p && !n.stale r.t (s.rd ALP_AGE_CFG2.BLK_AGE * s.tickNs) then some r else none

/-- The vehicle request of port p (R77). -/
def State.sanRequest (s : State) (n : Snap) (p : Nat) : State × Snap :=
  let r := nth n.ports p PortRec.zero
  let badI := r.reqI < 0 || (s.rd (PLU_LIM_I.LIM_I p) : Int) < r.reqI
  let badP := r.reqP < 0 || (s.rd (PLU_LIM_P.LIM_P p) : Int) < r.reqP
  let badV := r.reqV < 0 || 1500000 < r.reqV
  let cause := if r.session = 1 && n.stale r.reqT (s.rd ALP_AGE_CFG0.REQ_AGE * 1000000) then 1
               else if badI || badP || badV then 2 else 0
  let arg := if cause = 1 then n.ageUs r.reqT else enc 64 (if badI then r.reqI else if badP then r.reqP else r.reqV)
  let (s1, fb) := s.judge 0x01 p (entPort p) cause arg
  let k := 64 * 0x01 + p
  if fb then
    let m := s1.san k
    let i := lowerMag m.v0 r.prevI
    let w := lowerMag m.v2 r.prevP
    (s1.keepGood k i m.v1 w, n.setPort p { r with reqI := i, reqV := m.v1, reqP := w, subReq := true })
  else (if cause = 0 then s1.keepGood k r.reqI r.reqV r.reqP else s1, n)

/-- The measured voltage of port p (R77). -/
def State.sanVolt (s : State) (n : Snap) (p : Nat) : State × Snap :=
  let r := nth n.ports p PortRec.zero
  let fresh := s.freshBlocks n p
  let mean := divZ (sumI (fresh.map (·.outV))) fresh.length
  let cause := if n.stale r.measT (s.rd ALP_AGE_CFG1.MEAS_AGE * 1000) then 1
               else if r.measV < -50000 || 1650000 < r.measV then 2
               else if !fresh.isEmpty && ((s.rd ALP_PLAUS_CFG0.PLAUS_V * 1000 : Nat) : Int) < (r.measV - mean).natAbs then 3 else 0
  let (s1, fb) := s.judge 0x02 p (entPort p) cause (if cause = 1 then n.ageUs r.measT else enc 64 r.measV)
  let k := 64 * 0x02 + p
  if fb then (s1, n.setPort p { r with measV := if fresh.isEmpty then (s1.san k).v0 else mean, subV := true })
  else (if cause = 0 then s1.keepGood k r.measV 0 0 else s1, n)

/-- The measured current of port p (R77). -/
def State.sanCurrent (s : State) (n : Snap) (p : Nat) : State × Snap :=
  let r := nth n.ports p PortRec.zero
  let fresh := s.freshBlocks n p
  let total := sumI (fresh.map (·.outI))
  let tol := s.rd ALP_PLAUS_CFG0.PLAUS_I_ABS * 1000 + s.rd ALP_PLAUS_CFG0.PLAUS_I_PCT * r.measI.natAbs / 1000
  let cause := if n.stale r.measT (s.rd ALP_AGE_CFG1.MEAS_AGE * 1000) then 1
               else if r.measI < -4400000 || 4400000 < r.measI then 2
               else if !fresh.isEmpty && tol < (r.measI - total).natAbs then 3 else 0
  let (s1, fb) := s.judge 0x03 p (entPort p) cause (if cause = 1 then n.ageUs r.measT else enc 64 r.measI)
  let k := 64 * 0x03 + p
  if fb then (s1, n.setPort p { r with measI := if fresh.isEmpty then (s1.san k).v0 else total, subI := true })
  else (if cause = 0 then s1.keepGood k r.measI 0 0 else s1, n)

/-- The status of block b: frozen from BLK_AGE, dropped from BLK_DROP (R77). While dropped, v2 of its memory is 1. -/
def State.sanBlock (s : State) (n : Snap) (b : Nat) : State × Snap :=
  let r := nth n.blocks b BlockRec.zero
  let k := 64 * 0x04 + b
  let m := s.san k
  let drop := n.stale r.t (s.rd ALP_AGE_CFG2.BLK_DROP * s.tickNs)
  let undefd := 3 < r.state
  let cause := if n.stale r.t (s.rd ALP_AGE_CFG2.BLK_AGE * s.tickNs) then 1
               else if r.availP < 0 || 1500000 < r.availP || undefd then 2 else 0
  let wasDropped := m.under && m.v2 = 1
  let code := if drop || wasDropped then 0x05 else 0x04
  let arg := if cause = 1 then n.ageUs r.t else enc 64 (if undefd then (r.state : Int) else r.availP)
  let back := !wasDropped || r.state = 1 || r.state = 2
  -- the memory is that of code 0x04 whichever code is logged
  let (s1, fb) :=
    if cause = 0 then
      if !m.under then (s.setSan k { m with bad := 0 }, false)
      else if back && s.rd ALP_AGE_CFG2.RESTORE_TICKS ≤ m.good + 1 then
        ((s.setSan k { m with under := false, good := 0, ticks := 0, v2 := 0 }).ev 0x0304 (entBlock b) code m.ticks, false)
      else (s.setSan k { m with good := if back then m.good + 1 else 0, ticks := m.ticks + 1 }, true)
    else if m.under then (s.setSan k { m with good := 0, ticks := m.ticks + 1 }, true)
    else ((s.setSan k { m with under := true, good := 0, ticks := 1 }).ev 0x0303 (entBlock b) (code + 256 * cause) arg, true)
  if !fb then (s1.keepGood k r.availP r.state 0, n)
  else
    let m1 := s1.san k
    if drop || wasDropped then
      let s2 := s1.keepGood k 0 m1.v1 1
      (if wasDropped then s2 else s2.ev 0x0305 (entBlock b) (low 32 n.tick) (n.ageUs r.t),
       n.setBlock b { r with state := 4, availP := 0, dropped := true })
    else
      let lim := watts (max r.prevI 0) (if r.path < 24 then s1.vRef n r.path else (s1.rd ALP_VREF_MIN.VMIN : Nat))
      let p := lowerMag m1.v0 lim
      (s1.keepGood k p m1.v1 0,
       n.setBlock b { r with availP := p, state := if undefd then m1.v1.toNat else r.state, frozen := true })

/-- The strings of converter k that are enabled. -/
def State.stringsOf (s : State) (k : Nat) : List Nat :=
  (List.range 16).filter (fun i => s.stringOn i && s.rd (SEE_STR_CFG.CONV i) == k)

/-- A converter is in use: the Press is, and its EN bit is set. -/
def State.convOn (s : State) (k : Nat) : Bool := s.flag GLB_SITE_CFG.PRESS_EN && s.flag (CCE_CONV.EN k)

/-- String state out of range (R77). -/
def StrRec.badRange (r : StrRec) : Bool :=
  10000 < r.soc || r.disLim < 0 || 4000000 < r.disLim || r.chgLim < 0 || 4000000 < r.chgLim

/-- What the state of a string out of range offends with (R93). -/
def StrRec.offence (q : StrRec) : Int :=
  if 10000 < q.soc then (q.soc : Int) else if q.disLim < 0 || 4000000 < q.disLim then q.disLim else q.chgLim

/-- The verdicts on converter k and its strings of one snapshot (R77). -/
structure ConvCheck where
  /-- telemetry: 0 good, 1 stale, 2 out of range -/
  own : Nat
  /-- first string whose state is out of range -/
  strBad : Option Nat
  /-- the shared plausibility check fails -/
  implaus : Bool
  /-- the shared fallback is in force -/
  hold : Bool
  /-- both inputs return from it in this snapshot -/
  back : Bool
  deriving DecidableEq, Repr

/-- The checks of converter k and its strings, and the memory of the check they share (R76, R77). The shared check is made only while
both inputs pass their own (log entry 80). -/
def State.convChecks (s : State) (n : Snap) (k : Nat) : State × ConvCheck :=
  let r := nth n.convs k ConvRec.zero
  let l := s.stringsOf k
  let own := if n.stale r.t (s.rd ALP_AGE_CFG2.CONV_AGE * s.tickNs) then 1
             else if s.rd (CCE_I_RATED.I_RATED k) * 1100 < r.batI.natAbs then 2 else 0
  let strBad := l.find? (fun i => (nth n.strings i StrRec.zero).badRange)
  let total := sumI (l.map (fun i => (nth n.strings i StrRec.zero).i))
  let tol := s.rd ALP_PLAUS_CFG1.STOR_PLAUS_A * 1000 + s.rd ALP_PLAUS_CFG1.STOR_PLAUS_PCT * r.batI.natAbs / 1000
  let implaus := s.convOn k && own = 0 && strBad.isNone && tol < (total - r.batI).natAbs
  let key := 64 * 0x0F + k
  let m := s.san key
  let bad := if implaus then m.bad + 1 else 0
  let hold := m.under || decide (s.rd ALP_AGE_CFG3.PLAUS_TICKS ≤ bad)
  let good := if m.under && own = 0 && strBad.isNone && !implaus then m.good + 1 else 0
  let back := m.under && s.rd ALP_AGE_CFG2.RESTORE_TICKS ≤ good
  (s.setSan key { m with under := hold && !back, bad := if hold then 0 else bad, good := if back then 0 else good },
   { own := own, strBad := strBad, implaus := implaus, hold := hold && !back, back := back })

/-- String i of a converter: out of range with any string of the converter, or held by the shared check, its limits are scaled; with
the converter's telemetry under fallback they are frozen too (R77). -/
def State.sanString (s : State) (n : Snap) (tgt : Nat → Int) (v : ConvCheck) (fbC : Bool) (i : Nat) : State × Snap :=
  let q := nth n.strings i StrRec.zero
  let c := if v.strBad.isSome then 2 else 0
  let off : Int := match v.strBad with | none => q.i | some j => (nth n.strings j StrRec.zero).offence
  let (u1, fbS) := s.judgeShared 0x0C i (entString i) c (enc 64 off) (enc 64 q.i) v.hold v.back (!v.implaus)
  let key := 64 * 0x0E + i
  let mm := u1.san key
  let pct : Int := (u1.rd ALP_PLAUS_CFG1.STOR_FB_PCT : Nat)
  let d0 := if fbS then divZ (q.disLim * pct) 100 else q.disLim
  let c0 := if fbS then divZ (q.chgLim * pct) 100 else q.chgLim
  let df := lowerMag mm.v0 (max (tgt i) 0)
  let cf := lowerMag mm.v1 (max (-(tgt i)) 0)
  let u2 := if fbC then u1.keepGood key df cf 0
            else if v.own = 0 && c = 0 && !v.hold then u1.keepGood key q.disLim q.chgLim 0 else u1
  (u2, n.setString i { q with disLim := if fbC then min d0 df else d0, chgLim := if fbC then min c0 cf else c0, subst := fbS || fbC })

/-- Converter k and the strings on it, with their shared plausibility check (R77). `tgt` gives the string targets of
curd N−1. -/
def State.sanConv (s : State) (n : Snap) (tgt : Nat → Int) (k : Nat) : State × Snap :=
  let r := nth n.convs k ConvRec.zero
  let (s0, v) := s.convChecks n k
  let (s1, fbC) := if s.convOn k then
      s0.judgeShared 0x08 k (entConv k) v.own (if v.own = 1 then n.ageUs r.t else enc 64 r.batI) (enc 64 r.batI) v.hold v.back (!v.implaus)
    else (s0, false)
  let n1 := if fbC then n.setConv k { r with subst := true } else n
  (s.stringsOf k).foldl (fun (a : State × Snap) i => a.1.sanString a.2 tgt v fbC i) (s1, n1)

/-- Grid import, feeder import and auxiliary residual (R77). -/
def State.sanGrid (s : State) (n : Snap) : State × Snap :=
  let lim := s.rd ALP_AGE_CFG1.GRID_AGE * 1000
  let verdict (t : Nat) (v : Int) : Nat := if n.stale t lim then 1 else if 100000000 < v.natAbs then 2 else 0
  let argOf (c t : Nat) (v : Int) : Nat := if c = 1 then n.ageUs t else enc 64 v
  let c0 := verdict n.g0T n.g0
  let (s1, f0) := if s.acOn 0 then s.judge 0x06 0 (entAc 0) c0 (argOf c0 n.g0T n.g0) else (s, false)
  let s2 := if s.acOn 0 && c0 = 0 && !f0 then s1.keepGood (64 * 0x06) n.g0 0 0 else s1
  let g0 := if f0 then (s2.san (64 * 0x06)).v0 else n.g0
  let c1 := verdict n.g1T n.g1
  let (s3, f1) := if s.acOn 1 then s2.judge 0x07 1 (entAc 1) c1 (argOf c1 n.g1T n.g1) else (s2, false)
  let s4 := if s.acOn 1 && c1 = 0 && !f1 then s3.keepGood (64 * 0x07 + 1) n.g1 0 0 else s3
  let g1 := if f1 then (s4.san (64 * 0x07 + 1)).v0 else n.g1
  let fixed := s.auxFixed
  let fb : Int := (s.rd ALP_AUX_FB.AUX_FB : Nat)
  if fixed then (s4, { n with g0 := g0, g1 := g1, subG0 := f0, subG1 := f1, aux := fb })
  else
    let out := n.aux < -(s.rd ALP_AUX_NEG.AUX_NEG : Nat) || (s.rd ALP_AUX_MAX.AUX_MAX : Int) < n.aux
    let ca := if c0 ≠ 0 then c0 else if out then 2 else 0
    let (s5, fa) := s4.judge 0x0B 0 0 ca (argOf ca n.g0T n.aux)
    (s5, { n with g0 := g0, g1 := g1, subG0 := f0, subG1 := f1, subAux := fa || f0,
                  aux := if fa || f0 then fb else max n.aux 0 })

/-- Zeroes every cap of a snapshot (R78); the tripped bits stay. -/
def Snap.noCaps (n : Snap) (on : Nat → Bool) : Snap :=
  { n with
    subCaps := true
    ports := (List.range 24).map (fun p =>
      let r := nth n.ports p PortRec.zero
      if on p then { r with capI := 0, capV := 0, exportOk := false, subCaps := true } else r)
    strings := n.strings.map (fun r => { r with capI := 0, exportOk := false }) }

/-- The most recent cap publication has reached CAP_AGE at t_N, with its stamp, 0 without one (R78). -/
def State.capsStale (s : State) (n : Snap) : Bool × Nat :=
  let t := match mailBefore s.alp.inCaps n.tN with | none => 0 | some c => c.1
  (n.stale t (s.rd ALP_AGE_CFG3.CAP_AGE * 1000), t)

/-- The Rind caps (R78). -/
def State.sanCaps (s : State) (n : Snap) : State × Snap :=
  let (stale, t) := s.capsStale n
  let k := 64 * 0x09
  let m := s.san k
  if stale then
    let s1 := if m.under then s.setSan k { m with ticks := m.ticks + 1 }
              else ((s.setSan k { m with under := true, ticks := 1 }).ev 0x0306 0 (low 32 n.tick) (n.ageUs t)).ev 0x0303 0 0x109 (n.ageUs t)
    (s1, n.noCaps s.portOn)
  else
    (if m.under then (s.setSan k { m with under := false, ticks := 0 }).ev 0x0304 0 0x09 m.ticks else s, n)

/-- The status of slow-node slot j (R77; which status codes are defined is not stated, log entry 15). -/
def State.sanSlow (s : State) (n : Snap) (j : Nat) : State × Snap :=
  let mail := mailBefore (tget (fun _ => []) s.alp.inSlow j) n.tN
  let t := match mail with | none => 0 | some v => v.1
  let code := (nth n.slow j (0, false)).1
  let cause := if n.stale t (s.rd ALP_AGE_CFG0.SLOW_AGE * 1000000) then 1 else if !Config.slowDefined code then 2 else 0
  let (s1, fb) := s.judge 0x0A j 0 cause (if cause = 1 then n.ageUs t else code)
  (s1, { n with slow := n.slow.set j (code, fb) })

/-- Number of substituted fields of a snapshot (R79). -/
def Snap.countSubst (n : Snap) : Nat :=
  b2n n.subG0 + b2n n.subG1 + b2n n.subAux + b2n n.subCaps +
  sumN (n.ports.map (fun r => b2n r.subReq + b2n r.subV + b2n r.subI + b2n r.subCaps)) +
  sumN (n.blocks.map (fun r => b2n r.frozen + b2n r.dropped)) + sumN (n.strings.map (fun r => b2n r.subst)) +
  sumN (n.convs.map (fun r => b2n r.subst)) + sumN (n.slow.map (fun r => b2n r.2))

/-- Applies a check to each index of a list. -/
def sanEach (f : State → Snap → Nat → State × Snap) (l : List Nat) (a : State × Snap) : State × Snap :=
  l.foldl (fun a i => f a.1 a.2 i) a

/-- Sanitize (R76 to R79). `slots` are the enabled slow-load slots, `tgt` the string targets of curd N−1. -/
def State.sanitize (s : State) (n : Snap) (tgt : Nat → Int) (slots : List Nat) : State × Snap :=
  let ports := (List.range 24).filter s.portOn
  let a1 := sanEach State.sanRequest ports (s, n)
  let a2 := sanEach State.sanVolt ports a1
  let a3 := sanEach State.sanCurrent ports a2
  let a4 := sanEach State.sanBlock ((List.range 48).filter s.blockOn) a3
  let a5 := sanEach (fun u m k => u.sanConv m tgt k) (List.range 4) a4
  let a6 := a5.1.sanGrid a5.2
  let a7 := a6.1.sanCaps a6.2
  let a8 := sanEach State.sanSlow slots a7
  (a8.1, { a8.2 with substCount := a8.2.countSubst })

end Sys2Proof.Machine
end

