-- ==== Sys2Proof/Machine/Bounds.lean ====
section
/-!
DEFINITION. Constrain (spec/05_constraints_and_allocation.md, R94 to R108): the constraint table, block paths, and the
bounds of every entity.
-/
namespace Sys2Proof.Machine

/-- Entry of the constraint table. -/
def State.entry (s : State) (i : Nat) : Entry := tget (fun _ => Entry.zero) s.con.table i

/-- Replaces an entry of the constraint table, stamped `t` (spec/01 R11, R12). -/
def State.setEntryAt (s : State) (t i : Nat) (e : Entry) : State :=
  { s with con := { s.con with table := tset (fun _ => Entry.zero) s.con.table i e, late := (t, i, s.entry i) :: s.con.late } }

/-- Replaces an entry of the constraint table, stamped now. -/
def State.setEntry (s : State) (i : Nat) (e : Entry) : State := s.setEntryAt s.siteNs i e

/-- Snapshot and stages of the boundary tN see the table as it stood before tN: changes stamped at or after it are held back. In LIMP
the host's ones among them are dropped, because the table is frozen as it stood at the boundary of entry (spec/01 R11 to R13,
spec/02 R37, spec/04 "Constrain, Allocate and Shape"). -/
def State.hideLate (s : State) (tN : Nat) : State :=
  let l := s.con.late.filter (fun x => tN ≤ x.1)
  let keep := if s.glb.mode = .limp then l.filter (fun x => 1984 ≤ x.2.1) else l
  { s with con := { s.con with
    table := l.foldl (fun t x => tset (fun _ => Entry.zero) t x.2.1 x.2.2) s.con.table
    late := [], held := keep.map (fun x => (x.1, x.2.1, s.entry x.2.1)) } }

/-- The changes held back take their place again. -/
def State.showLate (s : State) : State :=
  s.con.held.reverse.foldl (fun (a : State) x => a.setEntryAt x.1 x.2.1 x.2.2) { s with con := { s.con with held := [] } }

/-- Enabled entries, host and device together (R73). -/
def State.enabledEntries (s : State) : Nat := (s.con.table.filter (fun p => p.2.enabled)).length

/-- Entries the host has enabled: those at the host's indices (R95). -/
def hostEnabled (t : Tab Entry) : Nat := (t.filter (fun p => p.1 < 1984 && p.2.enabled)).length

/-- Computation deadline D in CHN cycles, and ENTRY_MAX, for a tick length of T µs (R72). -/
def deadlineOf (t : Nat) : Nat := min 12000 (90 * t)
def entryMaxOf (t : Nat) : Nat := min 2048 (16 * ((deadlineOf t - 7464) / 32))

/-- Tick length in µs. -/
def State.tickUs (s : State) : Nat := s.rd STU_TICK_CFG.TICK_LEN * 10

/-- The entries that take part in the tick of boundary t, with their indices, ascending (R96). -/
def State.valid (s : State) (t : Nat) : List (Nat × Entry) :=
  s.con.table.filter (fun p => p.2.enabled && (!p.2.windowed || (p.2.start ≤ t && t < p.2.stop)))

/-- The valid entries of a type on a target. -/
def ofType (l : List (Nat × Entry)) (type target : Nat) : List Entry :=
  (l.filter (fun p => p.2.type == type && p.2.target == target)).map (·.2)

/-- A value limited by every upper value of the entries (R105). -/
def minWith (v : Int) (l : List Int) : Int := l.foldl min v

/-- The lowest throttle factor on a target, 1,000 when there is none (R105, R117). -/
def throttleOf (l : List (Nat × Entry)) (target : Nat) : Int := minWith 1000 ((ofType l 0x10 target).map (·.a))

/-- Contactor settle time of block b in ticks: SET (R102). -/
def State.setTicks (s : State) (b : Nat) : Nat := divUp (s.rd (ALP_PATH.SETTLE b) * 1000000) s.tickNs

/-- Where a migration stands: curds from step 1 on, a migration from no port starting at step 4 (R122). -/
def Mig.pos (m : Mig) : Nat := if m.old = 0xFF then m.e + m.ramp + m.set + 2 else m.e

/-- Step of a migration in the curd now computed, and its position within that step (R122). -/
def Mig.stepNow (m : Mig) : Nat × Nat :=
  let q := m.pos
  let c := m.ramp + m.set + 2
  if q < m.ramp then (1, q)
  else if q = m.ramp then (2, 0)
  else if q < c then (3, q - m.ramp - 1)
  else if m.new = 0xFF then (0, 0)
  else if q < c + m.set + 2 then (4, q - c)
  else (5, q - c - m.set - 2)

/-- Ticks a migration has taken when the curd of `tick` is sealed, repeat curds among them (R125). -/
def Mig.taken (m : Mig) (tick : Nat) : Nat := tick + 1 - m.start

/-- Planned ticks of a migration (R122, R125). -/
def Mig.planned (m : Mig) : Nat :=
  if m.old = 0xFF then m.ramp + m.set + 2 else if m.new = 0xFF then m.ramp + m.set + 3 else 2 * m.ramp + 2 * m.set + 4

/-- Migration factor as a fraction of RAMP (R104 step 4, R122). -/
def Mig.factor (m : Mig) : Int :=
  match m.stepNow with
  | (1, j) => (m.ramp - 1 - j : Nat)
  | (5, j) => (j + 1 : Nat)
  | _ => 0

/-- The migration of block b. -/
def State.migOf (s : State) (b : Nat) : Option Mig := s.con.migs.find? (fun m => m.block = b)

/-- The path last commanded for block b, with the tick it takes effect. -/
def State.commandedOf (s : State) (b : Nat) : Option (Nat × Nat) := tget (fun _ => none) s.con.commanded b

/-- Records a contactor command for block b (R103). -/
def State.command (s : State) (b path tick : Nat) : State :=
  { s with con := { s.con with commanded := tset (fun _ => none) s.con.commanded b (some (path, tick)) } }

/-- Block b reports a path that is not allowed, or not the commanded one SET ticks after it took effect (R103). -/
def State.pathWrong (s : State) (n : Snap) (b : Nat) : Bool :=
  let p := (nth n.blocks b BlockRec.zero).path
  (p != 0xFF && !(p < 24 && s.rdBit (ALP_PATH.PORTS b) p)) ||
  (match s.commandedOf b with | none => false | some (c, t) => t + s.setTicks b ≤ n.tick && p != c)

/-- Starts and ends the path-fault episodes of this snapshot; ALP_PATH_MISMATCH at each start (R103). A block parked by an abort is
parked like any other once its board reports no path (R124). -/
def State.pathCheck (s : State) (n : Snap) : State :=
  ((List.range 48).filter s.blockOn).foldl (fun (u : State) b =>
    let had := u.con.pathFault.contains b
    let bad := u.pathWrong n b
    if bad && !had then
      let c := match u.commandedOf b with | none => 0xFF | some (c, _) => c
      ({ u with con := { u.con with pathFault := u.con.pathFault ++ [b] } }).ev 0x0318 (entBlock b)
        (nth n.blocks b BlockRec.zero).path c
    else if !bad && had then { u with con := { u.con with pathFault := u.con.pathFault.erase b } } else u)
    { s with con := { s.con with parked := s.con.parked.filter (fun b => (nth n.blocks b BlockRec.zero).path != 0xFF) } }

/-- The bounds of one tick. -/
structure Bounds where
  /-- V_REF of the ports -/
  v : List Int
  /-- u of the blocks -/
  u : List Int
  /-- the port a block feeds, by its closed path -/
  feeds : List (Option Nat)
  /-- U and L of the ports -/
  up : List Int
  lo : List Int
  /-- step 8 lowered U -/
  ramping : List Bool
  /-- export power of an export port -/
  exp : List (Option Int)
  vLim : List Int
  cls : List Nat
  weight : List Nat
  /-- d and c of the strings -/
  d : List Int
  c : List Int
  rest : List Bool
  /-- DK and CK of the converters -/
  dk : List Int
  ck : List Int
  gCap : Int
  dMax : Int
  cMax : Int
  aux : Int
  /-- GROUP_P bounds by group -/
  groups : List (Nat × Int)
  deriving DecidableEq, Repr

/-- Block bound u (R104, steps 2 to 4). -/
def State.blockBound (s : State) (n : Snap) (l : List (Nat × Entry)) (b : Nat) : Int :=
  let r := nth n.blocks b BlockRec.zero
  if !s.blockOn b || s.con.pathFault.contains b || s.con.parked.contains b || !(r.state = 1 || r.state = 2) || !s.portOn r.path then 0
  else
    let u1 := minWith r.availP ((ofType l 0x0C (entBlock b)).map (·.b))
    let slew : Int := (s.rd ALP_BLK_SLEW.SLEW : Nat)
    let u2 := if slew = 0 then u1 else min u1 (watts (max r.prevI 0 + slew) (s.vRef n r.path))
    let u3 := divZ (u2 * throttleOf l (entBlock b)) 1000
    match s.migOf b with
    | none => u3
    | some m => divZ (u3 * m.factor) m.ramp

/-- Port bounds U and L and whether the ramp lowered U (R104, steps 5 to 10), for a port fed with Σ u = `sum`. -/
def State.portBound (s : State) (n : Snap) (l : List (Nat × Entry)) (p : Nat) (sum : Int) : Int × Int × Bool :=
  let r := nth n.ports p PortRec.zero
  let v := s.vRef n p
  let e := entPort p
  let pi := ofType l 0x01 e
  let pp := ofType l 0x02 e
  let act := r.session = 1
  let u5 := if act then min (min r.reqP (watts r.reqI v)) sum else 0
  let l5 := if act then watts (s.rd ALP_KEEP_I.KEEP_I : Nat) v else 0
  let u6 := minWith u5 (pp.map (·.b) ++ pi.map (fun x => watts x.b v))
  let l6 := if act then (pp.map (·.a) ++ pi.map (fun x => watts x.a v)).foldl max l5 else 0
  let u7 := divZ (u6 * throttleOf l e) 1000
  let rise := match (ofType l 0x05 e).map (·.a) with
    | [] => ((s.rd ALP_RAMP_DEF.RISE : Nat) : Int)
    | a :: t => minWith a t
  let ramp := watts (max r.prevI 0 + rise) v
  let u8 := min u7 ramp
  let u9 := if r.tripped then 0 else min u8 (watts r.capI v)
  (u9, min l6 u9, ramp < u7)

/-- Export power of an export port (R106); none for an import port. -/
def State.exportBound (s : State) (n : Snap) (l : List (Nat × Entry)) (p : Nat) : Option Int :=
  match (ofType l 0x06 (entPort p)).map (·.a) with
  | [] => none
  | a :: t =>
    let r := nth n.ports p PortRec.zero
    if !(r.session = 1) || r.tripped || !r.exportOk then some 0
    else some (min (minWith a t) (watts r.capI (s.vRef n p)))

/-- Class and weight of a port: the valid PORT_PRIO entry with the highest index, else ALP_PORT_DEF (R105). -/
def State.prio (s : State) (l : List (Nat × Entry)) (p : Nat) : Nat × Nat :=
  match (ofType l 0x04 (entPort p)).getLast? with
  | none => (s.rd ALP_PORT_DEF.CLASS, s.rd ALP_PORT_DEF.WEIGHT)
  | some e => (e.a.toNat, e.b.toNat)

/-- A REST_WINDOW entry holds string i (R108, step 6). -/
def restHeld (l : List (Nat × Entry)) (i : Nat) : Bool := !(ofType l 0x11 (entString i)).isEmpty

/-- Discharge and charge bound of string i (R108). -/
def State.stringBound (s : State) (n : Snap) (l : List (Nat × Entry)) (i : Nat) : Int × Int :=
  let r := nth n.strings i StrRec.zero
  let k := nth n.convs (s.rd (SEE_STR_CFG.CONV i)) ConvRec.zero
  if !s.stringOn i || !r.auth || k.state ≠ 2 || restHeld l i then (0, 0)
  else
    let d2 := if !r.exportOk || r.usable = 0 then 0 else r.disLim
    let d3 := min d2 (divZ (r.usable * 3600) (s.rd ALP_STOR_CFG.HORIZON))
    let es := ofType l 0x0A (entString i)
    let f := throttleOf l (entString i)
    let d4 := divZ (minWith d3 (es.map (·.b)) * f) 1000
    let c4 := divZ (minWith r.chgLim (es.map (·.a)) * f) 1000
    let cap := watts r.capI k.batV
    (min d4 cap, min c4 cap)

/-- DK and CK of converter k (R108). -/
def State.convBound (s : State) (l : List (Nat × Entry)) (k : Nat) : Int × Int :=
  let es := ofType l 0x0B (entConv k)
  let f := throttleOf l (entConv k)
  let rated : Int := (s.rd (CCE_P_RATED.P_RATED k) : Nat)
  (divZ (minWith rated (es.map (·.b)) * f) 1000, divZ (minWith rated (es.map (·.a)) * f) 1000)

/-- The GROUP_P bound of each group that has one (R101). -/
def groupBounds (l : List (Nat × Entry)) : List (Nat × Int) :=
  (List.range 64).filterMap fun g =>
    match (ofType l 0x08 (entGroup g)).map (·.b) with
    | [] => none
    | a :: t => some (g, minWith a t)

/-- Constrain (R104 to R108). -/
def State.constrain (s : State) (n : Snap) : Bounds :=
  let l := s.valid n.tN
  let ports := List.range 24
  let feeds := (List.range 48).map (fun b =>
    let r := nth n.blocks b BlockRec.zero
    if s.blockOn b && s.portOn r.path then some r.path else none)
  let u := (List.range 48).map (s.blockBound n l)
  let sum (p : Nat) : Int := sumI ((List.range 48).map (fun b => if nth feeds b none = some p then nth u b 0 else 0))
  let pb := ports.map (fun p => if s.portOn p then s.portBound n l p (sum p) else (0, 0, false))
  let sb := (List.range 16).map (s.stringBound n l)
  let cb := (List.range 4).map (s.convBound l)
  let tot (f : Int × Int → Int) (k : Nat) : Int := sumI ((s.stringsOf k).map (fun i => f (nth sb i (0, 0))))
  let gRamp : Int := (s.rd ALP_GRID_RAMP.RAMP : Nat)
  let g1 := minWith (s.rd ALP_GRID_CAP.CAP : Nat) ((ofType l 0x09 0).map (·.b))
  { v := ports.map (s.vRef n), u := u, feeds := feeds,
    up := pb.map (·.1), lo := pb.map (·.2.1), ramping := pb.map (·.2.2),
    exp := ports.map (fun p => if s.portOn p then s.exportBound n l p else none),
    vLim := ports.map (fun p =>
      let r := nth n.ports p PortRec.zero
      if s.portOn p then min (minWith r.reqV ((ofType l 0x03 (entPort p)).map (·.b))) r.capV else 0),
    cls := ports.map (fun p => (s.prio l p).1), weight := ports.map (fun p => (s.prio l p).2),
    d := sb.map (·.1), c := sb.map (·.2), rest := (List.range 16).map (restHeld l),
    dk := cb.map (·.1), ck := cb.map (·.2),
    gCap := if gRamp = 0 then g1 else min g1 (max n.prevGrid 0 + gRamp),
    dMax := sumI ((List.range 4).map (fun k => min (nth cb k (0, 0)).1 (tot (·.1) k))),
    cMax := sumI ((List.range 4).map (fun k => min (nth cb k (0, 0)).2 (tot (·.2) k))),
    aux := n.aux, groups := groupBounds l }

end Sys2Proof.Machine
end

