-- ==== Sys2Proof/Machine/Allocate.lean ====
section
/-!
DEFINITION. Allocate and Shape (spec/05_constraints_and_allocation.md, R109 to R125; skimming requests spec/08 R184).
-/
namespace Sys2Proof.Machine

/-- One member of a fill: its identity, weight, demand, and the groups it belongs to (R110). -/
structure Bid where
  id : Nat
  w : Nat
  dem : Nat
  groups : List Nat
  deriving DecidableEq, Repr

/-- What a member gets at level `l` (R110). -/
def Bid.share (b : Bid) (l : Nat) : Nat := min b.dem (b.w * l / 65536)

/-- Room left in group g; a group without a bound is not listed. -/
def roomOf (room : List (Nat × Nat)) (g : Nat) : Option Nat := (room.find? (fun x => x.1 = g)).map (·.2)

/-- The budget breaks at level `l`, and the groups that break (R110). -/
def breaks (live : List Bid) (room : List (Nat × Nat)) (budget l : Nat) : Bool × List Nat :=
  (decide (budget < sumN (live.map (fun b => b.share l))),
   (room.filter (fun g => decide (g.2 < sumN ((live.filter (fun b => b.groups.contains g.1)).map (fun b => b.share l))))).map (·.1))

/-- Nothing breaks at level `l`. -/
def fits (live : List Bid) (room : List (Nat × Nat)) (budget l : Nat) : Bool := breaks live room budget l == (false, [])

/-- The largest level from `lo` up to `lo + 2^k − 1` at which nothing breaks, by halving. -/
def topLevel (live : List Bid) (room : List (Nat × Nat)) (budget : Nat) : Nat → Nat → Nat
  | 0, lo => lo
  | k + 1, lo => if lo + 2 ^ k ≤ 2 ^ 48 && fits live room budget (lo + 2 ^ k) then topLevel live room budget k (lo + 2 ^ k)
                 else topLevel live room budget k lo

/-- Takes `g` from the room of each of the groups. -/
def takeRoom (room : List (Nat × Nat)) (groups : List Nat) (g : Nat) : List (Nat × Nat) :=
  room.map (fun x => if groups.contains x.1 then (x.1, x.2 - g) else x)

/-- A fill in progress. -/
structure Fill where
  live : List Bid
  room : List (Nat × Nat)
  budget : Nat
  give : List (Nat × Nat)
  /-- the budget broke -/
  tight : Bool
  deriving DecidableEq, Repr

/-- What member `i` was given. -/
def givenTo (give : List (Nat × Nat)) (i : Nat) : Nat := match give.find? (fun x => x.1 = i) with | none => 0 | some x => x.2

/-- Replaces what member `i` was given. -/
def setGive (give : List (Nat × Nat)) (i v : Nat) : List (Nat × Nat) := give.map (fun x => if x.1 = i then (i, v) else x)

/-- The main loop of R110, at most `k` passes. -/
def fillLoop : Nat → Nat → Fill → Fill
  | 0, _, f => f
  | k + 1, lam, f =>
    if f.live.isEmpty then f
    else
      let top := topLevel f.live f.room f.budget 49 lam
      let give := f.live.foldl (fun g b => setGive g b.id (b.share top)) f.give
      let (tight, blocked) := breaks f.live f.room f.budget (top + 1)
      if tight then { f with give := give, tight := true }
      else
        let out := f.live.filter (fun b => b.share top == b.dem || b.groups.any blocked.contains)
        fillLoop k top
          { live := f.live.filter (fun b => !(b.share top == b.dem || b.groups.any blocked.contains)),
            room := out.foldl (fun r b => takeRoom r b.groups (b.share top)) f.room,
            budget := f.budget - sumN (out.map (fun b => b.share top)), give := give, tight := false }

/-- One leftover watt to a member, if there is one and its groups have room (R110). -/
def leftover (f : Fill) (b : Bid) : Fill :=
  let g := givenTo f.give b.id
  if 0 < f.budget && g < b.dem && b.groups.all (fun x => roomOf f.room x != some 0) then
    { f with give := setGive f.give b.id (g + 1), budget := f.budget - 1, room := takeRoom f.room b.groups 1 }
  else f

/-- The fill of R110. -/
def fill (members : List Bid) (room : List (Nat × Nat)) (budget : Nat) : Fill :=
  let f := fillLoop (members.length + 1) 0
    { live := members.filter (fun b => 0 < b.dem), room := room, budget := budget,
      give := members.map (fun b => (b.id, 0)), tight := false }
  let f1 := f.live.foldl (fun a b =>
    let g := givenTo a.give b.id
    { a with budget := a.budget - g, room := takeRoom a.room b.groups g }) f
  f1.live.foldl leftover f1

/-- What Allocate decides (R111 to R115). -/
structure Alloc where
  /-- current and power of the ports, mA and W -/
  i : List Int
  p : List Int
  /-- the port was given less than L -/
  scaled : List Bool
  served : Nat
  short : Bool
  unserved : Nat
  /-- some port demand was left unserved for lack of budget (R119) -/
  lack : Bool
  rawNeg : Bool
  round : Int
  pPort : Int
  pStor : Int
  pGrid : Int
  /-- string targets, W -/
  strings : List Int
  deriving DecidableEq, Repr

/-- The groups a port belongs to that have a bound. -/
def State.portGroups (s : State) (bd : Bounds) (p : Nat) : List Nat :=
  (bd.groups.filter (fun g => s.rdBit (ALP_GROUP.PORTS g.1) p)).map (·.1)

/-- Split of P_STOR among the strings, the converters in the place of groups (R115). -/
def State.splitStorage (s : State) (n : Snap) (bd : Bounds) (pStor : Int) : List Int :=
  let dis := 0 ≤ pStor
  let dem := if dis then bd.d else bd.c
  let room := (List.range 4).map (fun k => (k, (nth (if dis then bd.dk else bd.ck) k 0).toNat))
  let bids := ((List.range 16).filter s.stringOn).map (fun i =>
    let q := if dis then (nth n.strings i StrRec.zero).usable else nth dem i 0
    ({ id := i, w := min 65535 (max 1 (q.toNat / 1000)), dem := (nth dem i 0).toNat,
       groups := [s.rd (SEE_STR_CFG.CONV i)] } : Bid))
  let f := fill bids room pStor.natAbs
  (List.range 16).map (fun i => if dis then (givenTo f.give i : Int) else -(givenTo f.give i : Int))

/-- Allocate (R109 to R115). -/
def State.allocate (s : State) (n : Snap) (bd : Bounds) : Alloc :=
  let ports := List.range 24
  let imports := ports.filter (fun p => s.portOn p && (nth bd.exp p none).isNone)
  let eSum := sumI (bd.exp.map (fun e => e.getD 0))
  let raw := bd.gCap + bd.dMax - bd.aux + eSum
  let bid (dem : Nat → Nat) (p : Nat) : Bid := { id := p, w := nth bd.weight p 0, dem := dem p, groups := s.portGroups bd p }
  let dem0 (p : Nat) : Nat := (nth bd.lo p 0).toNat
  let f0 := fill (imports.map (bid dem0)) (bd.groups.map (fun g => (g.1, g.2.toNat))) raw.toNat
  let full0 := imports.all (fun p => givenTo f0.give p == dem0 p)
  -- classes 1 to 7: total given, room, budget, highest class served, still all served, budget broke
  let step (a : List (Nat × Nat) × List (Nat × Nat) × Nat × Nat × Bool × Bool) (c : Nat) :=
    let (give, room, budget, served, all, lack) := a
    let dem (p : Nat) : Nat := ((nth bd.up p 0) - (givenTo f0.give p : Int)).toNat
    let mem := imports.filter (fun p => nth bd.cls p 0 == c)
    let f := fill (mem.map (bid dem)) room budget
    let ok := all && mem.all (fun p => givenTo f.give p == dem p)
    (mem.foldl (fun g p => setGive g p (givenTo g p + givenTo f.give p)) give, f.room, f.budget,
     if ok then c else served, ok, lack || f.tight)
  let r := (List.range' 1 7).foldl step (f0.give, f0.room, f0.budget, if full0 then 0 else 0xFF, full0, f0.tight)
  let give := r.1
  let cur := ports.map (fun p =>
    let v := nth bd.v p 1
    match nth bd.exp p none with
    | some e => -(divZ (e * 1000000) v.toNat)
    | none => divZ ((givenTo give p : Int) * 1000000) v.toNat)
  let pw := ports.map (fun p => watts (nth cur p 0) (nth bd.v p 1))
  let round := sumI (ports.map (fun p =>
    match nth bd.exp p none with
    | some e => nth pw p 0 + e
    | none => (givenTo give p : Int) - nth pw p 0))
  let pPort := sumI pw
  let need := pPort + bd.aux
  let pStor := if bd.gCap < need then min (need - bd.gCap) bd.dMax
               else -(min (min bd.cMax (s.rd ALP_STOR_CHG.CHG : Nat)) (bd.gCap - need))
  { i := cur, p := pw,
    scaled := ports.map (fun p => imports.contains p && decide (givenTo f0.give p < dem0 p)),
    served := r.2.2.2.1, short := !full0 || raw < 0,
    unserved := sumN (imports.map (fun p => dem0 p - givenTo f0.give p)),
    lack := r.2.2.2.2.2, rawNeg := raw < 0, round := round, pPort := pPort, pStor := pStor, pGrid := need - pStor,
    strings := s.splitStorage n bd pStor }

/-! ### Shape -/

/-- SKIM of converter k for a reference (spec/08 R184): `q` is the SKIM of the curd before. -/
def State.skim (s : State) (n : Snap) (k q : Nat) (ref : Int) : Nat :=
  let cnt := s.rd (CCE_CONV.COUNT k)
  let rated := s.rd (CCE_P_RATED.P_RATED k)
  let tgt := s.rd CCE_SKIM_CFG.SKIM_TARGET
  if !s.flag (CCE_CONV.SKIM_EN k) || (nth n.convs k ConvRec.zero).state ≠ 2 || rated * tgt = 0 then cnt
  else
    let p := ref.natAbs
    let need := divUp (p * 100 * cnt) (rated * tgt)
    if q < need then min need cnt
    else if low 32 n.tick % s.rd CCE_SKIM_CFG.SKIM_WIN = 0 && s.rd (CCE_CONV.SKIM_MIN k) < q &&
        p * 100 * cnt ≤ (q - 1) * rated * tgt then q - 1
    else q

/-- Split of a port current among its blocks in proportion to u, the remainder 1 mA at a time in ascending index (R116). -/
def splitPort (i : Int) (us : List (Nat × Nat)) : List (Nat × Int) :=
  let l := us.filter (fun x => 0 < x.2)
  let tot := sumN (l.map (·.2))
  if tot = 0 then []
  else
    let base := l.map (fun x => (x.1, divZ (i * x.2) tot))
    let left := (i - sumI (base.map (·.2))).natAbs
    let one : Int := if 0 ≤ i then 1 else -1
    (base.zip (List.range base.length)).map (fun x => (x.1.1, if x.2 < left then x.1.2 + one else x.1.2))

/-- The block entry of block b (R116, R122). `opening` are blocks whose path opens after an abort (R124). -/
def State.blockSet (s : State) (n : Snap) (bd : Bounds) (cur : List (Nat × Int)) (opening : List Nat) (b : Nat) : BlockSet :=
  if !s.blockOn b then BlockSet.zero
  else
    let path := (nth n.blocks b BlockRec.zero).path
    let i := match cur.find? (fun x => x.1 = b) with | none => 0 | some x => x.2
    let plain : BlockSet := { i := i, v := if path < 24 then nth bd.vLim path 0 else 0, port := path, contactor := 0,
                              migStep := 0, flags := 0 }
    if opening.contains b then { plain with i := 0, contactor := 1 }
    else if s.con.parked.contains b then { plain with i := 0, v := 0, port := 0xFF }
    else match s.migOf b with
    | none => plain
    | some m =>
      match m.stepNow with
      | (1, _) => { plain with port := m.old, migStep := 1 }
      | (2, _) => { plain with i := 0, v := 0, port := m.old, contactor := 1, migStep := 2 }
      | (3, _) => { plain with i := 0, v := 0, port := 0xFF, migStep := 3 }
      | (4, 0) => { plain with i := 0, v := 0, port := m.new, contactor := 2, migStep := 4 }
      | (4, _) => { plain with i := 0, v := 0, port := m.new, migStep := 4 }
      | (5, _) => { plain with port := m.new, migStep := 5 }
      | _ => { plain with i := 0, v := 0, port := 0xFF }

/-- Ends migration `m` with an abort code: the descriptor completes with ERROR set, ALP_MIG_ABORT, the slot frees (R124). -/
def State.abortMig (s : State) (m : Mig) (code : Nat) : State :=
  let s1 := { s with con := { s.con with migs := s.con.migs.erase m } }
  let s2 := s1.setEntry (2040 + m.slot) Entry.zero
  (s2.evLead 0x0317 (entBlock m.block) code m.step).complete m.ring m.idx false true (s.progressOf m.ring m.idx) code
    (leBytes 4 m.planned ++ leBytes 4 (s.stu.nextTick - m.start))

/-- Block b is parked, whatever its board still reports (R124). -/
def State.park (s : State) (b : Nat) : State :=
  { s with con := { s.con with parked := if s.con.parked.contains b then s.con.parked else s.con.parked ++ [b] } }

/-- The checks of one migration in snapshot n; the flag says that the path of its block is to open. An abort in steps 2 and 3 leaves
the block parked, one with a path to open too (R123, R124). -/
def State.checkMig (s : State) (n : Snap) (m : Mig) : State × Bool :=
  let r := nth n.blocks m.block BlockRec.zero
  let q := m.pos
  let c := m.ramp + m.set + 2
  let wrong := (q = c && r.path ≠ 0xFF) || (m.new ≠ 0xFF && q = c + m.set + 2 && r.path ≠ m.new)
  let np := nth n.ports m.new PortRec.zero
  if wrong then (s.abortMig m 0x004A, false)
  else if !(r.state = 1 || r.state = 2) || (r.state = 2 && r.availP = 0) || s.con.pathFault.contains m.block then
    (if m.step = 2 || m.step = 3 then (s.abortMig m 0x0048).park m.block else s.abortMig m 0x0048, false)
  else if m.new < 24 && (np.tripped || np.session = 3) then
    (if 2 ≤ m.step then (s.abortMig m 0x0049).park m.block else s.abortMig m 0x0049, 4 ≤ m.step)
  else (s, false)

/-- Checks every migration, in ascending block index; the result lists the blocks whose path is to open (R123 to R125). -/
def State.checkMigs (s : State) (n : Snap) : State × List Nat :=
  ((List.range 48).filterMap s.migOf).foldl (fun a m =>
    let (u, o) := a.1.checkMig n m
    (u, if o then a.2 ++ [m.block] else a.2)) (s, [])

/-- One migration advances by the curd just sealed: commands, step events, entry, progress and completion (R122, R125). -/
def State.advanceMig (s : State) (tick : Nat) (m : Mig) : State :=
  let (st, j) := m.stepNow
  let s1 := if j = 0 && st ≠ 0 then s.evLead 0x0315 (entBlock m.block) st (low 32 tick) else s
  let s2 := if st = 2 then s1.command m.block 0xFF (tick + 2)
            else if st = 4 && j = 0 then s1.command m.block m.new (tick + 2) else s1
  let e := m.e + 1
  if m.planned ≤ e then
    let s4 := { s2 with con := { s2.con with migs := s2.con.migs.erase m } }
    let s5 := s4.setEntry (2040 + m.slot) Entry.zero
    (s5.evLead 0x0316 (entBlock m.block) (low 32 tick) (m.taken tick)).complete m.ring m.idx false false 1000 0
      (leBytes 4 m.planned ++ leBytes 4 (m.taken tick))
  else
    let s3 := s2.report m.ring m.idx (min 1000 (1000 * m.taken tick / m.planned)) (leBytes 4 m.planned)
    let s4 := { s3 with con := { s3.con with migs := s3.con.migs.map (fun x => if x = m then { m with e := e, step := st } else x) } }
    let old := s4.entry (2040 + m.slot)
    s4.setEntry (2040 + m.slot) { old with a := m.old + 256 * m.new + 65536 * st, b := j + 1 + 65536 * m.ramp }

/-- Advances every migration by the curd just sealed, in ascending block index (R125). -/
def State.advanceMigs (s : State) (tick : Nat) : State :=
  ((List.range 48).filterMap s.migOf).foldl (fun u m => u.advanceMig tick m) s

end Sys2Proof.Machine
end

