-- ==== Sys2Proof/Machine/HostRings.lean ====
section
/-!
DEFINITION. The host interface (spec/17_host_interface.md): doorbells, descriptor fetch, enabling, disabling and halting of
rings, link and power events, the attention vector, the event log and the self-test.
-/
namespace Sys2Proof.Machine

/-- DEPTH of ring r (R406). -/
def State.depth (s : State) (r : Nat) : Nat := 2 ^ s.rd (HIF_RING_CFG.LOG2_DEPTH r)

/-- The opcodes a ring accepts (R414). -/
def opcodeListed (r op : Nat) : Bool :=
  op == 0x1200 ||
  (op == 0x0C01 && r < 24) || (op == 0x0C02 && 24 ≤ r && r < 48) ||
  ((op == 0x0301 || op == 0x0302 || op == 0x0303) && 48 ≤ r && r < 52) ||
  (op == 0x0801 && 52 ≤ r && r < 54) || (op == 0x0901 && 54 ≤ r && r < 56) ||
  (op == 0x0B01 && 56 ≤ r && r < 58) || (op == 0x0D01 && 58 ≤ r && r < 60) ||
  ((op == 0x0201 || op == 0x0601 || op == 0x0101) && 60 ≤ r && r < 62) ||
  ((op == 0x0501 || op == 0x0102) && 62 ≤ r)

/-- What waits on behalf of ring r outside the ring is dropped: event reads, posted buffers, and operations that wait for a
shared resource (R420). -/
def State.dropHifWaits (s : State) (r : Nat) : State :=
  { s with
    hif := { s.hif with evWaits := s.hif.evWaits.filter (fun w => w.ring != r),
                        selfWait := s.hif.selfWait.filter (fun w => w.1 != r) }
    cans := { s.cans with rx := s.cans.rx.filter (fun w => w.1 != r) }
    mte := { s.mte with capWait := s.mte.capWait.filter (fun w => w.ring != r) }
    link := { s.link with scanWait := s.link.scanWait.filter (fun w => w.ring != r) }
    plu := { s.plu with ports := (s.plu.ports.map (fun (x : Nat × Plu) =>
      (x.1, { x.2 with rx := x.2.rx.filter (fun w => w.1 != r) }))).filter (fun (x : Nat × Plu) => x.2 ≠ Plu.reset) } }

/-- Flushes ring r: descriptors not started, and started ones that wait only on an outside event, complete with
HIF_FLUSHED (R420). -/
def State.flushRing (s : State) (r : Nat) : State :=
  let l := (s.ring r).flights.filter (fun f => !f.started || f.outside)
  (l.foldl (fun a f => a.complete r f.idx false true f.progress 0x0004) s).dropHifWaits r

/-- A write of EN = 0: fetching stops, RUN clears, and the ring's descriptors are flushed (R420). -/
def State.disableRing (s : State) (r : Nat) : State :=
  let s1 := s.wr (HIF_RING_CFG.EN r) 0
  ((s1.setRing r { s1.ring r with run := false, stall := false, wait := false, atCap := false }).flushRing r).shadow r

/-- Halts ring r with a cause: as a write of EN = 0; HALTED and the cause, HIF_FATAL and HIF_RING_HALT. With causes 3 to 5
the completions that follow cannot be written (R422). Causes 1 and 5 name no descriptor: argument 2 is a free value there (log
entry 11). -/
def State.haltRing (s : State) (r cause idx tag : Nat) : State :=
  let x := s.ring r
  let s1 := s.setRing r { x with halted := true, cause := cause,
                                 flights := if 3 ≤ cause then x.flights.map (fun f => { f with lost := true }) else x.flights }
  let s2 := (s1.disableRing r).attn 4
  if cause = 1 || cause = 5 then
    let (free, s3) := s2.fresh
    s3.ev 0x1201 (entRing r) cause (free % 2 ^ 48)
  else s2.ev 0x1201 (entRing r) cause (idx % 2 ^ 32 + 2 ^ 32 * tag)

/-- The rings that run. -/
def State.runningRings (s : State) : List Nat := (s.hif.rings.filter (fun p => p.2.run)).map (·.1)

/-- A link or power event of R423: every running ring halts with cause 5 and HIF_LINK_DOWN is logged. -/
def State.linkEvent (s : State) (kind : Nat) : State :=
  let l := s.runningRings
  let s1 := l.foldl (fun a r => a.haltRing r 5 0 0) s
  (s1.bump HIF_LINK_STAT.DOWN_CNT).ev 0x1203 0 kind (maskOf l)

/-- A ring's registers at their reset values; what runs goes on and its completions are lost (R423). -/
def Ring.reinit (x : Ring) : Ring := { Ring.reset with flights := x.flights.map (fun (f : Flight) => { f with lost := true }) }

/-- Hot reset and Function Level Reset: configuration space, MSI-X state and every HIF register but DOWN_CNT return to
their reset values; operations that run go on, their completions lost (R423). -/
def State.resetHif (s : State) : State :=
  let cnt := s.rd HIF_LINK_STAT.DOWN_CNT
  let s1 := { s with
    regs := s.regs.filter (fun p => !(0x78000 ≤ p.1 && p.1 < 0x80000))
    hif := { s.hif with
      rings := (s.hif.rings.map (fun (p : Nat × Ring) => (p.1, p.2.reinit))).filter (fun (p : Nat × Ring) => p.2 ≠ Ring.reset)
      lastRing := 63, poolLow := 1024 - s.inFlight, evWaits := [], busMaster := false, d3hot := false,
      msixEn := false, fnMask := false, vecMask := true, msixPend := false } }
  s1.wr HIF_LINK_STAT.DOWN_CNT cnt

/-- A doorbell of ring r with value v (R416). -/
def State.doorbell (s : State) (r v : Nat) : State :=
  let x := s.ring r
  if !s.flag (HIF_RING_CFG.EN r) || diff32 v x.head < 0 then
    (s.setRing r { x with dbIgn := low 32 (x.dbIgn + 1) }).bump HIF_DB_IGN_CNT.CNT
  else if s.depth r < low 32 (v + 2 ^ 32 - x.oldest) then s.haltRing r 1 0 0
  else (s.setRing r { x with tail := v }).shadow r

/-- Descriptors posted on ring r and not fetched. -/
def Ring.posted (x : Ring) : Nat := low 32 (x.tail + 2 ^ 32 - x.head)

/-- Pool entries ring r may take now: 16 of the 1,024 are kept for rings 60–63, so rings 0–59 hold at most 1,008 (R418). -/
def State.poolFor (s : State) (r : Nat) : Nat :=
  let free := 1024 - s.inFlight
  if r < 60 then min free (1008 - sumN ((s.hif.rings.filter (fun p => p.1 < 60)).map (fun p => p.2.flights.length))) else free

/-- Ring r could be served: it runs, has posted descriptors and is below MAX_INFLIGHT (R418). -/
def State.wantsFetch (s : State) (r : Nat) : Bool :=
  (s.ring r).run && (s.ring r).posted != 0 && (s.ring r).flights.length < s.rd (HIF_RING_CFG.MAX_INFLIGHT r)

/-- The rings in the order the arbiter visits them: ascending, starting after the ring it served last (R418). -/
def State.fetchOrder (s : State) : List Nat := (List.range 64).map (fun i => (s.hif.lastRing + 1 + i) % 64)

/-- One descriptor of ring r is fetched: it takes a pool entry, and the checks of R410, R414 and R21 follow. The result
says whether the fetch goes on. -/
def State.fetchOne (s : State) (r : Nat) (f : FetchDesc) : State × Bool :=
  let x := s.ring r
  let i := x.head
  let fl : Flight := { idx := i, tag := f.tag.toNat, opcode := f.opcode.toNat, fence := f.flags.getLsbD 0,
                       quiet := f.flags.getLsbD 1, started := false, outside := false, lost := false, progress := 0 }
  let s1 := s.setRing r { x with head := low 32 (i + 1), flights := x.flights ++ [fl], stall := false }
  let s2 := { s1 with hif := { s1.hif with poolLow := min s1.hif.poolLow (1024 - s1.inFlight) } }
  let port := if r < 24 then r else r - 24
  if f.idx.toNat ≠ i % 2 ^ 16 then (s2.haltRing r 2 i f.tag.toNat, false)
  else if r < 48 && s2.absent 1 port then
    ((s2.ev 0x0140 (entPort port) (r * 2 ^ 16 + f.tag.toNat) 0).complete r i false true 0 0x0011, true)
  else if r < 48 && !s2.portOn port then (s2.complete r i false true 0 0x0012, true)
  else if f.flags.toNat / 4 ≠ 0 then (s2.complete r i false true 0 0x0002, true)
  else if !opcodeListed r f.opcode.toNat then (s2.complete r i false true 0 0x0001, true)
  else (s2, true)

/-- Fetches up to `k` consecutive descriptors of ring r from what the host has posted. -/
def State.fetchRing (s : State) (r : Nat) : Nat → List FetchDesc → State
  | 0, _ => s
  | _, [] => s
  | k + 1, f :: l =>
    if s.wantsFetch r && s.poolFor r != 0 then
      let (s1, go) := s.fetchOne r f
      if go then s1.fetchRing r k l else s1
    else s

/-- Every ring that has posted descriptors and finds no pool entry sets CREDIT_STALL; the first of a run is logged; rings at
MAX_INFLIGHT show AT_CAP (R418). -/
def State.markStalls (s : State) : State :=
  let posted := (s.hif.rings.filter (fun p => p.2.run && p.2.posted != 0)).map (·.1)
  let stalled := posted.filter (fun r => s.wantsFetch r && s.poolFor r == 0)
  let s1 := (s.hif.rings.map (·.1)).foldl (fun a r =>
    a.setRing r { a.ring r with stall := (a.ring r).stall || stalled.contains r,
                                atCap := (a.ring r).run && a.rd (HIF_RING_CFG.MAX_INFLIGHT r) ≤ (a.ring r).flights.length }) s
  let dry := !stalled.isEmpty
  let s2 := { s1 with hif := { s1.hif with poolDry := dry } }
  if dry && !s.hif.poolDry then s2.ev 0x1202 0 (stalled.headD 0) (maskOf posted) else s2

/-- One turn of the fetch arbiter: the next ring in order that can be served fetches up to 8 consecutive descriptors, whose
contents in host memory the command brings (R418). -/
def State.fetchTurn (s : State) (l : List FetchDesc) : State :=
  match s.fetchOrder.find? (fun r => s.wantsFetch r && s.poolFor r != 0) with
  | none => s.markStalls
  | some r =>
    let s1 := { s with hif := { s.hif with lastRing := r } }.fetchRing r 8 l
    s1.markStalls.shadow r

/-- The set-up fields of HIF_RING_CFG_r: LOG2_DEPTH 4–12 and MAX_INFLIGHT 1–1,024, written only while EN is 0 (R420, R428). -/
def State.ringFields (s : State) (r v : Nat) : State :=
  if s.flag (HIF_RING_CFG.EN r) then s
  else
    let d := v % 16
    let m := v / 2 ^ 16 % 2 ^ 11
    let s1 := if 4 ≤ d && d ≤ 12 then s.wr (HIF_RING_CFG.LOG2_DEPTH r) d else s
    if 1 ≤ m && m ≤ 1024 then s1.wr (HIF_RING_CFG.MAX_INFLIGHT r) m else s1

/-- A write of HIF_RING_CFG_r with EN = 1: it takes effect only while EN is 0 and nothing is in flight (R420). -/
def State.enableRing (s : State) (r v : Nat) : State :=
  if s.flag (HIF_RING_CFG.EN r) then s
  else
    let s1 := s.ringFields r v
    let x := s1.ring r
    if x.flights.isEmpty then
      ((s1.wr (HIF_RING_CFG.EN r) 1).setRing r
        { x with head := 0, tail := 0, halted := false, cause := 0, run := true, stall := false, wait := false, atCap := false }).shadow r
    else s1

/-- A write of HIF_RING_CFG_r with EN = 0 (R420). -/
def State.ringOff (s : State) (r v : Nat) : State :=
  if s.flag (HIF_RING_CFG.EN r) then s.disableRing r else s.ringFields r v

/-- GLB_EVT_OLDEST (R425). -/
def State.evOldest (s : State) : Nat := s.log.head - s.log.events.length

/-- An event record, 32 bytes (R425). -/
def Event.bytes (e : Event) : List Nat :=
  leBytes 2 e.code ++ leBytes 2 e.entity ++ [e.source, 0] ++ leBytes 2 e.seq ++ leBytes 8 e.t ++ leBytes 8 e.arg1 ++ leBytes 8 e.arg2

/-- The events from sequence `first` on, oldest first, at most `n`. -/
def State.eventsFrom (s : State) (first n : Nat) : List Event :=
  ((s.log.events.reverse).filter (fun e => first ≤ e.seq)).take n

/-- Writes the events from `first` on to host memory and completes the descriptor (R426). -/
def State.deliverEvents (s : State) (r idx first addr len code : Nat) : State :=
  let l := s.eventsFrom first (len / 32)
  let s1 := if l.isEmpty then s else s.emit (.host addr (l.flatMap Event.bytes))
  s1.complete r idx false false 0 code (leBytes 4 l.length ++ leBytes 8 first)

/-- A self-test starts, or waits while one runs (R407, R427); its limit: 1.7 s, 2 ms, 2 s by kind. -/
def State.beginSelfTest (s : State) (r idx kind : Nat) : State :=
  let lim := if kind = 0 then 1700000000 else if kind = 1 then 2000000 else 2000000000
  let s1 := s.mapFlight r idx (fun f => { f with started := true })
  let s2 := { s1 with hif := { s1.hif with selfTest := some (r, idx, kind, s.now + lim) } }
  if kind = 0 then s2.reportStart r idx else s2

/-- A SELF_TEST descriptor of a kind (R427). -/
def State.selfTestDesc (s : State) (d : DescRef) (kind : Nat) (argOk : Bool) : State :=
  s.run d 0x0102 fun s =>
    if !argOk then s.fail d 0x00C8
    else if s.hif.selfTest.isSome then
      let s1 := s.waitShared d
      { s1 with hif := { s1.hif with selfWait := s1.hif.selfWait ++ [(d.ring.val, d.idx.toNat, kind)] } }
    else s.beginSelfTest d.ring.val d.idx.toNat kind

/-- The running self-test ends with its counts; any failure gives SELFTEST_FAIL; the next waiting test starts (R427). -/
def State.selfTestDone (s : State) (a b : Nat) : State :=
  match s.hif.selfTest with
  | none => s
  | some (r, idx, kind, lim) =>
    let s0 := s.waitTill (min lim (s.now + 10))
    let bad := if kind = 2 then a != 0 || b != 0 else a != 0
    let res := leBytes 4 a ++ leBytes 4 (if kind = 1 then 0 else b)
    let s1 := s0.complete r idx false bad (if bad then s0.progressOf r idx else if kind = 0 then 1000 else 0) (if bad then 0x00C9 else 0) res
    let s2 := { s1 with hif := { s1.hif with selfTest := none } }
    match s2.hif.selfWait with
    | [] => s2
    | (r2, i2, k2) :: l => ({ s2 with hif := { s2.hif with selfWait := l } }.setWait r2 false).beginSelfTest r2 i2 k2

open Host (Outcome)

/-- DOORBELL: only an aligned 32-bit write at 0x40 × r has an effect (R405, R416). -/
def execDoorbell (off : BitVec 12) (size : Nat) (v : BitVec 32) (s : State) : Outcome State Fault Refusal :=
  .next (if s.up && size = 4 && off.toNat % 0x40 = 0 && off.toNat / 0x40 < 64 then s.doorbell (off.toNat / 0x40) v.toNat else s)

/-- DESCRIPTOR_FETCH (R418, R410). -/
def execDescriptorFetch (fetched : List FetchDesc) (s : State) : Outcome State Fault Refusal :=
  .next (if s.up then s.fetchTurn fetched else s)

/-- RING_ENABLE (R420). -/
def execRingEnable (ring : Fin 64) (v : BitVec 32) (s : State) : Outcome State Fault Refusal :=
  .next (if s.up then s.enableRing ring.val v.toNat else s)

/-- RING_DISABLE (R420). -/
def execRingDisable (ring : Fin 64) (v : BitVec 32) (s : State) : Outcome State Fault Refusal :=
  .next (if s.up then s.ringOff ring.val v.toNat else s)

/-- The read of a committed storage buffer fails or is cut off: the other buffer is tried, and then none is left
(spec/11 R271, R273). -/
def State.seeReadFail (s : State) (gen : Option Nat) : State :=
  match s.see.reading with
  | none => s
  | some (b, false, _) => { s with see := { s.see with reading := some (1 - b, true, gen) } }
  | some (_, true, _) => ({ s with see := { s.see with reading := none } }).wr SEE_STAT.ADOPT 3

/-- PCIE_LINK_DOWN (R423); a storage buffer being read counts as failing (spec/11 R273). -/
def execPcieLinkDown (s : State) : Outcome State Fault Refusal :=
  if s.mainUp && s.hif.linkUp then
    let s1 := (s.linkEvent 1).seeReadFail none
    .next { s1 with hif := { s1.hif with linkUp := false, linkDownAt := s.now } }
  else .next s

/-- PCIE_LINK_UP (R423). -/
def execPcieLinkUp (speed : Fin 4) (width : Fin 16) (s : State) : Outcome State Fault Refusal :=
  if s.mainUp && !s.hif.linkUp then
    let s1 := (s.wr HIF_LINK_STAT.SPEED speed.val).wr HIF_LINK_STAT.WIDTH width.val
    .next ({ s1 with hif := { s1.hif with linkUp := true } }.ev 0x1204 0 (speed.val + 4 * width.val) ((s.now - s.hif.linkDownAt) / 1000000))
  else .next s

/-- PCIE_HOT_RESET (R423): it takes the link down, and a storage buffer being read counts as failing (spec/11 R273). -/
def execPcieHotReset (s : State) : Outcome State Fault Refusal :=
  if s.mainUp then
    let s1 := (s.linkEvent 2).resetHif.seeReadFail none
    .next { s1 with hif := { s1.hif with linkUp := false, linkDownAt := s.now } }
  else .next s

/-- FUNCTION_LEVEL_RESET (R423). -/
def execFunctionLevelReset (s : State) : Outcome State Fault Refusal :=
  .next (if s.mainUp then (s.linkEvent 3).resetHif else s)

/-- BUS_MASTER_DISABLE (R423). -/
def execBusMasterDisable (s : State) : Outcome State Fault Refusal :=
  if s.mainUp && s.hif.busMaster then
    let s1 := s.linkEvent 4
    .next { s1 with hif := { s1.hif with busMaster := false } }
  else .next s

/-- BUS_MASTER_ENABLE (R423). -/
def execBusMasterEnable (s : State) : Outcome State Fault Refusal :=
  .next (if s.mainUp then { s with hif := { s.hif with busMaster := true } } else s)

/-- D3HOT_ENTRY (R423). -/
def execD3hotEntry (s : State) : Outcome State Fault Refusal :=
  if s.mainUp && !s.hif.d3hot then
    let s1 := s.linkEvent 5
    .next { s1 with hif := { s1.hif with d3hot := true } }
  else .next s

/-- D3HOT_EXIT: No_Soft_Reset, nothing is reset (R423). -/
def execD3hotExit (s : State) : Outcome State Fault Refusal :=
  .next (if s.mainUp then { s with hif := { s.hif with d3hot := false } } else s)

/-- HIF_ATTN_CAUSE, write one to clear; the message goes again while enabled causes remain (R424). -/
def State.attnWrite (s : State) (v : Nat) : State :=
  let s1 := s.wr HIF_ATTN_CAUSE.CAUSE (clearBits (s.rd HIF_ATTN_CAUSE.CAUSE) (low 6 v))
  if s1.attnActive != 0 then s1.message else s1

/-- HIF_ATTN_CAUSE_WRITE (R424). -/
def execHifAttnCauseWrite (v : BitVec 32) (s : State) : Outcome State Fault Refusal :=
  .next (if s.up then s.attnWrite v.toNat else s)

/-- MSIX_ENABLE: 0 to 1 (R424). -/
def execMsixEnable (s : State) : Outcome State Fault Refusal :=
  if s.mainUp && !s.hif.msixEn then
    let s1 := { s with hif := { s.hif with msixEn := true } }
    .next (if s1.attnActive != 0 then s1.message else s1)
  else .next s

/-- MSIX_DISABLE: 1 to 0 (R424). -/
def execMsixDisable (s : State) : Outcome State Fault Refusal :=
  .next (if s.mainUp then { s with hif := { s.hif with msixEn := false } } else s)

/-- The mask of the vector; unmasking sends a pending message (R424). -/
def State.msixVec (s : State) (mask : Bool) : State :=
  let s1 := { s with hif := { s.hif with vecMask := mask } }
  if s1.hif.msixPend && s1.hif.msixEn && !s1.hif.fnMask && !mask then s1.message else s1

/-- MSIX_UNMASK of the function or of the vector: a pending message is sent (R424). -/
def execMsixUnmask (function : Bool) (s : State) : Outcome State Fault Refusal :=
  if s.mainUp then
    let s1 := if function then { s with hif := { s.hif with fnMask := false } } else { s with hif := { s.hif with vecMask := false } }
    .next (if s1.hif.msixPend && s1.hif.msixEn && !s1.hif.fnMask && !s1.hif.vecMask then s1.message else s1)
  else .next s

/-- MSIX_MASK of the function or of the vector (R424). -/
def execMsixMask (function : Bool) (s : State) : Outcome State Fault Refusal :=
  .next (if !s.mainUp then s
    else if function then { s with hif := { s.hif with fnMask := true } } else { s with hif := { s.hif with vecMask := true } })

/-- A 1 in HIF_CLR.COUNTS (R428). -/
def State.hifClear (s : State) : State :=
  let s1 := (s.wr HIF_LOST_CNT.CNT 0).wr HIF_DB_IGN_CNT.CNT 0
  { s1 with hif := { s1.hif with poolLow := 1024 - s.inFlight } }

/-- HIF_CLR_COUNTS (R428). -/
def execHifClrCounts (s : State) : Outcome State Fault Refusal := .next (if s.up then s.hifClear else s)

/-- NOP (R414). -/
def execNop (d : DescRef) (reservedZero : Bool) (s : State) : Outcome State Fault Refusal :=
  .next (s.run d 0x1200 fun s => if reservedZero then s.done d else s.fail d 0x0005)

/-- EVENT_READ (R426). -/
def execEventRead (d : DescRef) (first addr : BitVec 64) (len : BitVec 32) (wait reservedZero : Bool) (s : State) :
    Outcome State Fault Refusal :=
  .next (s.run d 0x0101 fun s =>
    let f := first.toNat
    if s.log.head < f || !reservedZero then s.fail d 0x00C0
    else if len.toNat % 32 ≠ 0 || len.toNat < 32 || 1048576 < len.toNat then s.fail d 0x00C1
    else if f < s.evOldest then s.deliverEvents d.ring.val d.idx.toNat s.evOldest addr.toNat len.toNat 0x00C2
    else if f = s.log.head && wait then
      let s1 := s.waitOutside d
      { s1 with hif := { s1.hif with evWaits := s1.hif.evWaits ++
        [{ ring := d.ring.val, idx := d.idx.toNat, first := f, addr := addr.toNat, len := len.toNat }] } }
    else s.deliverEvents d.ring.val d.idx.toNat f addr.toNat len.toNat 0)

/-- EVENT_READ_WAKE: the oldest waiting read with an event available completes (R426). -/
def execEventReadWake (s : State) : Outcome State Fault Refusal :=
  match s.hif.evWaits.find? (fun w => w.first < s.log.head) with
  | none => .next s
  | some w =>
    if s.up then
      .next ({ s with hif := { s.hif with evWaits := s.hif.evWaits.erase w } }.deliverEvents w.ring w.idx
        (max w.first s.evOldest) w.addr w.len (if w.first < s.evOldest then 0x00C2 else 0))
    else .next s

/-- EVT_HEAD_LATCH_READ (R429). -/
def execEvtHeadLatchRead (s : State) : Outcome State Fault Refusal :=
  .next (if s.up then s.wr64 GLB_EVT_HEAD_LO.SEQ GLB_EVT_HEAD_HI.SEQ s.log.head else s)

/-- EVT_OLDEST_LATCH_READ (R429). -/
def execEvtOldestLatchRead (s : State) : Outcome State Fault Refusal :=
  .next (if s.up then s.wr64 GLB_EVT_OLDEST_LO.SEQ GLB_EVT_OLDEST_HI.SEQ s.evOldest else s)

/-- SELF_TEST_MARCH (R427); it reports progress from 0 on. -/
def execSelfTestMarch (d : DescRef) (reservedZero : Bool) (s : State) : Outcome State Fault Refusal :=
  .next (s.selfTestDesc d 0 reservedZero)

/-- SELF_TEST_LANE_DELAY (R427). -/
def execSelfTestLaneDelay (d : DescRef) (reservedZero : Bool) (s : State) : Outcome State Fault Refusal :=
  .next (s.selfTestDesc d 1 reservedZero)

/-- SELF_TEST_MRAM_CRC (R427). -/
def execSelfTestMramCrc (d : DescRef) (reservedZero : Bool) (s : State) : Outcome State Fault Refusal :=
  .next (s.selfTestDesc d 2 reservedZero)

/-- SELF_TEST_COMPLETE with the counts of RESULT (R427). -/
def execSelfTestComplete (a b : BitVec 32) (s : State) : Outcome State Fault Refusal :=
  .next (if s.up then s.selfTestDone a.toNat b.toNat else s)

end Sys2Proof.Machine
end

