-- ==== Sys2Proof/Machine/Can.lean ====
section
/-!
DEFINITION. The CAN controllers (spec/13_can_controllers.md).
-/
namespace Sys2Proof.Machine

/-- Controller n. -/
def State.can (s : State) (n : Nat) : CanCtl := tget (fun _ => CanCtl.reset) s.cans.ctls n

/-- Changes controller n. -/
def State.modCan (s : State) (n : Nat) (f : CanCtl → CanCtl) : State :=
  { s with cans := { s.cans with ctls := tset (fun _ => CanCtl.reset) s.cans.ctls n (f (s.can n)) } }

/-- Nominal bit time in time quanta of 12.5 ns: NBRP × (1 + NTSEG1 + NTSEG2) (R314). -/
def State.canNominal (s : State) (n : Nat) : Nat :=
  (s.rd (CAN_NBT.NBRP n) + 1) * (1 + (s.rd (CAN_NBT.NTSEG1 n) + 1) + (s.rd (CAN_NBT.NTSEG2 n) + 1))

/-- `k` nominal bit times, in ns. -/
def State.canBits (s : State) (n k : Nat) : Nat := divUp (k * s.canNominal n * 25) 2

/-- Data bit time in time quanta of 12.5 ns (R314). -/
def State.canData (s : State) (n : Nat) : Nat :=
  (s.rd (CAN_DBT.DBRP n) + 1) * (1 + (s.rd (CAN_DBT.DTSEG1 n) + 1) + (s.rd (CAN_DBT.DTSEG2 n) + 1))

/-- The controller is powered and clocked: CAN0 to CAN4 with the main domains, CAN5 also while RESET_N holds them
(R323). -/
def State.canAlive (s : State) (n : Nat) : Bool :=
  if n = 5 then !s.glb.holds.order && !s.glb.holds.ref && !s.glb.holds.core && s.rd GLB_PWR_STAT.PGOOD == 0xFF else s.up

/-- The controller is in use and neither held off nor asleep (R314, R316). -/
def State.canRuns (s : State) (n : Nat) : Bool :=
  s.canAlive n && s.flag (CAN_CTL.EN n) && !s.flag (CAN_STAT.OFF n) && !s.flag (CAN_STAT.SLEEP n)

/-- The controller takes part in bus traffic: running and not bus-off (R320). -/
def State.canOnBus (s : State) (n : Nat) : Bool := s.canRuns n && s.rd (CAN_STAT.ESTATE n) < 2

/-- The unit is the sending unit (R308). -/
def State.sends (s : State) : Bool :=
  s.mainUp && (!s.twinSite || s.glb.mode == .active || s.glb.mode == .limp || s.glb.mode == .halt)

/-- The controller may transmit: on CAN2 to CAN4 only the sending unit does (R308). -/
def State.canMaySend (s : State) (n : Nat) : Bool := s.sends || n < 2 || n == 5

/-- Data length of a length code, at most 8 for a classic frame (R326, CAN FD). -/
def dlcLen (fdf : Bool) (c : Nat) : Nat :=
  if c ≤ 8 then c
  else if !fdf then 8
  else nth [12, 16, 20, 24, 32, 48, 64] (c - 9) 64

/-- A frame's data is cut or filled with zeros to `k` bytes. -/
def fitData (k : Nat) (l : List Nat) : List Nat := (l ++ List.replicate k 0).take k

/-- The object is an enabled transmit object (R309). -/
def State.canTxObj (s : State) (n o : Nat) : Bool := s.flag (CAN_OBJ_CFG.EN n o) && s.flag (CAN_OBJ_CFG.DIR n o)

/-- The identifier an object sends (R310). -/
def State.canSentId (s : State) (n o : Nat) : Nat :=
  let m := if s.flag (CAN_OBJ_CFG.IDE n o) then 2 ^ 29 else 2 ^ 11
  let id := s.rd (CAN_OBJ_ID.ID n o)
  let k := s.rd GLB_TWIN_CFG.RANK
  if s.flag (CAN_OBJ_CFG.RANKED n o) && 1 < k then (id + (k - 1) * s.rd (CAN_RANK.STEP n)) % m else id % m

/-- Frame with FDF (R309): ignored while FD_EN is 0. -/
def State.canFdf (s : State) (n o : Nat) : Bool := s.flag (CAN_OBJ_CFG.FDF n o) && s.flag (CAN_CTL.FD_EN n)

/-- Identifier with IDE in bit 31, as events and records give it (R325, R327). -/
def idWord (id : Nat) (ide : Bool) : Nat := id + b2n ide * 2 ^ 31

/-- Place of an identifier in bus arbitration, lowest first: the eleven base bits, then the standard frame before the
extended one (ISO 11898-1). -/
def arbKey (id : Nat) (ide : Bool) : Nat := if ide then (id / 2 ^ 18) * 2 ^ 19 + 2 ^ 18 + id % 2 ^ 18 else id * 2 ^ 19

/-- Arbitration key of a request, the object index breaking ties (R313). -/
def CanReq.key (q : CanReq) : Nat := arbKey q.id q.ide * 128 + q.obj

/-- Buffer b of controller n. -/
def State.canBuf (s : State) (n b : Nat) : Option CanReq := tget (fun _ => none) (s.can n).buf b

/-- Puts a request in buffer b, or empties it. -/
def State.setBuf (s : State) (n b : Nat) (q : Option CanReq) : State :=
  s.modCan n (fun c => { c with buf := tset (fun _ => none) c.buf b q })

/-- The object has its frame in transmission. -/
def State.canInTx (s : State) (n o : Nat) : Bool :=
  match (s.can n).tx with
  | none => false
  | some (b, _) => match s.canBuf n b with | none => false | some q => q.obj == o

/-- CAN_TXBUF_n and the PEND bits show the buffers and requests (R326). -/
def State.canShow (s : State) (n : Nat) : State :=
  let byte (b : Nat) : Nat := match s.canBuf n b with | none => 0 | some q => q.obj + 128
  let act : Nat := match (s.can n).tx with | none => 0 | some (b, _) => 2 ^ b
  let s1 := (((s.wr (CAN_TXBUF.BUF0 n) (byte 0)).wr (CAN_TXBUF.BUF1 n) (byte 1)).wr (CAN_TXBUF.BUF2 n) (byte 2)).wr
    (CAN_TXBUF.ACTIVE n) act
  let inBuf := ([0, 1, 2].filterMap (fun b => s.canBuf n b)).map (·.obj)
  let objs := inBuf ++ (s.can n).pend.map (·.obj)
  (List.range 128).foldl (fun a o =>
    let p := b2n (objs.contains o)
    if a.rd (CAN_OBJ_STAT.PEND n o) = p then a else a.wr (CAN_OBJ_STAT.PEND n o) p) s1

/-- The pending request that TXMODE 0 loads next: the lowest identifier whose object has no frame in transmission. -/
def State.canLowest (s : State) (n : Nat) : Option CanReq :=
  ((s.can n).pend.filter (fun q => !s.canInTx n q.obj)).foldl (fun (a : Option CanReq) q =>
    match a with
    | none => some q
    | some x => if q.key < x.key then some q else a) none

/-- The buffered request of the highest identifier that is not in transmission, with its buffer. -/
def State.canHighest (s : State) (n : Nat) : Option (Nat × CanReq) :=
  [0, 1, 2].foldl (fun (a : Option (Nat × CanReq)) b =>
    if (s.can n).tx.map (·.1) = some b then a else
    match s.canBuf n b, a with
    | none, _ => a
    | some q, none => some (b, q)
    | some q, some x => if x.2.key < q.key then some (b, q) else a) none

/-- Moves a request from pending into buffer b. -/
def State.canLoad (s : State) (n b : Nat) (q : CanReq) : State :=
  let k := (s.can n).order
  ((s.modCan n (fun c => { c with pend := c.pend.erase q, order := k + 1 })).setBuf n b (some { q with order := k }))

/-- One filling of a buffer, or one exchange (R313); none when nothing is to do. -/
def State.canFill1 (s : State) (n : Nat) : Option State :=
  if s.rd (CAN_CTL.TXMODE n) = 1 then
    let b := (s.can n).nextBuf
    match (s.can n).pend with
    | [] => none
    | q :: _ =>
      if (s.canBuf n b).isSome || s.canInTx n q.obj then none
      else some ((s.canLoad n b q).modCan n (fun c => { c with nextBuf := (b + 1) % 3 }))
  else
    match s.canLowest n with
    | none => none
    | some q =>
      match [0, 1, 2].find? (fun b => (s.canBuf n b).isNone) with
      | some b => some (s.canLoad n b q)
      | none =>
        match s.canHighest n with
        | none => none
        | some (b, x) =>
          if q.key < x.key then
            some ((s.modCan n (fun c => { c with pend := x :: c.pend })).canLoad n b q)
          else none

/-- Fills the buffers (R313); each of at most 128 requests is loaded or exchanged at most once per turn. -/
def State.canFillN (s : State) (n : Nat) : Nat → State
  | 0 => s
  | k + 1 => match s.canFill1 n with | none => s | some s1 => s1.canFillN n k

/-- Fills the buffers and shows them. -/
def State.canFill (s : State) (n : Nat) : State := (s.canFillN n 132).canShow n

/-- A request is withdrawn with a cause: counted, logged, and its source told (R312, R319, R325, spec/06 R137). -/
def State.canWithdraw (s : State) (n : Nat) (q : CanReq) (cause : Nat) : State :=
  let s1 := (s.bump (CAN_TXDROP.CNT n)).ev 0x0D05 (entCan n) (idWord q.id q.ide) (q.obj + 256 * cause)
  match q.src with
  | .host r i => s1.complete r i false true 0 0x00A3
  | .slow j => if cause = 1 then (s1.bump LCH_CNT_LATE.CNT).ev 0x0402 (entCan n) j s.tickNum else s1
  | .ref c => if cause = 1 then s1.ev 0x0D09 (entCan n) c 0 else s1
  | _ => s1

/-- Every request that is not in transmission and satisfies `p` is withdrawn with a cause. -/
def State.canWithdrawAll (s : State) (n cause : Nat) (p : CanReq → Bool) : State :=
  let inTx := (s.can n).tx.map (·.1)
  let bufs := [0, 1, 2].filter (fun b => inTx ≠ some b && (match s.canBuf n b with | none => false | some q => p q))
  let qs := bufs.filterMap (fun b => s.canBuf n b)
  let ps := (s.can n).pend.filter p
  let s1 := bufs.foldl (fun a b => a.setBuf n b none) (s.modCan n (fun c => { c with pend := c.pend.filter (fun q => !p q) }))
  (qs ++ ps).foldl (fun a q => a.canWithdraw n q cause) s1

/-- Requests whose deadline has passed are withdrawn (R312). -/
def State.canExpire (s : State) (n : Nat) : State :=
  (s.canWithdrawAll n 1 (fun q => match q.deadline with | none => false | some t => t ≤ s.siteNs)).canFill n

/-- A source requests transmission from an object (R309, R312): a blocked object refuses, a frame of the object that is not
in transmission is replaced. -/
def State.canRequest (s : State) (n o : Nat) (data : List Nat) (deadline : Option Nat) (src : CanSrc) : State :=
  if !s.canTxObj n o || s.flag (CAN_OBJ_STAT.BLOCKED n o) then s
  else
    let age := s.rd (CAN_OBJ_CFG.AGE_LIM n o)
    let dl := match deadline with
      | some t => some t
      | none => if age = 0 then none else some (s.siteNs + 1000000 * age)
    let s1 := s.canWithdrawAll n 3 (fun q => q.obj = o)
    let k := (s1.can n).order
    let q : CanReq := { obj := o, id := s.canSentId n o, ide := s.flag (CAN_OBJ_CFG.IDE n o), fdf := s.canFdf n o,
                        brs := s.canFdf n o && s.flag (CAN_OBJ_CFG.BRS n o), data := data, deadline := dl, src := src, order := k }
    (s1.modCan n (fun c => { c with pend := c.pend ++ [q], order := k + 1 })).canFill n

/-- The buffer whose frame goes to arbitration: the lowest identifier, or the first loaded (R313). -/
def State.canPick (s : State) (n : Nat) : Option Nat :=
  let mode1 := s.rd (CAN_CTL.TXMODE n) == 1
  ([0, 1, 2].foldl (fun (a : Option (Nat × Nat)) b =>
    match s.canBuf n b with
    | none => a
    | some q =>
      let k := if mode1 then q.order else q.key
      match a with
      | none => some (b, k)
      | some x => if k < x.2 then some (b, k) else a) none).map (·.1)

/-- The bus is free and the frame next in turn wins arbitration: its transmission begins, after the deadlines were checked
(R312, R313); the site time of its start of frame is latched (R318). -/
def State.canStartTx (s : State) (n : Nat) : State :=
  if !s.canOnBus n || !s.canMaySend n || (s.can n).tx.isSome then s
  else
    let s1 := s.canExpire n
    match s1.canPick n with
    | none => s1
    | some b => (s1.modCan n (fun c => { c with tx := some (b, s.siteNs) })).canShow n

/-- The error state follows the counters: warning at 96, passive at 128, and its end (R320). -/
def State.canErrState (s : State) (n tec0 rec0 : Nat) : State :=
  let t := s.rd (CAN_STAT.TEC n)
  let r := s.rd (CAN_STAT.REC n)
  let s1 := if max tec0 rec0 < 96 && 96 ≤ max t r then s.ev 0x0D01 (entCan n) t r else s
  if 128 ≤ max t r then
    if s.rd (CAN_STAT.ESTATE n) = 0 then (s1.wr (CAN_STAT.ESTATE n) 1).ev 0x0D02 (entCan n) (t + 256 * r) 1 else s1
  else if s.rd (CAN_STAT.ESTATE n) = 1 then (s1.wr (CAN_STAT.ESTATE n) 0).ev 0x0D02 (entCan n) (t + 256 * r) 0 else s1

/-- The frame in transmission is complete (R318, R320, R325). -/
def State.canSent (s : State) (n : Nat) : State :=
  match (s.can n).tx with
  | none => s
  | some (b, sof) =>
    match s.canBuf n b with
    | none => s.modCan n (fun c => { c with tx := none })
    | some q =>
      let tec := s.rd (CAN_STAT.TEC n)
      let s1 := ((s.modCan n (fun c => { c with tx := none })).setBuf n b none).emit (.can n q.id q.ide q.fdf q.data)
      let s2 := ((s1.bumpWrap (CAN_OBJ_STAT.CNT n q.obj)).wr (CAN_STAT.TEC n) (tec - 1)).canErrState n tec (s.rd (CAN_STAT.REC n))
      let s3 := match q.src with
        | .host r i => s2.complete r i false false 0 0
        | .ref c => s2.modCan n (fun x => { x with ref := some (c, sof) })
        | _ => s2
      s3.canFill n

/-- Whether an identifier is suspect (R324). -/
def State.canSuspect (s : State) (n id : Nat) (ide : Bool) : Bool :=
  (s.can n).suspects.any (fun x => x.1 = id && x.2.1 = ide && s.now < x.2.2 + 1000000000)

/-- SUSPECT of the objects whose identifier this is. -/
def State.canMarkSuspect (s : State) (n id : Nat) (ide on : Bool) : State :=
  (List.range 128).foldl (fun a o =>
    let oid := if a.flag (CAN_OBJ_CFG.DIR n o) then a.canSentId n o else a.rd (CAN_OBJ_ID.ID n o)
    if a.flag (CAN_OBJ_CFG.EN n o) && a.flag (CAN_OBJ_CFG.IDE n o) == ide && oid == id then
      a.wr (CAN_OBJ_STAT.SUSPECT n o) (b2n on) else a) s

/-- A bit error in the data field of the frame in transmission: another node sends this identifier (R324). -/
def State.canContend (s : State) (n : Nat) (q : CanReq) : State :=
  let l := (q.id, q.ide, s.now) :: (s.can n).contends.filter (fun x => s.now < x.2.2 + 10000000000)
  let k := (l.filter (fun x => x.1 = q.id && x.2.1 = q.ide)).length
  let s1 := (s.modCan n (fun c => { c with
    contends := l, suspects := (q.id, q.ide, s.now) :: c.suspects.filter (fun x => x.1 ≠ q.id || x.2.1 ≠ q.ide) })).canMarkSuspect
      n q.id q.ide true
  let s2 := s1.ev 0x0D06 (entCan n) (idWord q.id q.ide) k
  if s.rd (CAN_ID_CFG.ID_CONTEND_LIMIT n) ≤ k then
    ((s2.wr (CAN_OBJ_STAT.BLOCKED n q.obj) 1).canWithdrawAll n 2 (fun x => x.obj = q.obj)).ev 0x0D07 (entCan n)
      (idWord q.id q.ide) q.obj
  else s2

/-- Error counter increments of ISO 11898-1: receiver, receiver after its error flag, transmitter; a passive transmitter
without acknowledgement counts nothing. -/
def canErrInc : Nat → Nat × Nat
  | 0 => (0, 1) | 1 => (0, 8) | 2 => (8, 0) | 3 => (8, 0) | _ => (0, 0)

/-- An error frame: the counters, the end of the transmission under way, bus-off (R320), contention (R324). Kinds: 0 and 1
receiver, 2 transmitter, 3 transmitter with a bit error in the data field, 4 acknowledgement error of a passive one. -/
def State.canError (s : State) (n kind : Nat) : State :=
  let t0 := s.rd (CAN_STAT.TEC n)
  let r0 := s.rd (CAN_STAT.REC n)
  let t1 := t0 + (canErrInc kind).1
  let r1 := r0 + (canErrInc kind).2
  let q := match (s.can n).tx with | none => none | some (b, _) => s.canBuf n b
  let s1 := ((s.bump (CAN_CNT.ERRFRAME n)).wr (CAN_STAT.TEC n) (min t1 255)).wr (CAN_STAT.REC n) (min r1 255)
  let s2 := (s1.modCan n (fun c => { c with tx := if 2 ≤ kind then none else c.tx })).canErrState n t0 r0
  let s3 := if 255 < t1 then
      let held := (s2.can n).pend.length + ([0, 1, 2].filter (fun b => (s2.canBuf n b).isSome)).length
      let auto := s.flag (CAN_CTL.AUTO_REC n)
      ((s2.wr (CAN_STAT.ESTATE n) (if auto then 3 else 2)).modCan n (fun c => { c with
        tx := none, offAt := s.now, recAt := if auto then some (s.now, false) else none })).ev 0x0D03 (entCan n) held
          s.tickNum
    else s2
  let s4 := match q with | none => s3 | some x => if kind = 3 then s3.canContend n x else s3
  s4.canFill n

/-! ### Strings whose management units sit on CAN2 and CAN3 (spec/11) -/

/-- String i. -/
def State.str (s : State) (i : Nat) : Str := tget (fun _ => Str.reset) s.see.strs i

/-- Changes string i. -/
def State.modStr (s : State) (i : Nat) (f : Str → Str) : State :=
  { s with see := { s.see with strs := tset (fun _ => Str.reset) s.see.strs i (f (s.str i)) } }

/-- An authentication exchange of string i is due at once (R268). -/
def State.wantAuth (s : State) (i : Nat) : State := s.modStr i (fun y => { y with authDue := some s.now, attempts := 0 })

/-- The controller of a string's management unit (spec/01 R16). -/
def bmuCan (i : Nat) : Nat := if i < 8 then 2 else 3

/-- The strings of a management bus that recovered from bus-off authenticate again (R268). -/
def State.authBus (s : State) (n : Nat) : State :=
  ((List.range 16).filter (fun i => s.stringOn i && bmuCan i == n)).foldl (fun a i => a.wantAuth i) s

/-- Recovery from bus-off (R321); the management units on the bus authenticate again (spec/11 R268). -/
def State.canRecovered (s : State) (n : Nat) : State :=
  match (s.can n).recAt with
  | none => s
  | some (t, host) =>
    let s1 := s.waitTill (t + s.canBits n 1408)
    let s2 := ((((s1.modCan n (fun c => { c with recAt := none })).wr (CAN_STAT.ESTATE n) 0).wr (CAN_STAT.TEC n) 0).wr
      (CAN_STAT.REC n) 0).bump (CAN_CNT.BUSOFF n)
    (s2.ev 0x0D04 (entCan n) ((s1.now - (s.can n).offAt) / 1000000) (b2n host)).canExpire n |>.authBus n

/-- The identifier is that of the reference message of this controller, at either rank (R318, R319). -/
def State.isRef (s : State) (n : Nat) (id : Nat) (ide : Bool) (data : List Nat) : Bool :=
  let o := s.rd (CAN_REF.REF_OBJ n)
  let base := s.rd (CAN_OBJ_ID.ID n o) % 2 ^ 11
  s.flag (CAN_REF.REF_EN n) && !ide && data.length == 8 &&
  (id == base || (s.flag (CAN_OBJ_CFG.RANKED n o) && id == (base + s.rd (CAN_RANK.STEP n)) % 2 ^ 11))

/-- The 96-byte record of a received frame (R325). -/
def CanFrame.record (f : CanFrame) (n o : Nat) : List Nat :=
  leBytes 4 (idWord f.id f.ide) ++ [n, b2n f.fdf + 2 * b2n f.brs + 4 * b2n f.suspect] ++ leBytes 2 o ++ [f.data.length] ++
  List.replicate 7 0 ++ leBytes 8 f.stamp ++ fitData 64 f.data ++ List.replicate 8 0

/-- A frame goes to the oldest posted buffer of a ring, or is dropped; the answer says whether it was taken (R325). -/
def State.canToHost (s : State) (n o ring : Nat) (f : CanFrame) : State × Bool :=
  match s.cans.rx.find? (fun x => x.1 = ring) with
  | none => (s.bump (CAN_DROP.HOSTDROP n), false)
  | some (r, i, addr) =>
    let s1 := { s with cans := { s.cans with rx := s.cans.rx.erase (r, i, addr) } }
    ((s1.emit (.host addr (f.record n o))).complete r i false false 0 0 (leBytes 4 96), true)

/-- A matched frame is stored and delivered (R311). -/
def State.canStore (s : State) (n o : Nat) (f : CanFrame) (hkcTakes : Bool) : State :=
  let ovr := s.flag (CAN_OBJ_STAT.NEW n o)
  let s1 := ((s.modCan n (fun c => { c with
      held := tset (fun _ => none) c.held o (some f),
      ovrRun := if ovr then (if c.ovrRun.contains o then c.ovrRun else o :: c.ovrRun) else c.ovrRun.filter (· ≠ o) })).bumpWrap
        (CAN_OBJ_STAT.CNT n o)).wr (CAN_OBJ_STAT.NEW n o) 1
  let s2 := if ovr then
      let s3 := s1.wr (CAN_OBJ_STAT.OVR n o) 1
      if (s.can n).ovrRun.contains o then s3 else s3.ev 0x0D08 (entCan n) o (idWord f.id f.ide)
    else s1
  let d := s.rd (CAN_OBJ_CFG.DEST n o)
  let toHkc := d == 0 || d == 3
  let (s4, got) := if d = 0 then (s2, true) else s2.canToHost n o (if d = 2 then 59 else 58) f
  if got && (!toHkc || hkcTakes) then s4.wr (CAN_OBJ_STAT.NEW n o) 0 else s4

/-- A valid frame from the bus (R311, R318, R320). -/
def State.canReceive (s : State) (n id : Nat) (ide fdf brs : Bool) (data : List Nat) (lead : Nat) (hkcTakes : Bool) : State :=
  let r := s.rd (CAN_STAT.REC n)
  let (v, s0) := if 127 < r then s.fresh else (0, s)
  let r1 := if 127 < r then 119 + v % 9 else r - 1
  let s1 := (s0.wr (CAN_STAT.REC n) r1).canErrState n (s.rd (CAN_STAT.TEC n)) r
  let s2 := if s.isRef n id ide data then
      s1.modCan n (fun c => { c with ref := some (nth data 0 0 % 64, s.siteNs - lead) })
    else s1
  let f : CanFrame := { id := id, ide := ide, fdf := fdf, brs := brs, suspect := s.canSuspect n id ide, data := data,
                        stamp := s.siteNs }
  match (List.range 128).find? (fun o => s.flag (CAN_OBJ_CFG.EN n o) && !s.flag (CAN_OBJ_CFG.DIR n o) &&
      (s.flag (CAN_OBJ_CFG.IDE n o) == ide) &&
      (Nat.xor id (s.rd (CAN_OBJ_ID.ID n o)) &&& s.rd (CAN_OBJ_MASK.MASK n o)) == 0) with
  | none => s2.bump (CAN_DROP.NOMATCH n)
  | some o => s2.canStore n o f hkcTakes

/-- SLEEP = 1 (R316): a frame in transmission is finished, then the controller sleeps. -/
def State.canSleep (s : State) (n : Nat) : State := (s.canSent n).wr (CAN_STAT.SLEEP n) 1

/-- SLEEP = 0 (R316): back on the bus after 11 recessive bits; in DORMANT the controller stays asleep. -/
def State.canAwake (s : State) (n : Nat) : State :=
  if s.glb.mode = .dormant || !s.flag (CAN_STAT.SLEEP n) then s
  else ((s.waitTill (s.now + s.canBits n 11)).wr (CAN_STAT.SLEEP n) 0).canExpire n

/-- The unit becomes or stops being the time master of controller n (R318, R327). -/
def State.canMaster (s : State) (n : Nat) : State :=
  let m := s.sends && s.flag (CAN_CTL.EN n) && !s.flag (CAN_STAT.OFF n) && s.flag (CAN_REF.REF_EN n)
  if m = s.flag (CAN_STAT.MASTER n) then s
  else
    let c := match (s.can n).ref with | none => 0 | some x => if m then (x.1 + 1) % 64 else x.1
    (s.wr (CAN_STAT.MASTER n) (b2n m)).ev 0x0D0A (entCan n) (b2n m) c

/-- The roles follow the mode: SEND and MASTER, and when the sending role ends the requests on CAN2 to CAN4 are withdrawn
with cause 4 (R308); in DORMANT CAN0 to CAN4 sleep, and with the mode they wake unless told to sleep (R316). -/
def State.canRoles (s : State) : State :=
  let was := s.flag (CAN_STAT.SEND 2)
  let s1 := (List.range 6).foldl (fun a n => a.wr (CAN_STAT.SEND n) (b2n s.sends)) s
  let s2 := if was && !s.sends then
      [2, 3, 4].foldl (fun a n => (a.canWithdrawAll n 4 (fun _ => true)).canFill n) s1
    else s1
  let s3 := (List.range 6).foldl (fun a n => a.canMaster n) s2
  (List.range 5).foldl (fun a n =>
    if s.glb.mode = .dormant then if a.flag (CAN_STAT.SLEEP n) then a else a.canSleep n
    else if a.flag (CAN_STAT.SLEEP n) && !a.flag (CAN_CTL.SLEEP n) then a.wr (CAN_STAT.SLEEP n) 0 else a) s3

/-- First reason of R314 for which controller n is held off; 0 for none. -/
def State.canReason (s : State) (n : Nat) : Nat :=
  let o := s.rd (CAN_REF.REF_OBJ n)
  let wake := if n = 2 then s.rd GLB_WAKE_CFG.CAN2 else if n = 4 then s.rd GLB_WAKE_CFG.CAN4 else 0
  if s.canNominal n < 80 then 1
  else if s.flag (CAN_CTL.FD_EN n) && s.canData n < 10 then 2
  else if s.rd (CAN_NBT.NTSEG2 n) < s.rd (CAN_NBT.NSJW n) || s.rd (CAN_DBT.DTSEG2 n) < s.rd (CAN_DBT.DSJW n) then 3
  else if s.flag (CAN_NBT.TRIPLE n) && (s.canNominal n < 640 || s.rd (CAN_NBT.NTSEG1 n) + 1 < 3) then 4
  else if s.flag (CAN_REF.REF_EN n) && !(s.canTxObj n o && !s.flag (CAN_OBJ_CFG.FDF n o) && !s.flag (CAN_OBJ_CFG.IDE n o) &&
      s.rd (CAN_OBJ_CFG.DLC n o) == 8) then 5
  else if wake = 2 && s.canNominal n < 160 then 6
  else 0

/-- The configuration check at the request for ACTIVE or SHADOW (R314), on the controllers in use. -/
def State.canCheck (s : State) : State :=
  (List.range 6).foldl (fun a n =>
    if !a.flag (CAN_CTL.EN n) then a
    else
      let r := a.canReason n
      let a1 := a.wr (CAN_STAT.OFF n) (b2n (r != 0))
      if r = 0 then a1 else a1.ev 0x0D0B (entCan n) r (s.reg (0x58004 + 0x1000 * n))) s

/-- Clears the counters of controller n (R326). -/
def State.canClear (s : State) (n : Nat) : State :=
  ((((s.wr (CAN_CNT.BUSOFF n) 0).wr (CAN_CNT.ERRFRAME n) 0).wr (CAN_DROP.NOMATCH n) 0).wr (CAN_DROP.HOSTDROP n) 0).wr
    (CAN_TXDROP.CNT n) 0

/-- The reference message of R318. -/
def State.refData (s : State) (n cycle : Nat) : List Nat :=
  let flags := b2n (s.flag STU_DISC_STAT.VALID) + 2 * b2n (s.glb.mode == .active || s.glb.mode == .limp)
  match (s.can n).ref with
  | none => [cycle, 0xFF, flags, s.rd GLB_TWIN_CFG.RANK] ++ leBytes 4 0
  | some (c, t) => [cycle, c, flags, s.rd GLB_TWIN_CFG.RANK] ++ leBytes 4 t

/-- The next reference message of controller n is requested at its multiple of REF_PERIOD (R318). -/
def State.canRefMessage (s : State) (n : Nat) : State :=
  let p := 1000000 * s.rd (CAN_REF.REF_PERIOD n)
  if !s.flag (CAN_STAT.MASTER n) || !s.canMaySend n || p = 0 then s
  else
    let t0 := divUp s.siteNs p * p
    let t := match (s.can n).refAt with | none => t0 | some a => max t0 ((a / p + 1) * p)
    let s1 := (s.waitSite t).modCan n (fun c => { c with refAt := some t })
    let cycle := match (s1.can n).ref with | none => 0 | some (c, _) => (c + 1) % 64
    s1.canRequest n (s.rd (CAN_REF.REF_OBJ n)) (s1.refData n cycle) (some (t + p / 2)) (.ref cycle)

/-- The earliest deadline of the requests not in transmission. -/
def State.canNextDeadline (s : State) (n : Nat) : Option Nat :=
  let inTx := (s.can n).tx.map (·.1)
  let l := ([0, 1, 2].filter (fun b => inTx ≠ some b)).filterMap (fun b => s.canBuf n b)
  (l ++ (s.can n).pend).foldl (fun (a : Option Nat) (q : CanReq) =>
    match q.deadline, a with
    | none, _ => a
    | some t, none => some t
    | some t, some u => some (min t u)) none

/-- A suspect identifier's second is over (R324). -/
def State.unsuspect (s : State) (n : Nat) (x : Nat × Bool × Nat) : State :=
  (s.modCan n (fun c => { c with suspects := c.suspects.erase x })).canMarkSuspect n x.1 x.2.1 false

open Host (Outcome)

/-- CAN_FRAME_RECEIVE: a frame that passes ISO 11898-1 checks; `lead` is how long ago its start of frame was, `hkcTakes`
whether the HKC takes it at once (R311). An FD frame fails those checks while FD_EN is 0. -/
def execCanFrameReceive (ctrl : Fin 6) (id : BitVec 29) (ide fdf brs : Bool) (data : List (BitVec 8)) (lead : Nat)
    (hkcTakes : Bool) (s : State) : Outcome State Fault Refusal :=
  let i := if ide then id.toNat else id.toNat % 2048
  .next (if s.canOnBus ctrl.val && (!fdf || s.flag (CAN_CTL.FD_EN ctrl.val)) then
    s.canReceive ctrl.val i ide fdf brs ((data.map (·.toNat)).take 64) lead hkcTakes else s)

/-- CAN_FRAME_SENT: `start`, the frame next in turn wins arbitration; otherwise the frame in transmission completes
(R313, R325). -/
def execCanFrameSent (ctrl : Fin 6) (start : Bool) (s : State) : Outcome State Fault Refusal :=
  .next (if !s.canOnBus ctrl.val then s else if start then s.canStartTx ctrl.val else s.canSent ctrl.val)

/-- CAN_TX_DEADLINE: the earliest deadline passes (R312). -/
def execCanTxDeadline (ctrl : Fin 6) (s : State) : Outcome State Fault Refusal :=
  .next (if !s.canAlive ctrl.val then s
    else match s.canNextDeadline ctrl.val with
    | none => s
    | some t => (s.waitSite t).canExpire ctrl.val)

/-- CAN_BUS_ERROR (R320, R324). -/
def execCanBusError (ctrl : Fin 6) (kind : Fin 5) (s : State) : Outcome State Fault Refusal :=
  .next (if s.canOnBus ctrl.val && (kind.val < 2 || (s.can ctrl.val).tx.isSome) then s.canError ctrl.val kind.val else s)

/-- CAN_SUSPECT_EXPIRE: the oldest suspect identifier's second passes (R324). -/
def execCanSuspectExpire (ctrl : Fin 6) (s : State) : Outcome State Fault Refusal :=
  .next (match (s.can ctrl.val).suspects.getLast? with
    | none => s
    | some x => (s.waitTill (x.2.2 + 1000000000)).unsuspect ctrl.val x)

/-- CAN_BUS_ON (R321). -/
def execCanBusOn (ctrl : Fin 6) (s : State) : Outcome State Fault Refusal :=
  .next (if s.canRuns ctrl.val && s.rd (CAN_STAT.ESTATE ctrl.val) = 3 then s.canRecovered ctrl.val else s)

/-- A write of REC_REQ = 1 (R321). -/
def State.canRecReq (s : State) (n : Nat) : State :=
  if s.rd (CAN_STAT.ESTATE n) = 2 then
    (s.wr (CAN_STAT.ESTATE n) 3).modCan n (fun c => { c with recAt := some (s.now, true) }) else s

/-- CAN_RECOVERY_REQUEST (R321); CAN5 is read-only to the host (R323). -/
def execCanRecoveryRequest (ctrl : Fin 6) (s : State) : Outcome State Fault Refusal :=
  .next (if s.up && ctrl.val < 5 then s.canRecReq ctrl.val else s)

/-- CAN_SLEEP (R316). -/
def execCanSleep (ctrl : Fin 6) (s : State) : Outcome State Fault Refusal :=
  .next (if s.up && ctrl.val < 5 then
    let s1 := s.wr (CAN_CTL.SLEEP ctrl.val) 1
    if s1.flag (CAN_STAT.SLEEP ctrl.val) then s1 else s1.canSleep ctrl.val
  else s)

/-- CAN_SLEEP_EXIT (R316). -/
def execCanSleepExit (ctrl : Fin 6) (s : State) : Outcome State Fault Refusal :=
  .next (if s.up && ctrl.val < 5 then (s.wr (CAN_CTL.SLEEP ctrl.val) 0).canAwake ctrl.val else s)

/-- CAN_REF_MESSAGE (R318). -/
def execCanRefMessage (ctrl : Fin 6) (s : State) : Outcome State Fault Refusal :=
  .next (if s.up then s.canRefMessage ctrl.val else s)

/-- CAN_UNBLOCK (R324). -/
def execCanUnblock (ctrl : Fin 6) (obj : Fin 128) (s : State) : Outcome State Fault Refusal :=
  .next (if s.up && ctrl.val < 5 then s.wr (CAN_OBJ_STAT.BLOCKED ctrl.val obj.val) 0 else s)

/-- CAN_CLR_COUNTS (R326). -/
def execCanClrCounts (ctrl : Fin 6) (s : State) : Outcome State Fault Refusal :=
  .next (if s.up && ctrl.val < 5 then s.canClear ctrl.val else s)

/-- A data length a CAN or CAN FD frame can have (R325). -/
def canLenOk (k : Nat) : Bool := k ≤ 8 || [12, 16, 20, 24, 32, 48, 64].contains k

/-- SEND: `argOk`, the operation and the reserved fields are valid; `data` is what the host buffer holds (R325). -/
def execSend (d : DescRef) (argOk : Bool) (ctrl : BitVec 8) (obj : BitVec 16) (len : BitVec 8) (data : List (BitVec 8))
    (deadline : BitVec 64) (s : State) : Outcome State Fault Refusal :=
  .next (s.run d 0x0D01 fun s =>
    let n := ctrl.toNat
    let o := obj.toNat
    if !argOk || 5 ≤ n || 128 ≤ o || !canLenOk len.toNat || (8 < len.toNat && s.flag (CAN_OBJ_CFG.EN n o) && !s.canFdf n o) then
      s.fail d 0x00A0
    else if !s.canTxObj n o || !s.flag (CAN_OBJ_CFG.OWNER n o) then s.fail d 0x00A1
    else if s.flag (CAN_OBJ_STAT.BLOCKED n o) then s.fail d 0x00A2
    else if !s.canMaySend n then s.fail d 0x00A4
    else
      let dl := if deadline.toNat = 0 then none else some deadline.toNat
      s.canRequest n o (fitData len.toNat (data.map (·.toNat))) dl (.host d.ring.val d.idx.toNat))

/-- RX_POST (R325). -/
def execRxPost (d : DescRef) (argOk : Bool) (len : BitVec 32) (addr : BitVec 64) (s : State) : Outcome State Fault Refusal :=
  .next (s.run d 0x0D01 fun s =>
    if !argOk || len.toNat < 96 then s.fail d 0x00A0
    else
      let s1 := s.waitOutside d
      { s1 with cans := { s1.cans with rx := s1.cans.rx ++ [(d.ring.val, d.idx.toNat, addr.toNat)] } })

end Sys2Proof.Machine
end

