-- ==== Sys2Proof/Machine/ChurnBytes.lean ====
section
/-!
DEFINITION. The byte layouts of the snapshot and curd records and CRC-32 (spec/04_churn_pipeline.md R88 to R90).
-/
namespace Sys2Proof.Machine

/-- One bit step of the reflected CRC-32. -/
def crcBit (c : Nat) : Nat := if c % 2 = 1 then (c / 2) ^^^ 0xEDB88320 else c / 2

/-- One byte of CRC-32. -/
def crcByte (c b : Nat) : Nat :=
  crcBit (crcBit (crcBit (crcBit (crcBit (crcBit (crcBit (crcBit (c ^^^ (b % 256)))))))))

/-- The CRC-32 of IEEE 802.3 (R90). -/
def crc32 (l : List Nat) : Nat := (l.foldl crcByte 0xFFFFFFFF) ^^^ 0xFFFFFFFF

/-- A signed number in `k` bytes. -/
def sBytes (k : Nat) (i : Int) : List Nat := leBytes k (enc (8 * k) i)

/-- Port record (R88). -/
def PortRec.bytes (r : PortRec) : List Nat :=
  sBytes 4 r.reqI ++ sBytes 4 r.reqV ++ sBytes 4 r.reqP ++ leBytes 4 r.reqT ++ sBytes 4 r.measV ++ sBytes 4 r.measI ++
  leBytes 4 r.measT ++ leBytes 4 r.capI ++ leBytes 4 r.capV ++ leBytes 2 (b2n r.exportOk + 2 * b2n r.tripped) ++
  [r.session, 0] ++ sBytes 4 r.prevI ++ sBytes 4 r.prevP ++
  leBytes 2 (b2n r.subReq + 2 * b2n r.subV + 4 * b2n r.subI + 8 * b2n r.subCaps) ++ zeros 14

/-- Block record (R88). -/
def BlockRec.bytes (r : BlockRec) : List Nat :=
  [r.state, r.path] ++ leBytes 2 (b2n r.frozen + 2 * b2n r.dropped) ++ sBytes 4 r.availP ++ sBytes 4 r.outI ++
  sBytes 4 r.outV ++ leBytes 4 r.t ++ sBytes 2 r.temp ++ zeros 2 ++ sBytes 4 r.prevI ++ zeros 4

/-- FLAGS of a string record. -/
def StrRec.flags (r : StrRec) : Nat :=
  b2n r.untrusted + 2 * b2n r.needRef + 4 * b2n r.auth + 8 * b2n r.exportOk + 16 * b2n r.subst

/-- String record (R88). -/
def StrRec.bytes (r : StrRec) : List Nat :=
  leBytes 2 r.soc ++ leBytes 2 r.flags ++ sBytes 4 r.disLim ++ sBytes 4 r.chgLim ++ sBytes 4 r.usable ++
  sBytes 4 r.reserve ++ sBytes 4 r.i ++ leBytes 4 r.capI ++ zeros 4

/-- Converter record (R88). -/
def ConvRec.bytes (r : ConvRec) : List Nat :=
  sBytes 4 r.batV ++ sBytes 4 r.batI ++ sBytes 4 r.p ++ leBytes 4 r.t ++ [r.state, r.phases] ++ leBytes 2 (b2n r.subst) ++
  sBytes 4 r.prevRef ++ zeros 8

/-- The snapshot record, 4,096 bytes (R88). -/
def Snap.bytes (n : Snap) : List Nat :=
  leBytes 2 1 ++ leBytes 2 1 ++ leBytes 4 n.tick ++ leBytes 8 n.tN ++ leBytes 8 n.strobe ++ leBytes 4 n.claim ++
  leBytes 2 n.entries ++ [n.mode, 0] ++ leBytes 4 n.substCount ++ zeros 28 ++
  sBytes 8 n.g0 ++ sBytes 8 n.g1 ++ leBytes 4 n.g0T ++ leBytes 4 n.g1T ++ sBytes 4 n.aux ++
  leBytes 2 (b2n n.subG0 + 2 * b2n n.subG1 + 4 * b2n n.subAux + 8 * b2n n.subCaps) ++ zeros 2 ++ sBytes 8 n.prevGrid ++ zeros 24 ++
  n.ports.flatMap PortRec.bytes ++ n.blocks.flatMap BlockRec.bytes ++ n.strings.flatMap StrRec.bytes ++
  n.convs.flatMap ConvRec.bytes ++ n.slow.flatMap (fun x => leBytes 4 (x.1 % 65536 + 2 ^ 31 * b2n x.2)) ++ zeros 192

/-- Port setpoint entry (R89). -/
def PortSet.bytes (r : PortSet) : List Nat :=
  sBytes 4 r.i ++ sBytes 4 r.vLim ++ sBytes 4 r.p ++
  [r.cls, b2n r.clamped + 2 * b2n r.ramping + 4 * b2n r.scaled + 8 * b2n r.fallback, 0, 0]

/-- Block setpoint entry (R89). -/
def BlockSet.bytes (r : BlockSet) : List Nat :=
  sBytes 4 r.i ++ sBytes 4 r.v ++ [r.port, r.contactor, r.migStep, r.flags] ++ zeros 4

/-- Converter reference entry (R89). -/
def ConvSet.bytes (r : ConvSet) : List Nat :=
  [r.refType, r.skim] ++ leBytes 2 r.flags ++ sBytes 4 r.ref ++ sBytes 4 r.vLim ++ zeros 4

/-- Bytes 0x040 to 0x61F of the curd record: site summary, setpoints and clamp bitmap (R89). -/
def Curd.body (c : Curd) : List Nat :=
  sBytes 8 c.gCap ++ sBytes 8 c.dMax ++ sBytes 8 c.pGrid ++ sBytes 8 c.pStor ++ sBytes 8 c.pPort ++ sBytes 8 c.pAux ++
  sBytes 8 c.whey ++ sBytes 4 c.wheyRound ++ [c.served, c.shortClass] ++ sBytes 2 c.wheyClamp ++
  c.ports.flatMap PortSet.bytes ++ c.blocks.flatMap BlockSet.bytes ++
  c.strings.flatMap (fun x => sBytes 4 x.1 ++ leBytes 4 (b2n x.2)) ++ c.convs.flatMap ConvSet.bytes ++
  c.slow.flatMap (sBytes 4) ++
  leBytes 4 c.clampPorts ++ leBytes 8 c.clampBlocks ++ leBytes 2 c.clampStrings ++ [c.clampConvs] ++ zeros 17

/-- The curd record, 2,048 bytes (R89). -/
def Curd.bytes (c : Curd) : List Nat :=
  leBytes 2 2 ++ leBytes 2 1 ++ leBytes 4 c.tick ++ leBytes 8 c.tN ++ leBytes 8 c.launch ++ leBytes 4 c.claim ++
  leBytes 4 c.status ++ leBytes 4 c.sealT ++ leBytes 2 c.clamps ++ leBytes 2 c.substs ++ leBytes 4 c.cmp ++ zeros 20 ++
  c.body ++ zeros 480

end Sys2Proof.Machine
end

