-- ==== Sys2Proof/Machine/Seal.lean ====
section
/-!
DEFINITION. Shape's curd, Seal, whey and repeat curds (spec/04_churn_pipeline.md, R80 to R90; spec/05 R112, R114, R118, R119).
-/
namespace Sys2Proof.Machine

/-- The last sealed curd, also where the Churn was stopped since: PREV of the first snapshot after a stop is that of the last curd
sealed before it (R75; DESIGN CHOICE, log entry 126). -/
def State.lastCurd (s : State) : Option Curd := s.alp.curds.head?

/-- PREV_I of a port from curd N−1, and the other PREV values (R75). -/
def State.prevPort (s : State) (p : Nat) : PortSet := match s.lastCurd with | none => PortSet.zero | some c => nth c.ports p PortSet.zero
def State.prevBlock (s : State) (b : Nat) : BlockSet := match s.lastCurd with | none => BlockSet.zero | some c => nth c.blocks b BlockSet.zero
def State.prevString (s : State) (i : Nat) : Int := match s.lastCurd with | none => 0 | some c => (nth c.strings i (0, false)).1
def State.prevConv (s : State) (k : Nat) : ConvSet := match s.lastCurd with | none => ConvSet.zero | some c => nth c.convs k ConvSet.zero

/-- The unit's claim: epoch in bits [31:8], rank in bits [7:0] (spec/06, "Claims"; GLB_TWIN_CLAIM). -/
def State.claim (s : State) : Nat := s.rd GLB_TWIN_CLAIM.CLAIM

/-- Whey of R86. -/
def wheyOf (c : Curd) : Int := c.gCap + c.dMax - c.pPort - c.pAux - max 0 (-c.pStor)

/-- The curd Shape hands to Seal (R113 to R116, R122, spec/08 R184). The slow-load setpoints are free values (log
entry 16), frozen while their node is under fallback. -/
def State.shape (s : State) (n : Snap) (bd : Bounds) (al : Alloc) (slots opening : List Nat) : Curd :=
  let cur := (List.range 24).flatMap (fun p =>
    splitPort (nth al.i p 0) (((List.range 48).filter (fun b => nth bd.feeds b none == some p)).map
      (fun b => (b, (nth bd.u b 0).toNat))))
  let ref (k : Nat) : Int := sumI ((s.stringsOf k).map (fun i => nth al.strings i 0))
  { tick := n.tick, tN := n.tN, launch := s.tickAt (n.tick + 2), claim := s.claim, status := 0, sealT := 0, clamps := 0,
    substs := n.substCount, cmp := 0, gCap := bd.gCap, dMax := bd.dMax, pGrid := al.pGrid, pStor := al.pStor,
    pPort := al.pPort, pAux := bd.aux, whey := 0, wheyRound := al.round, served := al.served,
    shortClass := if al.short then 0 else 0xFF, wheyClamp := 0,
    ports := (List.range 24).map (fun p =>
      if !s.portOn p then PortSet.zero
      else
        let r := nth n.ports p PortRec.zero
        { i := nth al.i p 0, vLim := nth bd.vLim p 0, p := nth al.p p 0, cls := nth bd.cls p 0, clamped := false,
          ramping := nth bd.ramping p false, scaled := nth al.scaled p false,
          fallback := r.subReq || r.subV || r.subI || r.subCaps }),
    blocks := (List.range 48).map (s.blockSet n bd cur opening),
    strings := (List.range 16).map (fun i => (nth al.strings i 0, nth bd.rest i false && s.stringOn i)),
    convs := (List.range 4).map (fun k =>
      if !s.convOn k then ConvSet.zero
      else
        let q := match s.lastCurd with | none => s.rd (CCE_CONV.COUNT k) | some c => (nth c.convs k ConvSet.zero).skim
        { refType := 0, skim := s.skim n k q (ref k), flags := 0, ref := ref k, vLim := (s.rd (CCE_VLIM.VLIM k) : Nat) }),
    slow := (List.range 16).map (fun j =>
      if !slots.contains j then 0
      else
        let v := Config.slowLoad j n.tick
        if (nth n.slow j (0, false)).2 then lowerMag (match s.lastCurd with | none => 0 | some c => nth c.slow j 0) v else v),
    clampPorts := 0, clampBlocks := 0, clampStrings := 0, clampConvs := 0 }

/-- A clamp made by Seal: entity, setpoint before, cap applied, power taken off in W. -/
structure Clamp where
  entity : Nat
  before : Int
  cap : Int
  watts : Int
  deriving DecidableEq, Repr

/-- Seal's comparison of a port and its blocks with the caps of the snapshot (R80). -/
def State.sealPort (s : State) (n : Snap) (a : Curd × List Clamp) (p : Nat) : Curd × List Clamp :=
  let (c, l) := a
  let r := nth n.ports p PortRec.zero
  let e := nth c.ports p PortSet.zero
  let cap : Int := (r.capI : Nat)
  let i := if r.tripped || (e.i < 0 && !r.exportOk) then 0 else clampI (-cap) cap e.i
  let v := if (r.capV : Int) < e.vLim then (r.capV : Int) else e.vLim
  let w := if i = e.i then e.p else watts i (s.vRef n p)
  let lower := i ≠ e.i
  let hit := lower || v ≠ e.vLim
  let mine (b : BlockSet) : Bool := b.port == p && (lower || r.tripped)
  let newI (b : BlockSet) : Int := if i = 0 || e.i = 0 then 0 else divZ (b.i * i.natAbs) e.i.natAbs
  let bl := (List.range 48).filter (fun b => let x := nth c.blocks b BlockSet.zero; mine x && newI x != x.i)
  let bm := maskOf bl
  let c1 := if hit then { c with ports := c.ports.set p { e with i := i, vLim := v, p := w, clamped := true },
                                 clampPorts := c.clampPorts ||| (1 <<< p) } else c
  let c2 := { c1 with blocks := c1.blocks.map (fun x => if mine x then { x with i := newI x } else x),
                      clampBlocks := c1.clampBlocks ||| bm }
  let l1 := l ++ (if lower then [⟨entPort p, e.i, if i = 0 then 0 else cap, (e.p - w).natAbs⟩] else []) ++
    (if v ≠ e.vLim then [⟨entPort p, e.vLim, v, 0⟩] else [])
  (c2, l1 ++ bl.map (fun b => let x := nth c.blocks b BlockSet.zero; ⟨entBlock b, x.i, newI x, 0⟩))

/-- Cap of string i in watts (R80). -/
def State.stringCapW (s : State) (n : Snap) (i : Nat) : Int :=
  watts (nth n.strings i StrRec.zero).capI (nth n.convs (s.rd (SEE_STR_CFG.CONV i)) ConvRec.zero).batV

/-- Seal's comparison of a string target (R80). -/
def State.sealString (s : State) (n : Snap) (a : Curd × List Clamp) (i : Nat) : Curd × List Clamp :=
  let (c, l) := a
  let x := nth c.strings i (0, false)
  let cap := s.stringCapW n i
  let t := if 0 < x.1 && !(nth n.strings i StrRec.zero).exportOk then 0 else clampI (-cap) cap x.1
  if t = x.1 then (c, l)
  else ({ c with strings := c.strings.set i (t, x.2), clampStrings := c.clampStrings ||| (1 <<< i) },
        l ++ [⟨entString i, x.1, if t = 0 then 0 else cap, (x.1 - t).natAbs⟩])

/-- Seal's comparison of a converter reference with the converter's cap (R80); it is not formed again from strings that Seal clamped
(log entry 70). -/
def State.sealConv (s : State) (n : Snap) (a : Curd × List Clamp) (k : Nat) : Curd × List Clamp :=
  let (c, l) := a
  let strs := s.stringsOf k
  let x := nth c.convs k ConvSet.zero
  let cap := if x.refType = 0 then sumI (strs.map (s.stringCapW n))
             else sumI (strs.map (fun i => ((nth n.strings i StrRec.zero).capI : Int)))
  let t := clampI (-cap) cap x.ref
  if t = x.ref then (c, l)
  else ({ c with convs := c.convs.set k { x with ref := t }, clampConvs := c.clampConvs ||| (1 <<< k) },
        l ++ [⟨entConv k, x.ref, cap, 0⟩])

/-- Seal's comparison of a whole curd with the caps of a snapshot (R80); the power taken off is added to WHEY. -/
def State.sealCaps (s : State) (n : Snap) (c : Curd) : Curd × List Clamp :=
  let (c1, l) := (List.range 4).foldl (s.sealConv n) (((List.range 16).filter s.stringOn).foldl (s.sealString n)
    (((List.range 24).filter s.portOn).foldl (s.sealPort n) (c, [])))
  let off := sumI (l.map (·.watts))
  let pPort := sumI (c1.ports.map (·.p))
  let pStor := sumI (c1.strings.map (·.1))
  ({ c1 with whey := c1.whey + off, wheyClamp := min 32767 (c1.wheyClamp + divZ off 1000), clamps := l.length,
             pPort := pPort, pStor := pStor, pGrid := pPort + c1.pAux - pStor }, l)

/-- Every setpoint 0, every contactor command "hold" (R74). V_LIM and V are limits, not setpoints (log entry 17). -/
def Curd.zeroed (c : Curd) : Curd :=
  { c with pGrid := c.pAux, pStor := 0, pPort := 0,
           ports := c.ports.map (fun x => { x with i := 0, p := 0 }),
           blocks := c.blocks.map (fun x => { x with i := 0, contactor := 0 }),
           strings := c.strings.map (fun x => (0, x.2)), convs := c.convs.map (fun x => { x with ref := 0 }),
           slow := c.slow.map (fun _ => 0) }

/-- The constraint set is frozen: in LIMP, and in SHADOW while the leading unit is in LIMP (spec/02 R37, spec/16 R380). -/
def State.frozen (s : State) : Bool := s.glb.mode == .limp || (s.glb.mode == .shadow && s.twin.peerMode == some 4)

/-- The pipeline status word (R82). -/
def State.pipeWord (s : State) (c : Curd) (rep subst capStale zero : Bool) : Nat :=
  c.tick % 65536 + 2 ^ 16 * b2n rep + 2 ^ 17 * b2n (c.shortClass == 0) + 2 ^ 18 * b2n (c.clamps != 0) +
  2 ^ 19 * b2n subst + 2 ^ 20 * b2n capStale + 2 ^ 21 * b2n s.frozen + 2 ^ 22 * b2n zero +
  2 ^ 23 * b2n (!s.con.migs.isEmpty) + 2 ^ 24 * s.glb.mode.code

/-- The first clamp of each entity. -/
def firstClamps : List Clamp → List Clamp
  | [] => []
  | k :: l => k :: (firstClamps l).filter (fun x => x.entity != k.entity)

/-- Logs the clamps of a Seal, once per entity and run of ticks, and counts them all (R81). -/
def State.logClamps (s : State) (l : List Clamp) : State :=
  let s1 := (firstClamps l).foldl (fun (u : State) k =>
    if s.alp.clampRun.contains k.entity then u else u.ev 0x0307 k.entity (enc 64 k.before) (enc 64 k.cap)) s
  { s1.bump ALP_CLAMP_CNT.CNT l.length with alp := { s1.alp with clampRun := l.map (·.entity) } }

/-- Records of the last 64 ticks are kept, and those an accepted capture names (spec/01; R91). -/
def State.keepTick (s : State) (now tick : Nat) : Bool :=
  decide (now < tick + 64) || s.alp.captures.any (fun k => decide (k.first ≤ tick) && decide (tick < k.first + k.count))

/-- The heartbeat of a curd is sent to the Rind (R82). -/
def State.sendHeartbeat (s : State) (w : Nat) : State :=
  { s with alp := { s.alp with heartbeats := s.alp.heartbeats ++ [w] } }

/-- A finished curd is stored: digest, status word, heartbeat, ALP_STAT (R81, R82, R90). -/
def State.storeCurd (s : State) (c : Curd) (w sealT : Nat) : State :=
  let c1 := { c with status := w, sealT := sealT % 2 ^ 32, cmp := crc32 c.body }
  let s1 := (s.wr ALP_STAT.STATUS w).wr ALP_SEAL_TICK.TICK c.tick
  ({ s1 with alp := { s1.alp with curds := (c1 :: s1.alp.curds).filter (fun x => s.keepTick c.tick x.tick) } }).sendHeartbeat w

/-- ALP_WHEY_LAST and ALP_WHEY_MIN after a normal curd (R87). -/
def State.noteWhey (s : State) (tick : Nat) (w : Int) : State :=
  let l := ((tick, w) :: s.alp.wheys).filter (fun x => tick < x.1 + s.rd ALP_WHEY_CFG.WHEY_WIN)
  let lo := minWith w (l.map (·.2))
  ((({ s with alp := { s.alp with wheys := l } }).wr64 ALP_WHEY_LAST_LO.LO ALP_WHEY_LAST_HI.HI (enc 64 w)).wr64
    ALP_WHEY_MIN_LO.LO ALP_WHEY_MIN_HI.HI (enc 64 lo))

/-- The ALP_SUBST registers and ALP_SUBST_CNT after a normal curd (R79). -/
def State.noteSubst (s : State) (n : Snap) : State :=
  let bits {α : Type} (l : List α) (f : α → Bool) : Nat :=
    maskOf (((List.range l.length).zip l).filterMap (fun x => if f x.2 then some x.1 else none))
  let blk := bits n.blocks (fun r => r.frozen || r.dropped)
  (((((((s.bump ALP_SUBST_CNT.CNT n.substCount).wr ALP_SUBST_PORT.PORT
    (bits n.ports (fun r => r.subReq || r.subV || r.subI || r.subCaps))).wr ALP_SUBST_BLK0.BLK_LO (blk % 2 ^ 32)).wr
    ALP_SUBST_BLK1.BLK_HI (blk / 2 ^ 32)).wr ALP_SUBST_SITE.STR (bits n.strings (·.subst))).wr ALP_SUBST_SITE.SITE
    (b2n n.subG0 + 2 * b2n n.subG1 + 4 * b2n n.subAux + 8 * b2n n.subCaps)).wr ALP_SUBST_SITE.CONV
    (bits n.convs (·.subst))).wr ALP_SUBST_SITE.SLOW (b2n (n.slow.any (·.2)))

/-- The run of shortfall ticks and of grid excess (R112, R114). -/
def State.noteShort (s : State) (tick : Nat) (al : Alloc) (gCap : Int) : State :=
  let s1 :=
    if al.short then
      let u := if s.alp.shortRun = 0 then s.ev 0x0310 0 (low 32 tick) al.unserved else s
      { u.bump ALP_SHORT_CNT.CNT with alp := { u.alp with shortRun := s.alp.shortRun + 1 } }
    else if s.alp.shortRun ≠ 0 then
      let u := s.ev 0x0311 0 (low 32 tick) s.alp.shortRun
      { u with alp := { u.alp with shortRun := 0 } }
    else s
  let excess := al.rawNeg && gCap < al.pGrid
  let s2 := if excess && !s.alp.gridOver then s1.ev 0x0312 0 (low 32 tick) (enc 64 (al.pGrid - gCap)) else s1
  { s2 with alp := { s2.alp with gridOver := excess } }

/-- A REST_WINDOW in force ends: the entry goes, ALP_REST_END (R119). A cancelled one abandons the rest timer
(spec/11 R263). -/
def State.endRest (s : State) (tick why : Nat) : State :=
  let e := s.entry 2039
  let s1 := (s.setEntry 2039 Entry.zero).evLead 0x031A e.target (low 32 tick) why
  if why = 0 then s1
  else
    let i := e.target % 2048
    let x := tget (fun _ => Str.reset) s1.see.strs i
    { s1 with see := { s1.see with strs := tset (fun _ => Str.reset) s1.see.strs i { x with restAt := none } } }

/-- The REST_WINDOW whose END the boundary has reached ends (R119). -/
def State.expireRest (s : State) (n : Snap) : State :=
  let e := s.entry 2039
  if e.enabled && e.stop ≤ n.tN then s.endRest n.tick 0 else s

/-- After curd N: a window is cancelled by unserved demand, or one is placed for a qualifying string; `pStor` is P_STOR of the sealed
curd (R118, R119). -/
def State.placeRest (s : State) (n : Snap) (bd : Bounds) (al : Alloc) (pStor : Int) : State :=
  let e := s.entry 2039
  if e.enabled then (if e.start ≤ n.tN && al.lack then s.endRest n.tick 1 else s)
  else if !s.flag ALP_REST_CFG.ALLOW || s.frozen then s
  else
    let m : Int := (s.rd ALP_REST_MARGIN.MARGIN : Nat)
    let ok (i : Nat) : Bool :=
      s.stringOn i && (nth n.strings i StrRec.zero).needRef &&
      decide (max pStor 0 + m ≤ bd.dMax - nth bd.d i 0) && decide (max (-pStor) 0 + m ≤ bd.cMax - nth bd.c i 0)
    let first := match s.con.lastRest with | none => 0 | some i => i + 1
    match ((List.range 16).map (fun i => (first + i) % 16)).find? ok with
    | none => s
    | some i =>
      let start := s.tickAt (n.tick + 1)
      let stop := start + 1000000000 * s.rd SEE_REST_CFG.T_REST + 2 * s.tickNs
      let x : Entry := { type := 0x11, enabled := true, windowed := true, device := true, target := entString i, ownerTag := 0,
                         start := start, stop := stop, a := 0, b := 0 }
      let s1 := s.setEntry 2039 x
      ({ s1 with con := { s1.con with lastRest := some i } }).evLead 0x0319 (entString i) (low 32 n.tick) (stop % 2 ^ 32)

/-- The peak of a stage time. -/
def State.peak (s : State) (f : Fld) (v : Nat) : State := s.wr f (max (s.rd f) (min v 65535))

/-- Stage times of a tick: each no longer than the maximum of R71. -/
def State.stageTimes (s : State) (l : List Nat) : List Nat :=
  ([450, 1350, 264 + 2 * s.enabledEntries, 3000, 1200, 450, 750].zip (l ++ zeros 7)).map (fun x => min x.1 x.2)

/-- ALP_STAGE_MAX0 to 3 (R92). -/
def State.noteStages (s : State) (t : List Nat) : State :=
  (((((((s.peak ALP_STAGE_MAX0.GATHER (nth t 0 0)).peak ALP_STAGE_MAX0.SANITIZE (nth t 1 0)).peak
    ALP_STAGE_MAX1.CONSTRAIN (nth t 2 0)).peak ALP_STAGE_MAX1.ALLOCATE (nth t 3 0)).peak ALP_STAGE_MAX2.SHAPE (nth t 4 0)).peak
    ALP_STAGE_MAX2.SEAL (nth t 5 0)).peak ALP_STAGE_MAX3.LAUNCH (nth t 6 0)).peak ALP_STAGE_MAX3.TOTAL (sumN t)

/-- The length of the run of repeat curds, which ALP_OVR_STAT.RUN shows up to 255 (R84, R92). -/
def State.setRun (s : State) (k : Nat) : State :=
  { s.wr ALP_OVR_STAT.RUN (min 255 k) with alp := { s.alp with repeats := k } }

/-- A normal tick ends a run of repeat curds (R84). -/
def State.endRepeats (s : State) (tick : Nat) : State :=
  if s.alp.repeats = 0 then s else (s.setRun 0).ev 0x0309 0 (low 32 tick) s.alp.repeats

/-- ALP_OVR_STAT.WIN: overruns within the last WIN_LEN ticks; without one the fitness hold of a standby ends (R85). -/
def State.slideOverruns (s : State) (tick : Nat) : State :=
  let l := s.alp.overruns.filter (fun t => tick < t + s.rd ALP_OVR_CFG.WIN_LEN)
  let s1 := s.wr ALP_OVR_STAT.WIN (min 255 l.length)
  { s1 with alp := { s1.alp with overruns := l, ovrHold := s1.alp.ovrHold && !l.isEmpty } }

/-- Keeps a snapshot record. -/
def State.storeSnap (s : State) (n : Snap) : State :=
  { s with alp := { s.alp with snaps := (n :: s.alp.snaps).filter (fun x => s.keepTick n.tick x.tick) } }

/-- Sanitize to Seal on a gathered snapshot: stages 2 to 6 of the tick (R71 to R90). The curd is stored, the migrations
advance, and the heartbeat goes out. -/
def State.pipeline (s : State) (g : Snap) (slots stages : List Nat) : State :=
  let t := s.stageTimes stages
  let s0 := s.expireRest g
  let (s1, n) := s0.sanitize g s0.prevString slots
  let s2 := (s1.storeSnap n).pathCheck n
  let (s3, opening) := s2.checkMigs n
  let bd := s3.constrain n
  let al := s3.allocate n bd
  let zero := s3.glb.mode == .halt || s3.alp.leadHalt
  let c0 := s3.shape n bd al slots opening
  let c1 := if zero then c0.zeroed else c0
  let (c, clamps) := s3.sealCaps n { c1 with whey := wheyOf c1 }
  let s4 := (s3.noteShort n.tick al bd.gCap).logClamps clamps
  let w := s4.pipeWord c false (n.substCount != 0) n.subCaps zero
  let s5 := s4.storeCurd c w (n.tN + sumN (t.take 6) * 10 / 3)
  let s6 := ((s5.noteWhey n.tick c.whey).noteSubst n).noteStages t
  let s7 := (s6.endRepeats n.tick).slideOverruns n.tick
  let s8 := opening.foldl (fun u b => u.command b 0xFF (n.tick + 2)) (s7.advanceMigs n.tick)
  { s8 with alp := { s8.alp with lastU := bd.u } }.placeRest n bd al c.pStor

/-- Three quarters of a setpoint, rounded toward zero (R84). -/
def threeQ (i : Int) : Int := divZ (i * 3) 4

/-- Every setpoint at three quarters of its value (R84; the voltage limits stay, log entry 17). -/
def Curd.scaled34 (c : Curd) : Curd :=
  { c with ports := c.ports.map (fun x => { x with i := threeQ x.i, p := threeQ x.p }),
           blocks := c.blocks.map (fun x => { x with i := threeQ x.i }),
           strings := c.strings.map (fun x => (threeQ x.1, x.2)),
           convs := c.convs.map (fun x => { x with ref := threeQ x.ref }), slow := c.slow.map threeQ }

/-- A curd with nothing set, for a first tick that overruns. -/
def Curd.zero : Curd :=
  { tick := 0, tN := 0, launch := 0, claim := 0, status := 0, sealT := 0, clamps := 0, substs := 0, cmp := 0, gCap := 0,
    dMax := 0, pGrid := 0, pStor := 0, pPort := 0, pAux := 0, whey := 0, wheyRound := 0, served := 0, shortClass := 0xFF,
    wheyClamp := 0, ports := List.replicate 24 PortSet.zero, blocks := List.replicate 48 BlockSet.zero,
    strings := List.replicate 16 (0, false), convs := List.replicate 4 ConvSet.zero, slow := List.replicate 16 0,
    clampPorts := 0, clampBlocks := 0, clampStrings := 0, clampConvs := 0 }

/-- The repeat curd of tick N (R83, R84): the setpoints of curd N−1, at three quarters from the second of a run on, all
zero when curd N−1 cannot be read (its summary is copied all the same), compared with the caps of snapshot N. -/
def State.repeatCurd (s : State) (n : Snap) (unreadable : Bool) : State :=
  let run := s.alp.repeats
  let prev := s.lastCurd.getD { Curd.zero with pAux := n.aux }
  let base := if unreadable then prev.zeroed else if 1 ≤ run then prev.scaled34 else prev
  let halted := s.glb.mode == .halt || s.alp.leadHalt
  let b1 := if halted then base.zeroed else base
  let c0 : Curd := { b1 with
    tick := n.tick, tN := n.tN, launch := s.tickAt (n.tick + 2), claim := s.claim, clamps := 0, substs := n.substCount,
    clampPorts := 0, clampBlocks := 0, clampStrings := 0, clampConvs := 0,
    ports := b1.ports.map (fun x => { x with clamped := false }),
    blocks := b1.blocks.map (fun x => { x with contactor := 0 }) }
  let m := (s.capsStale n).1
  let nc := if m then n.noCaps s.portOn else n
  let (c1, clamps) := s.sealCaps nc c0
  let c := { c1 with whey := 0 }
  let s1 := s.logClamps clamps
  let w := s1.pipeWord c true (n.substCount != 0) m halted
  let s2 := s1.storeCurd c w (n.tN + deadlineOf s.tickUs * 10 / 3)
  let l := n.tick :: s2.alp.overruns
  let s3 := ({ s2 with alp := { s2.alp with overruns := l } }.bump ALP_OVR_STAT.TOTAL).setRun (run + 1)
  s3.slideOverruns n.tick

/-- The conditions of R85 hold. -/
def State.overrunTrigger (s : State) : Bool :=
  decide (s.rd ALP_OVR_CFG.CONSEC ≤ s.rd ALP_OVR_STAT.RUN) || decide (s.rd ALP_OVR_CFG.WIN_CNT ≤ s.rd ALP_OVR_STAT.WIN)

/-- What the conditions of R85 bring: LIMP at the next boundary, or a fitness hold in SHADOW. -/
def State.afterOverrun (s : State) : State :=
  if !s.overrunTrigger then s
  else match s.glb.mode with
  | .active => s.limpTrigger 0x05
  | .shadow => { s with alp := { s.alp with ovrHold := true } }
  | _ => s

end Sys2Proof.Machine
end

