-- ==== Sys2Proof/Machine/Constraints.lean ====
section
/-!
DEFINITION. Constraint edits, groups, the tick length, migration proposals, captures and the ALP clear commands
(spec/04_churn_pipeline.md R73, R91, R92; spec/05_constraints_and_allocation.md R98 to R101, R120, R121).
-/
namespace Sys2Proof.Machine

open Host (Outcome)

/-! ### Edits -/

/-- The entry an edit stores: ENABLED set, the host's FLAGS giving WINDOWED only (R98). -/
def entryOf (e : EntryArg) : Entry :=
  { type := e.type.toNat, enabled := true, windowed := e.flags.getLsbD 1, device := false, target := e.target.toNat,
    ownerTag := e.ownerTag.toNat, start := e.start.toNat, stop := e.stop.toNat, a := sx 32 e.a.toNat, b := sx 32 e.b.toNat }

/-- The target class of a type the host places (R97). -/
def typeClass : Nat → Option Nat
  | 0x01 | 0x02 | 0x03 | 0x04 | 0x05 | 0x06 => some 1
  | 0x08 => some 20
  | 0x09 => some 0
  | 0x0A => some 5
  | 0x0B => some 7
  | 0x0C => some 2
  | _ => none

/-- A and B within the ranges of the type (R97); `hi` bounds B. -/
def valuesOk (e : Entry) : Bool :=
  let btw (lo hi v : Int) : Bool := decide (lo ≤ v) && decide (v ≤ hi)
  match e.type with
  | 0x01 => btw 0 4000000 e.a && btw e.a 4000000 e.b
  | 0x02 => btw 0 6000000 e.a && btw e.a 6000000 e.b
  | 0x03 => e.a == 0 && btw 0 1500000 e.b
  | 0x04 => btw 1 7 e.a && btw 1 65535 e.b
  | 0x05 => btw 1 4000000 e.a && e.b == 0
  | 0x06 => btw 1 6000000 e.a && e.b == 0
  | 0x08 | 0x09 => e.a == 0 && btw 0 2147483647 e.b
  | 0x0A => btw 0 4000000 e.a && btw 0 4000000 e.b
  | 0x0B => btw 0 2147483647 e.a && btw 0 2147483647 e.b
  | 0x0C => e.a == 0 && btw 0 1500000 e.b
  | _ => false

/-- TARGET of the class the type requires, valid, within the grade limits and enabled (R99, check 4). -/
def State.targetOk (s : State) (type target : Nat) : Bool :=
  let c := target / 2048
  let i := target % 2048
  typeClass type == some c && decide (i < classSize c) && !s.absent c i && s.enabled c i

/-- Checks 2 to 6 of R99 for an entry; 0 when all pass. -/
def State.entryCheck (s : State) (index : Nat) (raw : EntryArg) : Nat :=
  let e := entryOf raw
  if 1983 < index then 0x0034
  else if (typeClass e.type).isNone then 0x0035
  else if !s.targetOk e.type e.target then 0x0036
  else if !valuesOk e || raw.reserved.toNat != 0 || 8 ≤ raw.flags.toNat then 0x0037
  else if e.windowed && e.stop ≤ e.start then 0x0038
  else 0

/-- ENTRY_MAX at the present tick length (R72). -/
def State.entryMax (s : State) : Nat := entryMaxOf s.tickUs

/-- A table with staged edits applied in staging order. -/
def applyStaged (t : Tab Entry) (l : List (Nat × Entry)) : Tab Entry :=
  l.foldl (fun a x => tset (fun _ => Entry.zero) a x.1 x.2) t

/-- The host-enabled count stays within ENTRY_MAX − 64 (R73). -/
def State.countOk (s : State) (t : Tab Entry) : Bool := decide (hostEnabled t ≤ s.entryMax - 64)

/-- RESULT of an edit: host-enabled entries after the operation (spec/17 R414). -/
def State.editResult (s : State) : List Nat := leBytes 4 (hostEnabled s.con.table)

/-- An edit that fails; its RESULT too holds the host-enabled entries (R99, spec/17 R414; log entry 69). -/
def State.failEdit (s : State) (d : DescRef) (code : Nat) : State := s.fail d code s.editResult

/-- A target beyond the grade limits of a failing TARGET check is logged (R99, spec/00 R4). -/
def State.failEntry (s : State) (d : DescRef) (raw : EntryArg) (code : Nat) : State :=
  let t := raw.target.toNat
  if code = 0x0036 && t % 2048 < classSize (t / 2048) && s.absent (t / 2048) (t % 2048)
  then (s.ev 0x0140 t (d.ring.val * 2 ^ 16 + s.tagOf d) 0).failEdit d code else s.failEdit d code

/-- Operations 0 to 4 are refused in LIMP and SHADOW before any check (R98). -/
def State.editMode (s : State) : Bool := !(s.glb.mode == .limp || s.glb.mode == .shadow)

/-- An edit descriptor: refused by mode, then by its arguments (R98, R99 check 1), else `k`. -/
def State.edit (s : State) (d : DescRef) (argOk : Bool) (k : State → State) : State :=
  s.run d 0x0301 fun s =>
    if !s.editMode then s.failEdit d 0x0013 else if !argOk then s.failEdit d 0x003A else k s

/-- CONSTRAINT_WRITE_ENABLE, operation 0; the limit check counts with the staged edits applied (R98, R99). -/
def execConstraintWriteEnable (d : DescRef) (index : BitVec 16) (argOk : Bool) (e : EntryArg) (s : State) :
    Outcome State Fault Refusal :=
  .next (s.edit d argOk fun s =>
    let c := s.entryCheck index.toNat e
    if c ≠ 0 then s.failEntry d e c
    else if !s.countOk (tset (fun _ => Entry.zero) (applyStaged s.con.table s.con.staged) index.toNat (entryOf e)) then
      s.failEdit d 0x0033
    else
      let s1 := s.setEntry index.toNat (entryOf e)
      s1.done d s1.editResult)

/-- CONSTRAINT_DISABLE, operation 1: ENABLED clears, the entry stays (R98). -/
def execConstraintDisable (d : DescRef) (index : BitVec 16) (argOk : Bool) (s : State) : Outcome State Fault Refusal :=
  .next (s.edit d argOk fun s =>
    if 1983 < index.toNat then s.failEdit d 0x0034
    else
      let s1 := s.setEntry index.toNat { s.entry index.toNat with enabled := false }
      s1.done d s1.editResult)

/-- CONSTRAINT_STAGE, operation 2 (R98, R99). -/
def execConstraintStage (d : DescRef) (index : BitVec 16) (argOk : Bool) (e : EntryArg) (s : State) :
    Outcome State Fault Refusal :=
  .next (s.edit d argOk fun s =>
    let c := s.entryCheck index.toNat e
    let x := (index.toNat, entryOf e)
    if c ≠ 0 then s.failEntry d e c
    else if !s.countOk (applyStaged s.con.table (s.con.staged ++ [x])) then s.failEdit d 0x0033
    else if 32 ≤ s.con.staged.length then s.failEdit d 0x0039
    else
      let s1 := { s with con := { s.con with staged := s.con.staged ++ [x] } }
      s1.done d s1.editResult)

/-- The first failing check of the staged edits at commit, in staging order; 0 when all pass (R99). Checks 2, 3, 5 and 6
depend on the edit alone and passed when it was staged. -/
def State.commitCheck (s : State) (t : Tab Entry) : List (Nat × Entry) → Nat
  | [] => 0
  | x :: l =>
    let t1 := tset (fun _ => Entry.zero) t x.1 x.2
    if !s.targetOk x.2.type x.2.target then 0x0036
    else if !s.countOk t1 then 0x0033
    else s.commitCheck t1 l

/-- CONSTRAINT_COMMIT, operation 3: every staged edit at once, or none (R99, R100). -/
def execConstraintCommit (d : DescRef) (argOk : Bool) (s : State) : Outcome State Fault Refusal :=
  .next (s.edit d argOk fun s =>
    let c := s.commitCheck s.con.table s.con.staged
    if c ≠ 0 then s.failEdit d c
    else
      let s1 := s.con.staged.foldl (fun (a : State) x => a.setEntry x.1 x.2) { s with con := { s.con with staged := [] } }
      s1.done d s1.editResult)

/-- CONSTRAINT_DISCARD, operation 4 (R98, R100). -/
def execConstraintDiscard (d : DescRef) (argOk : Bool) (s : State) : Outcome State Fault Refusal :=
  .next (s.edit d argOk fun s =>
    let s1 := { s with con := { s.con with staged := [] } }
    s1.done d s1.editResult)

/-- The 32 bytes of an entry (R94). -/
def Entry.bytes (e : Entry) : List Nat :=
  [e.type, b2n e.enabled + 2 * b2n e.windowed + 4 * b2n e.device] ++ leBytes 2 e.target ++ leBytes 2 e.ownerTag ++ zeros 2 ++
  leBytes 8 e.start ++ leBytes 8 e.stop ++ sBytes 4 e.a ++ sBytes 4 e.b

/-- CONSTRAINT_READ, operation 5, in every mode (R98). -/
def execConstraintRead (d : DescRef) (index : BitVec 16) (argOk : Bool) (addr : BitVec 64) (s : State) :
    Outcome State Fault Refusal :=
  .next (s.run d 0x0301 fun s =>
    if !argOk then s.failEdit d 0x003A
    else if 2047 < index.toNat then s.failEdit d 0x0034
    else (s.emit (.host addr.toNat (s.entry index.toNat).bytes)).done d s.editResult)

/-! ### Groups and the tick length -/

/-- A write of ALP_GROUP_n (R101). RWS: outside COMMISSION GLB_SEALED_WRITE, logged here (spec/00 R445). Bits of absent ports
are ignored (spec/00 R4). -/
def State.writeGroup (s0 : State) (n v0 : Nat) : State :=
  let (s, v) := s0.gradeCut (0x10300 + 4 * n) v0
  let new := low 24 v
  if new = s.rd (ALP_GROUP.PORTS n) then s
  else if s.glb.mode != .commission then s.ev 0x0141 0 (0x10300 + 4 * n) v0
  else
    let groupsOf (p : Nat) : Nat := ((List.range 64).filter (fun g => g != n && s.rdBit (ALP_GROUP.PORTS g) p)).length
    match (List.range 24).find? (fun p => new.testBit p && decide (4 ≤ groupsOf p)) with
    | some p => s.ev 0x031B (entGroup n) v0 (entPort p)
    | none => s.wr (ALP_GROUP.PORTS n) new

/-- GROUP_WRITE (R101). -/
def execGroupWrite (n : Fin 64) (v : BitVec 32) (s : State) : Outcome State Fault Refusal :=
  .next (if s.up then s.writeGroup n.val v.toNat else s)

/-- A write of STU_TICK_CFG (R62, R63, R73; RWS). -/
def State.writeTickLen (s : State) (v : Nat) : State :=
  let new := v % 2 ^ STU_TICK_CFG.TICK_LEN.w
  if new = s.rd STU_TICK_CFG.TICK_LEN then s
  else if s.glb.mode != .commission then s.ev 0x0141 0 STU_TICK_CFG.TICK_LEN.off v
  else if new < 10 || 200 < new then s
  else if entryMaxOf (new * 10) - 64 < hostEnabled s.con.table then s.ev 0x0308 0 new (hostEnabled s.con.table)
  else (s.wr STU_TICK_CFG.TICK_LEN new).retick

/-- TICK_LEN_WRITE (R73). -/
def execTickLenWrite (v : BitVec 32) (s : State) : Outcome State Fault Refusal :=
  .next (if s.up then s.writeTickLen v.toNat else s)

/-! ### Migration proposals -/

/-- A proposal is refused: ALP_MIG_REFUSED, and the descriptor completes with ERROR set (R121). -/
def State.refuseMig (s : State) (p : Proposal) (code : Nat) : State :=
  (s.ev 0x0314 (entBlock p.block) code (if p.new = 0xFF then 0 else entPort p.new)).complete p.ring p.idx false true 0 code

/-- MIGRATE: the entity checks, then the proposal waits for its check; in DORMANT and COMMISSION it is refused at once
(R120, R121). A block or port argument of another class is invalid (log entry 18). -/
def execMigrate (d : DescRef) (block port ramp : BitVec 16) (force reservedZero : Bool) (s : State) :
    Outcome State Fault Refusal :=
  .next (s.run d 0x0302 fun s =>
    let b := block.toNat
    let p := port.toNat
    if b / 2048 ≠ 2 || (p ≠ 0 && p / 2048 ≠ 1) then s.fail d 0x0010
    else s.checkEntity d b fun s =>
      let go (s : State) : State :=
        let x : Proposal := { ring := d.ring.val, idx := d.idx.toNat, block := b % 2048, new := if p = 0 then 0xFF else p % 2048,
                              ramp := ramp.toNat, force := force, reservedZero := reservedZero }
        if s.glb.mode = .dormant || s.glb.mode = .commission then s.refuseMig x 0x0013
        else { s with con := { s.con with proposals := s.con.proposals ++ [x] } }
      if p = 0 then go s else s.checkEntity d p go)

/-- The code of the first failing check of a proposal; 0 when all pass. The bounds u are those of the last curd's snapshot
(R121). -/
def State.migCheck (s : State) (n : Snap) (c : Curd) (p : Proposal) : Nat :=
  let r := nth n.blocks p.block BlockRec.zero
  let np := nth n.ports p.new PortRec.zero
  let others := sumI ((List.range 48).map (fun b =>
    if b != p.block && s.blockOn b && (nth n.blocks b BlockRec.zero).path == r.path then nth s.alp.lastU b 0 else 0))
  if 1000 < p.ramp || !p.reservedZero then 0x004C
  else if p.new = r.path then 0x0041
  else if p.new ≠ 0xFF && !s.rdBit (ALP_PATH.PORTS p.block) p.new then 0x0040
  else if (s.migOf p.block).isSome then 0x0042
  else if 8 ≤ s.con.migs.length then 0x0043
  else if !(r.state = 1 || r.state = 2) || s.con.pathFault.contains p.block then 0x0044
  else if p.new ≠ 0xFF && (np.tripped || np.session = 3) then 0x0045
  else if r.path < 24 && !p.force && others < (nth c.ports r.path PortSet.zero).p then 0x0046
  else if s.entryMax ≤ s.enabledEntries then 0x0047
  else 0

/-- A proposal that passed takes the lowest free slot (R121, R125). -/
def State.acceptMig (s : State) (n : Snap) (p : Proposal) : State :=
  let slot := ((List.range 8).find? (fun i => !s.con.migs.any (fun m => m.slot = i))).getD 0
  let m : Mig := { slot := slot, block := p.block, old := (nth n.blocks p.block BlockRec.zero).path, new := p.new,
                   ramp := if p.ramp = 0 then s.rd ALP_MIG_CFG.RAMP else p.ramp, set := s.setTicks p.block, start := s.stu.nextTick, e := 0, step := 0,
                   ring := p.ring, idx := p.idx }
  let x : Entry := { type := 0x12, enabled := true, windowed := false, device := true, target := entBlock p.block, ownerTag := 0,
                     start := 0, stop := 0, a := m.old + 256 * m.new, b := m.ramp * 65536 }
  let s1 := { s with con := { s.con with migs := s.con.migs ++ [m] } }.setEntry (2040 + slot) x
  (s1.ev 0x0313 (entBlock p.block) (m.old + 256 * m.new) m.planned).reportStart p.ring p.idx (leBytes 4 m.planned)

/-- The Churn checks the oldest waiting proposal (R121). -/
def State.checkProposal (s : State) : State :=
  match s.con.proposals with
  | [] => s
  | p :: l =>
    let s1 := { s with con := { s.con with proposals := l } }
    if s.glb.mode ≠ .active then s1.refuseMig p 0x0013
    else
      let c := s.lastCurd.getD Curd.zero
      let n := s.alp.snaps.find? (fun x => x.tick = c.tick)
      match n with
      | none => s1.refuseMig p (if 1000 < p.ramp || !p.reservedZero then 0x004C else 0x0044)
      | some n =>
        let code := s1.migCheck n c p
        if code ≠ 0 then s1.refuseMig p code else s1.acceptMig n p

/-- MIGRATION_CHECK (R121). -/
def execMigrationCheck (s : State) : Outcome State Fault Refusal := .next (if s.up then s.checkProposal else s)

/-! ### Captures -/

/-- The n nearest the current tick whose low 32 bits a frame or register carries (R62). -/
def State.fullTick (s : State) (n : Nat) : Nat := ((s.curTick : Int) + diff32 n s.curTick).toNat

/-- CAPTURE (R91). -/
def execCapture (d : DescRef) (first : BitVec 32) (count : BitVec 16) (kind : Fin 3) (addr : BitVec 64) (len : BitVec 32)
    (s : State) : Outcome State Fault Refusal :=
  .next (s.run d 0x0303 fun s =>
    let off := diff32 first.toNat s.curTick
    let size := if kind.val = 0 then 4096 else if kind.val = 1 then 2048 else 6144
    if off < -63 then s.fail d 0x0030
    else if 64 < off || count.toNat = 0 || 64 < count.toNat then s.fail d 0x0031
    else if len.toNat < count.toNat * size then s.fail d 0x0032
    else { s with alp := { s.alp with captures := s.alp.captures ++
      [{ ring := d.ring.val, idx := d.idx.toNat, first := ((s.curTick : Int) + off).toNat, count := count.toNat,
         kind := kind.val, addr := addr.toNat }] } })

/-- The records a capture copies, in tick order, snapshot before curd. -/
def State.captureBytes (s : State) (c : Capture) : List (List Nat) :=
  (List.range' c.first c.count).flatMap fun t =>
    let n := if c.kind = 1 then [] else match s.alp.snaps.find? (fun x => x.tick = t) with | none => [] | some x => [x.bytes]
    let k := if c.kind = 0 then [] else match s.alp.curds.find? (fun x => x.tick = t) with | none => [] | some x => [x.bytes]
    n ++ k

/-- CAPTURE_COMPLETE: the oldest capture whose ticks are all sealed is written and completes (R91). -/
def execCaptureComplete (s : State) : Outcome State Fault Refusal :=
  match s.alp.captures.find? (fun c => decide (c.first + c.count ≤ s.stu.nextTick)) with
  | none => .next s
  | some c =>
    if !s.up then .next s
    else
      let l := s.captureBytes c
      let s1 := { s with alp := { s.alp with captures := s.alp.captures.erase c } }
      let s2 := if l.isEmpty then s1 else s1.emit (.host c.addr l.flatten)
      .next (s2.complete c.ring c.idx false false 0 0 (leBytes 4 c.first ++ leBytes 2 l.length))

/-! ### ALP_CLR -/

/-- ALP_CLR.STAGE (R92). -/
def State.clearStages (s : State) : State :=
  (((s.setReg 0x10008 0).setReg 0x1000C 0).setReg 0x10010 0).setReg 0x10014 0

/-- ALP_CLR.COUNTS (R92). -/
def State.clearAlpCounts (s : State) : State := ((s.wr ALP_CLAMP_CNT.CNT 0).wr ALP_SUBST_CNT.CNT 0).wr ALP_OVR_STAT.TOTAL 0

/-- ALP_CLR.WHEY: the window of ALP_WHEY_MIN starts again (R87, R92). -/
def State.restartWhey (s : State) : State := { s with alp := { s.alp with wheys := [] } }

/-- ALP_CLR_STAGE (R92). -/
def execAlpClrStage (s : State) : Outcome State Fault Refusal := .next (if s.up then s.clearStages else s)

/-- ALP_CLR_COUNTS (R92). -/
def execAlpClrCounts (s : State) : Outcome State Fault Refusal := .next (if s.up then s.clearAlpCounts else s)

/-- ALP_CLR_WHEY (R87, R92). -/
def execAlpClrWhey (s : State) : Outcome State Fault Refusal := .next (if s.up then s.restartWhey else s)

end Sys2Proof.Machine
end

