-- ==== Sys2Proof/Machine/Lanes.lean ====
section
/-!
DEFINITION. The serial lanes (spec/07_serial_lanes.md): frames, bring-up, loss, delay and time transfer, low power, eye scan.
-/
namespace Sys2Proof.Machine

/-! ### Lane registers and state -/

/-- Register group of a lane: CLC for L0–L11, DLC for D0 and D1 (R174). -/
def laneBase (l : Nat) : Nat := if l < 12 then 0x20000 + 0x40 * l else 0x28000 + 0x40 * (l - 12)

abbrev LN.LP (l : Nat) : Fld := ⟨laneBase l, 0, 2⟩
abbrev LN.INV_AUTO (l : Nat) : Fld := ⟨laneBase l, 3, 1⟩
abbrev LN.STATE (l : Nat) : Fld := ⟨laneBase l + 4, 0, 4⟩
abbrev LN.POL_INV (l : Nat) : Fld := ⟨laneBase l + 4, 4, 1⟩
abbrev LN.BACKOFF (l : Nat) : Fld := ⟨laneBase l + 4, 5, 1⟩
abbrev LN.RETRIES (l : Nat) : Fld := ⟨laneBase l + 4, 8, 8⟩
abbrev LN.CRC_CNT (l : Nat) : Fld := ⟨laneBase l + 0xC, 0, 16⟩
abbrev LN.LOST_CNT (l : Nat) : Fld := ⟨laneBase l + 0xC, 16, 16⟩
abbrev LN.UNK_CNT (l : Nat) : Fld := ⟨laneBase l + 0x10, 0, 16⟩
abbrev LN.LOCK_CNT (l : Nat) : Fld := ⟨laneBase l + 0x10, 16, 16⟩
abbrev LN.CTLE (l : Nat) : Fld := ⟨laneBase l + 0x20, 0, 8⟩
abbrev LN.DFE (l : Nat) : Fld := ⟨laneBase l + 0x20, 8, 24⟩
abbrev LN.CFG (l : Nat) : Nat := if l < 12 then 0x20400 else 0x28400
abbrev LN.ERR_LIMIT (l : Nat) : Fld := ⟨LN.CFG l, 0, 8⟩
abbrev LN.LOSS_TIME (l : Nat) : Fld := ⟨LN.CFG l, 8, 12⟩

/-- Lane l. -/
def State.lane (s : State) (l : Nat) : Lane := tget (fun _ => Lane.reset) s.link.lanes l

/-- Changes lane l. -/
def State.modLane (s : State) (l : Nat) (f : Lane → Lane) : State :=
  { s with link := { s.link with lanes := tset (fun _ => Lane.reset) s.link.lanes l (f (s.lane l)) } }

/-- State code of lane l (R155). -/
def State.laneState (s : State) (l : Nat) : Nat := s.rd (LN.STATE l)

/-- The lane is ACTIVE. -/
def State.laneActive (s : State) (l : Nat) : Bool := s.laneState l == 6

/-- The lane carries blocks: one of its four blocks is enabled (spec/06 R128). -/
def State.carriesBlocks (s : State) (l : Nat) : Bool := l < 12 && (List.range 4).any (fun k => s.blockOn (4 * l + k))

/-- The lane carries frames (R170). -/
def State.carriesFrames (s : State) (l : Nat) : Bool := 12 ≤ l || s.carriesBlocks l || s.pressLane l

/-- Event code of the CLC, or of the DLC for a Dreak lane. -/
def laneEv (l n : Nat) : Nat := (if l < 12 then 0x0500 else 0x0600) + n

/-- The Dreak lanes that are ACTIVE. -/
def State.dreakUp (s : State) : List Nat := [12, 13].filter s.laneActive

/-- CLC_UP and DLC_YOKE_STAT.UP follow the lane states. -/
def State.noteUp (s : State) (l : Nat) : State :=
  if l < 12 then s.wrBit CLC_UP.ACTIVE l (s.laneActive l) else s.wrBit DLC_YOKE_STAT.UP (l - 12) (s.laneActive l)

/-- What a lane drops when it enters a state: an LP_REQ that waits for its answer, and outside DELAY and ACTIVE a measurement. -/
def Lane.entered (x : Lane) (now code : Nat) : Lane :=
  { x with since := now, lpReq := none, stuck := false, meas := if code = 5 || code = 6 then x.meas else none }

/-- Lane l enters a state. -/
def State.enterLane (s : State) (l code : Nat) : State :=
  ((s.wr (LN.STATE l) code).modLane l (fun x => x.entered s.now code)).noteUp l

/-! ### When a frame leaves (R154) -/

/-- The curd frames of the unit leave: while leading, and in SHADOW once READY (spec/06 R129, spec/16 R379). -/
def State.sendsFrames (s : State) : Bool := s.glb.mode.leading || (s.glb.mode == .shadow && s.rd GLB_TWIN_STAT.SUB == 3)

/-- The send instant of a copy after t_{N+1}, ns (spec/06 R129). -/
def State.copyOffset (s : State) (copy : Nat) : Nat := (s.rd LCH_TX_CFG.OFS + copy * s.rd LCH_TX_CFG.COPY_GAP) * 1000

/-- S_k in whole nanoseconds: STU_TICK_ORIGIN + k × PERIOD × 156.25 ps (spec/08 R178). -/
def State.cycleAt (s : State) (k : Nat) : Nat := s.tickOrigin + k * s.rd CCE_CFG.PERIOD * 5 / 32

/-- The Press runs: in every mode but DORMANT and COMMISSION, with PRESS_EN set (spec/08 R186, R191; spec/01 R21). -/
def State.pressOn (s : State) : Bool :=
  s.flag GLB_SITE_CFG.PRESS_EN && s.glb.mode != .dormant && s.glb.mode != .commission

/-- The instants, ns of site time, at which SETPOINT and PHASE frames leave on lane l about now, each with the frame's length in
ns (R129, R134, R154). -/
def State.launchInstants (s : State) (l : Nat) : List (Nat × Nat) :=
  if !s.laneActive l || !s.sendsFrames then []
  else if s.carriesBlocks l then
    let copies := if s.flag LCH_TX_CFG.COPIES then [0, 1] else [0]
    [s.curTick, s.curTick + 1].flatMap (fun n => copies.map (fun c => (s.tickAt n + s.copyOffset c, blocksNs l 15)))
  else if s.pressLane l && s.pressOn then
    let k := (s.siteNs - s.tickOrigin) * 32 / (max 1 (s.rd CCE_CFG.PERIOD) * 5)
    [k, k + 1, k + 2].map (fun j => (s.cycleAt j, blocksNs l 39))
  else []

/-- How long after now another frame of `len` payload bytes starts on lane l, ns: when the frames before it have left, and where
it ends before the next SETPOINT or PHASE frame, else in the first gap after that (R154). -/
def State.txDelay (s : State) (l len : Nat) : Nat :=
  let dur := blocksNs l (len / 8 + 3)
  (s.launchInstants l).foldl (fun t x => if t + dur ≤ x.1 || x.1 + x.2 ≤ t then t else x.1 + x.2)
    (s.siteNs + ((s.lane l).txFree - s.now)) - s.siteNs

/-- Site time `d` ns from now, in 2^−16 ns. -/
def State.site16In (s : State) (d : Nat) : Nat := (s.stu.site + d * s.increment / 10) % 2 ^ 96 / 2 ^ 16

/-! ### Frames -/

/-- A frame leaves on lane l, `d` ns from now, with the next FSEQ (R151, R152, R153). -/
def State.laneOut (s : State) (l d yseq : Nat) (payload : List Nat) : State :=
  let q := ((s.lane l).fseqTx + 1) % 65536
  let blocks := sentBlocks q yseq payload
  (s.modLane l (fun x => { x with fseqTx := q, txAt := s.now + d, txFree := s.now + d + blocksNs l blocks.length })).emit
    (.lane l (s.now + d) blocks)

/-- A frame other than SETPOINT and PHASE leaves on lane l as soon as R154 lets it. -/
def State.laneTx (s : State) (l yseq : Nat) (payload : List Nat) : State := s.laneOut l (s.txDelay l payload.length) yseq payload

/-- What an output puts on the wire of its lane, scrambled from CAPS on (R149). -/
def Out.bits : Out → List Bool
  | .lane l dep blocks => wireBits (Config.scrambler l dep) blocks
  | _ => []

/-- A SETPOINT or PHASE frame is sent now when its lane is ACTIVE, and else not at all (R154, R161). -/
def State.send (s : State) (l : Nat) (payload : List Nat) : State := if s.laneActive l then s.laneOut l 0 0 payload else s

/-- A yoke frame goes out on both ACTIVE Dreak lanes with one YSEQ, 1 after 0xFF_FFFF (R167). -/
def State.yokeSend (s : State) (payload : List Nat) : State :=
  match s.dreakUp with
  | [] => s
  | l =>
    let y := if s.link.yseqTx = 0xFFFFFF then 1 else s.link.yseqTx + 1
    l.foldl (fun u d => u.laneTx d y payload) { s with link := { s.link with yseqTx := y } }

/-- A frame that passed R151 arrives on lane l: lost frames by FSEQ, and the no-frame timer (R152, R160). -/
def State.laneRx (s : State) (l fseq : Nat) : State :=
  let lost := match (s.lane l).fseqRx with
    | none => 0
    | some q =>
      let n := sx 16 (low 16 (fseq + 65536 - q))
      if n ≤ 0 then 1 else n.toNat - 1
  ((s.bump (LN.LOST_CNT l) lost).modLane l (fun x => { x with fseqRx := some fseq, rxAt := s.now }))

/-- How many numbers YSEQ y lies after YSEQ q, signed: the numbers run from 1 to 0xFF_FFFF (R167). -/
def yDiff (y q : Nat) : Int := sx 24 (low 24 (y + 2 ^ 24 - q - (if y < q && 2 ^ 23 < q - y then 1 else 0)))

/-- The YSEQ `k` numbers after q. -/
def yAdd (q k : Nat) : Nat := (q + k - 1) % 0xFFFFFF + 1

/-- The run of missing YSEQs holds y. -/
def inGap (y : Nat) (g : Nat × Nat) : Bool := decide (0 ≤ yDiff y g.1) && decide (yDiff y g.1 < g.2)

/-- A run of missing YSEQs without y. -/
def cutGap (y : Nat) (g : Nat × Nat) : List (Nat × Nat) :=
  if inGap y g then
    let k := (yDiff y g.1).toNat
    [(g.1, k), (yAdd y 1, g.2 - k - 1)].filter (fun x => x.2 != 0)
  else [g]

/-- A yoke frame arrives: the first copy of a YSEQ is taken, one received late included, the second copy is discarded, a jump is
counted and logged (R167). -/
def State.yokeRx (s : State) (y : Nat) : State × Bool :=
  match s.link.yseqRx with
  | none => ({ s with link := { s.link with yseqRx := some y } }, true)
  | some q =>
    let n := yDiff y q
    if n ≤ 0 then
      if s.link.yGaps.any (inGap y) then ({ s with link := { s.link with yGaps := s.link.yGaps.flatMap (cutGap y) } }, true)
      else (s, false)
    else
      let s1 := { s with link := { s.link with yseqRx := some y } }
      if 1 < n then
        let s2 := { s1 with link := { s1.link with
          yGaps := (yAdd q 1, n.toNat - 1) :: s1.link.yGaps.filter (fun g => decide (yDiff g.1 y ≤ 0)) } }
        ((s2.bump DLC_YOKE_STAT.YSEQ_GAP (n.toNat - 1)).ev 0x0608 0 (yAdd q 1) (n.toNat - 1), true)
      else (s1, true)

/-! ### Eye scans (R171 to R173) -/

/-- Grid points of a scan along one axis. -/
def axisCount (lo hi : Int) (step : Nat) : Nat := if hi < lo || step = 0 then 0 else ((hi - lo).toNat / step) + 1

/-- Points of a scan. -/
def Scan.points (c : Scan) : Nat := axisCount c.phMin c.phMax c.phStep * axisCount c.vMin c.vMax c.vStep

/-- Points a scan has finished at uptime t: 2^DWELL bits each at the line rate. -/
def Scan.doneAt (c : Scan) (t : Nat) : Nat :=
  min c.points ((t - c.start) * (if c.lane < 12 then 62500 else 103125) / (10000 * 2 ^ c.dwell))

/-- The 32-byte header of a scan result (R173). -/
def Scan.header (c : Scan) (done now : Nat) : List Nat :=
  leBytes 2 (entLane c.lane) ++ [if c.lane < 12 then 0 else 1, c.dwell] ++ sBytes 1 c.phMin ++ sBytes 1 c.phMax ++ [c.phStep] ++
  sBytes 1 c.vMin ++ sBytes 1 c.vMax ++ [c.vStep] ++ leBytes 2 c.points ++ [c.ctle] ++ leBytes 5 c.dfe ++
  leBytes 2 done ++ leBytes 8 c.site ++ leBytes 4 ((now - c.start) / 1000000)

/-- Takes `k` free values of 32 bits: error counts the device measures. -/
def State.freshWords (s : State) : Nat → State × List Nat
  | 0 => (s, [])
  | k + 1 =>
    let (v, s1) := s.fresh
    let (s2, l) := s1.freshWords k
    (s2, leBytes 4 v ++ l)

/-- A valid scan starts. -/
def State.startScan (s : State) (c : Scan) : State :=
  let x := { c with start := s.now, site := s.siteNs, ctle := s.rd (LN.CTLE c.lane), dfe := (s.lane c.lane).dfe }
  { s with link := { s.link with scans := s.link.scans ++ [x] } }.reportStart c.ring c.idx

/-- Progress of a scan, per-mille: points done of all points (R172). -/
def Scan.progress (c : Scan) (t : Nat) : Nat := if c.points = 0 then 0 else 1000 * c.doneAt t / c.points

/-- The running scans report the progress that they have made by now (R172). -/
def State.scanReports (s : State) : State :=
  s.link.scans.foldl (fun u (c : Scan) => u.report c.ring c.idx (c.progress u.now)) s

/-- A scan whose turn has come is judged for its lane, and starts (R172). -/
def State.judgeScan (s : State) (c : Scan) : State :=
  if !s.laneActive c.lane then s.complete c.ring c.idx false true 0 0x0062
  else if s.link.scans.any (fun x => x.lane = c.lane) then s.complete c.ring c.idx false true 0 0x0063
  else s.startScan c

/-- Waiting scans are judged and start, oldest first, while a slot is free: one that ends at once leaves its slot to the next
(R172). -/
def State.startScans (s : State) : List Scan → State
  | [] => { s with link := { s.link with scanWait := [] } }
  | c :: l =>
    if 2 ≤ s.link.scans.length then { s with link := { s.link with scanWait := c :: l } }
    else (((s.setWait c.ring false).mapFlight c.ring c.idx (fun f => { f with started := true })).judgeScan c).startScans l

/-- A scan slot is free (R172). -/
def State.nextScan (s : State) : State := s.startScans s.link.scanWait

/-- A lane left ACTIVE: its running scan ends early with what it has (R172). -/
def State.abortScan (s : State) (l : Nat) : State :=
  match s.link.scans.find? (fun c => c.lane = l) with
  | none => s
  | some c =>
    let k := c.doneAt s.now
    let (s1, words) := { s with link := { s.link with scans := s.link.scans.erase c } }.freshWords k
    ((s1.emit (.host c.addr (c.header k s1.now ++ words))).complete c.ring c.idx true true (c.progress s1.now) 0x0064
      (leBytes 4 k)).nextScan

/-! ### Leaving and entering ACTIVE -/

/-- The twin time source is lost with the yoke (spec/03 R59). -/
def State.loseTwin (s : State) : State :=
  let s1 := { s with stu := { s.stu with twinOk := false } }
  if s.rd STU_DISC_STAT.SOURCE = 1 then s1.loseSource else s1

/-- A Dreak lane left ACTIVE: the yoke is degraded or lost (R167). -/
def State.yokeDown (s : State) (l : Nat) : State :=
  let y := s.link.yseqRx.getD 0
  let s1 := { s with link := { s.link with yokeLostAt := s.now } }
  if s.dreakUp.isEmpty then
    ((((s1.wr DLC_YOKE_STAT.DEGRADED 0).wr DLC_YOKE_STAT.LOST 1).ev 0x0606 0 y 0).attn 3).loseTwin
  else (s1.wr DLC_YOKE_STAT.DEGRADED 1).ev 0x0605 (entLane l) y 0

/-- A Dreak lane entered ACTIVE: the flags clear and the return is logged; the yoke that comes up first starts YSEQ (R167). -/
def State.yokeBack (s : State) (l : Nat) : State :=
  let s1 := { s with link := { s.link with yokeUp := true } }
  if s.flag DLC_YOKE_STAT.DEGRADED || s.flag DLC_YOKE_STAT.LOST then
    ((s1.wr DLC_YOKE_STAT.LOST 0).wr DLC_YOKE_STAT.DEGRADED (b2n (s1.dreakUp.length = 1))).ev 0x0607 (entLane l)
      ((s.now - s.link.yokeLostAt) / 1000000) 0
  else s1

/-- What a lane forgets when it leaves ACTIVE; the last FSEQ received and the reports stamped before stay (R152, spec/06 R147). -/
def Lane.cleared (x : Lane) (now : Nat) : Lane := { x with exitAt := now, meas := none, discards := [], found := 0 }

/-- A measurement that starts. -/
def Meas.start0 (now : Nat) : Meas := { start := now, sent := 0, xid := 0, t1 := none, ds := [] }

/-- Entry into TRAIN: TP1 for 20 µs, then TP2 with STEP 0x01 (R155, R156). -/
def State.startTrain (s : State) (l : Nat) : State :=
  ((s.enterLane l 3).emit (.pattern l (.tp1 20000))).emit
    (.pattern l (.train 1 (if l < 12 then 0 else 3) (if l < 12 then l else l - 12) none))

/-- A lane enters `next`; TRAIN starts with its patterns. -/
def State.goLane (s : State) (l next : Nat) : State := if next = 3 then s.startTrain l else s.enterLane l next

/-- Lane l goes to state `next` out of ACTIVE with a cause (R160); a lane that was not ACTIVE only changes state. -/
def State.laneDown (s : State) (l cause next : Nat) : State :=
  if s.laneActive l then
    let s1 := (s.goLane l next).modLane l (fun x => x.cleared s.now)
    let s2 := (s1.ev (laneEv l 2) (entLane l) cause 6).abortScan l
    if l < 12 then s2 else s2.yokeDown l
  else s

/-- A lane goes to DETECT (R155). -/
def State.toDetect (s : State) (l : Nat) : State :=
  (s.enterLane l 2).modLane l (fun x => { x with found := 0, testAt := s.now })

/-- A lane enters ACTIVE (R155, R157, R167). -/
def State.laneUp (s : State) (l : Nat) : State :=
  let s1 := ((s.enterLane l 6).wr (LN.RETRIES l) 0).wr (LN.BACKOFF l) 0
  let s2 := s1.modLane l (fun x => { x with rxAt := s.now, txAt := s.now, meas := none })
  let s3 := s2.ev (laneEv l 1) (entLane l) ((s.now - (s.lane l).exitAt) / 1000) (s.reg (laneBase l + 0x1C))
  if l < 12 then s3 else s3.yokeBack l

/-! ### Bring-up -/

/-- The sealed configuration digest: RANK taken as 0 (spec/16 R396); 0 without an image. -/
def State.cfgDigest (s : State) : Nat :=
  match s.glb.sealed with
  | none => 0
  | some t => Config.cfgDigest ((tset regReset t 0x200 (BitVec.ofNat 32 (putBits ((tget regReset t 0x200).toNat) 0 2 0))).map
      (fun p => (p.1, p.2.toNat))) % 2 ^ 32

/-- The unit's CAPS frame (R158). -/
def State.capsPayload (s : State) (l : Nat) : List Nat :=
  [0x10, 1, if l < 12 then 0 else 3, if l < 12 then l else l - 12, 0, 0, 0x03, 1] ++
  leBytes 2 (if l < 12 then 512 else 4096) ++ leBytes 2 0 ++ leBytes 4 Config.serial ++ leBytes 4 0 ++ leBytes 4 s.claim ++
  leBytes 4 (if l < 12 then 0 else s.cfgDigest) ++ zeros 36

/-- Sends the CAPS frame of lane l. -/
def State.sendCaps (s : State) (l : Nat) : State :=
  (s.laneTx l 0 (s.capsPayload l)).modLane l (fun x => { x with capsAt := s.now })

/-- The serial PLL channel of the lane's group is locked (spec/03 R50). -/
def State.serialLocked (s : State) (l : Nat) : Bool :=
  if l < 12 then s.flag CKG_STAT.SER_CAB_LOCK else s.flag CKG_STAT.SER_DRK_LOCK

/-- One far-end test in DETECT (R155, R157). -/
def State.detectTest (s : State) (l : Nat) (found : Bool) : State :=
  if s.laneState l ≠ 2 then s
  else
    let x := s.lane l
    let s1 := s.waitTill (x.testAt + (if s.flag (LN.BACKOFF l) then 1000000000 else 10000000))
    let n := if found && s.serialLocked l then x.found + 1 else 0
    let s2 := s1.modLane l (fun x => { x with testAt := s1.now, found := n })
    if 2 ≤ n then (s2.startTrain l).modLane l (fun x => { x with exitAt := s1.now, found := 0 }) else s2

/-- The shortest time in TRAIN, ns: TP1, then 64 blocks for the block lock, 65,536 TRAIN blocks without a PRBS error, 16 with STEP
0x02, and the 16 that the lane itself sends after them (R156). -/
def trainNs (l : Nat) : Nat := 20000 + blocksNs l (64 + 65536 + 16 + 16)

/-- Both sides are ready in TRAIN (R156). An inverted pair is corrected only with INV_AUTO. The last 16 TRAIN blocks carry STEP
0x02; then scrambling is on and CAPS begins. -/
def State.trainDone (s : State) (l : Nat) (inverted : Bool) (ctle dfe : Nat) : State :=
  if s.laneState l ≠ 3 || (inverted && !s.flag (LN.INV_AUTO l)) then s
  else
    let s0 := (s.waitTill ((s.lane l).since + trainNs l)).emit
      (.pattern l (.train 2 (if l < 12 then 0 else 3) (if l < 12 then l else l - 12) (some 16)))
    let s1 := ((s0.wr (LN.POL_INV l) (b2n inverted)).wr (LN.CTLE l) ctle).wr (LN.DFE l) dfe
    ((s1.enterLane l 4).modLane l (fun x => { x with dfe := dfe % 2 ^ 40 })).sendCaps l

/-- Time limit of a bring-up state, ns (R155). -/
def bringupLimit : Nat → Nat
  | 3 => 100000000 | 4 => 10000000 | _ => 20000000

/-- A lane times out of TRAIN, CAPS or DELAY (R157). -/
def State.bringupTimeout (s : State) (l : Nat) : State :=
  let st := s.laneState l
  if st = 3 || st = 4 || st = 5 then
    let s1 := s.waitTill ((s.lane l).since + bringupLimit st)
    let s2 := (s1.toDetect l).bump (LN.RETRIES l)
    let n := s2.rd (LN.RETRIES l)
    let s3 := s2.ev (laneEv l 3) (entLane l) st n
    if 8 ≤ n && !s3.flag (LN.BACKOFF l) then
      (s3.wr (LN.BACKOFF l) 1).ev (if l < 12 then 0x0505 else 0x0609) (entLane l) n 0
    else s3
  else s

/-- Fields of a far-end CAPS frame (R158). -/
structure FarCaps where
  role : Nat
  portId : Nat
  slots : Nat
  features : Nat
  frameVer : Nat
  maxPayload : Nat
  maker : Nat
  serial : Nat
  asym : Int
  claim : Nat
  digest : Nat
  deriving DecidableEq, Repr

/-- The first failing check 1 to 5 of a CAPS frame with the value received (R159). -/
def State.capsCheck (s : State) (l : Nat) (c : FarCaps) : Option (Nat × Nat) :=
  let want := if 12 ≤ l then 3 else if s.pressLane l then 2 else 1
  let need := if c.role = 1 then 128 else if c.role = 2 then 288 else 4096
  if c.role ≠ want then some (1, c.role)
  else if c.frameVer < 1 then some (2, c.frameVer)
  else if c.maxPayload < need then some (3, c.maxPayload)
  else if s.twinSite && c.role ≤ 2 && !bit c.features 2 then some (4, c.features)
  else if c.role = 2 && !bit c.features 3 then some (5, c.features)
  else none

/-- A far-end CAPS frame in CAPS state: its fields are shown and checked; the lane enters DELAY or returns to DETECT
(R159). The result says whether it passed. -/
def State.capsRx (s : State) (l : Nat) (c : FarCaps) : State × Bool :=
  let b := laneBase l
  let s1 := ((s.setReg (b + 0x14) (c.role % 256 + c.slots % 256 * 2 ^ 8 + c.features % 256 * 2 ^ 16 + c.portId % 256 * 2 ^ 24)).setReg
    (b + 0x18) (c.maker % 65536 + c.maxPayload % 65536 * 65536)).setReg (b + 0x1C) c.serial
  match s1.capsCheck l c with
  | some (r, v) => ((s1.ev (laneEv l 4) (entLane l) r v).toDetect l, false)
  | none =>
    let miss := (List.range 4).any (fun k => s.blockOn (4 * l + k) && !bit c.slots k)
    let s2 := if l < 12 && c.role = 1 && miss then s1.ev (laneEv l 4) (entLane l) 6 c.slots else s1
    let m := if l < 12 then none else some (Meas.start0 s.now)
    ((s2.enterLane l 5).modLane l (fun x => { x with asym := c.asym, answered := 0, last8 := [], meas := m }), true)

/-! ### Delay and time (R163 to R166) -/

/-- Site time in 2^−16 ns. -/
def State.site16 (s : State) : Nat := s.stu.site / 2 ^ 16

/-- A delay measurement starts, at bring-up or a second after the last (R164). -/
def State.measStart (s : State) (l : Nat) : State :=
  let st := s.laneState l
  if l < 12 && (st = 5 || st = 6) && (s.lane l).meas.isNone && !(s.lane l).stuck then
    let s1 := if st = 6 then s.waitTill ((s.lane l).measStart + 1000000000) else s
    s1.modLane l (fun x => { x with measStart := s1.now, meas := some (Meas.start0 s1.now) })
  else s

/-- The unit asks for delay exchanges on the yoke: in SHADOW (R166), and to acquire time while its own is not valid
(spec/03 R53, log entry 20). -/
def State.yokeRequester (s : State) : Bool := s.glb.mode == .shadow || !s.flag STU_DISC_STAT.VALID

/-- A DLY_REQ payload (R163). -/
def dlyReq (xid : Nat) : List Nat := [0x11, 1] ++ leBytes 2 xid ++ zeros 4

/-- A DLY_REQ leaves on lane l; its departure is t1 of the measurement m that holds it (R163). -/
def State.reqOut (s : State) (l : Nat) (m : Meas) : State :=
  let d := s.txDelay l 8
  (s.modLane l (fun x => { x with meas := some { m with t1 := some (s.site16In d) } })).laneOut l d 0 (dlyReq m.xid)

/-- DLY_REQ on a lane in DELAY or ACTIVE (R161): within a measurement every 125 µs, on the yoke every 1 ms; an exchange whose
response has not come leaves the next one as it is (R164, R166). -/
def State.sendReq (s : State) (l : Nat) : State :=
  let x := s.lane l
  let st := s.laneState l
  let yoke := 12 ≤ l && s.dreakUp.head? = some l && s.yokeRequester
  let next : State :=
    let s1 := s.waitTill (x.reqAt + 1000000)
    let id := (x.answered + 1) % 65536
    (s1.modLane l (fun x => { x with reqAt := s1.now, answered := id })).reqOut l
      { start := s1.now, sent := 9, xid := id, t1 := none, ds := [] }
  match x.meas with
  | some m =>
    if m.sent < 8 && (st = 5 || st = 6) && (l < 12 || s.rd GLB_TWIN_CFG.RANK = 1) then
      (s.waitTill (m.start + 125000 * m.sent)).reqOut l { m with sent := m.sent + 1, xid := m.sent }
    else if m.sent = 9 && yoke then next else s
  | none => if yoke then next else s

/-- A short-form time and fraction in 2^−16 ns, rebuilt near an instant of site time in 2^−16 ns (spec/03 R56). -/
def near16 (ref ns frac : Nat) : Int :=
  ((ref / 65536 : Nat) + diff32 ns (ref / 65536)) * 65536 + (frac % 65536 : Nat)

/-- The response to a DLY_REQ: T2 its arrival, T3 the departure `wait` ns later, at most 20 µs (R163). -/
def State.answerReq (s : State) (l xid wait : Nat) : State :=
  let t2 := s.site16
  let s1 := s.waitTill (s.now + min wait 20000)
  let d := s1.txDelay l 24
  let t3 := s1.site16In d
  (s1.modLane l (fun x => { x with answered := x.answered + 1 })).laneOut l d 0
    ([0x12, 1] ++ leBytes 2 xid ++ leBytes 4 0 ++ leBytes 4 (t2 / 65536) ++ leBytes 2 t2 ++ leBytes 2 t3 ++ leBytes 4 (t3 / 65536) ++ leBytes 4 0)

/-- The last accepted delay of a lane in ps. -/
def State.delayPs (s : State) (l : Nat) : Nat := if l < 12 then s.rd (LCH_DELAY.DELAY l) else s.rd (DLC_DELAY.DELAY (l - 12))

/-- What one exchange yields: twice d in 2^−16 ps and o in 2^−16 ns; none when the response is void (R163). -/
def State.exchange (s : State) (l : Nat) (m : Meas) (xid t2n t2f t3n t3f : Nat) : Option (Int × Int) :=
  match m.t1 with
  | none => none
  | some t1 =>
    let t4 := s.site16
    if xid ≠ m.xid || 20000 * 65536 + 2 * s.delayPs l * 65536 / 1000 < t4 - t1 then none
    else
      let t2 := near16 t1 t2n t2f
      let t3 := near16 t1 t3n t3f
      let a := (s.lane l).asym
      some (((t4 - t1 : Int) - (t3 - t2)) * 1000 + 65536 * a,
            divZ (((t2 - t1) - ((t4 : Int) - t3)) * 1000 - a * 65536) 2000)

/-- The time offset of an exchange on the yoke: it disciplines a standby, and gives a unit without valid time the time of
an ACTIVE peer (spec/03 R53, R58, R59). -/
def State.takeTwinTime (s : State) (o : Int) (peerActive : Bool) : State :=
  if !s.flag STU_DISC_STAT.VALID then
    if peerActive && (s.glb.mode == .dormant || s.glb.mode == .commission) then
      s.acquire ((((s.site16 : Int) + o).toNat) / 65536) 0
    else s
  else if s.glb.mode == .shadow then
    let s1 := { s with stu := { s.stu with twinOk := true } }.selectSource
    if s1.rd STU_DISC_STAT.SOURCE = 1 then s1.discipline (-o) else s1
  else s

/-- Inserts into a rising list. -/
def insertI (v : Int) : List Int → List Int
  | [] => [v]
  | a :: l => if v ≤ a then v :: a :: l else a :: insertI v l

/-- A list in rising order. -/
def sortI (l : List Int) : List Int := l.foldl (fun a v => insertI v a) []

/-- A DLY_RESP arrives on lane l (R163, R166). -/
def State.respRx (s : State) (l xid t2n t2f t3n t3f : Nat) (peerActive : Bool) : State :=
  match (s.lane l).meas with
  | none => s
  | some m =>
    let m1 := { m with t1 := none }
    match s.exchange l m xid t2n t2f t3n t3f with
    | none => s
    | some (d2, o) =>
      if l < 12 then s.modLane l (fun x => { x with meas := some { m1 with ds := d2 :: m1.ds } })
      else
        let l8 := (d2 :: (s.lane l).last8).take 8
        let mean := divNear (sumI l8) (2 * 65536 * l8.length)
        let s1 := (s.modLane l (fun x => { x with last8 := l8, meas := if m.sent = 9 then none else some { m1 with ds := d2 :: m1.ds } })).wr
          (DLC_DELAY.DELAY (l - 12)) (clampU 24 mean)
        s1.takeTwinTime o peerActive

/-- A TIME frame; T_DEP is the site time of its departure (R165). -/
def State.sendTime (s : State) (l : Nat) : State :=
  let d := s.txDelay l 24
  let t := s.site16In d
  (s.laneOut l d 0 ([0x13, 1] ++ zeros 6 ++ leBytes 8 (t / 65536) ++ leBytes 2 t ++ zeros 2 ++ leBytes 4 (s.rd (LCH_DELAY.DELAY l)))).modLane l
    (fun x => { x with timeAt := s.now })

/-- Switching period in ps (spec/08: PERIOD, 1 LSB = 156.25 ps). -/
def State.pressPeriodPs (s : State) : Nat := s.rd CCE_CFG.PERIOD * 625 / 4

/-- The delivery deadline of a lane is checked after a measurement (spec/06 R130, R134). -/
def State.deadlineCheck (s : State) (l : Nat) : State :=
  let d := s.rd (LCH_DELAY.DELAY l)
  let used := (s.rd LCH_TX_CFG.OFS + s.rd LCH_TX_CFG.COPY_GAP * s.rd LCH_TX_CFG.COPIES) * 1000000 + 500000 + d
  let margin : Int := ((s.tickNs * 1000 - 5000000 : Nat) : Int) - used
  let marginP : Int := (s.pressPeriodPs : Int) - 1500000 - d
  let bad := if s.pressLane l then marginP else margin
  if bad < 0 then s.ev 0x0401 (entLane l) d (enc 64 (divZ bad 1000)) else s

/-- The 8 exchanges have ended (R164): the trimmed mean is the result; a lane in DELAY enters ACTIVE after its TIME frame, and
without an accepted delay stays there until it times out. A periodic measurement ends with a TIME frame whatever it found (R165). -/
def State.measDone (s : State) (l : Nat) : State :=
  let x := s.lane l
  let st := s.laneState l
  if 12 ≤ l then
    let n := match x.meas with | none => 0 | some m => m.ds.length
    if st = 5 && (8 ≤ n || 8 ≤ x.answered) then s.laneUp l else s
  else match x.meas with
  | none => s
  | some m =>
    if m.sent < 8 || (st ≠ 5 && st ≠ 6) then s
    else
      let res := divNear (sumI (((sortI m.ds).drop 2).take 4)) (8 * 65536)
      if m.ds.length < 8 || res < 0 || 16777215 < res then
        if st = 6 then (s.modLane l (fun x => { x with meas := none, measBad := true })).sendTime l
        else s.modLane l (fun x => { x with meas := none, stuck := true })
      else
        let old := s.rd (LCH_DELAY.DELAY l)
        let s1 := (s.wr (LCH_DELAY.DELAY l) res.toNat).wr (LCH_DELAY.AGE l) 0
        let s2 := s1.modLane l (fun x => { x with meas := none, measAt := some s.now, measBad := false })
        let s3 := if x.measAt.isSome && 2000 < (res - old).natAbs then s2.ev 0x0406 (entLane l) old res.toNat else s2
        let s4 := (s3.sendTime l).deadlineCheck l
        if st = 5 then s4.laneUp l else s4

/-- LCH_DELAY_Lk.AGE: seconds since the last result, saturating; 0xFF before the first (spec/06 R147). -/
def State.delayAge (s : State) (l : Nat) : Nat :=
  match (s.lane l).measAt with | none => 255 | some t => min 255 ((s.now - t) / 1000000000)

/-! ### Low power (R168 to R170) -/

/-- The lane changes state by a low-power move, logged (R176). -/
def State.lpMove (s : State) (l next : Nat) : State :=
  let old := s.laneState l
  (s.enterLane l next).ev 0x0506 (entLane l) old next

/-- Every lane of l's group is OFF or in DEEP (R168). -/
def State.groupOff (s : State) (l : Nat) : Bool :=
  (if l < 12 then List.range 12 else [12, 13]).all (fun k => s.laneState k ≤ 1)

/-- The patterns that end IDLE: TP1 for 1 µs, then 256 TRAIN blocks with STEP 0x02 (R168). -/
def State.wakePattern (s : State) (l : Nat) : State :=
  (s.emit (.pattern l (.tp1 1000))).emit
    (.pattern l (.train 2 (if l < 12 then 0 else 3) (if l < 12 then l else l - 12) (some 256)))

/-- Out of a low-power state or OFF (R155, R168): IDLE of 1 s or less back to ACTIVE, longer through DELAY; DEEP and OFF to
DETECT, the serial PLL channel relocked where the whole group was off. -/
def State.lpWake (s : State) (l : Nat) : State :=
  match s.laneState l with
  | 7 =>
    if s.now - (s.lane l).since ≤ 1000000000 then ((s.wakePattern l).ev 0x0506 (entLane l) 7 6).laneUp l
    else
      let m := if l < 12 then none else some (Meas.start0 s.now)
      ((s.wakePattern l).lpMove l 5).modLane l (fun x => { x with answered := 0, last8 := [], meas := m })
  | 0 | 1 =>
    let s1 := if s.groupOff l then s.emit (.pattern l .relock) else s
    (s1.ev 0x0506 (entLane l) (s.laneState l) 2).toDetect l
  | _ => s

/-- Writes to LP are ignored on a Dreak lane that is held OFF (R170). -/
def State.lpHeld (s : State) (l : Nat) : Bool := 12 ≤ l && s.link.dreakHeld

/-- LP = 0 (R170): an LP_REQ that has no answer yet is dropped, and the lane is brought up. -/
def State.lpUp (s : State) (l : Nat) : State :=
  if s.lpHeld l then s else ((s.wr (LN.LP l) 0).modLane l (fun x => { x with lpReq := none })).lpWake l

/-- An LP_REQ or LP_ACK payload (R169). -/
def lpFrame (type target : Nat) : List Nat := [type, 1, target] ++ zeros 5

/-- LP = 1 or 2 (R170): taken in DORMANT or COMMISSION, or on a cabinet lane without frames; else refused and logged. -/
def State.lpLow (s : State) (l target : Nat) : State :=
  if s.lpHeld l then s
  else if s.glb.mode == .dormant || s.glb.mode == .commission || (l < 12 && !s.carriesFrames l) then
    let s1 := s.wr (LN.LP l) target
    if s.laneActive l || (s.laneState l = 7 && target = 2) then
      (s1.modLane l (fun x => { x with lpReq := some target })).laneTx l 0 (lpFrame 0x14 target)
    else if s.laneState l = 0 then s1.lpWake l
    else s1
  else s.ev 0x0507 (entLane l) target s.glb.mode.code

/-- LP = 3: OFF in any mode, with cause 7 out of ACTIVE (R170). -/
def State.lpOff (s : State) (l : Nat) : State :=
  if s.lpHeld l then s
  else
    let s1 := s.wr (LN.LP l) 3
    if s.laneActive l then (s1.ev 0x0506 (entLane l) 6 0).laneDown l 7 0
    else if s.laneState l = 0 then s1 else s1.lpMove l 0

/-- The lane enters IDLE or DEEP after the handshake and its LP_ENTER blocks (R168); DEEP leaves ACTIVE with cause 7 (R160). -/
def State.lpEnter (s : State) (l target : Nat) : State :=
  let s0 := (s.modLane l (fun x => { x with lpReq := none })).emit
    (.pattern l (.lpEnter (List.replicate (if target = 1 then 4 else 1) (lpEnterBlock target))))
  if target = 1 then
    let s1 := (s0.lpMove l 7).abortScan l
    if 12 ≤ l && s.laneActive l then s1.yokeDown l else s1
  else if s.laneActive l then (s0.ev 0x0506 (entLane l) 6 1).laneDown l 7 1
  else s0.lpMove l 1

/-- LP_ACK arrives (R168, R169): TARGET 0x00 keeps the lane ACTIVE. -/
def State.lpAck (s : State) (l target : Nat) : State :=
  match (s.lane l).lpReq with
  | none => s
  | some t => if target = t then s.lpEnter l t else s.modLane l (fun x => { x with lpReq := none })

/-- LP_REQ arrives on a Dreak lane: the unit declared IDLE and DEEP, any other target is answered with 0x00 (R169). -/
def State.lpReqRx (s : State) (l target : Nat) : State :=
  if target = 1 || target = 2 then (s.laneTx l 0 (lpFrame 0x16 target)).lpEnter l target
  else s.laneTx l 0 (lpFrame 0x16 0)

/-- The far end's signal is detected in IDLE or DEEP (R169). -/
def State.signalDetect (s : State) (l : Nat) : State := if s.laneState l = 7 || s.laneState l = 1 then s.lpWake l else s

/-- On entry to ACTIVE, SHADOW, LIMP or HALT every lane that carries frames is brought up (R170). -/
def State.lanesWake (s : State) : State :=
  (List.range 14).foldl (fun u l =>
    if u.carriesFrames l && !u.lpHeld l && (u.rd (LN.LP l) = 1 || u.rd (LN.LP l) = 2) then u.lpUp l else u) s

/-- The Dreak lanes are released: LP becomes 0 and they start in DETECT (R170). -/
def State.releaseDreak (s : State) : State :=
  if s.link.dreakHeld && s.grade = .ph4800 then
    [12, 13].foldl (fun u l => (u.wr (LN.LP l) 0).toDetect l) { s with link := { s.link with dreakHeld := false } }
  else s

/-- A configuration with TOPO 0 is sealed: both Dreak lanes go OFF with cause 7 and are held (R170). -/
def State.holdDreak (s : State) : State :=
  if s.link.dreakHeld then s
  else
    let s1 := [12, 13].foldl (fun u l => if u.laneActive l then u.laneDown l 7 0 else u.enterLane l 0) s
    let s2 := [12, 13].foldl (fun u l => u.wr (LN.LP l) 3) s1
    { s2 with link := { s2.link with dreakHeld := true } }

/-- A serial PLL channel loses lock: the lanes of its group return to DETECT (spec/03 R50, R160 cause 4). -/
def State.serialUnlock (s : State) (dreak : Bool) : State :=
  let s1 := (if dreak then s.wr CKG_STAT.SER_DRK_LOCK 0 else s.wr CKG_STAT.SER_CAB_LOCK 0).wr CKG_STAT.SER_UNLOCKED 1
  let s2 := s1.ev 0x0202 0 (if dreak then 2 else 1) 0
  (if dreak then [12, 13] else List.range 12).foldl (fun u l =>
    if u.laneActive l then (u.laneDown l 4 2).toDetect l
    else if 3 ≤ u.laneState l then u.toDetect l else u) s2

/-- A serial PLL channel regains lock (spec/03 R50). -/
def State.serialLock (s : State) (dreak : Bool) : State :=
  if dreak then s.wr CKG_STAT.SER_DRK_LOCK 1 else s.wr CKG_STAT.SER_CAB_LOCK 1

end Sys2Proof.Machine
end

