-- ==== Sys2Proof/Machine/Press.lean ====
section
/-!
DEFINITION. The Press (spec/08_press_converter_control.md): cycles, current loop, interleave, skimming, soft start,
protection and telemetry of the converters C0 to C3.
-/
namespace Sys2Proof.Machine

/-! ### Converters and cycles -/

/-- Converter k. -/
def State.cv (s : State) (k : Nat) : Cce := tget (fun _ => Cce.reset) s.cce.convs k

/-- Replaces converter k. -/
def State.setCv (s : State) (k : Nat) (x : Cce) : State :=
  { s with cce := { s.cce with convs := tset (fun _ => Cce.reset) s.cce.convs k x } }

/-- Changes converter k. -/
def State.modCv (s : State) (k : Nat) (f : Cce → Cce) : State := s.setCv k (f (s.cv k))

/-- Phases of converter k in ascending order (R177). -/
def State.phasesOf (s : State) (k : Nat) : List Nat :=
  (List.range (s.rd (CCE_CONV.COUNT k))).map (fun j => s.rd (CCE_CONV.FIRST k) + j)

/-- HOLD_REASON 1 to 3 of an enabled converter, 0 when every condition of R177 is met. -/
def State.cfgReason (s : State) (k : Nat) : Nat :=
  let clash := (List.range 4).any (fun j => j ≠ k && s.flag (CCE_CONV.EN j) && (s.phasesOf j).any (fun p => (s.phasesOf k).contains p))
  if 32 < s.rd (CCE_CONV.FIRST k) + s.rd (CCE_CONV.COUNT k) || s.rd (CCE_CONV.COUNT k) = 0 || clash then 1
  else if s.rd (CCE_IN.IN_I k) = 0x3F || s.rd (CCE_IN.IN_BUS k) = 0x3F || s.rd (CCE_P_RATED.P_RATED k) = 0 ||
      s.rd (CCE_I_RATED.I_RATED k) = 0 then 2
  else if s.rd STU_TICK_CFG.TICK_LEN * 64000 % s.rd CCE_CFG.PERIOD ≠ 0 then 3 else 0

/-- The check of every enabled converter on a request for ACTIVE or SHADOW (R177). -/
def State.pressCheck (s : State) : State :=
  (List.range 4).foldl (fun u k =>
    if !u.flag (CCE_CONV.EN k) then u.modCv k (fun x => { x with cfgHold := 0 })
    else
      let r := u.cfgReason k
      let v := u.modCv k (fun x => { x with cfgHold := r })
      if r = 0 then v else v.ev 0x0701 (entConv k) r (u.reg (0x30100 + 0x80 * k))) s

/-- HOLD_REASON as CCE_STAT_k shows it (R196). -/
def Cce.hold (x : Cce) : Nat := if x.cfgHold ≠ 0 then x.cfgHold else if x.tempOff then 4 else if x.zeroHold then 5 else 0

/-- The cycle that site time has reached: the last whose S_k, in whole nanoseconds, is not after the present (R178). -/
def State.reachedCycle (s : State) : Nat := ((s.siteNs - s.tickOrigin + 1) * 32 - 1) / (max 1 (s.rd CCE_CFG.PERIOD) * 5)

/-- The cycle a cycle start begins: the one that site time has reached where that is later than the present one, else the next
instant of the grid as the period, the origin and site time now give it (R178). -/
def State.nextCycle (s : State) : Nat :=
  match s.cce.cycle with
  | none => s.reachedCycle + 1
  | some k => if k < s.reachedCycle then s.reachedCycle else s.reachedCycle + 1

/-! ### Reference (R180) and compensator (R181, R182) -/

/-- The curd whose launch instant is the latest at or before an instant (R180). -/
def State.curdFor (s : State) (t : Nat) : Option Curd := s.alp.curds.find? (fun c => decide (c.launch ≤ t))

/-- ZERO of a curd's status word (spec/04 R82). -/
def Curd.isZero (c : Curd) : Bool := bit c.status 22

/-- A quotient toward zero; a zero divisor gives a free value (log entry 23). -/
def quot (a b : Int) : Int := if b = 0 then Config.byZero a else if 0 ≤ b then divZ a b.natAbs else divZ (-a) b.natAbs

/-- I_REF of a running converter from its curd entry (R180). -/
def State.iRefOf (s : State) (k : Nat) (e : ConvSet) (batV busV : Int) : Int :=
  let rated : Int := (s.rd (CCE_I_RATED.I_RATED k) * 1000 : Nat)
  let i := clampI (-rated) rated (if e.refType = 0 then quot (e.ref * 1000000) batV else e.ref)
  if 0 < i && e.vLim < busV then max 0 (i - (s.rd (CCE_FF.VLIM_GAIN k) : Nat) * (busV - e.vLim)) else i

/-- SS_TIME in ns. -/
def State.ssTime (s : State) : Nat := s.rd CCE_SS_CFG.SS_TIME * 1000000

/-- The ramp target V_R at site time t (R186). -/
def State.ssRamp (s : State) (k t : Nat) : Int :=
  let x := s.cv k
  x.ssV0 + divZ (((s.rd (CCE_SS_TGT.SS_TGT k) : Nat) - x.ssV0) * (min (t - x.ssAt) s.ssTime : Nat)) (max 1 s.ssTime)

/-- I_REF in soft start (R186). -/
def State.ssRef (s : State) (k t : Nat) (busV : Int) : Int :=
  min ((s.rd (CCE_I_RATED.I_RATED k) * 125 : Nat) : Int) (max 0 ((s.rd (CCE_FF.VLIM_GAIN k) : Nat) * (s.ssRamp k t - busV)))

/-- The compensator's output for an error (R181). -/
def State.compensate (s : State) (k : Nat) (x : Cce) (e : Int) : Int :=
  let sum := s.rdS (CCE_A1.A1 k) * x.u1 + s.rdS (CCE_A2.A2 k) * x.u2 + s.rdS (CCE_A3.A3 k) * x.u3 +
    s.rdS (CCE_B0.B0 k) * e + s.rdS (CCE_B1.B1 k) * x.e1 + s.rdS (CCE_B2.B2 k) * x.e2 + s.rdS (CCE_B3.B3 k) * x.e3
  clampI (-2000000) 2000000 (divZ (sx 64 (enc 64 sum)) (2 ^ 24))

/-- FF_GAIN × BAT_V in 2^−14 mV. -/
def State.feed (s : State) (k : Nat) (batV : Int) : Int := (s.rd (CCE_FF.FF_GAIN k) : Nat) * batV

/-- The quotient of a voltage in 2^−14 mV and the bus voltage as a duty (R182); a bus voltage of 0 states no duty and gives a free
value (log entry 23). -/
def mkDuty (num : Int) (busV : Int) : Duty :=
  if busV = 0 then { num := Config.byZero num, den := 2 ^ 14 }
  else { num := if 0 < busV then num else -num, den := busV.natAbs * 2 ^ 14 }

/-- The duty clamped to DMIN … 1 − DMAX_MARGIN; the flag says that it was clamped (R182). -/
def State.clampDuty (s : State) (d : Duty) : Duty × Bool :=
  let lo := s.rd CCE_PULSE.DMIN
  let hi := 1000 - s.rd CCE_PULSE.DMAX_MARGIN
  if d.num * 1000 < (lo * d.den : Nat) then ({ num := (lo : Nat), den := 1000 }, true)
  else if ((hi * d.den : Nat) : Int) < d.num * 1000 then ({ num := (hi : Nat), den := 1000 }, true)
  else (d, false)

/-- d_ff of a converter from its last measurements (R185). -/
def State.dutyFf (s : State) (k : Nat) : Duty := mkDuty (s.feed k (s.cv k).batV) (s.cv k).busV

/-- The way from duty a to duty b, i quarters of it (R185). -/
def Duty.toward (a b : Duty) (i : Nat) : Duty :=
  { num := a.num * b.den * ((4 : Int) - i) + b.num * a.den * i, den := 4 * a.den * b.den }

/-- The high-side width of a duty in units of 156.25 ps (R182, steps 2 and 3). -/
def State.width (s : State) (d : Duty) : Nat :=
  let per := s.rd CCE_CFG.PERIOD
  let w := min per ((d.num * per) / (max 1 d.den)).toNat
  if w < s.rd CCE_PULSE.MIN_PULSE then 0 else if per - w < s.rd CCE_PULSE.MIN_PULSE then per else w

/-- The converter's duty in cycle c: what the sample of cycle c − 2 gave; before the first, d_ff (log entry 24). -/
def State.dutyIn (s : State) (k c : Nat) : Duty :=
  match (s.cv k).duties.find? (fun x => x.1 = c) with | some x => x.2 | none => s.dutyFf k

/-- Duty of one active phase in cycle c: removals and additions ramp in four equal steps (R185). -/
def State.phaseDuty (s : State) (k c ph : Nat) : Duty :=
  let x := s.cv k
  let d := s.dutyIn k c
  let rem := match x.removal with
    | some r => if r.phase = ph && (match r.stopAt with | some t => decide (c < t) | none => true) then some (c - r.c0 + 1) else none
    | none => none
  match rem with
  | some i => d.toward (s.dutyFf k) (min 4 i)
  | none =>
    match x.adds.find? (fun a => a.1 = ph) with
    | some a => (s.dutyFf k).toward d (min 4 (c - a.2))
    | none => d

/-- A pulse with its dead times (R183, spec/06 R134): the low side is the complement of the high side, off from DEAD_ON before a
turn-on until DEAD_OFF after the turn-off; without a high-side pulse it stays on. -/
def State.mkPulse (s : State) (on w : Nat) : Pulse :=
  { en := true, on := on, off := on + w, loOff := if w = 0 then none else some ((on : Int) - (s.rd CCE_DEAD.DEAD_ON : Nat)),
    loOn := if w = 0 then none else some (on + w + s.rd CCE_DEAD.DEAD_OFF) }

/-- The pulses of the active phases of converter k in cycle c (R183). -/
def State.pulsesOf (s : State) (k c : Nat) : List (Nat × Pulse) :=
  let act := (s.cv k).act
  let n := max 1 act.length
  let per := s.rd CCE_CFG.PERIOD
  ((List.range act.length).zip act).map (fun x =>
    let w := s.width (s.phaseDuty k c x.2)
    (x.2, s.mkPulse (if s.flag GLB_SITE_CFG.PRESS_OUT then x.1 * (per - w) / n else x.1 * per / n) w))

/-! ### Switching off, soft start, running -/

/-- Every phase off; the converter's STATE becomes `st`. An event of R186 that came while it ran starts nothing later. -/
def Cce.stop (x : Cce) (st : CState) : Cce :=
  { x with state := st, arm := none, act := [], ready := false, good := 0, lowBus := 0, monitor := false, limRun := 0, zeroAt := none,
           zeroRun := 0, duties := [], removal := none, adds := [], iRef := 0 }

/-- Off with HOLD_REASON 5, CONNECT cleared (R191). -/
def State.zeroOff (s : State) (k : Nat) : State :=
  (s.modCv k (fun x => { x.stop .off with zeroHold := true })).wr (CCE_CTL.CONNECT k) 0

/-- The compensator's history cleared (R181). -/
def Cce.cleared (x : Cce) : Cce := { x with u1 := 0, u2 := 0, u3 := 0, e1 := 0, e2 := 0, e3 := 0 }

/-- Latched (R187, R190). -/
def State.latchCv (s : State) (k why : Nat) : State :=
  (s.modCv k (fun x => x.stop .latched)).ev 0x0705 (entConv k) why (s.rd (CCE_PEAK_I.PEAK_I k))

/-- A soft start failed (R187): off, CCE_SS_SHORT, and a retry after the delay or the latch. -/
def State.ssFail (s : State) (k why : Nat) : State :=
  let n := (s.cv k).retries
  let s1 := s.ev 0x0704 (entConv k) why n
  if n < s.rd CCE_SS_CFG.SS_RETRIES then
    s1.modCv k (fun x => { x.stop .off with retryAt := some (s.now + 1000000 * s.rd CCE_SS_RETRY.SS_RETRY_DELAY) })
  else s1.latchCv k 0

/-- Temperature channels assigned to converter k (R191, R196). -/
def State.tempsOf (s : State) (k : Nat) : List Nat :=
  [s.rd (CCE_TEMP.CH0 k), s.rd (CCE_TEMP.CH1 k), s.rd (CCE_TEMP.CH2 k), s.rd (CCE_TEMP.CH3 k)].filter (fun c => c < 96)

/-- The reading of a temperature channel; none in fault (spec/15 R366). -/
def State.chanT (s : State) (c : Nat) : Option Int :=
  if s.rd (THM_CH_VAL.T c) = 0x8000 then none else some (s.rdS (THM_CH_VAL.T c))

/-- A channel reads below SHUT − HYST; one in fault gives no reading (log entry 25). -/
def State.coolEnough (s : State) (k c : Nat) : Bool :=
  match s.chanT c with
  | none => false
  | some t => decide (t < (s.rd (CCE_TEMP_LIM.SHUT k) : Int) - (s.rd (CCE_TEMP_LIM.HYST k) : Nat))

/-- The converter is in soft start or running. -/
def State.cvOn (s : State) (k : Nat) : Bool := (s.cv k).state == .soft || (s.cv k).state == .running

/-- An event of R186 at a converter that is off: soft start begins with the first curd that follows. -/
def State.armCv (s : State) (k : Nat) : State :=
  if s.cvOn k then s else s.modCv k (fun x => { x with arm := some s.siteNs })

/-- Entry to ACTIVE or SHADOW arms every converter (R186). -/
def State.armPress (s : State) : State :=
  if s.flag GLB_SITE_CFG.PRESS_EN then (List.range 4).foldl (fun u k => if u.flag (CCE_CONV.EN k) then u.armCv k else u) s else s

/-- Soft start may begin with curd c (R186). -/
def State.canSoft (s : State) (k : Nat) (c : Curd) : Bool :=
  let x := s.cv k
  (match x.arm with | none => false | some t => decide (0 ≤ diff32 c.sealT t)) && !c.isZero && s.pressOn && x.state == .off &&
  s.flag (CCE_CONV.EN k) && x.cfgHold == 0 && !x.tempOff && x.retryAt.isNone && x.retryLeft.isNone &&
  (s.tempsOf k).all (s.coolEnough k)

/-- Soft start begins in cycle c (R186). -/
def State.softStart (s : State) (k c : Nat) : State :=
  let s1 := s.modCv k (fun x =>
    { (x.stop .soft).cleared with act := s.phasesOf k, arm := none, zeroHold := false, ssAt := s.siteNs, ssV0 := x.busV, ssCycle := c })
  s1.ev 0x0702 (entConv k) (s.cv k).retries (s.rd (CCE_SS_TGT.SS_TGT k))

/-- READY and CONNECT: the converter enters running (R188). -/
def State.enterRun (s : State) (k : Nat) : State :=
  s.modCv k (fun x => { x.cleared with state := .running, runAt := s.now, limRun := 0, ready := false })

/-! ### Skimming (R185) -/

/-- The load-step detector is active in cycle c: for 16 cycles after its last firing. -/
def Cce.stepActive (x : Cce) (c : Nat) : Bool := match x.stepAt with | none => false | some t => decide (c ≤ t + 16)

/-- A lowered request of a curd with this launch instant is ignored (R185, 4). -/
def Cce.locked (x : Cce) (launch : Nat) : Bool := match x.lockTo with | none => false | some t => decide (launch < t)

/-- A removal whose last ramp cycle is over ends: the phase is off, or back after a cancellation (R185). -/
def State.endRemoval (s : State) (k c : Nat) : State :=
  let x := s.cv k
  match x.removal with
  | none => s
  | some r =>
    match r.stopAt with
    | some t => if t ≤ c then s.setCv k { x with removal := none } else s
    | none =>
      if r.c0 + 4 ≤ c then
        let act := x.act.filter (fun p => p ≠ r.phase)
        (((s.setCv k { x with act := act, removal := none }).bump (CCE_SKIM_CNT.DONE k)).ev 0x0706 (entConv k) act.length
          (match s.lastCurd with | none => 0 | some d => low 32 d.tick))
      else s

/-- The request of a new curd (R185): missing phases are added at once, or the removal of the highest one begins. -/
def State.takeSkim (s : State) (k c skim launch : Nat) : State :=
  let x := s.cv k
  let n := x.act.length
  if n < skim then
    let more := ((s.phasesOf k).filter (fun p => !x.act.contains p)).take (skim - n)
    let act := (s.phasesOf k).filter (fun p => x.act.contains p || more.contains p)
    s.setCv k { x with act := act, adds := x.adds ++ more.map (fun p => (p, c)) }
  else if skim < n && x.removal.isNone && !x.stepActive c && !x.locked launch then
    match x.act.getLast? with
    | none => s
    | some p => s.setCv k { x with removal := some { phase := p, c0 := c, stopAt := none } }
  else s

/-- The removal that a firing on the sample of cycle c cancels: one in progress up to c2, or one that a curd will start
within two cycles (R185, 4). -/
def State.removalAt (s : State) (k c : Nat) : Option Nat :=
  let x := s.cv k
  match x.removal with
  | some r => if r.stopAt.isNone && c ≤ r.c0 + 2 then some r.phase else none
  | none =>
    match s.curdFor (s.cycleAt (c + 2)) with
    | none => none
    | some d =>
      if d.isZero then none else
      let skim := (nth d.convs k ConvSet.zero).skim
      if s.cce.launch ≠ some d.launch && x.state == .running && skim < x.act.length && !x.stepActive (c + 1) && !x.locked d.launch
      then x.act.getLast? else none

/-- First tick boundary after the present plus SKIM_HOLD ticks (R185, 4). -/
def State.lockEnd (s : State) : Nat :=
  let t := s.siteNs
  let n := if t < s.tickOrigin then 0 else (t - s.tickOrigin) / (max 1 s.tickNs) + 1
  s.tickAt (n + s.rd CCE_SKIM_CFG.SKIM_HOLD)

/-- A condition above the skimming abort holds in the present cycle: it decides, and the abort is suspended (R192, orders 1 to 5). -/
def State.aboveAbort (s : State) (k : Nat) : Bool :=
  let x := s.cv k
  x.state == .latched || x.cfgHold != 0 || x.tempOff || x.monitor || 15 ≤ x.limRun + b2n x.limNow || x.zeroAt.isSome || x.limNow

/-- The detector on the sample of cycle c (R185, 3 and 4; R192). -/
def State.stepDetect (s : State) (k c : Nat) (i : Int) : State :=
  let x := s.cv k
  match x.lastI.find? (fun y => y.1 + 2 = c) with
  | none => s
  | some y =>
    let d := (i - y.2).natAbs
    if d < s.rd (CCE_LSTEP.LSTEP k) * 1000 then s
    else
      let s1 := match s.removalAt k c with
        | none => s
        | some p =>
          if s.aboveAbort k then s else
          let u := s.modCv k (fun x => { x with removal := x.removal.map (fun (r : Removal) => { r with stopAt := some (c + 2) }), lockTo := some s.lockEnd })
          (u.bump (CCE_SKIM_CNT.ABORT k)).ev 0x0707 (entConv k) p d
      s1.modCv k (fun x => { x with stepAt := some c })

/-! ### One cycle -/

/-- A converter at the start of cycle c, by the precedence of R192. `cur` is the curd in force, `fresh` that it is new. -/
def State.cycleCv (s : State) (c : Nat) (cur : Option Curd) (fresh : Bool) (k : Nat) : State :=
  let x0 := s.cv k
  let run := if x0.limNow then x0.limRun + 1 else 0
  let x := { x0 with limNow := false, limRun := run, adds := x0.adds.filter (fun a => c < a.2 + 4) }
  let s0 := s.setCv k x
  let on := x.state == .soft || x.state == .running
  if x.state == .latched then s0
  else if !s.pressOn || x.cfgHold ≠ 0 || !s.flag (CCE_CONV.EN k) then (if on then s0.modCv k (fun y => y.stop .off) else s0)
  else if x.tempOff then (if on then s0.modCv k (fun y => y.stop .off) else s0)
  else if x.state == .soft && (x.monitor || 16 ≤ run) then s0.ssFail k (if 16 ≤ run then 0 else 1)
  else if x.state == .running && 16 ≤ run then s0.latchCv k 1
  else
    let zero := match cur with | none => false | some d => d.isZero
    if zero && x.state == .soft then s0.zeroOff k
    else if zero && x.state == .running && x.zeroAt.isNone then s0.modCv k (fun y => { y with zeroAt := some s.now, zeroRun := 0 })
    else
      let s1 := s0.endRemoval k c
      match x.state with
      | .off => (match cur with | none => s1 | some d => if s1.canSoft k d then s1.softStart k c else s1)
      | .soft => if x.ready && s1.flag (CCE_CTL.CONNECT k) then s1.enterRun k else s1
      | .running =>
        (match cur with
        | none => s1
        | some d => if fresh && x.zeroAt.isNone then s1.takeSkim k c (nth d.convs k ConvSet.zero).skim d.launch else s1)
      | .latched => s1

/-- Cycle c begins: every converter, then the pulses of its active phases (R183). -/
def State.enterCycle (s : State) (c : Nat) : State :=
  let cur := s.curdFor (s.cycleAt c)
  let launch := cur.map (·.launch)
  let fresh := launch ≠ s.cce.launch && launch.isSome
  let s1 := { s with cce := { s.cce with cycle := some c, cuts := [] } }
  let s2 := (List.range 4).foldl (fun u k => u.cycleCv c cur fresh k) s1
  let pulses := (List.range 4).flatMap (fun k => s2.pulsesOf k c)
  { s2 with cce := { s2.cce with launch := launch, pulses := pulses.foldl (fun t p => tset (fun _ => Pulse.none) t p.1 p.2) [] } }

/-- Every converter is off (CCE_STAT.ALL_OFF). -/
def State.allOff (s : State) : Bool := (List.range 4).all (fun k => (s.cv k).state == .off || (s.cv k).state == .latched)

/-- The unit sends as the leading unit: in ACTIVE and LIMP (spec/06, "LEAD"). -/
def State.leads (s : State) : Bool := s.glb.mode == .active || s.glb.mode == .limp

/-- The PHASE payload of cycle c, from the state with that cycle entered (spec/06 R134). -/
def State.phasePayload (s : State) (c : Nat) : List Nat :=
  let restart := (List.range 4).any (fun k => (s.cv k).state == .soft && (s.cv k).ssCycle == c)
  [0x03, 1, b2n s.leads + 2 * b2n restart + 4 * b2n s.allOff, s.rd STU_TICK_CFG.TICK_LEN] ++ leBytes 4 c ++ leBytes 4 s.claim ++
  leBytes 4 (s.cycleAt c) ++ leBytes 4 (s.rd CCE_CFG.PERIOD) ++ leBytes 2 (s.rd CCE_DEAD.DEAD_ON) ++
  leBytes 2 (s.rd CCE_DEAD.DEAD_OFF) ++ [s.rd LCH_EP_CFG.CLAIM_WIN] ++ zeros 7 ++
  (List.range 32).flatMap (fun p =>
    let x := tget (fun _ => Pulse.none) s.cce.pulses p
    if x.en then leBytes 4 (x.on % 2 ^ 20 + 2 ^ 31) ++ leBytes 4 (x.off % 2 ^ 20) else zeros 8)

/-- Sends the frame of the next cycle, one period ahead (spec/06 R134): what the next cycle start will bring is worked out
on a copy of the state. -/
def State.sendPhase (s : State) : State :=
  match s.cce.cycle with
  | none => s
  | some c => s.send (s.rd GLB_SITE_CFG.PRESS_LANE) (({ s with out := [] }.enterCycle (c + 1)).phasePayload (c + 1))

/-! ### Control sample (R179, R181, R182, R187, R191) -/

/-- Soft-start monitor on a sample at site time t (R187). -/
def State.ssMonitor (s : State) (k t : Nat) (busV : Int) : State :=
  let x := s.cv k
  let tgt : Int := (s.rd (CCE_SS_TGT.SS_TGT k) : Nat)
  let near := (busV - tgt).natAbs * 100 ≤ 2 * tgt.natAbs
  let good := if near then x.good + 1 else 0
  let low := if s.ssTime ≤ 10 * (t - x.ssAt) && busV * 100 < 60 * s.ssRamp k t then x.lowBus + 1 else 0
  let late := !x.ready && good < 16 && s.ssTime + 100000000 ≤ t - x.ssAt
  let s1 := s.setCv k { x with good := good, lowBus := low, monitor := x.monitor || 16 ≤ low || late, ready := x.ready || 16 ≤ good }
  if !x.ready && 16 ≤ good then s1.ev 0x0703 (entConv k) ((t - x.ssAt) / 1000000) (enc 64 busV) else s1

/-- A running converter that regulates to 0 A: 8 consecutive samples below 2 % of I_RATED switch it off (R191). -/
def State.zeroWatch (s : State) (k : Nat) (i : Int) : State :=
  let x := s.cv k
  if x.zeroAt.isNone then s
  else
    let n := if i.natAbs * 100 < 2 * s.rd (CCE_I_RATED.I_RATED k) * 1000 then x.zeroRun + 1 else 0
    if 8 ≤ n then s.zeroOff k else s.setCv k { x with zeroRun := n }

/-- Peak registers (R193). -/
def State.pressPeaks (s : State) (k : Nat) (i busV : Int) : State :=
  let v := clampU 16 (divZ busV 100)
  ((s.wr (CCE_PEAK_I.PEAK_I k) (max (s.rd (CCE_PEAK_I.PEAK_I k)) i.natAbs)).wr (CCE_PEAK_BUS.MAX k)
    (max (s.rd (CCE_PEAK_BUS.MAX k)) v)).wr (CCE_PEAK_BUS.MIN k) (min (s.rd (CCE_PEAK_BUS.MIN k)) v)

/-- The loop on the sample of cycle c: I_REF, the error, the compensator, and the duty of cycle c + 2 (R179). The reference is that of
the cycle whose edges it computes, so that a new curd moves the output within the cycle that starts at its launch instant
(R180; spec/06 R145). -/
def State.loop (s : State) (k c : Nat) (t : Nat) (i busV batV : Int) : State :=
  let x := s.cv k
  let cur := s.curdFor (s.cycleAt (c + 2))
  let ref := if x.state == .soft then s.ssRef k t busV
             else if x.zeroAt.isSome then 0
             else match cur with | none => 0 | some d => s.iRefOf k (nth d.convs k ConvSet.zero) batV busV
  let e := ref - i
  let u := s.compensate k x e
  let (d, cl) := s.clampDuty (mkDuty (s.feed k batV - u * 2 ^ 14) busV)
  let u' := if cl then divZ (s.feed k batV * d.den - d.num * busV * 2 ^ 14) (2 ^ 14 * d.den) else u
  s.setCv k { x with iRef := ref, u1 := u', u2 := x.u1, u3 := x.u2, e1 := e, e2 := x.e1, e3 := x.e2,
                     duties := (c + 2, d) :: x.duties.filter (fun y => c ≤ y.1),
                     sum := { x.sum with duty := x.sum.duty + 65536 * d.num / d.den, sw := x.sum.sw + d.num * busV / d.den } }

/-- The control sample of converter k in the present cycle (R179). -/
def State.controlSample (s : State) (k : Nat) (i busV batIn : Int) : State :=
  match s.cce.cycle with
  | none => s
  | some c =>
    let s0 := s.waitSite (s.cycleAt c + s.rd CCE_CFG.PERIOD * 5 / 64)
    let t := s0.siteNs
    let batV := if s.rd (CCE_IN.IN_BAT k) = 0x3F then (s.cv k).swMean else batIn
    let s1 := s0.modCv k (fun x =>
      { x with batV := batV, busV := busV,
               sum := { x.sum with n := x.sum.n + 1, i := x.sum.i + i, bat := x.sum.bat + batV, bus := x.sum.bus + busV, last := t } })
    let s2 := (s1.pressPeaks k i busV).stepDetect k c i
    let s3 := s2.modCv k (fun x => { x with lastI := (c, i) :: x.lastI.take 1 })
    let st := (s3.cv k).state
    if st == .soft then (s3.loop k c t i busV batV).ssMonitor k t busV
    else if st == .running then (s3.loop k c t i busV batV).zeroWatch k i
    else s3

/-! ### Current limit (R189) -/

/-- The enabled converter a phase belongs to. -/
def State.convOfPhase (s : State) (p : Nat) : Option Nat :=
  (List.range 4).find? (fun k => s.flag (CCE_CONV.EN k) && (s.phasesOf k).contains p)

/-- ILIM_n asserts (R189): with PRESS_OUT 0 the switch that raises the current's magnitude ends its conduction for the rest of
the cycle; the cycle counts once as current-limited. -/
def State.ilim (s : State) (p : Nat) : State :=
  match s.convOfPhase p with
  | none => s
  | some k =>
    let x := s.cv k
    let s1 := if s.flag GLB_SITE_CFG.PRESS_OUT || !x.act.contains p then s
              else { s with cce := { s.cce with cuts := (p, decide (0 ≤ x.iRef)) :: s.cce.cuts.filter (fun y => y.1 ≠ p) } }
    if x.limNow then s1
    else (s1.modCv k (fun y => { y with limNow := true, sum := { y.sum with cbc := y.sum.cbc + 1 } })).bump (CCE_CBC_CNT.CNT k)

/-! ### Temperature (R191) -/

/-- A new reading of temperature channel ch reaches converter k. -/
def State.pressTemp1 (s : State) (ch k : Nat) : State :=
  if !(s.tempsOf k).contains ch then s
  else match s.chanT ch with
  | none => s
  | some t =>
    let x := s.cv k
    let v := enc 64 t
    let hot := decide ((s.rd (CCE_TEMP_LIM.WARN k) : Int) ≤ t)
    let s1 := if hot && !x.warned.contains ch then (s.modCv k (fun y => { y with warned := ch :: y.warned })).ev 0x0708 (entConv k) (entTemp ch) v
              else if hot then s else s.modCv k (fun y => { y with warned := y.warned.filter (fun c => c ≠ ch) })
    if !x.tempOff && decide ((s.rd (CCE_TEMP_LIM.SHUT k) : Int) ≤ t) then
      (s1.modCv k (fun y => { y with tempOff := true, retryLeft := y.retryAt.map (fun r => r - s.now), retryAt := none })).ev 0x0709
        (entConv k) (entTemp ch) v
    else if x.tempOff && (s.tempsOf k).all (s.coolEnough k) then
      let s2 := (s1.modCv k (fun y => { y with tempOff := false, retryAt := y.retryLeft.map (fun r => s.now + r), retryLeft := none })).ev
        0x070A (entConv k) (entTemp ch) v
      if (s2.cv k).retryAt.isNone && (s2.cv k).state == .off && s2.pressOn then s2.armCv k else s2
    else s1

/-- A new reading of channel ch reaches every converter in use. -/
def State.pressTemp (s : State) (ch : Nat) : State :=
  (List.range 4).foldl (fun u k => if u.flag (CCE_CONV.EN k) then u.pressTemp1 ch k else u) s

/-! ### Telemetry (R193) -/

/-- The averaging window of converter k closes at a tick boundary: means, registers, and the value for the snapshot. -/
def State.publishCv (s : State) (k : Nat) : State :=
  let m := (s.cv k).sum
  if m.n = 0 then s
  else
    let i := divZ m.i m.n
    let bat := divZ m.bat m.n
    let bus := divZ m.bus m.n
    let p := watts i bat
    let duty := clampU 16 (m.duty / (m.n : Int))
    let s1 := ((((((s.wrS (CCE_AVG_I.BAT_I k) i).wrS (CCE_AVG_BAT.BAT_V k) bat).wrS (CCE_AVG_BUS.BUS_V k) bus).wrS
      (CCE_AVG_P.P k) p).wr (CCE_AVG_DUTY.DUTY k) duty).wr (CCE_AVG_DUTY.CBC_TICK k) (min 65535 m.cbc)).modCv k
        (fun x => { x with sum := CceSum.zero, swMean := divZ m.sw m.n })
    { s1 with alp := { s1.alp with inConv := tput s1.alp.inConv k (mailPost (tget (fun _ => []) s1.alp.inConv k) m.last
                { batV := bat, batI := i, busV := bus, p := p, duty := duty }) } }

/-- Every converter publishes (R193). -/
def State.pressPublish (s : State) : State := (List.range 4).foldl (fun u k => u.publishCv k) s

/-! ### Host and selector -/

/-- CONNECT written 1 (R188). In SHADOW the standby takes CONNECT from the delta (R194). -/
def State.connectCv (s : State) (k : Nat) : State :=
  if s.glb.mode == .shadow then s else s.wr (CCE_CTL.CONNECT k) 1

/-- CONNECT cleared: a running converter regulates to 0 A and switches off (R188, R191). -/
def State.disconnectCv (s : State) (k : Nat) : State :=
  if s.glb.mode == .shadow then s
  else
    let s1 := s.wr (CCE_CTL.CONNECT k) 0
    if (s.cv k).state == .running && (s.cv k).zeroAt.isNone then s1.modCv k (fun x => { x with zeroAt := some s.now, zeroRun := 0 }) else s1

/-- UNLATCH (R186, R190). -/
def State.unlatchCv (s : State) (k : Nat) : State :=
  if s.glb.mode == .shadow then s
  else
    let x := s.cv k
    ((s.setCv k { x with retries := 0, state := if x.state == .latched then .off else x.state }).ev 0x070C (entConv k) x.retries 0).armCv k

/-- PHASE_STATUS of the followed selector shows all phases off, or a wait for RESTART (R192): every converter in use that is not latched
counts as off and starts under R186. One that an earlier frame has armed already, and that is off, keeps the instant it was
armed at; a frame that finds every converter so repeats nothing. -/
def State.selectorRestart (s : State) (lane flags cycleApplied : Nat) : State :=
  if !s.flag GLB_SITE_CFG.PRESS_OUT || !(bit flags 1 || bit flags 2) || !s.pressOn then s
  else
    let due := (List.range 4).filter (fun k => s.flag (CCE_CONV.EN k) && (s.cv k).state != .latched && (s.cvOn k || (s.cv k).arm.isNone))
    if due.isEmpty then s
    else due.foldl (fun u k => (u.modCv k (fun x => x.stop .off)).armCv k) (s.ev 0x070B (entLane lane) flags cycleApplied)

open Host (Outcome)

/-- PRESS_CYCLE_START: cycle k begins at S_k (R178, R180, R183, R185, R186). -/
def execPressCycleStart (s : State) : Outcome State Fault Refusal :=
  .next (if s.up then (s.waitSite (s.cycleAt s.nextCycle)).enterCycle s.nextCycle else s)

/-- PHASE_SEND (spec/06 R134): a standby that is not READY sends no endpoint frames (spec/16 R379). -/
def execPhaseSend (s : State) : Outcome State Fault Refusal :=
  .next (if s.up && s.pressOn && s.flag GLB_SITE_CFG.PRESS_OUT && s.sendsFrames then s.sendPhase else s)

/-- PRESS_CONTROL_SAMPLE: the sample of the present cycle (R179, R181, R182). -/
def execPressControlSample (conv : Fin 4) (batI busV batV : BitVec 32) (s : State) : Outcome State Fault Refusal :=
  .next (if s.up && s.flag (CCE_CONV.EN conv.val) then s.controlSample conv.val batI.toInt busV.toInt batV.toInt else s)

/-- ILIM_ASSERT (R189). -/
def execIlimAssert (phase : Fin 32) (s : State) : Outcome State Fault Refusal := .next (if s.up then s.ilim phase.val else s)

/-- SS_RETRY_DELAY_EXPIRE: a retry is used and soft start begins with the next curd (R186, R187). -/
def execSsRetryDelayExpire (conv : Fin 4) (s : State) : Outcome State Fault Refusal :=
  .next (if !s.up then s else match (s.cv conv.val).retryAt with
    | none => s
    | some t => ((s.waitTill t).modCv conv.val (fun x => { x with retryAt := none, retries := min 15 (x.retries + 1) })).armCv conv.val)

/-- RUNNING_RETRY_CLEAR: 10 s of running clear the retry count (R188). -/
def execRunningRetryClear (conv : Fin 4) (s : State) : Outcome State Fault Refusal :=
  .next (if s.up && (s.cv conv.val).state == .running then
    (s.waitTill ((s.cv conv.val).runAt + 10000000000)).modCv conv.val (fun x => { x with retries := 0 }) else s)

/-- ZERO_CURD_SWITCH_OFF: 10 ms of regulating to 0 A have passed (R191). -/
def execZeroCurdSwitchOff (conv : Fin 4) (s : State) : Outcome State Fault Refusal :=
  .next (if !s.up then s else match (s.cv conv.val).zeroAt with
    | none => s
    | some t => (s.waitTill (t + 10000000)).zeroOff conv.val)

/-- CCE_CONNECT (R188). -/
def execCceConnect (conv : Fin 4) (s : State) : Outcome State Fault Refusal := .next (if s.up then s.connectCv conv.val else s)

/-- CCE_DISCONNECT (R188, R191). -/
def execCceDisconnect (conv : Fin 4) (s : State) : Outcome State Fault Refusal := .next (if s.up then s.disconnectCv conv.val else s)

/-- CCE_UNLATCH (R190). -/
def execCceUnlatch (conv : Fin 4) (s : State) : Outcome State Fault Refusal := .next (if s.up then s.unlatchCv conv.val else s)

/-- CCE_CLR.PEAK restarts every peak register (R193, R195). -/
def State.clearCcePeaks (s : State) : State :=
  (List.range 4).foldl (fun u k => ((u.wr (CCE_PEAK_I.PEAK_I k) 0).wr (CCE_PEAK_BUS.MAX k) 0).wr (CCE_PEAK_BUS.MIN k) 0xFFFF) s

/-- CCE_CLR.COUNTS (R195). -/
def State.clearCceCounts (s : State) : State :=
  (List.range 4).foldl (fun u k => ((u.wr (CCE_CBC_CNT.CNT k) 0).wr (CCE_SKIM_CNT.DONE k) 0).wr (CCE_SKIM_CNT.ABORT k) 0) s

/-- CCE_CLR_PEAK (R193, R195). -/
def execCceClrPeak (s : State) : Outcome State Fault Refusal := .next (if s.up then s.clearCcePeaks else s)

/-- CCE_CLR_COUNTS (R195). -/
def execCceClrCounts (s : State) : Outcome State Fault Refusal := .next (if s.up then s.clearCceCounts else s)

end Sys2Proof.Machine
end

