-- ==== Sys2Proof/Machine/LoadSwitch.lean ====
section
/-!
DEFINITION. The Load Switch Bank (spec/15_thermal_and_load_switches.md, R372 to R376). It lies in the VAON domain, so its
switches act whatever holds the main domains in reset; the host reaches it only while they run.
-/
namespace Sys2Proof.Machine

/-- Switch n. -/
def State.lsw (s : State) (n : Nat) : Lsw := tget (fun _ => Lsw.reset) s.lsb.sw n

/-- STATE of a switch (R377). -/
def State.lswCode (s : State) (n : Nat) : Nat :=
  let x := s.lsw n
  if x.locked then 5 else if x.therm then 4
  else if s.lsb.uvAt.isSome && !s.flag LSB_STAT.UV_OFF then 6
  else if x.retryAt.isSome || x.retryLeft.isSome then 3
  else if x.on then (if x.inrushAt.isSome then 2 else 1) else 0

/-- LSB_OUT and LSB_CH_STAT_n follow the switch. -/
def State.showLsw (s : State) (n : Nat) : State :=
  let x := s.lsw n
  (((((s.wrBit LSB_OUT.OUT n x.on).wr (LSB_CH_STAT.STATE n) (s.lswCode n)).wr (LSB_CH_STAT.THERM n) (b2n x.therm)).wr
    (LSB_CH_STAT.USED n) x.used).wr (LSB_CH_STAT.LAST_TRIP n) x.lastTrip)

/-- Replaces switch n. -/
def State.setLsw (s : State) (n : Nat) (x : Lsw) : State :=
  ({ s with lsb := { s.lsb with sw := tset (fun _ => Lsw.reset) s.lsb.sw n x } }).showLsw n

/-- Whether a switch conducts by R372 and R374: rows 1, 2, 5, 6 and 7, and the power-order hold. -/
def State.lswWants (s : State) (n : Nat) : Bool :=
  let x := s.lsw n
  if x.locked || x.therm || s.glb.holds.order then false
  else if s.lsb.uvAt.isSome then (if s.flag LSB_STAT.UV_OFF then false else x.on)
  else if x.retryAt.isSome || x.retryLeft.isSome then false
  else s.rdBit LSB_ON.ON n

/-- Drives switch n: a LAMP channel that switches on starts its inrush time (R373). -/
def State.driveLsw (s : State) (n : Nat) : State :=
  let x := s.lsw n
  let w := s.lswWants n
  if w && !x.on then
    s.setLsw n { x with on := true, since := s.now, inrushLeft := none,
                        inrushAt := if s.flag (LSB_CH_CFG.LAMP n) then some (s.now + 1000000 * s.rd (LSB_CH_CFG.INRUSH_T n)) else none }
  else if !w && x.on then s.setLsw n { x with on := false, inrushAt := none, inrushLeft := none }
  else s.showLsw n

/-- Drives every switch. -/
def State.driveAll (s : State) : State := (List.range 24).foldl (fun u n => u.driveLsw n) s

/-- LSB_ON takes a value; a bit written 0 in the retry wait stops the timer, USED kept (R373). -/
def State.setLsbOn (s : State) (v : Nat) : State :=
  let s1 := s.wr LSB_ON.ON v
  (List.range 24).foldl (fun u n =>
    let x := u.lsw n
    (if v.testBit n then u else u.setLsw n { x with retryAt := none, retryLeft := none }).driveLsw n) s1

/-- A host write of LSB_ON; ignored in SHADOW (R376). -/
def State.hostLsbOn (s : State) (v : Nat) : State := if s.glb.mode == .shadow then s else s.setLsbOn v

/-- The retry time a switch has left, ns. -/
def State.retryLeftOf (s : State) (n : Nat) : Nat :=
  match (s.lsw n).retryAt, (s.lsw n).retryLeft with
  | some t, _ => t - s.now
  | none, some r => r
  | none, none => 0

/-- A trip (R373): off, LAST_TRIP, counted, and the retry sequence or LOCKED. `paused` holds the timer (R374). -/
def State.tripLsw (s : State) (n cause : Nat) (paused : Bool) : State :=
  let x := s.lsw n
  let delay := 1000000 * s.rd (LSB_CH_RETRY.RETRY_DELAY n)
  let lock := s.rd (LSB_CH_CFG.RETRIES n) ≤ x.used
  let s1 := s.bump (LSB_CH_CNT.TRIPS n)
  let s2 := if cause = 1 then s1.bump (LSB_CH_CNT.SHORTS n) else s1
  let run := if lock || paused then none else some (s.now + delay)
  let held := if !lock && paused then some delay else none
  let y := { x with on := false, lastTrip := cause, inrushAt := none, inrushLeft := none, locked := lock, retryAt := run, retryLeft := held }
  let s3 := (s2.setLsw n y).ev 0x1101 (entSwitch n) cause x.used
  if lock then s3.ev 0x1103 (entSwitch n) cause (s.rd (LSB_CH_CFG.RETRIES n)) else s3

/-- Channel n has conducted RETRY_CLEAR without a trip (R373). -/
def State.clearUsed (s : State) (n : Nat) : State := s.setLsw n { s.lsw n with used := 0 }

/-- The inrush time of channel n is over (R373). -/
def State.endInrush (s : State) (n : Nat) : State := s.setLsw n { s.lsw n with inrushAt := none }

open Host (Outcome)

/-- LSB_ON_WRITE (R372, R376). -/
def execLsbOnWrite (v : BitVec 32) (s : State) : Outcome State Fault Refusal := .next (if s.up then s.hostLsbOn (v.toNat % 2 ^ 24) else s)

/-- LSB_ON_SET (R377). -/
def execLsbOnSet (v : BitVec 32) (s : State) : Outcome State Fault Refusal :=
  .next (if s.up then s.hostLsbOn (s.rd LSB_ON.ON ||| v.toNat % 2 ^ 24) else s)

/-- LSB_ON_CLR (R373, R377). -/
def execLsbOnClr (v : BitVec 32) (s : State) : Outcome State Fault Refusal :=
  .next (if s.up then s.hostLsbOn (clearBits (s.rd LSB_ON.ON) (v.toNat % 2 ^ 24)) else s)

/-- LSB_UNLOCK: LOCKED, USED and the retry sequence clear; the switch then follows LSB_ON unless THERM is set (R373). -/
def State.unlockLsb (s : State) (v : Nat) : State :=
  (bitsOf v 24).foldl (fun u n =>
    let x := u.lsw n
    ((u.setLsw n { x with locked := false, used := 0, retryAt := none, retryLeft := none }).ev 0x1106 (entSwitch n) x.used 0).driveLsw n) s

/-- LSB_UNLOCK (R373). -/
def execLsbUnlock (v : BitVec 32) (s : State) : Outcome State Fault Refusal := .next (if s.up then s.unlockLsb v.toNat else s)

/-- LSB_CLR.COUNTS (R377). -/
def State.clearLsbCounts (s : State) : State :=
  (List.range 24).foldl (fun u n => (u.wr (LSB_CH_CNT.TRIPS n) 0).wr (LSB_CH_CNT.SHORTS n) 0) s

/-- LSB_CLR_COUNTS (R377). -/
def execLsbClrCounts (s : State) : Outcome State Fault Refusal := .next (if s.up then s.clearLsbCounts else s)

/-- LSB_SHORT: the 8 A comparator of a conducting channel (R373). -/
def execLsbShort (sw : Fin 24) (s : State) : Outcome State Fault Refusal :=
  .next (if (s.lsw sw.val).on then s.tripLsw sw.val 1 false else s)

/-- LSB_OVERLOAD: suspended during a VSW hold (R373, R374). -/
def execLsbOverload (sw : Fin 24) (s : State) : Outcome State Fault Refusal :=
  .next (if (s.lsw sw.val).on && s.lsb.uvAt.isNone then s.tripLsw sw.val 2 false else s)

/-- The junction reaches 150 °C: THERM, and a trip of a conducting channel with its timer paused (R373, R374). -/
def State.thermLsw (s : State) (n : Nat) : State :=
  let x := s.lsw n
  if x.therm then s
  else
    let left := s.retryLeftOf n
    let s1 := s.setLsw n { x with therm := true, retryAt := none,
                                  retryLeft := if x.retryAt.isSome || x.retryLeft.isSome then some left else none }
    let s2 := if x.on then s1.tripLsw n 3 true else s1
    s2.ev 0x1104 (entSwitch n) 1 (s2.retryLeftOf n / 1000000)

/-- LSB_THERMAL_TRIP (R373). -/
def execLsbThermalTrip (sw : Fin 24) (s : State) : Outcome State Fault Refusal := .next (s.thermLsw sw.val)

/-- The junction falls below 130 °C: THERM releases and the timer resumes (R374). -/
def State.thermEnd (s : State) (n : Nat) : State :=
  let x := s.lsw n
  if !x.therm then s
  else
    let s1 := s.setLsw n { x with therm := false, retryAt := x.retryLeft.map (fun r => s.now + r), retryLeft := none }
    (s1.ev 0x1104 (entSwitch n) 0 (s1.retryLeftOf n / 1000000)).driveLsw n

/-- LSB_THERMAL_RELEASE (R374). -/
def execLsbThermalRelease (sw : Fin 24) (s : State) : Outcome State Fault Refusal := .next (s.thermEnd sw.val)

/-- The retry timer expires: one retry is consumed and the channel follows LSB_ON; suspended while VSW is low (R374). -/
def State.retryLsw (s : State) (n : Nat) : State :=
  match (s.lsw n).retryAt with
  | none => s
  | some t =>
    if s.lsb.uvAt.isSome then s
    else
      let s1 := s.waitTill t
      let x := s1.lsw n
      ((s1.setLsw n { x with used := min 15 (x.used + 1), retryAt := none }).ev 0x1102 (entSwitch n) (x.used + 1) 0).driveLsw n

/-- LSB_RETRY (R373). -/
def execLsbRetry (sw : Fin 24) (s : State) : Outcome State Fault Refusal := .next (s.retryLsw sw.val)

/-- LSB_RETRY_CLEAR: RETRY_CLEAR of conduction without a trip clears USED (R373). -/
def execLsbRetryClear (sw : Fin 24) (s : State) : Outcome State Fault Refusal :=
  .next (if (s.lsw sw.val).on then
    (s.waitTill ((s.lsw sw.val).since + 1000000000 * s.rd LSB_CFG.RETRY_CLEAR)).clearUsed sw.val else s)

/-- LSB_INRUSH_END (R373). -/
def execLsbInrushEnd (sw : Fin 24) (s : State) : Outcome State Fault Refusal :=
  .next (match (s.lsw sw.val).inrushAt with
    | none => s
    | some t => (s.waitTill t).endInrush sw.val)

/-- VSW falls below VSW_UV: every channel holds its state and the inrush timers pause (R375). -/
def State.vswLow (s : State) (mv : Nat) : State :=
  if s.lsb.uvAt.isSome then s
  else
    let s1 := { s with lsb := { s.lsb with uvAt := some s.now, vsw := mv } }.wr LSB_STAT.UV 1
    ((List.range 24).foldl (fun u n =>
      let x := u.lsw n
      u.setLsw n { x with inrushLeft := x.inrushAt.map (fun t => t - s.now), inrushAt := none }) s1).ev 0x1105 0 mv 1

/-- VSW_UNDERVOLTAGE (R375). -/
def execVswUndervoltage (vsw : BitVec 16) (s : State) : Outcome State Fault Refusal := .next (s.vswLow vsw.toNat)

/-- VSW is still low after 10 ms: every channel off, UV_OFF (R375). -/
def State.vswOff (s : State) : State :=
  match s.lsb.uvAt with
  | none => s
  | some t =>
    if s.flag LSB_STAT.UV_OFF then s
    else
      let s1 := (s.waitTill (t + 10000000)).wr LSB_STAT.UV_OFF 1
      s1.driveAll.ev 0x1105 0 s1.lsb.vsw 2

/-- VSW_HOLD_EXPIRE (R375). -/
def execVswHoldExpire (s : State) : Outcome State Fault Refusal := .next s.vswOff

/-- VSW has been at or above VSW_UV + 0.5 V for 10 ms: the channels return to LSB_ON (R375). -/
def State.vswBack (s : State) (mv : Nat) : State :=
  if s.lsb.uvAt.isNone then s
  else
    let s1 := ({ s with lsb := { s.lsb with uvAt := none, vsw := mv } }.wr LSB_STAT.UV 0).wr LSB_STAT.UV_OFF 0
    let s2 := (List.range 24).foldl (fun u n =>
      let x := u.lsw n
      (u.setLsw n { x with inrushAt := x.inrushLeft.map (fun r => s.now + r), inrushLeft := none }).driveLsw n) s1
    s2.ev 0x1105 0 mv 0

/-- VSW_RESTORED (R375). -/
def execVswRestored (vsw : BitVec 16) (s : State) : Outcome State Fault Refusal := .next (s.vswBack vsw.toNat)

end Sys2Proof.Machine
end

