-- ==== Sys2Proof/Machine/Crypto.lean ====
section
/-!
DEFINITION. The primitives that spec/10 (R232, R233, R247), spec/11 (R268), spec/14 (R356) and spec/16 (R388) name: SHA-256 (FIPS
180-4), HMAC, and ECDSA with the curve P-256 (FIPS 186-5). The spec names these standards; their constants and steps are taken
from them (PRESUMED, log entry 4).
-/
namespace Sys2Proof.Machine

/-- A number in `k` bytes, most significant first. -/
def beBytes (k n : Nat) : List Nat := (leBytes k n).reverse

/-- The number spelled by bytes, most significant first. -/
def ofBe (l : List Nat) : Nat := ofLe l.reverse

/-! ### SHA-256 and HMAC -/

/-- The largest r below 2^b with r^k ≤ n. -/
def iroot (b k n : Nat) : Nat :=
  (List.range b).reverse.foldl (fun r i => if (r + 2 ^ i) ^ k ≤ n then r + 2 ^ i else r) 0

/-- The primes below 312: the first 64. -/
def primes64 : List Nat := (List.range 312).filter (fun n => 2 ≤ n && (List.range n).all (fun d => d < 2 || n % d ≠ 0))

/-- Round constants: 32 bits of the fractional parts of the cube roots of the first 64 primes. -/
def shaK : List Nat := primes64.map (fun p => iroot 36 3 (p * 2 ^ 96) % 2 ^ 32)

/-- Initial hash: 32 bits of the fractional parts of the square roots of the first 8 primes. -/
def shaInit : List Nat := (primes64.take 8).map (fun p => iroot 36 2 (p * 2 ^ 64) % 2 ^ 32)

/-- Rotation to the right of a 32-bit word. -/
def rotR (x k : Nat) : Nat := x / 2 ^ k + x % 2 ^ k * 2 ^ (32 - k)

/-- The message schedule of a block, newest word first. -/
def shaWords : Nat → List Nat → List Nat
  | 0, l => l
  | k + 1, l =>
    let a := nth l 14 0
    let b := nth l 1 0
    let s0 := (rotR a 7 ^^^ rotR a 18) ^^^ a / 2 ^ 3
    let s1 := (rotR b 17 ^^^ rotR b 19) ^^^ b / 2 ^ 10
    shaWords k ((s1 + nth l 6 0 + s0 + nth l 15 0) % 2 ^ 32 :: l)

/-- One round with round constant and schedule word. -/
def shaRound (h : List Nat) (x : Nat × Nat) : List Nat :=
  match h with
  | [a, b, c, d, e, f, g, i] =>
    let s1 := (rotR e 6 ^^^ rotR e 11) ^^^ rotR e 25
    let ch := (e &&& f) ^^^ ((2 ^ 32 - 1 - e) &&& g)
    let t1 := i + s1 + ch + x.1 + x.2
    let s0 := (rotR a 2 ^^^ rotR a 13) ^^^ rotR a 22
    let mj := ((a &&& b) ^^^ (a &&& c)) ^^^ (b &&& c)
    [(t1 + s0 + mj) % 2 ^ 32, a, b, c, (d + t1) % 2 ^ 32, e, f, g]
  | l => l

/-- One 64-byte block. -/
def shaBlock (h b : List Nat) : List Nat :=
  let w := (shaWords 48 ((List.range 16).reverse.map (fun i => ofBe ((b.drop (4 * i)).take 4)))).reverse
  (h.zip ((shaK.zip w).foldl shaRound h)).map (fun x => (x.1 + x.2) % 2 ^ 32)

/-- SHA-256 of a byte string. -/
def sha256 (m : List Nat) : List Nat :=
  let n := m.length
  let p := m ++ [0x80] ++ zeros ((119 - n % 64) % 64) ++ beBytes 8 (8 * n)
  ((List.range (p.length / 64)).foldl (fun h i => shaBlock h ((p.drop (64 * i)).take 64)) shaInit).flatMap (beBytes 4)

/-! ### SHA-384 (FIPS 180-4, named in R247) -/

/-- The primes below 410: the first 80. -/
def primes80 : List Nat := (List.range 410).filter (fun n => 2 ≤ n && (List.range n).all (fun d => d < 2 || n % d ≠ 0))

/-- Round constants: 64 bits of the fractional parts of the cube roots of the first 80 primes. -/
def sha5K : List Nat := primes80.map (fun p => iroot 68 3 (p * 2 ^ 192) % 2 ^ 64)

/-- Initial hash of SHA-384: 64 bits of the fractional parts of the square roots of the ninth to sixteenth primes. -/
def sha384Init : List Nat := ((primes80.drop 8).take 8).map (fun p => iroot 68 2 (p * 2 ^ 128) % 2 ^ 64)

/-- Rotation to the right of a 64-bit word. -/
def rotR64 (x k : Nat) : Nat := x / 2 ^ k + x % 2 ^ k * 2 ^ (64 - k)

/-- The message schedule of a block, newest word first. -/
def sha5Words : Nat → List Nat → List Nat
  | 0, l => l
  | k + 1, l =>
    let a := nth l 14 0
    let b := nth l 1 0
    let s0 := (rotR64 a 1 ^^^ rotR64 a 8) ^^^ a / 2 ^ 7
    let s1 := (rotR64 b 19 ^^^ rotR64 b 61) ^^^ b / 2 ^ 6
    sha5Words k ((s1 + nth l 6 0 + s0 + nth l 15 0) % 2 ^ 64 :: l)

/-- One round with round constant and schedule word. -/
def sha5Round (h : List Nat) (x : Nat × Nat) : List Nat :=
  match h with
  | [a, b, c, d, e, f, g, i] =>
    let s1 := (rotR64 e 14 ^^^ rotR64 e 18) ^^^ rotR64 e 41
    let ch := (e &&& f) ^^^ ((2 ^ 64 - 1 - e) &&& g)
    let t1 := i + s1 + ch + x.1 + x.2
    let s0 := (rotR64 a 28 ^^^ rotR64 a 34) ^^^ rotR64 a 39
    let mj := ((a &&& b) ^^^ (a &&& c)) ^^^ (b &&& c)
    [(t1 + s0 + mj) % 2 ^ 64, a, b, c, (d + t1) % 2 ^ 64, e, f, g]
  | l => l

/-- One 128-byte block. -/
def sha5Block (h b : List Nat) : List Nat :=
  let w := (sha5Words 64 ((List.range 16).reverse.map (fun i => ofBe ((b.drop (8 * i)).take 8)))).reverse
  (h.zip ((sha5K.zip w).foldl sha5Round h)).map (fun x => (x.1 + x.2) % 2 ^ 64)

/-- SHA-384 of a byte string: 48 bytes. -/
def sha384 (m : List Nat) : List Nat :=
  let n := m.length
  let p := m ++ [0x80] ++ zeros ((239 - n % 128) % 128) ++ beBytes 16 (8 * n)
  (((List.range (p.length / 128)).foldl (fun h i => sha5Block h ((p.drop (128 * i)).take 128)) sha384Init).take 6).flatMap (beBytes 8)

/-- HMAC-SHA-256 of a key and a message. -/
def hmac (key m : List Nat) : List Nat :=
  let k0 := if key.length ≤ 64 then key else sha256 key
  let k := k0 ++ zeros (64 - k0.length)
  sha256 (k.map (· ^^^ 0x5C) ++ sha256 (k.map (· ^^^ 0x36) ++ m))

/-! ### P-256 -/

/-- The prime of P-256. -/
def p256p : Nat := 2 ^ 256 - 2 ^ 224 + 2 ^ 192 + 2 ^ 96 - 1

/-- The order of P-256. -/
def p256n : Nat := 0xFFFFFFFF00000000FFFFFFFFFFFFFFFFBCE6FAADA7179E84F3B9CAC2FC632551

/-- The coefficient b of P-256. -/
def p256b : Nat := 0x5AC635D8AA3A93E7B3EBBD55769886BC651D06B0CC53B0F63BCE3C3E27D2604B

/-- A point with coordinates x and y lies on the curve: y² = x³ − 3x + b modulo p. -/
def onP256 (x y : Nat) : Bool :=
  x < p256p && y < p256p && y * y % p256p == (x * x % p256p * x + (p256p - 3) * x + p256b) % p256p

/-- b^e modulo m, e below 2^256. -/
def powMod (b e m : Nat) : Nat :=
  (List.range 256).reverse.foldl (fun a i => let q := a * a % m; if e.testBit i then q * b % m else q) 1

/-- The inverse modulo a prime. -/
def invMod (a m : Nat) : Nat := powMod (a % m) (m - 2) m

/-- Difference modulo p. -/
def subP (a b : Nat) : Nat := (a + p256p - b % p256p) % p256p

/-- A point in Jacobian coordinates; z = 0 is the point at infinity. -/
structure JPoint where
  x : Nat
  y : Nat
  z : Nat
  deriving DecidableEq, Repr

/-- Twice a point. -/
def JPoint.dbl (a : JPoint) : JPoint :=
  let d := a.z * a.z % p256p
  let g := a.y * a.y % p256p
  let b := a.x * g % p256p
  let al := 3 * subP a.x d * (a.x + d) % p256p
  let x := subP (al * al) (8 * b)
  { x := x, y := subP (al * subP (4 * b) x) (8 * g * g), z := subP ((a.y + a.z) * (a.y + a.z)) (g + d) }

/-- Sum of two points. -/
def JPoint.plus (a b : JPoint) : JPoint :=
  if a.z = 0 then b else if b.z = 0 then a
  else
    let za := a.z * a.z % p256p
    let zb := b.z * b.z % p256p
    let u := a.x * zb % p256p
    let s := a.y * (zb * b.z % p256p) % p256p
    let h := subP (b.x * za) u
    let r := subP (b.y * (za * a.z % p256p)) s
    if h = 0 then (if r = 0 then a.dbl else { x := 1, y := 1, z := 0 })
    else
      let h2 := h * h % p256p
      let h3 := h2 * h % p256p
      let v := u * h2 % p256p
      let x := subP (r * r) (h3 + 2 * v)
      { x := x, y := subP (r * subP v x) (s * h3), z := a.z * b.z % p256p * h % p256p }

/-- A multiple of a point. -/
def JPoint.times (a : JPoint) (k : Nat) : JPoint :=
  (List.range 256).reverse.foldl (fun (q : JPoint) i => if k.testBit i then q.dbl.plus a else q.dbl) { x := 1, y := 1, z := 0 }

/-- The coordinates of a point. -/
def JPoint.affine (a : JPoint) : Nat × Nat :=
  let i := invMod a.z p256p
  let i2 := i * i % p256p
  (a.x * i2 % p256p, a.y * (i2 * i % p256p) % p256p)

/-- The base point. -/
def p256g : JPoint :=
  { x := 0x6B17D1F2E12C4247F8BCE6E563A440F277037D812DEB33A0F4A13945D898C296,
    y := 0x4FE342E2FE1A7F9B8EE7EB4A7C0F9E162BCE33576B315ECECBB6406837BF51F5, z := 1 }

/-- The public key of a private key: X, then Y, 32 bytes each, big-endian (R232). -/
def pub64 (key : Nat) : List Nat :=
  let (x, y) := (p256g.times key).affine
  beBytes 32 x ++ beBytes 32 y

/-- The ECDSA signature of a message with a private key and a nonce: r, then s (R232, R233). -/
def ecSign (key : Nat) (m : List Nat) (nonce : Nat) : List Nat :=
  let k := nonce % (p256n - 1) + 1
  let r := (p256g.times k).affine.1 % p256n
  beBytes 32 r ++ beBytes 32 (invMod k p256n * (ofBe (sha256 m) + r * key) % p256n)

/-- ECDSA verification under a public key. -/
def ecVerify (pub m sig : List Nat) : Bool :=
  let x := ofBe (pub.take 32)
  let y := ofBe (pub.drop 32)
  let r := ofBe (sig.take 32)
  let s := ofBe (sig.drop 32)
  let w := invMod s p256n
  let q := (p256g.times (ofBe (sha256 m) * w % p256n)).plus ({ x := x, y := y, z := 1 : JPoint }.times (r * w % p256n))
  onP256 x y && 0 < r && r < p256n && 0 < s && s < p256n && q.z != 0 && q.affine.1 % p256n == r

end Sys2Proof.Machine
end

