-- ==== Sys2Proof/Machine/Metrology.lean ====
section
/-!
DEFINITION. The Metrology Engine (spec/09_metrology.md): correction of the filter codes, energy, rolling readouts, boundary
readings, channel faults, AC quantities and captures. Metered entities are numbered 0–23 (ports), 24 and 25 (G0, G1).
-/
namespace Sys2Proof.Machine

/-! ### Modulator clocks (R199) -/

/-- MCLKg runs: CLK_EN bit g, outside reset and DORMANT; else it is held low (R199). -/
def State.mclk (s : State) (g : Nat) : Bool := s.mainUp && s.glb.mode != .dormant && s.rdBit MTE_CFG.CLK_EN g

/-- The clock of channel c: that of its input M(c), or of M(c − 16) for a falling-edge channel (R198, R199). -/
def clockOf (c : Nat) : Nat := (if 64 ≤ c then c - 16 else c) / 8

/-! ### Channels -/

/-- Channel c. -/
def State.mch (s : State) (c : Nat) : MChan := tget (fun _ => MChan.reset) s.mte.chans c

/-- Entity index of a metered entity. -/
def meterEnt (e : Nat) : Nat := if e < 24 then entPort e else entAc (e - 24)

/-- Channels of a metered entity (R198); 26 to 29 stand for the pairs of auxiliary channels 56 to 63, which have no meter. -/
def chansOf (e : Nat) : List Nat :=
  if e < 24 then [2 * e, 2 * e + 1]
  else if e = 24 then [48, 49, 50, 51, 64, 65, 66, 67]
  else if e = 25 then [52, 53, 54, 55, 68, 69, 70, 71]
  else [56 + 2 * (e - 26), 57 + 2 * (e - 26)]

/-- The metered entity a channel belongs to; none for the auxiliary channels (R198). -/
def entityOf (c : Nat) : Option Nat :=
  if c < 48 then some (c / 2) else if c < 52 then some 24 else if c < 56 then some 25
  else if c < 64 then none else if c < 68 then some 24 else some 25

/-- Entity index and argument 1 of a channel event (R228). -/
def chanEnt (c : Nat) : Nat := entMod (if 64 ≤ c then c - 16 else c)
def chanArg (c : Nat) : Nat := if 64 ≤ c then c + 256 else c

/-- A metered entity is enabled (R206, R217). -/
def State.meterOn (s : State) (e : Nat) : Bool := if e < 24 then s.portOn e else s.acOn (e - 24)

/-- MTE_FAULT, MTE_PORT_STAT.FAULT and MTE_PORT_STAT.OVR follow channel c. -/
def State.showFault (s : State) (c : Nat) : State :=
  let bad := (s.mch c).cause ≠ 0
  let s1 := if c < 32 then s.wrBit MTE_FAULT0.CH_LO c bad else if c < 64 then s.wrBit MTE_FAULT1.CH_MID (c - 32) bad
            else s.wrBit MTE_FAULT2.CH_HI (c - 64) bad
  match entityOf c with
  | some e =>
    if e < 24 then (s1.wr (MTE_PORT_STAT.FAULT e) (b2n ((chansOf e).any (fun d => (s1.mch d).cause ≠ 0)))).wr (MTE_PORT_STAT.OVR e)
      (b2n ((chansOf e).any (fun d => (s1.mch d).fullAt.isSome)))
    else s1
  | none => s1

/-- Replaces channel c. -/
def State.setMch (s : State) (c : Nat) (x : MChan) : State :=
  ({ s with mte := { s.mte with chans := tset (fun _ => MChan.reset) s.mte.chans c x } }).showFault c

/-- Meter of an entity. -/
def State.meter (s : State) (e : Nat) : Meter := tget (fun _ => Meter.reset) s.mte.meters e

/-- Replaces the meter of an entity. -/
def State.setMeter (s : State) (e : Nat) (x : Meter) : State :=
  { s with mte := { s.mte with meters := tset (fun _ => Meter.reset) s.mte.meters e x } }

/-! ### Scaling and correction (R202, R203) -/

/-- A value held signed in 40 bits; one that does not fit is unstated (log entry 27). -/
def hold40 (v : Int) : Int := if -(2 ^ 39) ≤ v ∧ v < 2 ^ 39 then v else Config.wide v

/-- Linear interpolation over the segment points of channel c, in 2^−8 units, of the values `g` (R202, R203). -/
def State.segment (s : State) (c : Nat) (g : Nat → Int) (x : Int) : Int :=
  let n := s.rd (MTE_CH_CFG.NSEG c)
  let X (k : Nat) : Int := (s.rd (MTE_SEG_X.X c k) * 256 : Nat)
  if n ≤ 1 || x ≤ X 0 then g 0
  else if X (n - 1) ≤ x then g (n - 1)
  else
    match ((List.range n).reverse).find? (fun k => decide (X k ≤ x)) with
    | none => g 0
    | some k => g k + divZ ((g (k + 1) - g k) * (x - X k)) (X (k + 1) - X k).natAbs

/-- SCALE and OFFSET alone applied to a filter code of channel c (R202, R221). -/
def State.scaled (s : State) (c : Nat) (code : BitVec 24) : Int :=
  divZ (code.toInt * (s.rd (MTE_CH_SCALE.SCALE c) : Nat) * 256) (2 ^ 23) + s.rdS (MTE_CH_OFFSET.OFFSET c)

/-- The corrected value of a filter code of channel c (R202). -/
def State.corrected (s : State) (c : Nat) (code : BitVec 24) : Int :=
  let v0 := s.scaled c code
  let v := if s.flag (MTE_CH_CFG.INV c) then -v0 else v0
  let g := s.segment c (fun k => s.rdS (MTE_SEG_GAIN.GAIN c k)) (v.natAbs : Nat)
  hold40 (v + divZ (v * g) (2 ^ 24))

/-- Delay of a current channel in ns, by the magnitude of its previous output (R203). -/
def State.delayNs (s : State) (c : Nat) : Int :=
  let dly := s.segment c (fun k => s.rdS (MTE_SEG_DLY.DLY c k)) ((s.mch c).out.natAbs : Nat)
  if c < 64 then dly
  else
    let g := (c - 64) / 4
    let f := match (tget (fun _ => AcPoint.reset) s.mte.ac g).freq with
      | some f => f
      | none => if s.flag (MTE_AC_CFG.NOM_60 g) then 60000 else 50000
    -- DLY × 10^−3 / (360 f), f in mHz, in ns
    divZ (dly * 25000000) (9 * max 1 f)

/-- Value of a list of 160 kS/s values `lead` places before its window, at `i` values into the window less a delay of `d` ns
(6,250 ns between values): linear interpolation, the ends held (R203). -/
def delayed (l : List Int) (lead : Nat) (d : Int) (i : Nat) : Int :=
  let pos : Int := ((lead + i : Nat) : Int) * 6250 - d
  let q := pos / 6250
  let r := pos % 6250
  let get (j : Int) : Int := nth l (min j.toNat (l.length - 1)) 0
  get q + divZ ((get (q + 1) - get q) * r) 6250

/-- A 16 kS/s sample of a channel: the mean of the 10 corrected values from place `i0` of the window on, a current one delayed; the
codes of a current channel begin `lead` places before the window (R200, R202, R203). -/
def State.window (s : State) (c lead i0 : Nat) (current : Bool) (codes : List (BitVec 24)) : Int :=
  let l := codes.map (s.corrected c)
  let d := if current then s.delayNs c else 0
  let vals := (List.range 10).map (fun i => if current then delayed l lead d (i0 + i) else nth l (i0 + i) 0)
  divZ (sumI vals) 10

/-- The same sample with SCALE and OFFSET only (R221). -/
def State.rawWindow (s : State) (c lead i0 : Nat) (current : Bool) (codes : List (BitVec 24)) : Int :=
  divZ (sumI ((((codes.map (s.scaled c)).drop ((if current then lead else 0) + i0)).take 10))) 10

/-- A new output of channel c (R227). -/
def State.chanOut (s : State) (c : Nat) (v : Int) : State :=
  (s.setMch c { s.mch c with out := v }).wrS (MTE_CH_VAL.VAL c) (divZ v 256)

/-! ### Energy (R206 to R208) -/

/-- Q of an entity: 10 µWh in the units of its products (R207, R217). -/
def quantum (e : Nat) : Nat := if e < 24 then 576000000 * 65536 else 288000000 * 65536

/-- ROLL40 of an accumulator (spec/09, "Rolling readouts"). -/
def EnAcc.roll (a : EnAcc) : Nat := a.acc / 100 % 2 ^ 40

/-- An accumulator with a positive product added (R207, R210). -/
def EnAcc.plus (a : EnAcc) (q p : Nat) : EnAcc :=
  let r := a.res + p
  let acc := a.acc + r / q
  { acc := acc % 2 ^ 64, res := r % q, wraps := min 255 (a.wraps + (acc / 100 / 2 ^ 32 - a.acc / 100 / 2 ^ 32)) }

/-- A span with one more sample of product p (R206, R208, R212). -/
def Span.count (x : Span) (p : Int) (rev : Bool) : Span :=
  { x with samples := satAdd 32 x.samples 1, zero := satAdd 32 x.zero (b2n (p = 0)), rev := satAdd 32 x.rev (b2n rev) }

/-- A product enters the meter (R206 to R208). -/
def Meter.add (m : Meter) (e : Nat) (p : Int) : Meter :=
  let sg : Int := if 0 < p then 1 else if p < 0 then -1 else 0
  let rev := sg ≠ 0 && m.sign ≠ 0 && sg ≠ m.sign
  { m with imp := if 0 < p then m.imp.plus (quantum e) p.natAbs else m.imp,
           exp := if p < 0 then m.exp.plus (quantum e) p.natAbs else m.exp,
           sign := if sg = 0 then m.sign else sg, span := m.span.count p rev, sess := m.sess.count p rev }

/-! ### Boundary readings (R211 to R213) -/

/-- MTE_INT_ORIGIN. -/
def State.intOrigin (s : State) : Nat := s.rd64 MTE_INT_ORIGIN_LO.ORG_LO MTE_INT_ORIGIN_HI.ORG_HI

/-- Interval length, ns (R211). -/
def State.intNs (s : State) : Nat := 1000000000 * s.rd MTE_CFG.INT_LEN

/-- B_k (R211); k is negative before the origin. -/
def State.boundaryAt (s : State) (k : Int) : Nat := ((s.intOrigin : Int) + k * (s.intNs : Nat)).toNat

/-- The interval a stamp lies in (R211). -/
def State.intervalOf (s : State) (t : Nat) : Int := ((t : Int) - (s.intOrigin : Nat)) / ((max 1 s.intNs : Nat) : Int)

/-- A reading of entity e at an instant, with the accumulators and the counts of a span (R212). -/
def State.reading (s : State) (e kind t imp exp : Nat) (x : Span) : Reading :=
  let m := s.meter e
  let cal := match m.cal with | none => false | some c => c != s.mte.calId
  { e := e, kind := kind,
    flags := b2n (x.missing != 0) + 2 * b2n x.ovr + 4 * b2n x.gap + 8 * b2n cal,
    calId := s.mte.calId, tBound := t, tFirst := none, imp := imp, exp := exp, rev := x.rev, samples := x.samples,
    zero := x.zero, missing := x.missing }

/-- The modes in which the RSL builds records (spec/10 R229). -/
def State.sealing (s : State) : Bool := s.glb.mode == .active || s.glb.mode == .limp || s.glb.mode == .halt

/-- Merge memory of an entity (spec/10 R231). -/
def State.merge (s : State) (e : Nat) : Merge := tget (fun _ => Merge.none) s.rsl.merges e
def State.setMerge (s : State) (e : Nat) (m : Merge) : State :=
  { s with rsl := { s.rsl with merges := tset (fun _ => Merge.none) s.rsl.merges e m } }

/-- One more interval skipped (spec/10 R231). -/
def Merge.skip (m : Merge) (r : Reading) : Merge :=
  { n := m.n + 1, flags := m.flags ||| r.flags % 16, rev := satAdd 32 m.rev r.rev, samples := satAdd 32 m.samples r.samples,
    zero := satAdd 32 m.zero r.zero, missing := satAdd 32 m.missing r.missing }

/-- The open-session slot of a port (spec/10 R243). -/
def State.openSess (s : State) (p : Nat) : Option OpenSess := tget (fun _ => none) s.rsl.opens p

/-- A KIND 0 reading reaches the RSL: queued for its record while the unit seals; else the interval is skipped, and in
SHADOW the last 16 readings are kept (spec/10 R229, R231, R238). -/
def State.handReading (s : State) (r : Reading) : State :=
  if s.sealing then
    let id := match s.openSess r.e with | none => 0 | some o => o.id
    { s with rsl := { s.rsl with work := s.rsl.work ++ [.interval r id] } }
  else
    let s1 := s.setMerge r.e ((s.merge r.e).skip r)
    if s.glb.mode == .shadow then
      { s1 with rsl := { s1.rsl with kept := tput s1.rsl.kept r.e (r :: (tget (fun _ => []) s1.rsl.kept r.e).take 15) } }
    else s1

/-- A span that opens: OVERRANGE stands from the start where a channel of the entity is at full scale (R216). -/
def State.freshSpan (s : State) (e : Nat) : Span := { Span.zeroed with ovr := (chansOf e).any (fun c => (s.mch c).fullAt.isSome) }

/-- The boundary reading of entity e at boundary b (R212). -/
def State.closeOne (s : State) (b e : Nat) : State :=
  let m := s.meter e
  let r := s.reading e 0 b m.imp.acc m.exp.acc m.span
  let s1 := s.setMeter e { m with span := s.freshSpan e, cal := some s.mte.calId }
  (if e < 24 then s1.wr (MTE_PORT_STAT.REV e) 0 else s1).handReading r

/-- The instant from which boundaries count as passed: the present, where none has been kept since reset or since site time was
set (R211). -/
def State.mark (s : State) : State :=
  match s.mte.upTo with | some _ => s | none => { s with mte := { s.mte with upTo := some s.siteNs } }

/-- Boundaries passed after one instant and not after another (R211). -/
def State.passed (s : State) (a t : Nat) : List Nat :=
  let k := s.intervalOf a
  (List.range (s.intervalOf t - k).toNat).map (fun i => s.boundaryAt (k + 1 + i))

/-- Every boundary passed by time t closes the intervals of the enabled entities, in ascending index (R211, R212; spec/10 R235). -/
def State.closeTo (s : State) (t : Nat) : State :=
  let s0 := s.mark
  let on := (List.range 26).filter s0.meterOn
  (s0.passed (s0.mte.upTo.getD t) t).foldl (fun u b => on.foldl (fun v e => v.closeOne b e) u)
    { s0 with mte := { s0.mte with upTo := some t } }

/-- T_FIRST of the readings of entity e that have no sample yet (R212). -/
def State.firstSample (s : State) (e t : Nat) : State :=
  let fix (r : Reading) : Reading := if r.e = e && r.tFirst.isNone then { r with tFirst := some t } else r
  let w (x : Work) : Work := match x with
    | .interval r i => .interval (fix r) i
    | .session r o a b g => .session (fix r) { o with reading := fix o.reading } a b g
  { s with rsl := { s.rsl with work := s.rsl.work.map w, kept := s.rsl.kept.map (fun p => (p.1, p.2.map fix)),
                               kept1 := s.rsl.kept1.map (fun p => (p.1, p.2.map fix)),
                               resume := s.rsl.resume.map (fun p => (p.1, p.2.map fix)),
                               opens := s.rsl.opens.map (fun p => (p.1, p.2.map (fun (o : OpenSess) => { o with reading := fix o.reading }))) } }

/-- A session reading of port p, KIND 1 or 2, at the present, after the KIND 0 readings due. A sample with this very stamp lies after it
(R212, R213). CAL_CHANGED of it belongs to the interval that is open too, whose own reading shows it (spec/10 R237). -/
def State.sessionReading (s : State) (p kind : Nat) : State × Reading :=
  let s0 := s.closeTo s.siteNs
  let m := s0.meter p
  let same := m.lastT == some s0.siteNs
  let x := if kind = 1 then Span.zeroed else if same then m.sess0 else m.sess
  let r := s0.reading p kind s0.siteNs (if same then m.imp0 else m.imp.acc) (if same then m.exp0 else m.exp.acc) x
  (s0.setMeter p { m with sess := if same then m.one else s0.freshSpan p },
   { r with tFirst := if same then some s0.siteNs else none })

/-! ### Samples -/

/-- Channels of an entity a sample needs: both of a port, the three phases of an AC point and its VN and IN where they are enabled
(R206, R216, R217); of an auxiliary pair those enabled. -/
def State.needs (s : State) (e : Nat) : List Nat :=
  if e < 24 then chansOf e
  else (chansOf e).filter (fun c => s.flag (MTE_CH_CFG.EN c) || (c % 4 ≠ 3 && e < 26))

/-- Whether the sample of channel c whose window began at uptime t0 is missing, and the channel after it (R216). -/
def MChan.miss (x : MChan) (t0 : Nat) : Bool × MChan :=
  if x.cause ≠ 0 then (true, { x with lost := x.lost + 1 })
  else if 0 < x.skip then (true, { x with lost := x.lost + 1, skip := if x.back ≤ t0 then x.skip - 1 else x.skip })
  else (false, x)

/-- When the next window of entity e ends: `len` after the last one, for an AC point on the pairing that both points share, which
the first 8 kS/s window sets (R200). -/
def State.windowAt (s : State) (e len : Nat) : Nat :=
  match (s.meter e).lastAt with
  | some t => t + len
  | none =>
    match (if e = 24 || e = 25 then s.mte.pairAt else none) with
    | none => s.now
    | some t => t + len * divUp (s.now - t) len

/-- Channel c at the end of a window of the 16 kS/s samples that began at the given uptimes (R216). -/
def MChan.misses (x : MChan) (starts : List Nat) : Bool × MChan :=
  starts.foldl (fun a t0 => let (b, y) := a.2.miss t0; (a.1 || b, y)) (false, x)

/-- A window of entity e ends, `len` ns long; its sample is missing when a 16 kS/s sample of one of its channels is (R216). -/
def State.windowEnd (s : State) (e len : Nat) : State × Bool :=
  let s0 := (s.mark).waitTill (s.windowAt e len)
  let s1 := s0.closeTo s0.siteNs
  let s2 := s1.setMeter e { s1.meter e with lastAt := some s0.now }
  let s3 := if e = 24 || e = 25 then { s2 with mte := { s2.mte with pairAt := some s0.now } } else s2
  let starts := (List.range (len / 62500)).map (fun i => s0.now - len + 62500 * i)
  (s.needs e).foldl (fun (a : State × Bool) c =>
    let (b, x) := (a.1.mch c).misses starts
    (a.1.setMch c x, a.2 || b)) (s3, !(s.needs e).all (fun c => s.flag (MTE_CH_CFG.EN c)) || (s.needs e).isEmpty)

/-- Entity e has a sample window with this stamp: what stood before it is kept for a session boundary at the same stamp (R212). -/
def Meter.stamp (m : Meter) (t : Nat) (one : Span) : Meter :=
  { m with lastT := some t, imp0 := m.imp.acc, exp0 := m.exp.acc, sess0 := m.sess, one := one }

/-- A missing window is counted in the spans (R212, R216). -/
def State.missWindow (s : State) (e : Nat) : State :=
  let f (x : Span) : Span := { x with missing := satAdd 32 x.missing 1 }
  let m := (s.meter e).stamp s.siteNs (f Span.zeroed)
  s.setMeter e { m with span := f m.span, sess := f m.sess }

/-- A product of entity e is accumulated (R206, R208); it is the first sample of the readings that wait for one (R212), and
MTE_PORT_STAT.REV follows. -/
def State.addProduct (s : State) (e : Nat) (p : Int) : State :=
  let m0 := s.meter e
  let sg : Int := if 0 < p then 1 else if p < 0 then -1 else 0
  let one := (s.freshSpan e).count p (sg ≠ 0 && m0.sign ≠ 0 && sg ≠ m0.sign)
  let m := (m0.stamp s.siteNs one).add e p
  let s1 := (s.firstSample e s.siteNs).setMeter e m
  if e < 24 then s1.wr (MTE_PORT_STAT.REV e) (min 65535 m.span.rev) else s1

/-! ### Samples that captures take (R221) -/

/-- The channels a capture names. -/
def mcapChans (kind a b : Nat) : List Nat :=
  match kind with
  | 2 => [a, b]
  | 3 => if a < 48 then [a, a + 1] else [a, a + 1, a + 2, a + 16, a + 17, a + 18]
  | _ => [a]

/-- A capture takes one sample more, until it has as many as it counts. -/
def MCap.take (j : MCap) (v : Int) : MCap :=
  if j.count ≤ j.n || j.hit then j
  else { j with n := j.n + 1, data := if j.kind = 0 then v :: j.data else [], sum := j.sum + v, sq := j.sq + v.natAbs * v.natAbs,
                lo := if j.n = 0 then v else min j.lo v, hi := if j.n = 0 then v else max j.hi v }

/-- An energy capture takes one product more. -/
def MCap.takeP (j : MCap) (p : Int) : MCap :=
  if j.count ≤ j.n || j.hit then j
  else { j with n := j.n + 1, imp := j.imp + p.toNat, exp := j.exp + (-p).toNat, zero := j.zero + b2n (p = 0) }

/-- PROGRESS of a capture, per-mille (R222). -/
def MCap.progress (j : MCap) : Nat := 1000 * j.n / max 1 j.count

/-- The running captures take what `f` gives them and report their progress (R222). -/
def State.feedCaps (s : State) (f : MCap → MCap) : State :=
  let s1 := { s with mte := { s.mte with caps := s.mte.caps.map f } }
  s1.mte.caps.foldl (fun u (j : MCap) => u.report j.ring j.idx j.progress (leBytes 4 j.n)) s1

/-- A sample of channel c, corrected and raw, reaches the captures of it (R221). -/
def State.feedChan (s : State) (c : Nat) (v raw : Int) : State :=
  s.feedCaps (fun j => if j.kind < 3 && j.a = c then j.take (if j.corrected then v else raw) else j)

/-- A product of the entity whose first channel is c reaches its energy captures (R221). -/
def State.feedEnergy (s : State) (c : Nat) (p raw : Int) : State :=
  s.feedCaps (fun j => if j.kind = 3 && j.a = c then j.takeP (if j.corrected then p else raw) else j)

/-! ### Sample pairs -/

/-- A 16 kS/s sample pair of port p (R200, R202, R205, R206). -/
def State.portSample (s : State) (p lead : Nat) (codesV codesI : List (BitVec 24)) : State :=
  let (s1, missing) := s.windowEnd p 62500
  if missing then s1.missWindow p
  else
    let v := s1.window (2 * p) lead 0 false codesV
    let i := s1.window (2 * p + 1) lead 0 true codesI
    let rv := s1.rawWindow (2 * p) lead 0 false codesV
    let ri := s1.rawWindow (2 * p + 1) lead 0 true codesI
    let s2 := (((s1.chanOut (2 * p) v).chanOut (2 * p + 1) i).addProduct p (v * i))
    let s3 := ((s2.feedChan (2 * p) v rv).feedChan (2 * p + 1) i ri).feedEnergy (2 * p) (v * i) (rv * ri)
    let x : PortMeas := { v := divZ v 256, i := divZ i 256 }
    { s3 with alp := { s3.alp with inPort := tput s3.alp.inPort p (mailPost (tget (fun _ => []) s3.alp.inPort p) s3.siteNs x) } }

/-- One auxiliary channel's 16 kS/s sample (R198, R200, R227): KIND says whether the delay applies. -/
def State.auxChan (s : State) (c lead : Nat) (codes : List (BitVec 24)) : State :=
  if !s.flag (MTE_CH_CFG.EN c) then s
  else
    let cur := s.flag (MTE_CH_CFG.KIND c)
    let v := s.window c lead 0 cur codes
    (s.chanOut c v).feedChan c v (s.rawWindow c lead 0 cur codes)

/-- A 16 kS/s sample of a pair of auxiliary channels, those of them that are enabled (R198, R200). -/
def State.auxSample (s : State) (q lead : Nat) (codesA codesB : List (BitVec 24)) : State :=
  let (s1, missing) := s.windowEnd (26 + q) 62500
  if missing then s1 else (s1.auxChan (56 + 2 * q) lead codesA).auxChan (57 + 2 * q) lead codesB

/-- The 8 kS/s sample of AC channel c: the mean of its two 16 kS/s samples, each with the delay that the sample before it gives
(R200, R203); and the same with SCALE and OFFSET only. -/
def State.acChan (s : State) (c lead : Nat) (current : Bool) (codes : List (BitVec 24)) : State × Int × Int :=
  let a := s.window c lead 0 current codes
  let s1 := s.chanOut c a
  let b := s1.window c lead 10 current codes
  (s1.chanOut c b, divZ (a + b) 2, divZ (s.rawWindow c lead 0 current codes + s.rawWindow c lead 10 current codes) 2)

/-- The 8 kS/s samples of voltage and current j of AC point g reach the captures; their products (R200, R217). -/
def State.acPair (s : State) (g lead j : Nat) (codesV codesI : List (List (BitVec 24))) : State × Int × Int :=
  let cv := 48 + 4 * g + j
  let ci := 64 + 4 * g + j
  let a := s.acChan cv lead false (nth codesV j [])
  let b := a.1.acChan ci lead true (nth codesI j [])
  ((b.1.feedChan cv a.2.1 a.2.2).feedChan ci b.2.1 b.2.2, a.2.1 * b.2.1, a.2.2 * b.2.2)

/-- The outputs of the three phases of AC point g, and the sum of their products, corrected and raw (R200, R217). -/
def State.acPhases (s : State) (g lead : Nat) (codesV codesI : List (List (BitVec 24))) : State × Int × Int :=
  (List.range 3).foldl (fun (a : State × Int × Int) j =>
    let x := a.1.acPair g lead j codesV codesI
    (x.1, a.2.1 + x.2.1, a.2.2 + x.2.2)) (s, 0, 0)

/-- A neutral channel of an AC point, where it is enabled (R198). -/
def State.acNeutral1 (s : State) (c lead : Nat) (cur : Bool) (codes : List (BitVec 24)) : State :=
  if !s.flag (MTE_CH_CFG.EN c) then s
  else
    let x := s.acChan c lead cur codes
    x.1.feedChan c x.2.1 x.2.2

/-- VN and IN of AC point g (R198). -/
def State.acNeutral (s : State) (g lead : Nat) (codesV codesI : List (List (BitVec 24))) : State :=
  (s.acNeutral1 (51 + 4 * g) lead false (nth codesV 3 [])).acNeutral1 (67 + 4 * g) lead true (nth codesI 3 [])

/-- The channels of AC point g take a window; the three-phase product (R200, R217). -/
def State.acProduct (s : State) (g lead : Nat) (codesV codesI : List (List (BitVec 24))) : State × Int :=
  let x := s.acPhases g lead codesV codesI
  ((x.1.acNeutral g lead codesV codesI).feedEnergy (48 + 4 * g) x.2.1 x.2.2, x.2.1)

/-- An 8 kS/s sample of AC point g (R200, R217, R218): the three-phase product, the energy, and G_P over the last PAVG
products in W. -/
def State.acSample (s : State) (g lead : Nat) (codesV codesI : List (List (BitVec 24))) : State :=
  let e := 24 + g
  let (s1, missing) := s.windowEnd e 125000
  if missing then s1.missWindow e
  else
    let r := s1.acProduct g lead codesV codesI
    let s2 := r.1.addProduct e r.2
    let m := s2.meter e
    let n := max 1 (s.rd (MTE_AC_CFG.PAVG g))
    let h := (r.2 :: m.hist).take n
    let s3 := s2.setMeter e { m with hist := h }
    let w := divZ (sumI h) (h.length * 65536 * 1000000)
    { s3 with alp := { s3.alp with inAc := tput s3.alp.inAc g (mailPost (tget (fun _ => []) s3.alp.inAc g) s3.siteNs w) } }

/-! ### Channel faults and overrange (R204, R216) -/

/-- The bit of a fault cause. -/
def causeBit (cause : Nat) : Nat := 2 ^ (cause - 1)

/-- A fault cause of channel c sets in (R216); one that is in force already sets in again without an event, and its 1 ms starts anew. A
running capture that names the channel will end with CAPT_FAULT (R222). -/
def State.chanFault1 (s : State) (c cause : Nat) : State :=
  let x := s.mch c
  let since := if cause = 3 then x.since else s.now
  if !s.flag (MTE_CH_CFG.EN c) then s
  else if x.cause.testBit (cause - 1) then s.setMch c { x with since := since }
  else
    let jobs := s.mte.caps.map (fun (j : MCap) => if (mcapChans j.kind j.a j.b).contains c then { j with hit := true } else j)
    let s1 := { s with mte := { s.mte with caps := jobs } }
    let y := { x with cause := x.cause + causeBit cause, since := since, skip := 4, lost := if x.cause = 0 && x.skip = 0 then 0 else x.lost }
    (s1.setMch c y).ev 0x0801 (chanEnt c) (chanArg c) cause

/-- Causes of channel c end; with none left the channel is restored (R216); MTE_MOD_RESTORED carries the windows missing so far. -/
def State.chanBack (s : State) (c mask : Nat) : State :=
  let x := s.mch c
  let left := clearBits x.cause mask
  if x.cause &&& mask = 0 then s
  else if left ≠ 0 then s.setMch c { x with cause := left }
  else (s.setMch c { x with cause := 0, skip := 4, back := s.now }).ev 0x0802 (chanEnt c) (chanArg c) x.lost

/-- Channel c has sat at full scale for 16 values of 160 kS/s, 100 µs: it is in overrange, and the spans that are open show it (R216). -/
def State.overOn (s : State) (c : Nat) : State :=
  let s1 := if c < 32 then s.wrBit MTE_OVR0.CH_LO c true else if c < 64 then s.wrBit MTE_OVR1.CH_MID (c - 32) true
            else s.wrBit MTE_OVR2.CH_HI (c - 64) true
  let s2 := match entityOf c with
    | none => s1
    | some e =>
      let m := s1.meter e
      s1.setMeter e { m with span := { m.span with ovr := true }, sess := { m.sess with ovr := true } }
  s2.setMch c { s2.mch c with fullAt := some (s.now - 100000) }

/-- Channel c enters overrange, or leaves full scale: MTE_OVERRANGE is logged once per run with its length, at its end (R216). -/
def State.overrange (s : State) (c : Nat) (full : Bool) : State :=
  let x := s.mch c
  match x.fullAt, full with
  | none, true => s.overOn c
  | some t, false => (s.setMch c { x with fullAt := none }).ev 0x0803 (chanEnt c) (chanArg c) ((s.now - t) / 1000)
  | _, _ => s

/-- What is wrong with the correction table of channel c: 0 nothing, 1 NSEG, 2 X order, 3 GAIN or DLY range (R204). -/
def State.tableReason (s : State) (c : Nat) : Nat :=
  let n := s.rd (MTE_CH_CFG.NSEG c)
  if n = 0 || 16 < n then 1
  else if (List.range (n - 1)).any (fun k => decide (s.rd (MTE_SEG_X.X c (k + 1)) ≤ s.rd (MTE_SEG_X.X c k))) then 2
  else if (List.range n).any (fun k =>
      decide (671088 < (s.rdS (MTE_SEG_GAIN.GAIN c k)).natAbs) ||
      decide ((if 64 ≤ c then 5000 else 10000) < (s.rdS (MTE_SEG_DLY.DLY c k)).natAbs)) then 3
  else 0

/-- The check of every enabled channel on a request for ACTIVE or SHADOW (R204). -/
def State.tableCheck (s : State) : State :=
  ((List.range 72).filter (fun c => s.flag (MTE_CH_CFG.EN c))).foldl (fun u c =>
    match u.tableReason c with
    | 0 => u.chanBack c 4
    | r => (u.ev 0x0804 (chanEnt c) (chanArg c) r).chanFault1 c 3) s

/-! ### Readouts (R209, R210, R226) -/

/-- Register group of the energy registers of an entity. -/
def rollBase (e : Nat) : Nat := if e < 24 then 0x38100 + 0x20 * e else 0x38464 + 0x100 * (e - 24)

/-- A read of MTE_ROLL_STAT of an entity latches its group (R209, R210). -/
def State.rollLatch (s : State) (e : Nat) : State :=
  let m := s.meter e
  let b := rollBase e
  let li := decide (2 ≤ m.imp.wraps)
  let le := decide (2 ≤ m.exp.wraps)
  let st := m.imp.roll / 2 ^ 32 + m.exp.roll / 2 ^ 32 * 256 + 65536 * b2n li + 131072 * b2n le
  let s1 := ((((((s.setReg b st).setReg (b + 4) (m.imp.roll % 2 ^ 32)).setReg (b + 8) (m.exp.roll % 2 ^ 32)).setReg (b + 12)
    (m.imp.acc % 2 ^ 32)).setReg (b + 16) (m.imp.acc / 2 ^ 32)).setReg (b + 20) (m.exp.acc % 2 ^ 32)).setReg (b + 24) (m.exp.acc / 2 ^ 32)
  let s2 := s1.setMeter e { m with imp := { m.imp with wraps := 0 }, exp := { m.exp with wraps := 0 } }
  let s3 := if li then s2.ev 0x0806 (meterEnt e) 0 m.imp.wraps else s2
  if le then s3.ev 0x0806 (meterEnt e) 1 m.exp.wraps else s3

/-! ### AC windows (R217, R219) -/

/-- AC point g. -/
def State.acp (s : State) (g : Nat) : AcPoint := tget (fun _ => AcPoint.reset) s.mte.ac g
def State.setAcp (s : State) (g : Nat) (x : AcPoint) : State :=
  { s with mte := { s.mte with ac := tset (fun _ => AcPoint.reset) s.mte.ac g x } }

/-- A read of MTE_AC_STAT_g latches the window values (R226). -/
def State.acLatch (s : State) (g : Nat) : State :=
  let l := (s.acp g).words
  (List.range l.length).foldl (fun u i => u.setReg (0x38414 + 0x100 * g + 4 * i) (nth l i 0)) s

/-- A one-bit detector with its event at onset and end (R219). -/
def State.detector (s : State) (f : Fld) (now : Bool) (code g arg : Nat) : State :=
  let was := s.flag f
  if now == was then s else (s.wr f (b2n now)).ev code (entAc g) arg (b2n now)

/-- Angle difference on the circle, 0.01°. -/
def angleOff (a b : Int) : Nat := let d := (a - b) % 36000; (min d (36000 - d)).natAbs

/-- The measured words of a window (R217): RMS, P, Q, S, PF, frequency, angles; PF of a zero S is a free value (log entry 23). -/
def acWords (w : AcWindow) (f10 : Nat) : List Nat :=
  let va (v i : BitVec 32) : Nat := v.toNat * i.toNat / 1000000
  let pt := w.p1.toInt + w.p2.toInt + w.p3.toInt
  let sv := va w.v1 w.i1 + va w.v2 w.i2 + va w.v3 w.i3
  let pf := if sv = 0 then Config.byZero (pt * 10000) else divNear (pt * 10000) sv
  [w.v1.toNat, w.v2.toNat, w.v3.toNat, w.vn.toNat, w.i1.toNat, w.i2.toNat, w.i3.toNat, w.inN.toNat, w.p1.toNat, w.p2.toNat,
   w.p3.toNat, enc 32 pt, w.q.toNat, sv % 2 ^ 32, enc 16 pf, w.f.toNat, f10, w.angV2.toNat + 65536 * w.angV3.toNat,
   w.angI1.toNat + 65536 * w.angI2.toNat, w.angI3.toNat]

/-- The detectors on a window (R219). -/
def State.acDetect (s : State) (g : Nat) (w : AcWindow) : State :=
  let vnom := s.rd (MTE_AC_VNOM.VNOM g)
  let v := [w.v1.toNat, w.v2.toNat, w.v3.toNat]
  let lo := v.foldl min w.v1.toNat
  let hi := v.foldl max 0
  -- phase loss
  let was := s.rd (MTE_AC_STAT.LOSS g)
  let low := v.any (fun x => decide (x * 100 < 10 * vnom))
  let loss := maskOf ((List.range 3).filter (fun j =>
    decide (nth v j 0 * 100 < 10 * vnom) || ((was != 0 || low) && decide (nth v j 0 * 100 < 15 * vnom))))
  let s1 := s.wr (MTE_AC_STAT.LOSS g) loss
  let s2 := if (was = 0) != (loss = 0) then s1.ev 0x0808 (entAc g) loss (b2n (loss != 0)) else s1
  -- dip and swell
  let dip := s.rd (MTE_AC_THR.DIP_PCT g)
  let dNow := if lo * 100 < dip * vnom then true else if lo * 100 < (dip + 2) * vnom then s.flag (MTE_AC_STAT.DIP g) else false
  let sw := s.rd (MTE_AC_THR.SWELL_PCT g)
  let sNow := if sw * vnom < hi * 100 then true else if (sw - 2) * vnom < hi * 100 then s.flag (MTE_AC_STAT.SWELL g) else false
  let s3 := (s2.detector (MTE_AC_STAT.DIP g) dNow 0x0809 g lo).detector (MTE_AC_STAT.SWELL g) sNow 0x080A g hi
  -- frequency
  let x := s3.acp g
  let nom : Int := if s.flag (MTE_AC_CFG.NOM_60 g) then 60000 else 50000
  let off := decide (s.rd (MTE_AC_FTHR.F_DEV g) < ((w.f.toNat : Int) - nom).natAbs)
  let ok := if off then 0 else x.freqOk + 1
  let fNow := off || (s.flag (MTE_AC_STAT.FREQ g) && ok < 3)
  let s4 := s3.detector (MTE_AC_STAT.FREQ g) fNow 0x080B g w.f.toNat
  -- phase sequence
  let tol := s.rd (MTE_AC_THR.SEQ_TOL g) * 100
  let near (a : BitVec 16) (b : Int) : Bool := decide (angleOff a.toInt b ≤ tol)
  let old := s.rd (MTE_AC_STAT.SEQ g)
  let seq := if loss ≠ 0 then old else if near w.angV2 (-12000) && near w.angV3 12000 then 1
             else if near w.angV2 12000 && near w.angV3 (-12000) then 2 else 0
  let s5 := s4.wr (MTE_AC_STAT.SEQ g) seq
  let on := if seq = 1 then false else x.seqOn || seq ≠ old
  let s6 := if seq ≠ old && seq ≠ 1 then s5.ev 0x080C (entAc g) seq 1
            else if seq = 1 && x.seqOn then s5.ev 0x080C (entAc g) seq 0 else s5
  -- missing neutral
  let bad := (s.flag (MTE_AC_CFG.VN_FIT g) && decide (s.rd (MTE_AC_THR.MN_PCT g) * vnom < w.vn.toNat * 100)) ||
    (decide (130 * vnom < hi * 100) && decide (lo * 100 < 70 * vnom))
  let nOn := if bad then x.neuOn + 1 else 0
  let nOff := if bad then 0 else x.neuOff + 1
  let nNow := if s.flag (MTE_AC_STAT.NEUTRAL g) then nOff < 3 else 3 ≤ nOn
  (s6.setAcp g { x with freqOk := ok, neuOn := nOn, neuOff := nOff, seqOn := on }).detector (MTE_AC_STAT.NEUTRAL g) nNow 0x080D g w.vn.toNat

/-- Length of a basic window, ns: 10 cycles, or 12 at 60 Hz nominal, at the frequency measured (R217). -/
def State.basicNs (s : State) (g f : Nat) : Nat := (if s.flag (MTE_AC_CFG.NOM_60 g) then 12 else 10) * 10 ^ 12 / max 1 f

/-- A basic window ends (R217, R219): windows follow each other without a gap, so it ends its length after the last. With a channel of
the point in fault there are no samples, and the window gives no values (R216). -/
def State.acWindow (s : State) (g : Nat) (w : AcWindow) : State :=
  let s0 := match (s.acp g).winAt with | none => s | some t => s.waitTill (t + s.basicNs g w.f.toNat)
  let x := { s0.acp g with winAt := some s0.now }
  if (s0.needs (24 + g)).any (fun c => !s0.flag (MTE_CH_CFG.EN c) || (s0.mch c).cause != 0 || (s0.mch c).skip != 0) then s0.setAcp g x
  else
    let s1 := (s0.setAcp g { x with words := acWords w (nth x.words 16 0), freq := some w.f.toNat }).bumpWrap (MTE_AC_STAT.WIN g)
    s1.acDetect g w

/-! ### Checkpoints (R214) -/

/-- The winning checkpoint copy: the valid one with the higher sequence number (R214). -/
def Mte.winner (m : Mte) : Option Ckpt :=
  match m.ckptA.filter (·.valid), m.ckptB.filter (·.valid) with
  | some a, some b => if b.seq < a.seq then some a else some b
  | some a, none => some a
  | none, b => b

/-- A checkpoint goes to the copy that does not win (R214). -/
def Mte.store (m : Mte) (c : Ckpt) : Mte :=
  match m.ckptA.filter (·.valid), m.ckptB.filter (·.valid) with
  | none, _ => { m with ckptA := some c }
  | some _, none => { m with ckptB := some c }
  | some a, some b => if a.seq < b.seq then { m with ckptA := some c } else { m with ckptB := some c }

/-- The winning checkpoint copy. -/
def State.ckpt (s : State) : Option Ckpt := s.mte.winner

/-- A checkpoint is written to the copy that does not win (R214). -/
def State.writeCkpt (s : State) : State :=
  let seq := match s.ckpt with | none => 1 | some c => c.seq + 1
  let c : Ckpt := { valid := true, seq := seq, t := s.siteNs, meters := s.mte.meters.map (fun p => (p.1, { p.2 with lastAt := none, lastT := none })) }
  { s with mte := s.mte.store c }

/-- On power-up the accumulators resume from the winning copy, a KIND 3 reading is taken for each enabled entity, POWER_GAP
goes to the open spans, and MTE_POWER_GAP is logged (R214); the RSL keeps the readings (spec/10 R236). -/
def State.mteResume (s : State) (gapEnd : Nat) : State :=
  match s.ckpt with
  | none => s
  | some c =>
    let f (m : Meter) : Meter := { m with span := { m.span with gap := true }, sess := { m.sess with gap := true },
                                          imp := { m.imp with wraps := 0 }, exp := { m.exp with wraps := 0 }, lastT := none, lastAt := none, hist := [] }
    let s1 := { s with mte := { s.mte with meters := c.meters.map (fun (p : Nat × Meter) => (p.1, f p.2)) } }
    let s2 := (List.range 26).foldl (fun u e =>
      if !u.meterOn e then u
      else
        let m := u.meter e
        let r := u.reading e 3 c.t m.imp.acc m.exp.acc Span.zeroed
        let v := u.setMeter e { f m with cal := some u.mte.calId }
        { v with rsl := { v.rsl with resume := tput v.rsl.resume e (some r) } }) s1
    s2.ev 0x0807 0 c.t ((gapEnd - c.t) / 1000000)

/-! ### Calibration identity (R223) -/

/-- Offsets of the correction registers of channel c: configuration, then segments. -/
def calRegs (c : Nat) : List Nat :=
  [0x39000 + 0x10 * c, 0x39004 + 0x10 * c, 0x39008 + 0x10 * c] ++
  (List.range 16).flatMap (fun k => let b := 0x3A000 + 0x100 * c + 0x10 * k; [b, b + 4, b + 8])

/-- All of them in ascending offset order (R223). -/
def calOrder : List Nat :=
  (List.range 72).flatMap (fun c => (calRegs c).take 3) ++ (List.range 72).flatMap (fun c => (calRegs c).drop 3)

/-- KIND as R198 fixes it: a current channel of a port or an AC point (R227). -/
def kindFixed (c : Nat) : Option Bool := if c < 56 || 64 ≤ c then some (64 ≤ c || (c < 48 && c % 2 == 1)) else none

/-- A correction register as it reads (R227). -/
def State.calWord (s : State) (off : Nat) : Nat :=
  if off < 0x39480 && off % 0x10 = 0 then
    match kindFixed ((off - 0x39000) / 0x10) with
    | some k => setBit (s.reg off) 1 k
    | none => s.reg off
  else s.reg off

/-- MTE_CAL_DIGEST of the present registers (R223). -/
def State.calDigest (s : State) : Nat := crc32c (calOrder.flatMap (fun r => leBytes 4 (s.calWord r)))

/-- Leaving COMMISSION with a sealed configuration; `old` is the image sealed before (R223). -/
def State.sealCal (s : State) (old : Option (Tab (BitVec 32))) : State :=
  let d := s.calDigest
  if d = s.mte.digest then s.wr MTE_CAL_DIGEST.DIGEST d
  else
    let id := (s.mte.calId + 1) % 2 ^ 32
    let s1 := ({ s with mte := { s.mte with digest := d, calId := id } }.wr MTE_CAL_DIGEST.DIGEST d).wr MTE_CAL_ID.ID id
    let was (r : Nat) : BitVec 32 := tget regReset (old.getD []) r
    (List.range 72).foldl (fun u c =>
      if (calRegs c).all (fun r => was r == tget regReset u.regs r) then u else u.ev 0x0805 (chanEnt c) (chanArg c) id) s1

/-! ### Captures (R221, R222) -/

/-- A capture argument is in range (R222, CAPT_ARG). -/
def mcapArgOk (a : McapArg) : Bool :=
  a.reservedZero && a.a.toNat < 72 && a.b.toNat < 72 && a.kind.toNat < 4 && a.flags.toNat < 2 && 1 ≤ a.count.toNat &&
  a.count.toNat ≤ 16000000 && (a.kind.toNat == 2 || a.b.toNat == 0) &&
  (a.kind.toNat != 2 || (10 ≤ a.freq.toNat && a.freq.toNat ≤ 2000)) &&
  (a.kind.toNat != 3 || (a.a.toNat < 48 && a.a.toNat % 2 == 0) || a.a.toNat == 48 || a.a.toNat == 52)

/-- Bytes of a capture's result (R221). -/
def mcapSize (kind count : Nat) : Nat := match kind with | 0 => 4 * count | 2 => 16 | _ => 32

/-- Channel c is disabled or in fault (R222). -/
def State.chanDead (s : State) (c : Nat) : Bool := !s.flag (MTE_CH_CFG.EN c) || (s.mch c).cause ≠ 0

/-- A job starts: CAPT_CHANNEL when a channel is disabled or in fault, else it runs (R222). -/
def State.startMcap (s : State) (j : MCap) : State :=
  if (mcapChans j.kind j.a j.b).any s.chanDead then s.complete j.ring j.idx false true 0 0x0052
  else
    { s with mte := { s.mte with caps := s.mte.caps ++ [j] } }.reportStart j.ring j.idx

/-- Waiting jobs start, oldest first, while a slot is free: one that ends at once leaves its slot to the next (R222). -/
def State.startWaiting (s : State) : List MCap → State
  | [] => { s with mte := { s.mte with capWait := [] } }
  | j :: l =>
    if 8 ≤ s.mte.caps.length then { s with mte := { s.mte with capWait := j :: l } }
    else (((s.setWait j.ring false).mapFlight j.ring j.idx (fun f => { f with started := true })).startMcap j).startWaiting l

/-- A slot is free (R222). -/
def State.nextMcap (s : State) : State := s.startWaiting s.mte.capWait

/-- The capture descriptor (R221, R222). A modulator channel of a port that the grade lacks counts as an input that is present: it is judged
by its EN bit, not as an absent entity (spec/00 R4; DESIGN CHOICE, log entry 128). -/
def State.mteCapture (s : State) (d : DescRef) (a : McapArg) : State :=
  s.checkMode d (s.glb.mode != .dormant) fun s =>
    if !mcapArgOk a then s.fail d 0x0050
    else if a.len.toNat < mcapSize a.kind.toNat a.count.toNat then s.fail d 0x0051
    else
      let j : MCap := { ring := d.ring.val, idx := d.idx.toNat, a := a.a.toNat, b := a.b.toNat, kind := a.kind.toNat,
                        count := a.count.toNat, addr := a.addr.toNat, corrected := a.flags.toNat = 1, freq := a.freq.toNat, hit := false,
                        n := 0, data := [], sum := 0, sq := 0, lo := 0, hi := 0, imp := 0, exp := 0, zero := 0 }
      if s.mte.caps.length < 8 then s.startMcap j
      else { s.waitShared d with mte := { s.mte with capWait := s.mte.capWait ++ [j] } }

/-- The result of a capture over the samples taken (R221): mean and RMS truncate as every division of R202 does. Phase, delay and
amplitudes of kind 2 are what the MTE measured at the test frequency, the command's operands. -/
def MCap.result (j : MCap) (measured : List Nat) : List Nat :=
  match j.kind with
  | 0 => j.data.reverse.flatMap (fun v => leBytes 4 (enc 32 v))
  | 1 => sBytes 8 (divZ j.sum (max 1 j.n)) ++ leBytes 8 (iroot 44 2 (j.sq / max 1 j.n)) ++ sBytes 4 j.lo ++ sBytes 4 j.hi ++
      leBytes 4 j.n ++ zeros 4
  | 2 => measured
  | _ => leBytes 8 j.imp ++ leBytes 8 j.exp ++ leBytes 4 j.n ++ leBytes 4 j.zero ++ zeros 8

/-- A job ends: all samples taken, or a fault of a named channel (R222). -/
def State.endMcap (s : State) (j : MCap) (measured : List Nat) : State :=
  let s1 := { s with mte := { s.mte with caps := s.mte.caps.filter (fun x => x.ring ≠ j.ring || x.idx ≠ j.idx) } }
  ((s1.emit (.host j.addr (j.result measured))).complete j.ring j.idx j.hit j.hit j.progress (if j.hit then 0x0053 else 0)
    (leBytes 4 j.n)).nextMcap

/-- The 10-s frequency of an AC point is held (R217). -/
def State.holdFreq10 (s : State) (g f : Nat) : State :=
  let x := s.acp g
  s.setAcp g { x with words := ((x.words ++ zeros 20).take 20).set 16 f }

/-- The next boundary that has not been taken (R211). -/
def State.nextBoundary (s : State) : Nat := s.boundaryAt (s.intervalOf (s.mte.upTo.getD s.siteNs) + 1)

open Host (Outcome)

/-- METERING_SAMPLE (R199, R200, R202, R203, R205 to R208): the sample pair of a port, or 24 to 27 for a pair of auxiliary channels. Without
its modulator clock a channel has no samples. -/
def execMeteringSample (port : Fin 28) (lead : Nat) (codesV codesI : List (BitVec 24)) (s : State) : Outcome State Fault Refusal :=
  .next (if !s.up || !s.mclk (port.val / 4 + if port.val < 24 then 0 else 1) then s
    else if port.val < 24 then (if s.portOn port.val then s.portSample port.val lead codesV codesI else s)
    else s.auxSample (port.val - 24) lead codesV codesI)

/-- AC_SAMPLE (R199, R200, R206, R217, R218). -/
def execAcSample (point : Fin 2) (lead : Nat) (codesV codesI : List (List (BitVec 24))) (s : State) : Outcome State Fault Refusal :=
  .next (if s.up && s.mclk 6 && s.acOn point.val then s.acSample point.val lead codesV codesI else s)

/-- AC_WINDOW_END (R217, R219). -/
def execAcWindowEnd (point : Fin 2) (w : AcWindow) (s : State) : Outcome State Fault Refusal :=
  .next (if s.up && s.mclk 6 && s.acOn point.val then s.acWindow point.val w else s)

/-- AC_FREQ10_WINDOW: at the next whole multiple of 10 s (R217). -/
def execAcFreq10Window (point : Fin 2) (f : BitVec 24) (s : State) : Outcome State Fault Refusal :=
  .next (if s.up && s.acOn point.val then
    (s.waitSite (10000000000 * divUp s.siteNs 10000000000)).holdFreq10 point.val f.toNat else s)

/-- INTERVAL_BOUNDARY: the next boundary that has not been taken, in ascending entity index (R211, R212; spec/10 R235). -/
def execIntervalBoundary (s : State) : Outcome State Fault Refusal :=
  .next (if s.up then
    (s.mark.waitSite s.nextBoundary).closeTo (s.mark.waitSite s.nextBoundary).siteNs else s)

/-- MTE_CHECKPOINT: every PERIOD seconds at whole seconds of site time (R214). -/
def execMteCheckpoint (s : State) : Outcome State Fault Refusal :=
  .next (if s.up && s.glb.brownAt.isNone then
    let per := 1000000000 * max 1 (s.rd MTE_CKPT.PERIOD)
    let last := match s.ckpt with | none => 0 | some c => 1000000000 * (c.t / 1000000000)
    let t := max (last + per) (1000000000 * divUp s.siteNs 1000000000)
    (s.waitSite t).writeCkpt else s)

/-- MODULATOR_STUCK (R199, R216): 256 clocks without a transition; a stopped clock counts none. -/
def execModulatorStuck (chan : Fin 72) (s : State) : Outcome State Fault Refusal :=
  .next (if s.up && s.mclk (clockOf chan.val) then s.chanFault1 chan.val 1 else s)

/-- SINC3_OVERFLOW (R199, R216). -/
def execSinc3Overflow (chan : Fin 72) (s : State) : Outcome State Fault Refusal :=
  .next (if s.up && s.mclk (clockOf chan.val) then s.chanFault1 chan.val 2 else s)

/-- MODULATOR_RESTORED, for causes 1 and 2 (R216): not before 1 ms after the last detection. -/
def execModulatorRestored (chan : Fin 72) (s : State) : Outcome State Fault Refusal :=
  let x := s.mch chan.val
  .next (if s.up && x.cause % 4 ≠ 0 then (s.waitTill (x.since + 1000000)).chanBack chan.val 3 else s)

/-- MTE_OVERRANGE (R216): 16 values at full scale have come, or full scale is left. -/
def execMteOverrange (chan : Fin 72) (full : Bool) (s : State) : Outcome State Fault Refusal :=
  .next (if s.up && s.flag (MTE_CH_CFG.EN chan.val) then s.overrange chan.val full else s)

/-- ROLL_LATCH_READ (R209, R210). -/
def execRollLatchRead (entity : Fin 26) (s : State) : Outcome State Fault Refusal := .next (if s.up then s.rollLatch entity.val else s)

/-- AC_STAT_LATCH_READ (R226). -/
def execAcStatLatchRead (point : Fin 2) (s : State) : Outcome State Fault Refusal := .next (if s.up then s.acLatch point.val else s)

/-- MTE_CAPTURE (R221, R222). -/
def execMteCapture (d : DescRef) (a : McapArg) (s : State) : Outcome State Fault Refusal :=
  .next (s.run d 0x0801 fun s => s.mteCapture d a)

/-- MTE_CAPTURE_COMPLETE (R222): a job that still counts samples, and has met no fault, goes on. `shift` is the phase of B against A
below the delay, `amps` the amplitude of A below that of B, as kind 2 has measured them (R221). -/
def execMteCaptureComplete (d : DescRef) (shift amps : BitVec 64) (s : State) : Outcome State Fault Refusal :=
  .next (if !s.up then s else match s.mte.caps.find? (fun j => j.ring = d.ring.val && j.idx = d.idx.toNat) with
    | none => s
    | some j => if j.count ≤ j.n || j.hit then s.endMcap j (leBytes 8 shift.toNat ++ leBytes 8 amps.toNat) else s)

end Sys2Proof.Machine
end

