-- ==== Sys2Proof/Machine/Records.lean ====
section
/-!
DEFINITION. The Record Sealer and the Key Vault (spec/10_records_and_keys.md). Key operations take no model time (log
entry 28).
-/
namespace Sys2Proof.Machine

/-! ### Keys (R246, R247, R249) -/

/-- A byte string of exactly `k` bytes. -/
def fixBytes (k : Nat) (l : List Nat) : List Nat := ((l ++ zeros k).take k).map (· % 256)

/-- The private key a root gives for a label and a context (R247). -/
def deriveKey (root : List Nat) (label : String) (context : List Nat) : Nat :=
  let k (i : Nat) : List Nat :=
    fixBytes 32 (hmac root (beBytes 4 i ++ label.toList.map Char.toNat ++ [0] ++ context ++ beBytes 4 384))
  ofBe ((k 1 ++ k 2).take 48) % (p256n - 1) + 1

/-- The identity key (R247). -/
def State.idKey (s : State) : Nat := deriveKey (Config.root (s.kvt.helper.getD 0)) "ZP-IDENTITY" []

/-- The meter key of a generation under a measurement (R247). -/
def State.meterKey (s : State) (gen : Nat) (meas : List Nat) : Nat :=
  deriveKey (Config.root (s.kvt.helper.getD 0)) "FJARPIN-METER" (beBytes 2 gen ++ fixBytes 48 meas)

/-- Low 32 bits of a measurement (R249): its bytes 0 to 3 (log entry 29). -/
def measTag (meas : List Nat) : Nat := ofLe ((fixBytes 48 meas).take 4)

/-- The valid pointer slot with the higher SEQ (R249). -/
def State.pointer (s : State) : Option KeySlot :=
  match s.kvt.slotA.filter (·.valid), s.kvt.slotB.filter (·.valid) with
  | some a, some b => if a.seq < b.seq then some b else some a
  | some a, none => some a
  | none, b => b

/-- Current meter key generation, 0 before the first. -/
def State.keyGen (s : State) : Nat := match s.pointer with | none => 0 | some p => p.gen

/-- KVT registers follow the vault (R255). -/
def State.showKvt (s : State) : State :=
  let k := s.kvt
  let h := if k.rootOk then fixBytes 32 (sha256 (pub64 s.idKey)) else zeros 32
  let s1 := (s.setReg 0x40100 (b2n k.rootOk + 2 * b2n k.helper.isSome + 4 * b2n k.key.isSome + 8 * b2n k.pend.isSome +
    16 * b2n k.unbound + 256 * k.tries + 65536 * s.keyGen)).setReg 0x40104 (match k.pend with | none => 0 | some p => p.gen)
  let s2 := (List.range 12).foldl (fun u i => u.wr (KVT_MEAS.MEAS i) (field (fixBytes 48 k.meas) (4 * i) 4)) s1
  (List.range 8).foldl (fun u i => u.wr (KVT_ID_HASH.HASH i) (field h (4 * i) 4)) s2

/-- Replaces the vault. -/
def State.setKvt (s : State) (k : Kvt) : State := ({ s with kvt := k }).showKvt

/-- The pointer slot that step 5 of R250 writes: the next SEQ, a generation and the tag of a measurement. -/
def State.nextSlot (s : State) (gen : Nat) (meas : List Nat) : KeySlot :=
  { valid := true, seq := (match s.pointer with | none => 1 | some p => p.seq + 1) % 2 ^ 32, gen := gen % 2 ^ 16, tag := measTag meas }

/-- The slot written first, the one that does not give the key (R250, step 5): 0 or 1. -/
def State.firstSlot (s : State) : Nat := if s.pointer.isSome && s.pointer == s.kvt.slotA then 1 else 0

/-- Pointer slot i is written. -/
def Kvt.setSlot (k : Kvt) (i : Nat) (x : Option KeySlot) : Kvt := if i = 0 then { k with slotA := x } else { k with slotB := x }

/-- A pointer slot whose write the power loss cut short. -/
def tornSlot : KeySlot := { valid := false, seq := 0, gen := 0, tag := 0 }

/-- Step 5 of R250: the slot with the lower SEQ, then the other take the same value; the new key is loaded. -/
def State.flipKey (s : State) (gen : Nat) (meas : List Nat) : State :=
  let p := s.nextSlot gen meas
  let s1 := { s with kvt := { s.kvt with slotA := some p, slotB := some p } }
  s1.setKvt { s1.kvt with key := some (s1.meterKey gen meas), unbound := false }

/-! ### Records (R232 to R235) -/

/-- Bytes 0x00–0xBF of a record (R232). -/
def Rec.signed (r : Rec) : List Nat :=
  leBytes 2 r.type ++ [1, r.flags % 256] ++ leBytes 2 (meterEnt r.e) ++ leBytes 2 r.gen ++ leBytes 4 r.seq ++ leBytes 4 r.claim ++
  leBytes 4 r.calId ++ leBytes 4 Config.serial ++ leBytes 8 r.tStart ++ leBytes 8 r.tEnd ++ leBytes 8 r.openImp ++
  leBytes 8 r.openExp ++ leBytes 8 r.closeImp ++ leBytes 8 r.closeExp ++ leBytes 4 r.rev ++ leBytes 4 r.samples ++
  leBytes 4 r.zero ++ leBytes 4 r.missing ++ fixBytes 64 r.body ++ fixBytes 32 r.prevHash ++ leBytes 8 r.tSeal

/-- The 256 bytes of a record (R232). -/
def Rec.bytes (r : Rec) : List Nat := r.signed ++ fixBytes 64 r.sig

/-- HASH of a record (R233). -/
def Rec.hash (r : Rec) : List Nat := fixBytes 32 (sha256 r.signed)

/-- Chain head of an entity (R243). -/
def State.head (s : State) (e : Nat) : Option ChainHead := tget (fun _ => none) s.rsl.heads e
def State.setHead (s : State) (e : Nat) (h : Option ChainHead) : State :=
  { s with rsl := { s.rsl with heads := tset (fun _ => none) s.rsl.heads e h } }

/-- Slots in use, and free slots, of the 61,440 (R245). -/
def State.jUsed (s : State) : Nat := s.rsl.next - s.rsl.ack
def State.jFree (s : State) : Nat := 61440 - s.jUsed

/-- RSL_JRNL_STAT and the journal positions follow the journal; WARN and LOW log their onset (R245). -/
def State.showJrnl (s : State) : State :=
  let warn := decide (61440 * s.rd RSL_JRNL_CFG.WARN_PCT ≤ s.jUsed * 100)
  let lo := decide (s.jFree < s.rd RSL_JRNL_CFG.RESERVE)
  let s1 := if warn && !s.flag RSL_JRNL_STAT.WARN then s.ev 0x0901 0 s.jUsed s.rsl.ack else s
  let s2 := if lo && !s.flag RSL_JRNL_STAT.LOW then s1.ev 0x0902 0 s.jUsed (s.rd RSL_JRNL_CFG.RESERVE) else s1
  (((((((s2.wr RSL_JRNL_STAT.USED s.jUsed).wr RSL_JRNL_STAT.WARN (b2n warn)).wr RSL_JRNL_STAT.LOW (b2n lo)).wr
    RSL_JRNL_STAT.WAITING s.rsl.waiting.length).wr64 RSL_JPOS_NEXT_LO.POS RSL_JPOS_NEXT_HI.POS s.rsl.next).wr64
    RSL_JPOS_ACK_LO.POS RSL_JPOS_ACK_HI.POS s.rsl.ack).wr64 RSL_JPOS_EXP_LO.POS RSL_JPOS_EXP_HI.POS s.rsl.exported)

/-- A record that closes at L_e (R230). -/
def Rec.closing (r : Rec) : Bool := r.type == 0x0100 || r.type == 0x0101 || r.type == 0x0103

/-- The chain head once record r stands at journal position j; `closing` says that it becomes L_e (R230, R243). -/
def headAfter (h : Option ChainHead) (r : Rec) (j : Nat) (closing : Bool) : ChainHead :=
  let old : ChainHead := h.getD { seq := 0, j := 0, hash := [], calId := r.calId, tEnd := r.tEnd, imp := r.closeImp, exp := r.closeExp }
  { seq := r.seq, j := j, hash := r.hash, calId := if closing then r.calId else old.calId,
    tEnd := if closing then r.tEnd else old.tEnd, imp := if closing then r.closeImp else old.imp,
    exp := if closing then r.closeExp else old.exp }

/-- Steps 2 to 6 of R235 for a record filled in so far: PREV_HASH, signature and T_SEAL, journal slot, chain head,
RSL_JPOS_NEXT. `closing` says that it becomes L_e (R230). -/
def State.journal (s : State) (r0 : Rec) (key : Nat) (closing : Bool) : State :=
  let h := s.head r0.e
  let r1 := { r0 with seq := match h with | none => 0 | some x => x.seq + 1,
                      prevHash := match h with | none => zeros 32 | some x => x.hash, claim := s.claim, tSeal := s.siteNs }
  let r := { r1 with sig := fixBytes 64 (ecSign key r1.signed (Config.freeNat s.free)) }
  let j := s.rsl.next
  let s1 := { s with free := s.free + 1, rsl := { s.rsl with journal := ((j, r) :: s.rsl.journal).take 61440, next := j + 1 } }
  (s1.setHead r.e (some (headAfter h r j closing))).showJrnl

/-- A KEY_ROLL record of a chain: L_e as OPEN and CLOSE, a zero span, the announced key (R229, R230, R250). -/
def State.rollRecord (s : State) (e gen key : Nat) (body : List Nat) (unlinked : Bool) : State :=
  match s.head e with
  | none => s
  | some h =>
    let r : Rec :=
      { type := 0x0104, flags := if unlinked then 0x80 else 0, e := e, gen := gen, seq := 0, claim := 0, calId := h.calId,
        tStart := h.tEnd, tEnd := h.tEnd, openImp := h.imp, openExp := h.exp, closeImp := h.imp, closeExp := h.exp, rev := 0,
        samples := 0, zero := 0, missing := 0, body := body, prevHash := [], tSeal := 0, sig := [] }
    s.journal r key false

/-- The chains in ascending entity index. -/
def State.chains (s : State) : List Nat := (List.range 26).filter (fun e => (s.head e).isSome)

/-- Entity e's chain waits for its TAKEOVER record, which must follow the adopted head at once (R239). -/
def State.takesOver (s : State) (e : Nat) : Bool := (tget (fun _ => none) s.rsl.takeover e : Option Takeover).isSome

/-- Slots that the next record of a chain takes: one more where a KEY_ROLL with UNLINKED goes before it (R252). -/
def State.slotsFor (s : State) (e : Nat) : Nat := 1 + b2n (s.rsl.unlinked.contains e)

/-- A record of chain e can be journaled: slots are free (R245), the chain has a head, and no TAKEOVER record is due first (R239). -/
def State.canWrite (s : State) (e : Nat) : Bool := s.slotsFor e ≤ s.jFree && (s.head e).isSome && !s.takesOver e

/-- The power fails: nothing more is written until the reset (R236, R251). -/
def State.cutOff (s : State) : State := { s with rsl := { s.rsl with cut := true } }

/-- A chain whose first record after a forced ENROL must be an UNLINKED KEY_ROLL (R252). -/
def State.payUnlinked (s : State) (e key : Nat) : State :=
  if s.rsl.unlinked.contains e then
    let s1 := s.rollRecord e s.keyGen key (pub64 key) true
    { s1 with rsl := { s1.rsl with unlinked := s1.rsl.unlinked.filter (fun x => x ≠ e) } }
  else s

/-- Intervals between L_e and the boundary, less the one it closes (R231). -/
def State.skippedTo (s : State) (h : ChainHead) (r : Reading) : Nat := divUp (r.tBound - h.tEnd) (max 1 s.intNs) - 1

/-- GENESIS at the first KIND 0 boundary of an entity without a chain head (R229). -/
def State.genesis (s : State) (r : Reading) (key : Nat) : State :=
  let x : Rec :=
    { type := 0x0100, flags := 0, e := r.e, gen := s.keyGen, seq := 0, claim := 0, calId := r.calId, tStart := r.tBound,
      tEnd := r.tBound, openImp := r.imp, openExp := r.exp, closeImp := r.imp, closeExp := r.exp, rev := 0, samples := 0,
      zero := 0, missing := 0, body := pub64 key, prevHash := [], tSeal := 0, sig := [] }
  (s.journal x key true).setMerge r.e Merge.none

/-- The TAKEOVER record (R239): its counts are those of the retained readings after its start and of this boundary. -/
def State.takeoverRecord (s : State) (t : Takeover) (r : Reading) (key : Nat) : State :=
  let l := r :: (tget (fun _ => []) s.rsl.kept r.e).filter (fun (x : Reading) => decide (t.tStart < x.tBound) && decide (x.tBound < r.tBound))
  let sum (f : Reading → Nat) : Nat := min (2 ^ 32 - 1) (sumN (l.map f))
  let fl := l.foldl (fun a x => a ||| x.flags % 16) 0
  let x : Rec :=
    { type := 0x0103, flags := fl + 64 * b2n t.unmetered, e := r.e, gen := s.keyGen, seq := 0, claim := 0, calId := r.calId,
      tStart := t.tStart, tEnd := r.tBound, openImp := t.imp, openExp := t.exp, closeImp := r.imp, closeExp := r.exp,
      rev := sum (·.rev), samples := sum (·.samples), zero := sum (·.zero), missing := sum (·.missing),
      body := leBytes 4 t.failedClaim ++ leBytes 4 t.failedSerial ++ leBytes 2 t.failedGen ++ [0, 0] ++ leBytes 4 t.acceptedSeq ++
        leBytes 8 t.tPromote,
      prevHash := [], tSeal := 0, sig := [] }
  let s1 := ((s.journal x key true).setMerge r.e Merge.none).ev 0x0906 (meterEnt r.e) t.acceptedSeq (b2n t.unmetered)
  { s1 with rsl := { s1.rsl with takeover := tset (fun _ => none) s1.rsl.takeover r.e none, kept := tdel s1.rsl.kept r.e } }

/-- The INTERVAL record of a reading over its chain head, before its journaling (R229 to R231, R236). -/
def State.intervalRec (s : State) (h : ChainHead) (r : Reading) (session : Nat) : Rec :=
  let m := s.merge r.e
  let n := s.skippedTo h r
  let back := tget (fun _ => none) s.rsl.resume r.e
  let op (v : Nat) (f : Reading → Nat) : Nat := match back with | none => v | some q => min v (f q)
  { type := 0x0101, flags := (r.flags % 16 ||| m.flags % 16 ||| (if back.isSome then 4 else 0)) + 16 * b2n (n ≠ 0), e := r.e,
    gen := s.keyGen, seq := 0, claim := 0, calId := r.calId, tStart := h.tEnd, tEnd := r.tBound, openImp := op h.imp (·.imp),
    openExp := op h.exp (·.exp), closeImp := r.imp, closeExp := r.exp, rev := satAdd 32 m.rev r.rev,
    samples := satAdd 32 m.samples r.samples, zero := satAdd 32 m.zero r.zero, missing := satAdd 32 m.missing r.missing,
    body := leBytes 4 (enc 32 (s.intervalOf r.tBound - 1)) ++ leBytes 2 (min 65535 n) ++ [0, 0] ++ leBytes 4 session, prevHash := [],
    tSeal := 0, sig := [] }

/-- An INTERVAL record is journaled; with intervals skipped before it the skip is logged (R231, R245). -/
def State.intervalRecord (s : State) (h : ChainHead) (r : Reading) (session key : Nat) : State :=
  let n := s.skippedTo h r
  let s1 := (s.journal (s.intervalRec h r session) key true).setMerge r.e Merge.none
  let s2 := { s1 with rsl := { s1.rsl with resume := tset (fun _ => none) s1.rsl.resume r.e none } }.wr RSL_JRNL_STAT.FULL 0
  if n = 0 then s2 else s2.ev 0x0904 (meterEnt r.e) (h.seq + 1) n

/-- The record of a KIND 0 boundary (R229, R231, R239, R245). -/
def State.buildInterval (s : State) (r : Reading) (session key : Nat) : State :=
  match s.head r.e with
  | none => if s.jFree = 0 then s.setMerge r.e ((s.merge r.e).skip r) else s.genesis r key
  | some _ =>
    let s0 := if s.canWrite r.e then s.payUnlinked r.e key else s
    match s0.head r.e, tget (fun _ => none) s0.rsl.takeover r.e with
    | some _, some t =>
      if t.tPromote ≤ r.tBound && s0.jFree ≠ 0 then s0.takeoverRecord t r key else s0.setMerge r.e ((s0.merge r.e).skip r)
    | some h, none =>
      if s0.jFree < s.rd RSL_JRNL_CFG.RESERVE / 2 then
        let s1 := s0.setMerge r.e ((s0.merge r.e).skip r)
        (if s1.flag RSL_JRNL_STAT.FULL then s1 else s1.ev 0x0903 0 s1.jUsed s1.rsl.ack).wr RSL_JRNL_STAT.FULL 1
      else s0.intervalRecord h r session key
    | none, _ => s0

/-- The SESSION record (R229, R230, R236, R240); the open-session slot clears at step 6 (R243). -/
def State.sessionRecord (s : State) (r : Reading) (o : OpenSess) (reason : Nat) (taken : Option TakenSess) (gap : Bool) (key : Nat) :
    State :=
  let s0 := s.payUnlinked r.e key
  let (oi, oe) := match taken with | none => (o.reading.imp, o.reading.exp) | some t => (t.imp, t.exp)
  let (pi, pe, pv) := match taken with | none => (0, 0, false) | some t => (t.preImp, t.preExp, t.preValid)
  let x : Rec :=
    { type := 0x0102, flags := (r.flags % 16 ||| (if gap then 4 else 0)) + 32 * b2n taken.isSome, e := r.e, gen := s.keyGen,
      seq := 0, claim := 0, calId := r.calId, tStart := o.reading.tBound, tEnd := r.tBound, openImp := oi, openExp := oe,
      closeImp := r.imp, closeExp := r.exp, rev := r.rev, samples := r.samples, zero := r.zero, missing := r.missing,
      body := leBytes 4 o.id ++ fixBytes 6 o.evcc ++ [reason % 256, b2n pv] ++ fixBytes 32 o.contract ++ leBytes 8 pi ++ leBytes 8 pe,
      prevHash := [], tSeal := 0, sig := [] }
  let s1 := s0.journal x key false
  { s1 with rsl := { s1.rsl with opens := tset (fun _ => none) s1.rsl.opens r.e none } }

/-- Work whose record can be built now but for free slots: a SESSION record follows the GENESIS or TAKEOVER record of its chain. -/
def State.workReady (s : State) (w : Work) : Bool :=
  match w with | .session r _ _ _ _ => (s.head r.e).isSome && !s.takesOver r.e | .interval _ _ => true

/-- A waiting SESSION record can be written. -/
def State.canSession (s : State) (w : Work) : Bool :=
  match w with | .session r _ _ _ _ => s.canWrite r.e | .interval _ _ => false

/-- Step 4 of R250 for the chains still without their KEY_ROLL record, signed with the present key; a chain waits while it can
take no record. -/
def State.announce (s : State) (p : PendKey) (key : Nat) : State :=
  s.kvt.rolls.foldl (fun u e =>
    if u.canWrite e then
      let v := (u.payUnlinked e key).rollRecord e u.keyGen key p.pub false
      { v with kvt := { v.kvt with rolls := v.kvt.rolls.filter (fun x => x ≠ e) } }
    else u) s

/-- The KEY_ROLL descriptor completes (R250). -/
def State.rollDone (s : State) : State :=
  match s.kvt.rollDesc with
  | none => s
  | some d => ({ s with kvt := { s.kvt with rollDesc := none } }).done d

/-- Step 5 of R250 when the target is MEAS, up to where the power may fail (R251); else the flip waits for a later boot. -/
def State.rollEnd (s : State) (p : PendKey) (cut : Option RollCut) : State :=
  if p.target == fixBytes 48 s.kvt.meas then
    match cut with
    | some .first => (s.setKvt (s.kvt.setSlot s.firstSlot (some tornSlot))).cutOff
    | some .second =>
      (s.setKvt ((s.kvt.setSlot s.firstSlot (some (s.nextSlot p.gen p.target))).setSlot (1 - s.firstSlot) (some tornSlot))).cutOff
    | _ =>
      let s1 := s.flipKey p.gen p.target
      ((s1.setKvt { s1.kvt with pend := none }).ev 0x0A04 0 s.keyGen p.gen).rollDone
  else s.rollDone

/-- Steps 4 and 5 of R250 as far as they can go: KEY_ROLL records are built in ACTIVE, LIMP and HALT only (R229), so elsewhere step 4
and the descriptor wait (DEDUCED, log entry 129). -/
def State.rollOn (s : State) (cut : Option RollCut) : State :=
  match s.kvt.pend, s.kvt.key with
  | some p, some key =>
    let s1 := if s.sealing && !s.rsl.cut then s.announce p key else s
    if s1.kvt.rolls.isEmpty && !s1.rsl.cut then s1.rollEnd p cut else s1
  | _, _ => s

/-- The next record (R235): a waiting SESSION record as soon as a slot is free (R245), else the oldest reading whose record can be
built. -/
def State.buildNext (s : State) (key : Nat) : State :=
  match s.rsl.waiting.find? s.canSession with
  | some (.session r o a t g) =>
    let s1 := { s with rsl := { s.rsl with waiting := s.rsl.waiting.erase (Work.session r o a t g) } }
    s1.sessionRecord r o a t g key
  | _ =>
    match s.rsl.work.find? s.workReady with
    | none => s
    | some (.interval r i) => { s with rsl := { s.rsl with work := s.rsl.work.erase (.interval r i) } }.buildInterval r i key
    | some (.session r o a t g) =>
      let s1 := { s with rsl := { s.rsl with work := s.rsl.work.erase (.session r o a t g) } }
      if s1.canWrite r.e then s1.sessionRecord r o a t g key
      else ({ s1 with rsl := { s1.rsl with waiting := (s1.rsl.waiting ++ [Work.session r o a t g]).take 24 } }).showJrnl

/-- RECORD_BUILD's work: KEY_ROLL records still due go first (R248, R250), then the next record. -/
def State.buildRecord (s : State) : State :=
  match s.kvt.key with
  | none => s
  | some key =>
    if !s.sealing || s.glb.brownAt.isSome || s.rsl.cut then s
    else if s.kvt.rolls.isEmpty then s.buildNext key
    else s.rollOn none

/-- The power fails while the next record is built: what stands in MRAM is the slot, torn or whole, and with it the chain head
when step 5 was done; RSL_JPOS_NEXT has not moved (R235, R236). -/
def State.buildCut (s : State) (c : BuildCut) : State :=
  match (s.buildRecord).rsl.journal.find? (fun p => p.1 = s.rsl.next) with
  | none => s.cutOff
  | some (_, r) =>
    let s1 := ({ s with rsl := { s.rsl with tail := some (c != BuildCut.torn, r) } }).cutOff
    if c == BuildCut.head then s1.setHead r.e (some (headAfter (s.head r.e) r s.rsl.next r.closing)) else s1

/-- A session starts on port p: KIND 1 reading, and its open-session slot (R213, R243). -/
def State.openSession (s : State) (p id : Nat) (evcc contract : List Nat) : State :=
  let (s1, r) := s.sessionReading p 1
  let o : OpenSess := { reading := r, id := id, evcc := fixBytes 6 evcc, contract := fixBytes 32 contract }
  { s1 with rsl := { s1.rsl with opens := tset (fun _ => none) s1.rsl.opens p (some o) } }

/-- A session ends on port p with a reason: KIND 2 reading, and the work for its record (R213, R229). -/
def State.closeSession (s : State) (p reason : Nat) : State :=
  match s.openSess p with
  | none => s
  | some o =>
    let (s1, r) := s.sessionReading p 2
    let t := tget (fun _ => none) s1.rsl.taken p
    { s1 with rsl := { s1.rsl with work := s1.rsl.work ++ [.session r o reason t false],
                                   taken := tset (fun _ => none) s1.rsl.taken p none } }

/-! ### Power gap and takeover (R236, R239, R240) -/

/-- The record in the slot at RSL_JPOS_NEXT verifies under the loaded key and links to the chain head of its entity, or is what the
head already names (R236, rule 1; log entry 30). -/
def State.tailGood (s : State) (r : Rec) : Bool :=
  (match s.kvt.key with | none => false | some k => r.gen == s.keyGen && ecVerify (pub64 k) r.signed r.sig) &&
  (match s.head r.e with
   | none => r.seq == 0 && r.prevHash == zeros 32
   | some h => (r.seq == h.seq + 1 && r.prevHash == h.hash) || (h.j == s.rsl.next && h.hash == r.hash))

/-- A record found whole in the slot at RSL_JPOS_NEXT is adopted: journal, chain head, RSL_JPOS_NEXT; a SESSION record clears the
open-session slot, since step 6 is then reached (R236, R243). -/
def State.adoptTail (s : State) (r : Rec) : State :=
  let j := s.rsl.next
  let h := headAfter (s.head r.e) r j r.closing
  let s1 := ({ s with rsl := { s.rsl with journal := ((j, r) :: s.rsl.journal).take 61440, next := j + 1 } }).setHead r.e (some h)
  let s2 := if r.type = 0x0102 then { s1 with rsl := { s1.rsl with opens := tset (fun _ => none) s1.rsl.opens r.e none } } else s1
  s2.ev 0x0907 (meterEnt r.e) r.seq j

/-- Rule 1 of R236: the slot at RSL_JPOS_NEXT is adopted, or is free and logged. -/
def State.recoverSlot (s : State) : State :=
  let s1 := { s with rsl := { s.rsl with tail := none } }
  match s.rsl.tail with
  | some (true, r) => if s.tailGood r then s1.adoptTail r else s1.ev 0x0905 0 s1.rsl.next 0
  | _ => s1.ev 0x0905 0 s1.rsl.next 0

/-- After a power gap (R236): the slot at RSL_JPOS_NEXT, then open sessions are recorded from the KIND 3 readings; RSL_JPOS_EXP
starts again at RSL_JPOS_ACK (log entry 30). -/
def State.rslRecover (s : State) : State :=
  let s0 := { s with rsl := { s.rsl with exported := s.rsl.ack } }
  let s1 := if s0.ckpt.isSome then s0.recoverSlot else s0
  let w := (List.range 24).filterMap (fun p =>
    match s1.openSess p, tget (fun _ => none) s1.rsl.resume p with
    | some o, some (q : Reading) => some (Work.session q o 4 none true)
    | _, _ => none)
  ({ s1 with rsl := { s1.rsl with work := w ++ s1.rsl.work } }).showJrnl

/-- A head entry that fails its CRC-32 at boot is rebuilt by scanning the record area: the newest record of the chain, and the newest
that closes at L_e (R243). -/
def State.rebuildHead (s : State) (e : Nat) : State :=
  let l := s.rsl.journal.filter (fun p => p.2.e = e)
  let s1 := ({ s with rsl := { s.rsl with opens := tset (fun _ => none) s.rsl.opens e none } }).setHead e none
  match l with
  | [] => s1
  | (j, r) :: _ =>
    let h := headAfter none r j true
    let h1 : ChainHead := match l.find? (fun p => p.2.closing) with
      | none => h
      | some (_, q) => { h with calId := q.calId, tEnd := q.tEnd, imp := q.closeImp, exp := q.closeExp }
    (s1.setHead e (some h1)).ev 0x0907 (meterEnt e) r.seq j

/-- Where entity e would open after a takeover whose accepted span ends at `from`: the retained reading at that instant, else the oldest
one, else the present (R239): instant, accumulators, whether metering has a gap. -/
def State.retained (s : State) (e : Nat) (tEnd : Option Nat) : Nat × Nat × Nat × Bool :=
  let l : List Reading := tget (fun _ => []) s.rsl.kept e
  let m := s.meter e
  match l.find? (fun r => some r.tBound = tEnd) with
  | some r => (r.tBound, r.imp, r.exp, false)
  | none => match l.getLast? with
    | some r => (r.tBound, r.imp, r.exp, true)
    | none => (s.siteNs, m.imp.acc, m.exp.acc, true)

/-- What opens the SESSION record of the session open on port p at promotion (R240); without an adopted chain head only the unit's own
readings can open it (log entry 57). -/
def State.takenSess (s : State) (p : Nat) (o : OpenSess) : TakenSess :=
  let (t0, i, x, _) := s.retained p ((s.head p).map (·.tEnd))
  match s.head p, (tget (fun _ => none) s.rsl.kept1 p : Option Reading) with
  | some h, own =>
    if o.reading.tBound < t0 then
      { preValid := true, preImp := h.imp - o.reading.imp, preExp := h.exp - o.reading.exp, imp := i, exp := x }
    else match own with
      | some r => { preValid := false, preImp := 0, preExp := 0, imp := r.imp, exp := r.exp }
      | none => { preValid := false, preImp := 0, preExp := 0, imp := i, exp := x }
  | none, some r => { preValid := false, preImp := 0, preExp := 0, imp := r.imp, exp := r.exp }
  | none, none => { preValid := false, preImp := 0, preExp := 0, imp := i, exp := x }

/-- Promotion: what each chain will be taken over with, and each open session (R239, R240). -/
def State.startTakeover (s : State) (claim serial gen : Nat) : State :=
  let s1 := ((List.range 24).filter s.meterOn).foldl (fun u p =>
    match u.openSess p with
    | none => u
    | some o => { u with rsl := { u.rsl with taken := tput u.rsl.taken p (some (s.takenSess p o)) } }) s
  ((List.range 26).filter s.meterOn).foldl (fun u e =>
    match u.head e with
    | none => u
    | some h =>
      let (t0, i, x, gap) := s.retained e (some h.tEnd)
      let t : Takeover := { tPromote := s.siteNs, failedClaim := claim, failedSerial := serial, failedGen := gen,
                            acceptedSeq := h.seq, tStart := t0, imp := i, exp := x, unmetered := gap }
      { u with rsl := { u.rsl with takeover := tput u.rsl.takeover e (some t) } }) s1

/-! ### Boot of the vault (R246, R249, R251, R252) -/

/-- The key the pointer gives is loaded when its tag matches MEAS; else UNBOUND (R249, R252). -/
def State.loadSlot (s : State) : State :=
  let k := s.kvt
  match s.pointer with
  | some p =>
    if p.tag = measTag k.meas then s.setKvt { k with key := some (s.meterKey p.gen k.meas), unbound := false }
    else (s.setKvt { k with key := none, unbound := true }).ev 0x0A06 0 p.tag (measTag k.meas)
  | none => (s.setKvt { k with key := none, unbound := true }).ev 0x0A06 0 0 (measTag k.meas)

/-- Step 5 at boot for a pending key whose target is MEAS (R250, R251): with the first slot written before the power failed the second
is rewritten; a torn slot is written anew, which KVT_POINTER_REPAIR logs. -/
def State.flipAtBoot (s : State) (p : PendKey) : State :=
  let k := s.kvt
  let done := match s.pointer with | some x => x.gen == p.gen && x.tag == measTag k.meas | none => false
  if done then
    let s1 := { s with kvt := { k with slotA := s.pointer, slotB := s.pointer, pend := none, rolls := [] } }
    (s1.loadSlot).ev 0x0A04 0 (p.gen - 1) p.gen
  else
    let torn := (List.range 2).filter (fun i => match (if i = 0 then k.slotA else k.slotB) with | some x => !x.valid | none => false)
    let s1 := s.flipKey p.gen k.meas
    let s2 := s1.setKvt { s1.kvt with pend := none, rolls := [] }
    (torn.foldl (fun u i => u.ev 0x0A07 0 i p.gen) s2).ev 0x0A04 0 s.keyGen p.gen

/-- The pointer at boot (R249 to R252): a pending key whose target is MEAS flips now, but for one whose chains still lack KEY_ROLL
records while the old key can be loaded to sign them. -/
def State.loadPointer (s : State) : State :=
  match s.kvt.pend with
  | none => s.loadSlot
  | some p =>
    let old := match s.pointer with | some x => x.gen != p.gen && x.tag == measTag s.kvt.meas | none => false
    if p.target == fixBytes 48 s.kvt.meas && !(old && !s.kvt.rolls.isEmpty) then s.flipAtBoot p else s.loadSlot

/-- The chains without a KEY_ROLL record that announces the pending key (R251). -/
def State.unannounced (s : State) : List Nat :=
  match s.kvt.pend with
  | none => []
  | some p => s.chains.filter (fun e => !s.rsl.journal.any (fun x => x.2.e == e && x.2.type == 0x0104 && x.2.body == p.pub))

/-- Root regeneration at a start (R246): `tries` attempts were needed, 5 when the fourth failed too, with `bits`
uncorrectable bits. Without helper data there is no root. -/
def State.bootRoot (s : State) (tries bits : Nat) (meas : List Nat) : State :=
  let s1 := { s with kvt := { s.kvt with meas := fixBytes 48 meas, key := none, rootOk := false, unbound := false,
                                         rolls := s.unannounced, tries := max 1 (min 4 tries) } }
  if s.kvt.helper.isNone then s1.showKvt
  else if 4 < tries then (s1.showKvt).ev 0x0A01 0 4 bits
  else (s1.setKvt { s1.kvt with rootOk := true }).loadPointer

/-! ### MRAM (R241 to R243) -/

/-- Offset and size of each part of the MRAM layout (R241); record slots follow from 0x10_0000. -/
def MramPart.place : MramPart → Nat × Nat
  | .header b => (0x0 + 0x800 * b2n b, 0x800)
  | .helper b => (0x1000 + 0x400 * b2n b, 0x400)
  | .slot b => (0x1800 + 0x10 * b2n b, 0x10)
  | .pend => (0x1900, 0x100)
  | .head e => (0x2000 + 0x100 * e.val, 0x100)
  | .ckpt b => (0x4000 + 0x2000 * b2n b, 0x2000)
  | .config b => (0x8000 + 0x40000 * b2n b, 0x40000)

/-- The record slot of a journal position (R241). -/
def slotOffset (j : Nat) : Nat := 0x100000 + 256 * (j % 61440)

/-- A part of the MRAM fails its CRC-32: a copy is not valid any more, a pending block is none, a chain head is rebuilt (R241, R243,
R251). -/
def State.spoil (s : State) (p : MramPart) : State :=
  let bad (x : KeySlot) : KeySlot := { x with valid := false }
  let badC (x : Ckpt) : Ckpt := { x with valid := false }
  match p with
  | .header b => { s with rsl := { s.rsl with hdr := s.rsl.hdr.spoil b } }
  | .helper b => { s with kvt := { s.kvt with helpers := s.kvt.helpers.spoil b } }
  | .config b => { s with glb := { s.glb with images := s.glb.images.spoil b } }
  | .slot b => if b then { s with kvt := { s.kvt with slotB := s.kvt.slotB.map bad } } else { s with kvt := { s.kvt with slotA := s.kvt.slotA.map bad } }
  | .ckpt b => if b then { s with mte := { s.mte with ckptB := s.mte.ckptB.map badC } } else { s with mte := { s.mte with ckptA := s.mte.ckptA.map badC } }
  | .pend => { s with kvt := { s.kvt with pend := none } }
  | .head e => s.rebuildHead e.val

/-- Boot reads the MRAM areas with two copies: the acknowledged position, the helper data, the sealed image (R241). -/
def State.loadMram (s : State) (bad : List MramPart) : State :=
  let s1 := bad.foldl State.spoil s
  let img := s1.glb.images.get
  { s1 with rsl := { s1.rsl with ack := s1.rsl.hdr.get.getD 0 }
            kvt := { s1.kvt with helper := s1.kvt.helpers.get }
            glb := { s1.glb with sealed := img.map (·.1), sealedCv := (img.map (·.2.1)).getD 0 }
            see := { s1.see with keys := (img.map (·.2.2)).getD [] } }

/-- The pointer slots as an area with two copies. -/
def State.slotPair (s : State) : Twins KeySlot :=
  let c (x : Option KeySlot) : Option (Copy KeySlot) := x.map (fun v => { valid := v.valid, seq := v.seq, val := v })
  { a := c s.kvt.slotA, b := c s.kvt.slotB }

/-- The four refreshed areas: whether each has a valid copy, and whether it has a failing one to repair (R242). -/
def State.mramAreas (s : State) : List (Bool × Bool) :=
  [(s.rsl.hdr.winner.isSome, s.rsl.hdr.failing), (s.kvt.helpers.winner.isSome, s.kvt.helpers.failing),
   (s.pointer.isSome, s.slotPair.failing), (s.glb.images.winner.isSome, s.glb.images.failing)]

/-- Site time, or the RTC while site time is not valid (R242). -/
def State.calendarNs (s : State) : Nat := if s.flag STU_DISC_STAT.VALID then s.siteNs else s.rtcNs

/-- The areas with two copies are refreshed now: each copy keeps its contents, a failing one takes those of the other (R242). -/
def State.mramDone (s : State) (bad : List MramPart) : State :=
  let s1 := bad.foldl State.spoil s
  let l := s1.mramAreas
  let p := s1.slotPair.refresh
  let s2 := { s1 with rsl := { s1.rsl with hdr := s1.rsl.hdr.refresh, refreshAt := s1.calendarNs }
                      kvt := { s1.kvt with helpers := s1.kvt.helpers.refresh, slotA := p.a.map (fun (c : Copy KeySlot) => c.val), slotB := p.b.map (fun (c : Copy KeySlot) => c.val) }
                      glb := { s1.glb with images := s1.glb.images.refresh } }
  s2.ev 0x0908 0 (maskOf ((List.range 4).filter (fun i => (nth l i (false, false)).1))) (b2n (l.any (·.2)))

/-- Waits until a time of that clock. -/
def State.waitCalendar (s : State) (t : Nat) : State :=
  if s.flag STU_DISC_STAT.VALID then s.waitSite t else s.waitTill (s.now + (t - s.rtcNs))

/-! ### Descriptors (R244) -/

/-- A descriptor that writes the journal or saved state waits while a brown-out lasts (spec/02 R32). -/
def State.runWrite (s : State) (d : DescRef) (op : Nat) (k : State → State) : State := if s.glb.brownAt.isSome then s else s.run d op k

/-- REC_ARG, then `k`. -/
def State.recArg (s : State) (d : DescRef) (ok : Bool) (k : State → State) : State := if ok then k s else s.fail d 0x0070

/-- A record still in the journal. -/
def State.recAt (s : State) (j : Nat) : Option Rec := (s.rsl.journal.find? (fun p => p.1 = j)).map (·.2)

/-- The bytes of the records at positions j … j + n − 1. -/
def State.recBytes (s : State) (j n : Nat) : List Nat :=
  (List.range n).flatMap (fun i => match s.recAt (j + i) with | none => zeros 256 | some r => r.bytes)

/-- EXPORT. -/
def State.recExport (s : State) (d : DescRef) (addr len : Nat) : State :=
  if len % 256 ≠ 0 then s.fail d 0x0071
  else
    let j := s.rsl.exported
    let n := min (len / 256) (s.rsl.next - j)
    let s1 := if n = 0 then s else s.emit (.host addr (s.recBytes j n))
    (({ s1 with rsl := { s1.rsl with exported := j + n } }).showJrnl).done d (leBytes 4 n ++ leBytes 8 j)

/-- ACK (R244, R245): slots free, and a waiting SESSION record is journaled first. -/
def State.recAck (s : State) (d : DescRef) (pos : Nat) : State :=
  if s.rsl.exported < pos then s.fail d 0x0073
  else
    let s1 := if s.rsl.ack < pos then ({ s with rsl := { s.rsl with ack := pos, hdr := s.rsl.hdr.put pos } }).showJrnl else s
    let s2 := if s1.rsl.waiting.isEmpty then s1 else s1.buildRecord
    s2.done d

/-- READ. -/
def State.recRead (s : State) (d : DescRef) (addr len first count : Nat) : State :=
  if len < 256 * count then s.fail d 0x0071
  else if first + 61440 < s.rsl.next || s.rsl.next < first + count then s.fail d 0x0072
  else (s.emit (.host addr (s.recBytes first count))).done d

/-- HEADS: 26 head entries of 48 bytes. -/
def State.recHeads (s : State) (d : DescRef) (addr len : Nat) : State :=
  if len < 1248 then s.fail d 0x0071
  else
    let one (e : Nat) : List Nat := match s.head e with
      | none => leBytes 2 (meterEnt e) ++ zeros 46
      | some h => leBytes 2 (meterEnt e) ++ [0, 0] ++ leBytes 4 h.seq ++ leBytes 8 h.j ++ fixBytes 32 h.hash
    (s.emit (.host addr ((List.range 26).flatMap one))).done d

/-- GLB_ID: part number, stepping A1, build 03 (spec/00 R5). -/
def State.glbId (s : State) : Nat := if s.grade = .ph4800 then 0x03114800 else 0x03114812

/-- The attestation statement without its signature (R254). -/
def State.statement (s : State) (nonce : List Nat) : List Nat :=
  let k := s.kvt
  leBytes 2 0x0201 ++ [1, b2n k.unbound + 2 * b2n k.pend.isSome] ++ leBytes 4 s.glbId ++ leBytes 4 Config.serial ++
  leBytes 2 s.keyGen ++ leBytes 2 (match k.pend with | none => 0 | some p => p.gen) ++ fixBytes 48 k.meas ++ leBytes 4 s.mte.calId ++
  leBytes 4 s.mte.digest ++ leBytes 4 s.cfgDigest ++ leBytes 4 (s.rd SFI_CV.CV) ++ leBytes 8 s.siteNs ++ leBytes 4 s.claim ++ zeros 4 ++
  fixBytes 16 nonce ++ zeros 16 ++ pub64 s.idKey ++ (match k.key with | none => zeros 64 | some m => pub64 m) ++
  (match k.pend with | none => zeros 64 | some p => fixBytes 64 p.pub)

/-- ATTEST (R253, R254). -/
def State.recAttest (s : State) (d : DescRef) (addr len : Nat) (nonce : List Nat) : State :=
  if len < 384 then s.fail d 0x0071
  else if !s.kvt.rootOk || s.kvt.key.isNone then s.fail d 0x0075
  else
    let b := s.statement nonce
    let sig := fixBytes 64 (ecSign s.idKey b (Config.freeNat s.free))
    (({ s with free := s.free + 1 }).emit (.host addr (b ++ sig))).done d

/-- The fixed 32-byte test message of R250: its bytes are not stated (log entry 31). -/
def testMessage : List Nat := fixBytes 32 (sha256 [])

/-- A verified new key is pending (R250, step 3), then steps 4 and 5; `cut` says where the power fails (R251). -/
def State.rollTo (s : State) (d : DescRef) (new gen : Nat) (tgt : List Nat) (cut : Option RollCut) : State :=
  match cut with
  | some .pending => s.cutOff
  | _ =>
    let s1 := (s.setKvt { s.kvt with pend := some { gen := gen, target := tgt, pub := pub64 new }, rolls := s.chains,
                                     rollDesc := some d }).ev 0x0A03 0 gen (measTag tgt)
    match cut, s1.kvt.key with
    | some (.records n), some key =>
      let p : PendKey := { gen := gen, target := tgt, pub := pub64 new }
      let s2 := { s1 with kvt := { s1.kvt with rolls := s1.kvt.rolls.take n.val } }
      (if s2.sealing then s2.announce p key else s2).cutOff
    | _, _ => s1.rollOn cut

/-- KEY_ROLL (R250). -/
def State.keyRoll (s : State) (d : DescRef) (len : Nat) (target : List Nat) (cut : Option RollCut) : State :=
  if len ≠ 0 && len ≠ 48 then s.fail d 0x0071
  else match s.kvt.rootOk, s.kvt.key with
  | true, some _ =>
    if s.kvt.pend.isSome then s.fail d 0x0076
    else
      let tgt := if len = 0 then fixBytes 48 s.kvt.meas else fixBytes 48 target
      let gen := (s.keyGen + 1) % 2 ^ 16
      let new := s.meterKey gen tgt
      let sig := fixBytes 64 (ecSign new testMessage (Config.freeNat s.free))
      let s0 := { s with free := s.free + 1 }
      if !ecVerify (pub64 new) testMessage sig then (s0.ev 0x0A05 0 gen 0).fail d 0x0077
      else s0.rollTo d new gen tgt cut
  | _, _ => s.fail d 0x0075

/-- ENROL (R246, R252): both copies of the helper data; a pending key of the lost root goes with it. -/
def State.enrol (s : State) (d : DescRef) (force : Bool) : State :=
  if s.kvt.helper.isSome && !force then s.fail d 0x0078
  else s.checkMode d (s.glb.mode == .commission) fun s =>
    let old := s.kvt.helper.isSome
    let s0 := s.rollDone
    let s1 := s0.setKvt { s0.kvt with helper := some s.kvt.enrols, helpers := s.kvt.helpers.put s.kvt.enrols, enrols := s.kvt.enrols + 1,
                                      rootOk := true, key := none, pend := none, rolls := [] }
    let s2 := s1.ev 0x0A02 0 (b2n force) 0
    let s3 := if old then { s2 with rsl := { s2.rsl with unlinked := s2.chains } } else s2
    s3.loadPointer.done d

/-- The KEY_ROLL record with UNLINKED of every chain that can take one; another gets it before its next record (R245, R252). -/
def State.payAll (s : State) (key : Nat) : State :=
  s.rsl.unlinked.foldl (fun u e => if 1 ≤ u.jFree && !u.takesOver e then u.payUnlinked e key else u) s

/-- REBIND (R252): with UNBOUND at 0 it completes without effect. -/
def State.rebind (s : State) (d : DescRef) : State :=
  s.checkMode d (s.glb.mode == .commission) fun s =>
    if !s.kvt.unbound || !s.kvt.rootOk then s.done d
    else
      let gen := (s.keyGen + 1) % 2 ^ 16
      let s1 := s.flipKey gen s.kvt.meas
      let s2 := { s1 with rsl := { s1.rsl with unlinked := s1.chains } }
      (s2.payAll (s1.meterKey gen s.kvt.meas)).done d

/-- PUBKEY: identity, meter and pending public keys, zeros for an absent one. -/
def State.recPubkey (s : State) (d : DescRef) (addr len : Nat) : State :=
  if len < 192 then s.fail d 0x0071
  else
    let k := s.kvt
    (s.emit (.host addr ((if k.rootOk then pub64 s.idKey else zeros 64) ++ (match k.key with | none => zeros 64 | some m => pub64 m) ++
      (match k.pend with | none => zeros 64 | some p => fixBytes 64 p.pub)))).done d

open Host (Outcome)

/-- RECORD_BUILD (R229 to R240, R245); `cut` says where the power fails in it, when it does (R236). -/
def execRecordBuild (s : State) (cut : Option BuildCut := none) : Outcome State Fault Refusal :=
  .next (if s.up then (match cut with | none => s.buildRecord | some c => s.buildCut c) else s)

/-- MRAM_REFRESH: once every 365 days of site time or the RTC, or within 10 s of the boot when overdue; `bad` lists the copies that
fail their check (R242). -/
def execMramRefresh (bad : List MramPart) (s : State) : Outcome State Fault Refusal :=
  .next (if s.up && s.glb.brownAt.isNone then (s.waitCalendar (s.rsl.refreshAt + 31536000000000000)).mramDone bad else s)

/-- EXPORT (R244). -/
def execExport (d : DescRef) (argOk : Bool) (addr : BitVec 64) (len : BitVec 32) (s : State) : Outcome State Fault Refusal :=
  .next (s.run d 0x0901 fun s => s.recArg d argOk fun s => s.recExport d addr.toNat len.toNat)

/-- ACK (R244). -/
def execAck (d : DescRef) (argOk : Bool) (pos : BitVec 64) (s : State) : Outcome State Fault Refusal :=
  .next (s.runWrite d 0x0901 fun s => s.recArg d argOk fun s => s.recAck d pos.toNat)

/-- READ (R244). -/
def execRead (d : DescRef) (argOk : Bool) (addr : BitVec 64) (len : BitVec 32) (first : BitVec 64) (count : BitVec 32) (s : State) :
    Outcome State Fault Refusal :=
  .next (s.run d 0x0901 fun s => s.recArg d argOk fun s => s.recRead d addr.toNat len.toNat first.toNat count.toNat)

/-- HEADS (R244). -/
def execHeads (d : DescRef) (argOk : Bool) (addr : BitVec 64) (len : BitVec 32) (s : State) : Outcome State Fault Refusal :=
  .next (s.run d 0x0901 fun s => s.recArg d argOk fun s => s.recHeads d addr.toNat len.toNat)

/-- ATTEST (R244, R254). -/
def execAttest (d : DescRef) (argOk : Bool) (addr : BitVec 64) (len : BitVec 32) (nonce : BitVec 128) (s : State) :
    Outcome State Fault Refusal :=
  .next (s.run d 0x0901 fun s => s.recArg d argOk fun s => s.recAttest d addr.toNat len.toNat (leBytes 16 nonce.toNat))

/-- KEY_ROLL (R244, R250); `cut` says where the power fails in it, when it does (R251). -/
def execKeyRoll (d : DescRef) (argOk : Bool) (len : BitVec 32) (target : BitVec 384) (s : State)
    (cut : Option RollCut := none) : Outcome State Fault Refusal :=
  .next (s.runWrite d 0x0901 fun s => s.recArg d argOk fun s => s.keyRoll d len.toNat (leBytes 48 target.toNat) cut)

/-- ROLL_ABORT (R244). -/
def execRollAbort (d : DescRef) (argOk : Bool) (s : State) : Outcome State Fault Refusal :=
  .next (s.runWrite d 0x0901 fun s => s.recArg d argOk fun s => ((s.setKvt { s.kvt with pend := none, rolls := [] }).rollDone).done d)

/-- ENROL (R244, R246). -/
def execEnrol (d : DescRef) (argOk force : Bool) (s : State) : Outcome State Fault Refusal :=
  .next (s.runWrite d 0x0901 fun s => s.recArg d argOk fun s => s.enrol d force)

/-- REBIND (R244, R252). -/
def execRebind (d : DescRef) (argOk : Bool) (s : State) : Outcome State Fault Refusal :=
  .next (s.runWrite d 0x0901 fun s => s.recArg d argOk fun s => s.rebind d)

/-- PUBKEY (R244). -/
def execPubkey (d : DescRef) (argOk : Bool) (addr : BitVec 64) (len : BitVec 32) (s : State) : Outcome State Fault Refusal :=
  .next (s.run d 0x0901 fun s => s.recArg d argOk fun s => s.recPubkey d addr.toNat len.toNat)

end Sys2Proof.Machine
end

