-- ==== Sys2Proof/Machine/SafeImage.lean ====
section
/-!
DEFINITION. The Rind's safety parameter image (spec/14_safety_island.md, R349, R354): layout, defaults, ranges, check value.
-/
namespace Sys2Proof.Machine

/-- Word of the default image at a word offset (R354). -/
def defImage (off : Nat) : Nat :=
  if off = 0 then 0x00015346
  else if off = 0x004 then 100 + 100 * 2 ^ 16
  else if off = 0x008 then 2000
  else if off = 0x00C then 40 + 10 * 2 ^ 16
  else if off = 0x010 then 20 + 20 * 2 ^ 16
  else if off = 0x014 then 10 + 10 * 2 ^ 8 + 15 * 2 ^ 16
  else if off = 0x018 then 10 + 20 * 2 ^ 16 + 10 * 2 ^ 24
  else if off = 0x01C then 100 + 20 * 2 ^ 16 + 0xFF * 2 ^ 24
  else if 0x300 ≤ off && off < 0x400 && off % 8 = 0 then 0x7F
  else 0

/-- Word of an image. -/
def imgWord (t : Tab Nat) (off : Nat) : Nat := tget defImage t off

/-- Field of `k` bytes of an image at byte offset `off`, within one word. -/
def img (t : Tab Nat) (off k : Nat) : Nat := imgWord t (off / 4 * 4) / 2 ^ (8 * (off % 4)) % 2 ^ (8 * k)

/-- Field of the confirmed image in force. -/
def State.par (s : State) (off k : Nat) : Nat := img s.sfi.image off k

/-- One bit of the CRC of R349. -/
def crcSBit (c : Nat) : Nat := if 2 ^ 31 ≤ c then (2 * c % 2 ^ 32) ^^^ 0x741B8CD7 else 2 * c

/-- One byte of the CRC of R349. -/
def crcSByte (c b : Nat) : Nat :=
  crcSBit (crcSBit (crcSBit (crcSBit (crcSBit (crcSBit (crcSBit (crcSBit (c ^^^ (b % 256 * 2 ^ 24)))))))))

/-- The Soelaone CRC-32: polynomial 0x741B_8CD7, not reflected, initial value 0xFFFF_FFFF, no final XOR (R349). -/
def crcS (l : List Nat) : Nat := l.foldl crcSByte 0xFFFFFFFF

/-- Check value of an image, over bytes 0x000 to 0x47F (R354). -/
def checkValue (t : Tab Nat) : Nat := crcS ((List.range 288).flatMap (fun i => leBytes 4 (imgWord t (4 * i))))

/-- A field that is range-checked: offset, bytes, lowest and highest value. -/
structure RangeRow where
  off : Nat
  size : Nat
  lo : Nat
  hi : Nat
  deriving DecidableEq, Repr

/-- The global fields, in ascending offset (R354). -/
def globalRows : List RangeRow :=
  [⟨0x000, 2, 0x5346, 0x5346⟩, ⟨0x002, 2, 1, 1⟩, ⟨0x004, 2, 20, 1000⟩, ⟨0x006, 2, 20, 1000⟩, ⟨0x008, 4, 500, 50000⟩,
   ⟨0x00C, 2, 5, 1000⟩, ⟨0x00E, 2, 2, 100⟩, ⟨0x010, 2, 0, 200⟩, ⟨0x012, 2, 1, 500⟩, ⟨0x014, 1, 5, 200⟩, ⟨0x015, 1, 5, 200⟩,
   ⟨0x016, 2, 1, 100⟩, ⟨0x018, 2, 1, 200⟩, ⟨0x01A, 1, 5, 200⟩, ⟨0x01B, 1, 5, 200⟩, ⟨0x01C, 2, 10, 1000⟩, ⟨0x01E, 1, 5, 100⟩]

/-- Port rows (R354). -/
def portRows (p : Nat) : List RangeRow :=
  let b := 0x040 + 16 * p
  [⟨b, 4, 0, 4000000⟩, ⟨b + 4, 4, 0, 1500000⟩, ⟨b + 8, 4, 0, 4000000⟩, ⟨b + 12, 1, 0, 1⟩]

/-- String rows (R354). -/
def stringRows (i : Nat) : List RangeRow :=
  let b := 0x1C0 + 8 * i
  [⟨b, 4, 0, 2000000⟩, ⟨b + 4, 1, 0, 1⟩, ⟨b + 5, 1, 0, 3⟩]

/-- Rows of pair i, checked when FUNC is not 0; its MODE names sources 0 to 2 (R354). -/
def pairRows (t : Tab Nat) (i : Nat) : List RangeRow :=
  let b := 0x240 + 8 * i
  if img t b 1 = 0 then []
  else
    let m := img t (b + 1) 1
    let ok : Bool := m < 32 && m / 2 % 4 < 3 && m / 8 % 4 < 3
    [⟨b, 1, 0, 5⟩, ⟨b + 1, 1, if ok then 0 else 256, 255⟩, ⟨b + 2, 1, 0, 15⟩, ⟨b + 3, 1, 1, 100⟩]

/-- Rows of output k, checked when FLAGS bit 0 is set (R354). -/
def outRows (t : Tab Nat) (k : Nat) : List RangeRow :=
  let b := 0x280 + 8 * k
  if img t (b + 6) 1 % 2 = 0 then []
  else [⟨b, 4, 0, 0xFFFFFF⟩, ⟨b + 4, 1, 0, 15⟩, ⟨b + 5, 1, 0, 15⟩, ⟨b + 6, 1, 0, 3⟩, ⟨b + 7, 1, 1, 50⟩]

/-- Rows of axis a, checked when MODE is not 0 (R354). -/
def axisRows (t : Tab Nat) (a : Nat) : List RangeRow :=
  let b := 0x2C0 + 16 * a
  let m := img t b 1
  if m = 0 then [] else if m = 1 then [⟨b, 1, 0, 3⟩] else [⟨b, 1, 0, 3⟩, ⟨b + 1, 1, 8, 32⟩, ⟨b + 2, 1, 1, 20⟩]

/-- Rows of temperature entry j, checked when CH is not 0x7F (R354). -/
def tempRows (t : Tab Nat) (j : Nat) : List RangeRow :=
  let b := 0x300 + 8 * j
  if img t b 1 = 0x7F then [] else [⟨b, 1, 0, 95⟩]

/-- Rows of connection c, checked when ROLE is not 0; LEN one of R349, TEXP at least PERIOD + 5 ms (R350, R354). -/
def connRows (t : Tab Nat) (c : Nat) : List RangeRow :=
  let b := 0x400 + 16 * c
  if img t (b + 2) 1 = 0 then []
  else
    let len := img t (b + 3) 1
    let ok : Bool := [0, 4, 8, 16, 32, 48].contains len
    [⟨b + 2, 1, 0, 2⟩, ⟨b + 3, 1, if ok then 0 else 256, 255⟩, ⟨b + 4, 2, 1, 250⟩,
     ⟨b + 6, 2, max 5 (img t (b + 4) 2 + 5), 500⟩, ⟨b + 12, 1, 0, 2⟩]

/-- Every row of an image that is checked, in ascending offset (R354); ACK_PAIR takes 0 to 7 and 0xFF. -/
def rangeRows (t : Tab Nat) : List RangeRow :=
  globalRows ++ (if img t 0x01F 1 = 0xFF then [] else [⟨0x01F, 1, 0, 7⟩]) ++ (List.range 24).flatMap portRows ++
  (List.range 16).flatMap stringRows ++ (List.range 8).flatMap (pairRows t) ++ (List.range 8).flatMap (outRows t) ++
  (List.range 4).flatMap (axisRows t) ++ (List.range 32).flatMap (tempRows t) ++ (List.range 8).flatMap (connRows t)

/-- Offset of the first field outside its range; none when all are within (R354). -/
def badField (t : Tab Nat) : Option Nat :=
  ((rangeRows t).find? (fun r => img t r.off r.size < r.lo || r.hi < img t r.off r.size)).map (fun r => r.off)

/-- Output k. -/
def State.so (s : State) (k : Nat) : SafeOut := tget (fun _ => SafeOut.reset) s.sfi.outs k

/-- The outputs whose scope includes port p (R333). -/
def State.outsOfPort (s : State) (p : Nat) : List Nat := (List.range 8).filter (fun k => (s.par (0x280 + 8 * k) 4).testBit p)

/-- The pair that monitors the contactors of output k (R332 FUNC 3). -/
def State.edmPair (s : State) (k : Nat) : Option Nat :=
  (List.range 8).find? (fun i => s.par (0x240 + 8 * i) 1 == 3 && s.par (0x244 + 8 * i) 4 % 8 == k)

/-- The port's contactors are closed: its outputs are energised, confirmed by EDM where it is fitted; a port in no output's
scope counts as closed (R345). -/
def State.contactClosed (s : State) (p : Nat) : Bool :=
  let l := s.outsOfPort p
  l.isEmpty || l.any (fun k => (s.so k).on && (match s.edmPair k with
    | none => true | some i => (tget (fun _ => Pair.reset) s.sfi.pairs i).last == 0))

end Sys2Proof.Machine
end

