-- ==== Sys2Proof/Machine/Storage.lean ====
section
/-!
DEFINITION. The Storage Estimator (spec/11_storage_estimation.md).
-/
namespace Sys2Proof.Machine

/-! ### Capacity and state of charge (R260 to R264) -/

/-- DESIGN_CAP × 3.6 × 10^9, µAs (R260). -/
def State.designQ (s : State) (i : Nat) : Nat := 3600000000 * s.rd (SEE_DCAP.DESIGN_CAP i)

/-- The first point of the cycle table whose X does not rise; none when the table is good (R260). -/
def State.cycFail (s : State) : Option Nat :=
  (List.range (s.rd SEE_CYC_CFG.NPTS)).find? (fun k => 0 < k && s.rd (SEE_CYC.X k) ≤ s.rd (SEE_CYC.X (k - 1)))

/-- The capacity factor F(N) of string i, 0.01 %: the table interpolated at THRU_DIS / designQ cycles (R260). -/
def State.capFactor (s : State) (i : Nat) : Nat :=
  if s.see.cycBad then 10000
  else
    let n := s.rd SEE_CYC_CFG.NPTS
    let d := s.designQ i
    let x (k : Nat) : Nat := s.rd (SEE_CYC.X k)
    let f (k : Nat) : Int := (s.rd (SEE_CYC.F k) : Nat)
    let t : Int := if d = 0 then Config.byZero (s.str i).dis else ((s.str i).dis : Nat)
    let dd : Int := (max 1 d : Nat)
    if t ≤ (x 0 : Int) * dd then (f 0).toNat
    else if ((x (n - 1) : Nat) : Int) * dd ≤ t then (f (n - 1)).toNat
    else
      match ((List.range n).reverse).find? (fun k => decide ((x k : Int) * dd ≤ t)) with
      | none => (f 0).toNat
      | some k =>
        (f k + divZ ((f (k + 1) - f k) * (t - (x k : Int) * dd)) (((x (k + 1) : Nat) - (x k : Nat)) * dd.toNat)).toNat

/-- C_EFF, µAs (R260). -/
def State.cEff (s : State) (i : Nat) : Nat := s.designQ i * s.capFactor i / 10000

/-- SOC, 0.01 % (R260). -/
def State.soc (s : State) (i : Nat) : Int := quot ((s.str i).q * 10000) (s.cEff i)

/-- U, 0.01 % (R262). -/
def State.unc (s : State) (i : Nat) : Int := quot ((s.str i).u * 10000 : Nat) (s.cEff i)

/-- The reserve R, 0.01 % (R264). -/
def State.reserve (s : State) (i : Nat) : Nat :=
  let m := if (s.str i).untrusted then 2 else 1
  let u := (s.unc i).toNat
  min 10000 (s.rd SEE_RES_CFG.RES_PCT * m + (if s.rd SEE_RES_CFG.U_MAX ≤ u then u else 0))

/-- The latest status frame while it is fresh (R267). -/
def State.freshFrame (s : State) (i : Nat) : Option BmuFrame :=
  match (s.str i).frame with
  | none => none
  | some f => if s.siteNs < f.stamp + 1000000 * s.rd SEE_BMU_CFG.BMU_AGE then some f else none

/-- Q_FAULT of string i: that of the own input, in SHADOW the one the delta brought (R259, R274). -/
def State.qFaulted (s : State) (i : Nat) : Bool := if s.glb.mode = .shadow then (s.str i).qFlag else (s.str i).qFault != 0

/-- The registers of string i follow its state (R276). -/
def State.seeShow (s : State) (i : Nat) : State :=
  let x := s.str i
  let fl := b2n x.untrusted + 2 * b2n x.needRef + 4 * b2n x.auth + 8 * b2n x.eocHold + 16 * b2n x.eod + 32 * b2n x.stale +
    64 * b2n (s.qFaulted i) + 128 * b2n x.cold
  let n := quot (x.dis * 100 : Nat) (s.designQ i)
  (((((((s.wr (SEE_SOC.SOC i) (clampU 16 (s.soc i))).wr (SEE_SOC.U i) (clampU 16 (s.unc i))).wr (SEE_RES.R i) (s.reserve i)).wr
    (SEE_RES.FLAGS i) fl).wr (SEE_CYC_N.N i) (low 32 n.toNat)).wr (SEE_QC_LO.Q_C i) (enc 64 x.q % 2 ^ 32)).wr
    (SEE_FEFF.F i) (s.capFactor i))

/-- Changes string i and shows it. -/
def State.setStr (s : State) (i : Nat) (f : Str → Str) : State := (s.modStr i f).seeShow i

/-- NEED_REF and the crossing of U_MAX (R262). -/
def State.uncertain (s : State) (i : Nat) : State :=
  let u := s.unc i
  let x := s.str i
  let s1 := if (s.rd SEE_UNC_CFG.U_WARN : Int) ≤ u && !x.needRef then
      (s.modStr i (fun y => { y with needRef := true })).ev 0x0B03 (entString i) (enc 64 u) x.tRef else s
  let top : Bool := (s.rd SEE_RES_CFG.U_MAX : Int) ≤ u
  let s2 := s1.modStr i (fun y => { y with atMax := top })
  if top && !x.atMax then s2.ev 0x0B05 (entString i) (enc 64 u) (s2.reserve i) else s2

/-- String i becomes untrusted: U_Q is raised to at least U_MAX (R264). -/
def State.distrust (s : State) (i : Nat) : State :=
  let m := s.rd SEE_RES_CFG.U_MAX * s.cEff i / 10000
  ((s.modStr i (fun y => { y with untrusted := true, u := max y.u m })).uncertain i).seeShow i

/-- String i takes its charge from its unit's frame after a cold start (R271). -/
def State.coldTake (s : State) (i : Nat) (f : BmuFrame) : State :=
  let s1 := s.modStr i (fun y => { y with coldWait := false })
  (s1.modStr i (fun y => { y with q := (f.soc * s1.cEff i / 10000 : Nat), qRes := 0, clip := false })).distrust i

/-- A cold start takes the next fresh status frame: the one that is there, or the first to come (R271). -/
def State.coldFrom (s : State) (i : Nat) : State :=
  match s.freshFrame i with
  | none => s.seeShow i
  | some f => s.coldTake i f

/-- String i starts cold (R271). -/
def State.startCold (s : State) (i : Nat) : State :=
  ((s.modStr i (fun y => { y with dis := 0, disRes := 0, chg := 0, chgRes := 0, cold := true, coldWait := true })).distrust
    i).coldFrom i

/-- Every enabled string starts cold: the request for ACTIVE or SHADOW carries SEE_COLD and no buffer was adopted (R271). -/
def State.coldAll (s : State) : State :=
  if s.rd SEE_STAT.ADOPT = 0 || s.rd SEE_STAT.ADOPT = 3 then
    let s1 := ((List.range 16).filter s.stringOn).foldl (fun a i => a.startCold i) s
    { s1 with see := { s1.see with begun := true } }
  else s

/-! ### Coulomb integration (R257 to R263) -/

/-- End of discharge is set when V_S ≤ V_EOD while I > 0 (R265). -/
def State.eodCheck (s : State) (i : Nat) : State :=
  match s.freshFrame i with
  | none => s
  | some f =>
    if f.vs ≤ s.rd (SEE_VEOD.V_EOD i) && decide (0 < (s.str i).i) && !(s.str i).eod then
      (s.modStr i (fun y => { y with eod := true })).ev 0x0B09 (entString i) f.vs 1
    else s

/-- Current of a filter code (R257). -/
def State.strCurrent (s : State) (i : Nat) (r : Int) : Int :=
  let c := divZ (r * (s.rd (SEE_QSCALE.QSCALE i) : Nat) * 256) (2 ^ 23) + s.rdS (SEE_QOFS.QOFS i)
  c + divZ (c * s.rdS (SEE_QGAIN.QGAIN i)) (2 ^ 24)

/-- A magnitude added to an accumulator with its residue (R258). -/
def addCharge (acc res x : Nat) : Nat × Nat := ((acc + (res + x) / 1024000) % 2 ^ 64, (res + x) % 1024000)

/-- The charge of one filter output of current c, 2^−8 mA, enters string i (R258, R262): c × 6.25 µs is c × 25 units of
1/1,024,000 µAs. -/
def State.integrate (s : State) (i : Nat) (c : Int) : State :=
  let m := (c * 25).natAbs
  let grow := 64000000 * s.rd SEE_ERR_CFG.SHUNT_OFS + s.rd SEE_ERR_CFG.SCALE_ERR * m
  s.modStr i (fun y =>
    let t := y.qRes - c * 25
    let (dis, disRes) := if 0 < c then addCharge y.dis y.disRes m else (y.dis, y.disRes)
    let (chg, chgRes) := if c < 0 then addCharge y.chg y.chgRes m else (y.chg, y.chgRes)
    let g := y.uRes + grow
    { y with
             q := y.q + t / 1024000, qRes := t % 1024000, dis := dis, disRes := disRes, chg := chg, chgRes := chgRes,
             u := (y.u + g / 10240000000) % 2 ^ 64, uRes := g % 10240000000, gap := y.gap + c * 25 })

/-- Q_C is held between 0 and C_EFF; the first clipped output of a run is logged (R261). -/
def State.clipQ (s : State) (i : Nat) : State :=
  let x := s.str i
  let top : Int := (s.cEff i : Nat)
  if x.q < 0 || top < x.q then
    let b : Int := if x.q < 0 then 0 else top
    let s1 := s.modStr i (fun y => { y with q := b, qRes := 0, clip := true })
    if x.clip then s1 else s1.ev 0x0B0A (entString i) (b2n (0 ≤ x.q)) (x.q - b).natAbs
  else s.modStr i (fun y => { y with clip := false })

/-- The reference timers: any output that breaks a condition restarts its timer (R263); EOC_HOLD clears at EOC_RELEASE
(R265). -/
def State.refTimers (s : State) (i now : Nat) (c : Int) : State :=
  let rest : Bool := c.natAbs < 256000 * s.rd SEE_REST_CFG.I_REST
  let vOk : Bool := match s.freshFrame i with | none => false | some f => s.rd (SEE_VEOC.V_EOC i) ≤ f.vs
  let eoc : Bool := vOk && decide (c < 0) && decide (-c ≤ (256000 * s.rd SEE_EOC_CFG.I_EOC : Nat))
  let run (on : Bool) (t : Option Nat) : Option Nat := if !on then none else match t with | none => some now | some a => some a
  let held : Bool := decide ((s.rd SEE_BMU_CFG.EOC_RELEASE : Int) < s.soc i)
  s.modStr i (fun y => { y with restAt := run rest y.restAt, eocAt := run eoc y.eocAt, eocHold := y.eocHold && held })

/-- An output of current c, made at an uptime, enters string i (R258 to R263, R265). -/
def State.enterOutput (s : State) (i now : Nat) (c : Int) : State :=
  (((((s.integrate i c).clipQ i).uncertain i).refTimers i now c).eodCheck i).seeShow i

/-- The outputs held in a tick of SHADOW without a delta enter their strings; those of a tick with one do not count (R274). -/
def State.takeHeld (s : State) : State :=
  let s1 := (List.range 16).foldl (fun (a : State) i =>
    if (a.str i).held.isEmpty then a
    else
      let l := (a.str i).held
      let b := a.modStr i (fun y => { y with held := [] })
      if s.twin.deltaIn then b else l.foldl (fun (u : State) x => u.enterOutput i x.1 x.2) b) s
  { s1 with twin := { s1.twin with deltaIn := false } }

/-- The window of the mean current that an output falls into: number n for a stamp in [t_(n−1), t_n) (R266). -/
def Str.addWin (y : Str) (n : Nat) (c : Int) : Str :=
  match y.win with
  | (k, a, m) :: l => if k = n then { y with i := c, win := (k, a + c, m + 1) :: l } else { y with i := c, win := [(n, c, 1), (k, a, m)] }
  | [] => { y with i := c, win := [(n, c, 1)] }

/-- One output of the coulomb filter of string i (R257 to R263, R265). A faulted input gives the unit's current (R259). In SHADOW it is
held until the tick shows whether a delta arrives (R274). -/
def State.coulomb (s : State) (i : Nat) (r : Int) : State :=
  let s0 := match (s.str i).lastAt with | none => s | some t => s.waitTill (t + 6250)
  let c := if (s.str i).qFault = 0 then s.strCurrent i r
    else match (s.str i).frame with | none => 0 | some f => f.iBmu * 256
  let s1 := s0.modStr i (fun y => { y.addWin s0.tickFrom c with lastAt := some s0.now })
  if s.glb.mode = .shadow then s1.modStr i (fun y => { y with held := y.held ++ [(s0.now, c)] }) else s1.enterOutput i s0.now c

/-- A reference point of string i: kind 0 rest, 1 end of charge (R263). -/
def State.reference (s : State) (i kind : Nat) (q uRef : Nat) : State :=
  let before := clampU 16 (s.soc i)
  let s1 := s.modStr i (fun y => { y with
    q := (q : Int), qRes := 0, u := uRef * s.cEff i / 10000, uRes := 0, needRef := false,
    untrusted := false, atMax := false, clip := false, eocHold := y.eocHold || kind = 1, tRef := s.siteNs, refKind := kind,
    restAt := none, eocAt := none })
  (s1.ev 0x0B04 (entString i) kind (before + 2 ^ 16 * clampU 16 (s1.soc i))).seeShow i

/-- The end-of-charge point completes (R263). -/
def State.eocPoint (s : State) (i : Nat) : State := s.reference i 1 (s.cEff i) (s.rd SEE_REF_CFG.U_REF_EOC)

/-- The rest completes: a reference point when the fresh frame has OCV set (R263). -/
def State.restPoint (s : State) (i : Nat) : State :=
  match s.freshFrame i with
  | none => s.modStr i (fun y => { y with restAt := none })
  | some f =>
    if f.ocv then s.reference i 0 (f.soc * s.cEff i / 10000) (s.rd SEE_REF_CFG.U_REF_REST)
    else s.modStr i (fun y => { y with restAt := none })

/-- Uptime at which the end-of-charge condition has held for T_EOC. -/
def State.eocEnd (s : State) (i : Nat) : Option Nat := (s.str i).eocAt.map (fun (t : Nat) => t + 1000000000 * s.rd SEE_EOC_CFG.T_EOC)

/-- The string integrates: the SEE runs and the string is enabled. -/
def State.seeOn (s : State) (i : Nat) : Bool := s.up && s.stringOn i

/-! ### Management units (R267 to R269) -/

/-- Parses a status frame (R267). -/
def bmuParse (b : List Nat) (stamp : Nat) : BmuFrame :=
  { ocv := (nth b 2 0).testBit 0, contactor := (nth b 2 0).testBit 1, fault := (nth b 2 0).testBit 2, vs := field b 4 4,
    disI := field b 8 4, chgI := field b 12 4, iBmu := sx 32 (field b 16 4), soc := field b 20 2, temp := sx 16 (field b 22 2),
    serial := field b 24 8, stamp := stamp }

/-- A serial number that the frames before did not carry starts an exchange (R268); one that differs from the one last authenticated
also clears the flag, starts the string cold and is logged (R269). -/
def State.bmuSerial (s : State) (i serial : Nat) (seen : Option Nat) : State :=
  if seen = some serial then s
  else match (s.str i).serial with
    | some old =>
      if old = serial then (if seen.isSome then s.wantAuth i else s)
      else (((s.modStr i (fun y => { y with auth := false })).startCold i).ev 0x0B0C (entString i) old serial).wantAuth i
    | none => s.wantAuth i

/-- A status frame of string i is stored (R265, R267, R269, R271). -/
def State.bmuFrame (s : State) (i : Nat) (b : List Nat) : State :=
  let f := bmuParse b s.siteNs
  let x := s.str i
  let age := match x.frame with | none => 0 | some g => (s.siteNs - g.stamp) / 1000000
  let ok := s.rd (SEE_VEOD.V_EOD i) * 102 ≤ f.vs * 100
  let s1 := s.modStr i (fun y => { y with
    frame := some f, stale := false,
    eodOkAt := if !ok then none else match y.eodOkAt with | none => some s.now | some t => some t })
  let s2 := if x.stale then s1.ev 0x0B08 (entString i) age 0 else s1
  let s3 := s2.bmuSerial i f.serial (x.frame.map (fun (g : BmuFrame) => g.serial))
  let s4 := if (s3.str i).coldWait then s3.coldTake i f else s3
  (s4.eodCheck i).seeShow i

/-- The string an authentication frame or challenge is due for: among those due, the lowest index, else the earliest. -/
def State.nextAuth (s : State) : Option (Nat × Nat) :=
  let l := ((List.range 16).filter s.stringOn).filterMap (fun i => (s.str i).authDue.map (fun (t : Nat) => (i, t)))
  match l.find? (fun x => x.2 ≤ s.now) with
  | some x => some x
  | none => l.foldl (fun (a : Option (Nat × Nat)) x =>
      match a with | none => some x | some y => if x.2 < y.2 then some x else some y) none

/-- Takes `k` free bytes: the KVT's generator. -/
def State.freshBytes (s : State) : Nat → State × List Nat
  | 0 => (s, [])
  | k + 1 =>
    let (v, s1) := s.fresh
    let (s2, l) := s1.freshBytes k
    (s2, v % 256 :: l)

/-- A challenge to string i, from transmit object o (R268). -/
def State.challenge (s : State) (i o : Nat) : State :=
  let seq := low 32 (s.see.seq + 1)
  let (s1, nonce) := s.freshBytes 16
  let s2 := s1.modStr i (fun y => { y with authDue := none, attempts := y.attempts + 1 })
  let e : Exchange := { str := i, seq := seq, nonce := nonce, limit := s.now + 10000000 * s.rd SEE_AUTH_CFG.AUTH_TMO }
  ({ s2 with see := { s2.see with seq := seq, exch := some e } }).canRequest (bmuCan i) o
    ([0x11, i, 0, 0] ++ leBytes 4 seq ++ nonce) none .hkc

/-- An exchange fails: cause 1 timeout, 2 signature, 3 serial number (R268). -/
def State.authFail (s : State) (i cause : Nat) : State :=
  let k := (s.str i).attempts
  let again := k ≤ s.rd SEE_AUTH_CFG.AUTH_RETRIES
  let due := s.now + (if again then 1000000000 else 1000000000 * s.rd SEE_AUTH_CFG.AUTH_PERIOD)
  let s1 := s.modStr i (fun y => { y with auth := false, authDue := some due, attempts := if again then k else 0 })
  (({ s1 with see := { s1.see with exch := none } }).ev 0x0B07 (entString i) cause k).seeShow i

/-- An exchange succeeds (R268). -/
def State.authPass (s : State) (i serial seq : Nat) : State :=
  let s1 := s.modStr i (fun y => { y with
    auth := true, serial := some serial, attempts := 0,
    authDue := some (s.now + 1000000000 * s.rd SEE_AUTH_CFG.AUTH_PERIOD) })
  (({ s1 with see := { s1.see with exch := none } }).ev 0x0B06 (entString i) serial seq).seeShow i

/-- The two answer frames of the exchange that runs (R268). -/
def State.authAnswer (s : State) (e : Exchange) (f1 f2 : List Nat) : State :=
  let serial := field f1 8 8
  let msg := e.nonce ++ leBytes 4 e.seq ++ [e.str, 0, 0, 0] ++ leBytes 8 serial
  let key := tget (fun _ => []) s.see.keys e.str
  let shown := (s.str e.str).frame.map (fun (f : BmuFrame) => f.serial)
  if !ecVerify key msg ((f1.drop 16).take 32 ++ (f2.drop 16).take 32) then s.authFail e.str 2
  else if field f2 8 8 ≠ serial || shown ≠ some serial then s.authFail e.str 3
  else s.authPass e.str serial e.seq

/-- Every enabled string authenticates at entry to ACTIVE (R268), in the unit that sends management traffic (R274). -/
def State.authAll (s : State) : State := ((List.range 16).filter s.stringOn).foldl (fun a i => a.wantAuth i) s

/-! ### State block (R270 to R272) -/

/-- The entry of string i in a state block (R270). -/
def Str.entry (x : Str) : List Nat :=
  leBytes 8 (enc 64 x.q) ++ leBytes 8 x.dis ++ leBytes 8 x.chg ++ leBytes 8 x.u ++ leBytes 8 x.tRef ++ [x.refKind] ++
  [b2n x.untrusted + 2 * b2n x.needRef + 4 * b2n x.eocHold] ++ zeros 2 ++ leBytes 8 (x.serial.getD 0) ++ zeros 12

/-- The bytes of a state block that its CRC covers: bytes 0 to 1,087, of which no reserved byte of a string entry, 0x2A–0x2B and
0x34–0x3F, lies under the CRC (R270; DEDUCED, log entry 131). -/
def underCrc (b : List Nat) : List Nat :=
  b.take 64 ++ (List.range 16).flatMap (fun i =>
    let e := (b.drop (64 + 64 * i)).take 64
    e.take 0x2A ++ (e.drop 0x2C).take 8)

/-- The state block, 1,092 bytes (R270). -/
def State.stateBlock (s : State) (gen : Nat) : List Nat :=
  let body := leBytes 2 0x0301 ++ [0x01, 0] ++ leBytes 4 gen ++ leBytes 8 s.siteNs ++ leBytes 4 s.cfgDigest ++
    leBytes 2 (maskOf ((List.range 16).filter s.stringOn)) ++ zeros 42 ++ (List.range 16).flatMap (fun i => (s.str i).entry)
  body ++ leBytes 4 (crc32 (underCrc body))

/-- A block passes the checks of R271 step 3. -/
def State.blockGood (s : State) (b : List Nat) : Bool :=
  b.length == 1092 && field b 0 2 == 0x0301 && nth b 2 0 == 1 && field b 1088 4 == crc32 (underCrc b) &&
  s.glb.sealed.isSome && field b 0x10 4 == s.cfgDigest

/-- String i takes its entry of an adopted block (R271). -/
def State.adoptStr (s : State) (b : List Nat) (how i : Nat) : State :=
  let o := 0x40 + 0x40 * i
  let fl := nth b (o + 0x29) 0
  let serial := field b (o + 0x2C) 8
  let reported := (s.str i).frame.map (fun (f : BmuFrame) => f.serial)
  if !(field b 0x14 2).testBit i || (reported.isSome && reported ≠ some serial) then s.startCold i
  else
    let g := (s.str i).gap
    let s1 := s.modStr i (fun y => { y with
      q := sx 64 (field b o 8) - divZ g 1024000, qRes := 0, dis := field b (o + 8) 8, disRes := 0, chg := field b (o + 16) 8,
      chgRes := 0, u := field b (o + 24) 8, uRes := 0, tRef := field b (o + 32) 8, refKind := nth b (o + 40) 0xFF,
      untrusted := fl.testBit 0, needRef := fl.testBit 1, eocHold := fl.testBit 2, serial := some serial })
    let s2 := s1.modStr i (fun y => { y with u := (y.u + s1.rd SEE_UNC_CFG.U_GAP * s1.cEff i / 10000) % 2 ^ 64 })
    let s3 := (s2.clipQ i).uncertain i
    if how = 2 then s3.distrust i else s3.seeShow i

/-- A block is adopted (R271). -/
def State.adopt (s : State) (b : List Nat) (how : Nat) : State :=
  let gen := field b 4 4
  let s1 := ((s.wr SEE_STAT.ADOPT how).wr SEE_GEN.GEN gen)
  let s2 := { s1 with see := { s1.see with reading := none, begun := true } }
  (((List.range 16).filter s.stringOn).foldl (fun a i => a.adoptStr b how i) s2).ev 0x0B01 0 gen how

/-- The read of a committed buffer ends; in a brown-out none is adopted (R271; spec/02 R32). -/
def State.bufferRead (s : State) (ok : Bool) (b : List Nat) : State :=
  match s.see.reading with
  | none => s
  | some (_, false, _) =>
    if ok && s.glb.brownAt.isNone && s.blockGood b then s.adopt b 1
    else s.seeReadFail (if ok && 8 ≤ b.length then some (field b 4 4) else none)
  | some (_, true, gen) =>
    let lower : Bool := match gen with | none => true | some g => field b 4 4 < g
    if ok && s.glb.brownAt.isNone && s.blockGood b && lower then s.adopt b 2 else s.seeReadFail none

/-- A write of SEE_COMMIT (R271); in a brown-out it is refused (spec/02 R32; log entry 132). -/
def State.seeCommit (s : State) (v : Nat) : State :=
  if v / 256 % 2 ^ 24 ≠ 0x534545 then s
  else if (s.glb.mode = .dormant || s.glb.mode = .commission) && !s.see.entered && s.glb.brownAt.isNone then
    ({ s with see := { s.see with reading := some (v % 2, false, none) } }).wr SEE_STAT.ADOPT 4
  else s.ev 0x0B02 0 s.glb.mode.code v

/-- The string argument of a storage descriptor: SEE_ARG unless it names a string that is enabled; a string absent on a PH4812 fails
with GLB_ENTITY_ABSENT and is logged (R272; spec/00 R4). -/
def State.seeArg (s : State) (d : DescRef) (ok : Bool) (i : Nat) (k : State → State) : State :=
  if !ok || 16 ≤ i then s.fail d 0x0080
  else if s.nStrings ≤ i then s.failAbsent d (entString i) 0x0011
  else if !s.stringOn i then s.fail d 0x0080
  else k s

/-! ### Values for the snapshot, mode entries and the twin -/

/-- The string record of string i at t_n (R266), with what the Rind publishes of it. -/
def State.stringRec (s : State) (n i capI : Nat) (exportOk : Bool) : StrRec :=
  let x := s.str i
  let fr := s.freshFrame i
  let pmax := s.rd (SEE_PMAX.PMAX i)
  let lim (g : BmuFrame → Nat) : Nat := match fr with | none => 0 | some f => min pmax (g f * f.vs / 1000000)
  let vnom : Int := (s.rd (SEE_VNOM.VNOM i) : Nat)
  let resv : Int := (s.reserve i * s.cEff i : Nat)
  let den : Nat := 36000000000000000
  { soc := clampU 16 (s.soc i), untrusted := x.untrusted, needRef := x.needRef, auth := x.auth, exportOk := exportOk,
    subst := false,
    disLim := if x.eod || s.qFaulted i then 0 else (lim (·.disI) : Nat),
    chgLim := if x.eocHold || s.qFaulted i then 0 else (lim (·.chgI) : Nat),
    usable := divZ (max 0 (x.q * 10000 - resv) * vnom) den,
    reserve := divZ (resv * vnom) den,
    i := (match x.win.find? (fun w => w.1 = n) with | none => Config.byZero 0 | some (_, sum, m) => divZ sum (m * 256)), capI := capI }

/-- The check of the cycle table at the request for ACTIVE or SHADOW (R260). -/
def State.seeCheck (s : State) : State :=
  match s.cycFail with
  | none => s
  | some k => ({ s with see := { s.see with cycBad := true } }).ev 0x0B0D 0 k (s.rd SEE_CYC_CFG.NPTS)

/-- The sealing of the configuration: the cycle table is judged anew and the provisioned keys are stored (R260, R272). -/
def State.seeSeal (s : State) : State :=
  { s with see := { s.see with cycBad := s.cycFail.isSome, sealedKeys := s.see.keys } }

/-- ACTIVE or SHADOW is entered: no commit is accepted any more (R271). -/
def State.seeEnter (s : State) : State := { s with see := { s.see with entered := true } }

/-- The rest timer has run: the end-of-charge point when that timer has run too, else the rest point (R263). -/
def State.restEnd (s : State) (i : Nat) : State :=
  match s.eocEnd i with
  | none => s.restPoint i
  | some e => if e ≤ s.now then s.eocPoint i else s.restPoint i

/-- End of discharge clears at a voltage (R265). -/
def State.eodEnd (s : State) (i vs : Nat) : State :=
  ((s.modStr i (fun y => { y with eod := false })).ev 0x0B09 (entString i) vs 0).seeShow i

/-- The coulomb input is back (R259, R264). -/
def State.inputBack (s : State) (i : Nat) : State :=
  ((s.modStr i (fun y => { y with qFault := 0 })).ev 0x0B0B (ent 10 i) (s.str i).qFault 0).distrust i

/-- The management unit has not been heard for BMU_AGE (R267). -/
def State.unitStale (s : State) (i : Nat) : State :=
  let age := match (s.str i).frame with | none => 1000000 * s.rd SEE_BMU_CFG.BMU_AGE | some f => s.siteNs - f.stamp
  ((s.modStr i (fun y => { y with stale := true })).ev 0x0B08 (entString i) (age / 1000000) 1).seeShow i

open Host (Outcome)

/-- COULOMB_SAMPLE: an output of the filter, while MCLK7 runs (R257; spec/09 R199). -/
def execCoulombSample (string : Fin 16) (code : BitVec 24) (s : State) : Outcome State Fault Refusal :=
  .next (if s.seeOn string.val && s.mclk 7 then s.coulomb string.val code.toInt else s)

/-- REST_REFERENCE: the rest timer of the string completes (R263); in SHADOW nothing is detected (R274). -/
def execRestReference (string : Fin 16) (s : State) : Outcome State Fault Refusal :=
  let i := string.val
  .next (if !s.seeOn i || s.glb.mode = .shadow then s
    else match (s.str i).restAt with
    | none => s
    | some t => (s.waitTill (t + 1000000000 * s.rd SEE_REST_CFG.T_REST)).restEnd i)

/-- EOC_REFERENCE: the end-of-charge timer of the string completes (R263). -/
def execEocReference (string : Fin 16) (s : State) : Outcome State Fault Refusal :=
  let i := string.val
  .next (if !s.seeOn i || s.glb.mode = .shadow then s
    else match s.eocEnd i with
    | none => s
    | some e => (s.waitTill e).eocPoint i)

/-- EOD_CLEAR (R265). -/
def execEodClear (string : Fin 16) (s : State) : Outcome State Fault Refusal :=
  let i := string.val
  .next (if !s.seeOn i || !(s.str i).eod then s
    else match (s.str i).eodOkAt, (s.str i).frame with
    | some t, some f => (s.waitTill (t + 10000000000)).eodEnd i f.vs
    | _, _ => s)

/-- COULOMB_INPUT_FAULT (R259). -/
def execCoulombInputFault (string : Fin 16) (overflow : Bool) (s : State) : Outcome State Fault Refusal :=
  let i := string.val
  let k := if overflow then 2 else 1
  .next (if !s.seeOn i || (s.str i).qFault ≠ 0 then s
    else ((s.modStr i (fun y => { y with qFault := k, faultAt := s.now })).ev 0x0B0B (ent 10 i) k 1).seeShow i)

/-- COULOMB_INPUT_RESTORED, after 1 ms with transitions (R259, R264). -/
def execCoulombInputRestored (string : Fin 16) (s : State) : Outcome State Fault Refusal :=
  let i := string.val
  .next (if !s.seeOn i || (s.str i).qFault = 0 then s
    else (s.waitTill ((s.str i).faultAt + 1000000)).inputBack i)

/-- BMU_STATUS_RECEIVE: a frame of 32 bytes; one of a suspect identifier is treated as not received (spec/13 R324). -/
def execBmuStatusReceive (ctrl : Fin 6) (id : BitVec 29) (ide : Bool) (frame : List (BitVec 8)) (s : State) :
    Outcome State Fault Refusal :=
  let b := frame.map (·.toNat)
  let i := nth b 1 0
  .next (if b.length = 32 && nth b 0 0 = 0x10 && i < 16 && s.seeOn i && ctrl.val = bmuCan i && s.canOnBus ctrl.val &&
      !s.canSuspect ctrl.val id.toNat ide then s.bmuFrame i b else s)

/-- BMU_STALE (R267). -/
def execBmuStale (string : Fin 16) (s : State) : Outcome State Fault Refusal :=
  let i := string.val
  .next (if !s.seeOn i || (s.str i).stale then s
    else match (s.str i).frame with
    | none => s.unitStale i
    | some f => (s.waitSite (f.stamp + 1000000 * s.rd SEE_BMU_CFG.BMU_AGE)).unitStale i)

/-- AUTH_CHALLENGE: the exchange due next, from transmit object `obj` (R268); in SHADOW none is sent (R274). -/
def execAuthChallenge (obj : Fin 128) (s : State) : Outcome State Fault Refusal :=
  .next (if !s.up || s.see.exch.isSome || s.glb.mode = .shadow || !s.sends then s
    else match s.nextAuth with
    | none => s
    | some (i, t) => (s.waitTill t).challenge i obj.val)

/-- AUTH_RESPONSE_RECEIVE: the two answer frames (R268). -/
def execAuthResponseReceive (ctrl : Fin 6) (id1 id2 : BitVec 29) (ide : Bool) (frame1 frame2 : List (BitVec 8)) (s : State) :
    Outcome State Fault Refusal :=
  let f1 := frame1.map (·.toNat)
  let f2 := frame2.map (·.toNat)
  .next (match s.see.exch with
    | none => s
    | some e =>
      if s.up && s.now ≤ e.limit && ctrl.val = bmuCan e.str && s.canOnBus ctrl.val && f1.length = 48 && f2.length = 48 &&
        nth f1 0 0 = 0x12 && nth f2 0 0 = 0x13 && nth f1 1 0 = e.str && nth f2 1 0 = e.str && field f1 4 4 = e.seq &&
        field f2 4 4 = e.seq && !s.canSuspect ctrl.val id1.toNat ide && !s.canSuspect ctrl.val id2.toNat ide
      then s.authAnswer e f1 f2 else s)

/-- AUTH_TIMEOUT (R268). -/
def execAuthTimeout (s : State) : Outcome State Fault Refusal :=
  .next (match s.see.exch with
    | none => s
    | some e => if s.up then (s.waitTill e.limit).authFail e.str 1 else s)

/-- SEE_COMMIT (R271). -/
def execSeeCommit (v : BitVec 32) (s : State) : Outcome State Fault Refusal :=
  .next (if s.up then s.seeCommit v.toNat else s)

/-- SEE_BUFFER_READ_COMPLETE: what the read of host memory gave (R271). -/
def execSeeBufferReadComplete (readOk : Bool) (block : List (BitVec 8)) (s : State) : Outcome State Fault Refusal :=
  .next (if s.up then s.bufferRead readOk (block.map (·.toNat)) else s)

/-- SAVE (R272). -/
def execSave (d : DescRef) (argOk : Bool) (buffer : BitVec 8) (s : State) : Outcome State Fault Refusal :=
  .next (s.runWrite d 0x0B01 fun s =>
    if !argOk || 1 < buffer.toNat then s.fail d 0x0080
    else if !s.see.begun then s.fail d 0x0081
    else
      let gen := low 32 (s.rd SEE_GEN.GEN + 1)
      let addr := if buffer.toNat = 0 then s.rd64 SEE_BUF_A_LO.ADDR SEE_BUF_A_HI.ADDR else s.rd64 SEE_BUF_B_LO.ADDR SEE_BUF_B_HI.ADDR
      (((s.emit (.host addr (s.stateBlock gen))).wr SEE_GEN.GEN gen).done d (leBytes 4 gen ++ leBytes 8 s.siteNs)))

/-- AUTH_KEY: `key` is the 64 bytes the host buffer holds (R272). -/
def execAuthKey (d : DescRef) (argOk : Bool) (string : BitVec 8) (key : List (BitVec 8)) (s : State) : Outcome State Fault Refusal :=
  .next (s.run d 0x0B01 fun s =>
    let k := fixBytes 64 (key.map (·.toNat))
    s.seeArg d argOk string.toNat fun s =>
    if !onP256 (ofBe (k.take 32)) (ofBe (k.drop 32)) then s.fail d 0x0082
    else s.checkMode d (s.glb.mode = .commission) fun s =>
      ({ s with see := { s.see with keys := tset (fun _ => []) s.see.keys string.toNat k } }).done d)

/-- AUTH_NOW (R272). -/
def execAuthNow (d : DescRef) (argOk : Bool) (string : BitVec 8) (s : State) : Outcome State Fault Refusal :=
  .next (s.run d 0x0B01 fun s =>
    s.seeArg d argOk string.toNat fun s => (s.wantAuth string.toNat).done d)

/-- QC_LATCH_READ: a read of SEE_QC_LO_s latches SEE_QC_HI_s (R276). -/
def execQcLatchRead (string : Fin 16) (s : State) : Outcome State Fault Refusal :=
  let i := string.val
  .next (if s.up && i < s.nStrings then s.wr (SEE_QC_HI.Q_C i) (enc 64 (s.str i).q / 2 ^ 32) else s)

end Sys2Proof.Machine
end

