-- ==== Sys2Proof/Machine/PortLink.lean ====
section
/-!
DEFINITION. Vehicle links and the session guard (spec/12_vehicle_links.md).
-/
namespace Sys2Proof.Machine

/-- Port p's link unit. -/
def State.port (s : State) (p : Nat) : Plu := tget (fun _ => Plu.reset) s.plu.ports p

/-- Changes port p's link unit. -/
def State.modPort (s : State) (p : Nat) (f : Plu → Plu) : State :=
  { s with plu := { s.plu with ports := tset (fun _ => Plu.reset) s.plu.ports p (f (s.port p)) } }

/-- SESSION of port p (R291). -/
def State.session (s : State) (p : Nat) : Nat := s.rd (PLU_SESS.SESSION p)

/-- SESSION of port p changes, stamped now: a snapshot sees it only if t_N lies after (spec/01 R11). -/
def State.setSession (s : State) (p v : Nat) : State :=
  { s with alp := { s.alp with lateSess := (s.siteNs, p, s.session p) :: s.alp.lateSess } }.wr (PLU_SESS.SESSION p) v

/-- SESSION of port p as it stood before tN, but for what the guard decides for that snapshot itself (spec/01 R11, R298). -/
def State.sessionAt (s : State) (tN p : Nat) : Nat :=
  match (s.alp.lateSess.filter (fun x => x.2.1 = p && tN ≤ x.1)).getLast? with
  | none => s.session p
  | some x => x.2.2

/-- Pilot STATE of port p (R282). -/
def State.pilot (s : State) (p : Nat) : Nat := s.rd (PLU_CP_STAT.STATE p)

/-- The port is CCS-type (R279). -/
def State.ccs (s : State) (p : Nat) : Bool := s.rd (PLU_CFG.TYPE p) == 0

/-- STATE is one in which a vehicle is connected: B, C or D, on MCS-type ports B or C (R292, R297). -/
def State.connected (s : State) (p : Nat) : Bool :=
  s.pilot p == 1 || s.pilot p == 2 || (s.ccs p && s.pilot p == 3)

/-- The guard decides: not in SHADOW, where the standby takes its state from the deltas (R303). -/
def State.guards (s : State) : Bool := s.glb.mode != .shadow

/-- The ROBO mode a frame of port p takes: MINI-ROBO for beacons and broadcast messages, for unicast HS-ROBO or, during a fallback,
STD-ROBO; none on a 10BASE-T1S PHY (R284, R286). -/
def State.robo (s : State) (p : Nat) (broadcast : Bool) : Nat :=
  if !s.ccs p then 0 else if broadcast then 1 else if s.rd (PLU_PLC_STAT.MODE p) = 0 then 2 else 3

/-- Port p's PHY sends to the vehicle, its level reduced by TXATTN (R284). -/
def State.toVehicle (s : State) (p kind : Nat) (broadcast : Bool) (bytes : List Nat) : State :=
  s.emit (.vehicle p kind (s.robo p broadcast) (if s.ccs p then s.rd (PLU_PLC_CFG.TXATTN p) else 0) bytes)

/-! ### Receive rings (R302) -/

/-- Delivers one item to a posted buffer. -/
def State.fillBuffer (s : State) (p : Nat) (b : Nat × Nat × Nat) (kind : Nat) (bytes : List Nat) (stamp : Nat) : State :=
  let s1 := s.modPort p (fun x => { x with rx := x.rx.erase b })
  (s1.emit (.host b.2.2 bytes)).complete b.1 b.2.1 false false 0 0
    ([kind, 0] ++ leBytes 2 bytes.length ++ leBytes 8 stamp)

/-- A SLAC record or guard notice: to the oldest posted buffer, or it waits; a seventeenth drops the oldest (R302). -/
def State.postItem (s : State) (p kind : Nat) (bytes : List Nat) : State :=
  match (s.port p).rx with
  | b :: _ => s.fillBuffer p b kind bytes s.siteNs
  | [] =>
    let full := 16 ≤ (s.port p).items.length
    let s1 := s.modPort p (fun x => { x with items := (if full then x.items.drop 1 else x.items) ++ [(kind, bytes, s.siteNs)] })
    if full then s1.bump (PLU_RX_DROP.NOTICES p) else s1

/-- A guard notice of a type, stamped with the time of the event (R302). -/
def State.notice (s : State) (p type cause t : Nat) : State :=
  let id := if (type = 4 || type = 5) && s.session p != 1 && s.session p != 2 then 0 else s.rd (PLU_SESS_ID.ID p)
  s.postItem p 2 ([type, cause % 256] ++ leBytes 2 (entPort p) ++ leBytes 4 id ++ leBytes 8 t)

/-! ### Violations and session states (R291, R296 to R301) -/

/-- The identity of the partner: EVCC_ID of the session, or the source address of the vehicle's last frame (R297). -/
def State.partner (s : State) (p : Nat) : Nat :=
  if s.session p = 1 || s.session p = 2 then (s.port p).evcc else (s.port p).lastSrc

/-- A violation of a class with its cause and result code is counted and logged (R297, R306). -/
def State.violate (s : State) (p cls cause code : Nat) : State :=
  let s1 := match cls with
    | 1 => s.bump (PLU_VIOL.A_CNT p)
    | 2 =>
      let l := s.now :: (s.port p).bTimes.filter (fun t => s.now < t + 60000000000)
      (s.modPort p (fun x => { x with bTimes := l })).wr (PLU_VIOL.B_WIN p) (min 255 l.length)
    | _ => s.bump (PLU_VIOL.C_CNT p)
  s1.ev 0x0C09 (entPort p) (cls + 256 * cause + 2 ^ 16 * code) (s.partner p)

/-- The session of port p is to leave state 1 for a reason, at the next boundary (R291, R299). -/
def State.guardExit (s : State) (p reason : Nat) : State :=
  if s.session p = 1 && !(s.port p).exits.contains reason then s.modPort p (fun x => { x with exits := reason :: x.exits }) else s

/-- A class C violation: while SESSION is 1 it ends the session at the next boundary (R297, R298). -/
def State.classC (s : State) (p cause : Nat) : State :=
  let s1 := s.violate p 3 cause 0
  if s.session p = 1 then
    (s1.modPort p (fun x => { x with classC := match x.classC with | none => some cause | some c => some c })).guardExit p 1
  else s1

/-- A class B violation; the (B_LIMIT + 1)th within 60 s is a class C violation (R297). -/
def State.classB (s : State) (p cause code : Nat) : State :=
  let s1 := s.violate p 2 cause code
  if s.rd PLU_GCFG.B_LIMIT < (s1.port p).bTimes.length then s1.classC p 0x03 else s1

/-- END_REASON of the exits decided for one snapshot: the first of 3, 2, 1, 5, 0 (R299). -/
def endReason (l : List Nat) : Nat := ([3, 2, 1, 5].find? (fun r => l.contains r)).getD 0

/-- The exits decided for snapshot N: SESSION 2, END_REASON, and the notice of a class C decision; DUTY of a CCS-type port
goes to 1,000 at t_{N+2} (R291, R298, R299). -/
def State.guardDecide (s : State) (n tN p : Nat) : State :=
  let x := s.port p
  if s.session p ≠ 1 || x.exits.isEmpty then s
  else
    let s1 := ((s.wr (PLU_SESS.SESSION p) 2).wr (PLU_SESS.END_REASON p) (endReason x.exits)).modPort p (fun y => { y with
      exits := [], classC := none, dutyAt := if x.classC.isSome && s.ccs p then some (n + 2) else none })
    match x.classC with | none => s1 | some cause => s1.notice p 1 cause tN

/-- The session end instant t of port p (R299, R300, R301). -/
def State.sessionEnd (s : State) (p t : Nat) : State :=
  if s.session p ≠ 2 then s
  else
    let reason := s.rd (PLU_SESS.END_REASON p)
    let s1 := s.closeSession p reason
    let cool := s.rd PLU_COOL_CFG.PORT_COOLOFF
    let s2 := if reason = 1 then
        ((s1.setSession p 3).wr (PLU_SESS.COOL_LEFT p) cool).modPort p
          (fun x => { x with coolEnd := some (s.now + 1000000000 * cool) })
      else (s1.setSession p 0).modPort p (fun x => { x with held := false, dutyAt := none })
    let s3 := (s2.ev 0x0C08 (entPort p) (s.rd (PLU_SESS_ID.ID p)) reason).notice p 2 reason t
    let l := (s.port p).ending
    let s4 := s3.modPort p (fun x => { x with ending := [] })
    l.foldl (fun a d => a.complete d.1 d.2 false false 1000 0 (zeros 4 ++ leBytes 8 t)) s4

/-- The guard restarts every request interval at a promotion (R296, R303). -/
def State.guardRestart (s : State) : State :=
  (List.range s.nPorts).foldl (fun a p => if a.session p = 1 then a.modPort p (fun x => { x with reqAt := s.now }) else a) s

/-! ### Control pilot (R280 to R283) and SLAC arming (R287) -/

/-- SLAC is armed, disarmed or armed anew (R287, R288). -/
def State.slacArm (s : State) (p : Nat) : State :=
  let on := s.portOn p && s.ccs p && (s.pilot p == 1 || s.pilot p == 2 || s.pilot p == 3) && s.rd (PLU_CP_CTL.DUTY p) == 50 &&
    s.rd (PLU_CP_CTL.F p) == 0 && !s.flag (PLU_CP_STAT.ASSOC p)
  if on = s.flag (PLU_CP_STAT.ARMED p) then s
  else if on then ((s.wr (PLU_CP_STAT.ARMED p) 1).wr (PLU_CP_STAT.ROUNDS p) 0).modPort p (fun x => { x with mute := false })
  else s.wr (PLU_CP_STAT.ARMED p) 0

/-- DUTY goes to 1,000 two ticks after a class C decision, and is held there (R298). -/
def State.guardForce (s : State) (n p : Nat) : State :=
  match (s.port p).dutyAt with
  | none => s
  | some k =>
    if n < k then s
    else ((s.wr (PLU_CP_CTL.DUTY p) 1000).modPort p (fun y => { y with held := true, dutyAt := none })).slacArm p

/-- What the guard does at the boundary t_n of a snapshot. -/
def State.guardStrobe (s : State) (n tN : Nat) : State :=
  if !s.guards then s
  else (List.range s.nPorts).foldl (fun a p => (a.guardForce n p).guardDecide n tN p) s

/-- Bands A to F as signed limits (R305). -/
def State.band (s : State) (i : Nat) : Int × Int :=
  (sx 16 (s.reg (0x57010 + 4 * i)), sx 16 (s.reg (0x57010 + 4 * i) / 2 ^ 16))

/-- The band a level lies in, of the first `n` (R282). -/
def State.inBand (s : State) (n : Nat) (v : Int) : Option Nat :=
  (List.range n).find? (fun i => decide ((s.band i).1 ≤ v ∧ v ≤ (s.band i).2))

/-- STATE changes (R282, R290, R297, R302). -/
def State.pilotChange (s : State) (p new : Nat) : State :=
  let old := s.pilot p
  let s1 := (s.wr (PLU_CP_STAT.STATE p) new).ev 0x0C01 (entPort p) old (new + 2 ^ 16 * enc 16 (s.rdS (PLU_CP_LVL.HIGH p)))
  let s2 := s1.notice p 5 new s.siteNs
  let s3 := if new = 1 || new = 2 || new = 3 then s2 else s2.wr (PLU_CP_STAT.LINK p) 0
  let s4 := if s.session p = 1 && s.guards && !s3.connected p then s3.classC p 0x05 else s3
  s4.slacArm p

/-- The level that CP_PWM of port p shows `us` µs into its present period (R280, R283). -/
def State.pilotPin (s : State) (p us : Nat) : Bool := !s.ccs p || (!(s.port p).fNow && us < (s.port p).dutyNow)

/-- The output of port p is steady through its present period (R280, R281, R283). -/
def State.pilotSteady (s : State) (p : Nat) : Bool :=
  let x := s.port p
  !s.ccs p || x.fNow || x.dutyNow = 0 || 1000 ≤ x.dutyNow

/-- The mean of the samples from `a` up to `b` tenths of a span of `len` µs (R281). -/
def spanMean (l : List Int) (len a b : Nat) : Int :=
  let m := (l.take (divUp (b * len) 10)).drop (divUp (a * len) 10)
  divZ m.sum (max 1 m.length)

/-- The levels of a period from its samples at 1 MS/s, `h` of the high time and `l` of the low time: the means from 60 % to 90 % of the
high time and from 40 % to 90 % of the low time; during a steady level the mean of all (R281). -/
def State.pilotLevels (s : State) (p : Nat) (h l : List Int) : Int × Int :=
  if s.pilotSteady p then (spanMean (h ++ l) 1000 0 10, spanMean (h ++ l) 1000 0 10)
  else
    let d := (s.port p).dutyNow
    (spanMean h d 6 9, spanMean l (1000 - d) 4 9)

/-- One period's classification (R282, R283). -/
def State.pilotClass (s : State) (p : Nat) (high low : Int) (oscillates : Bool) : Nat × Bool :=
  if s.ccs p then
    if oscillates && decide (sx 16 (s.rd PLU_CP_NEG.NEG_MAX) < low) then (6, (s.inBand 6 high).isNone)
    else match s.inBand 6 high with | none => (7, true) | some i => (i, false)
  else match s.inBand 3 high with | none => (7, true) | some i => (i, false)

/-- Site time at which the present pilot period of port p ends (R280). -/
def State.periodEnd (s : State) (p : Nat) : Nat := match (s.port p).periodAt with | none => s.siteNs | some t => t

/-- The end of a pilot period: levels, classification, debounce; the next period takes DUTY and F (R280 to R283). `a` and
`b` are the means of the high time and of the low time, or both of the steady level. -/
def State.pilotPeriod (s : State) (p : Nat) (a b : Int) : State :=
  let x := s.port p
  let s0 := s.waitSite (s.periodEnd p)
  let steady := s.pilotSteady p
  let high := if !steady && x.dutyNow < 30 then s.rdS (PLU_CP_LVL.HIGH p) else a
  let s1 := s0.wrS (PLU_CP_LVL.HIGH p) high
  let s2 := if steady then s1 else s1.wrS (PLU_CP_LVL.LOW p) b
  let (c, inv) := s2.pilotClass p high b (!steady)
  let s3 := if inv then s2.bump (PLU_CP_STAT.INV_CNT p) else s2
  let n := if c = x.cand then x.candN + 1 else 1
  let s4 := s3.modPort p (fun y => { y with
    cand := c, candN := min n 15, periodAt := some (1000000 * (s0.siteNs / 1000000 + 1)),
    dutyNow := s.rd (PLU_CP_CTL.DUTY p), fNow := s.flag (PLU_CP_CTL.F p) })
  if s.rd PLU_GCFG.CP_DEB ≤ n && c ≠ s.pilot p then s4.pilotChange p c else s4

/-- A write of PLU_CP_CTL_p (R280, R287, R298). -/
def State.pilotControl (s : State) (p v : Nat) : State :=
  if (s.port p).held then s
  else
    let d := v % 1024
    let s1 := if d ≤ 1000 then s.wr (PLU_CP_CTL.DUTY p) d else s
    (s1.wr (PLU_CP_CTL.F p) (v / 1024 % 2)).slacArm p

/-! ### SLAC (R287 to R289) -/

/-- Row r of the matrix. -/
def State.row (s : State) (r : Nat) : Option Round := tget (fun _ => none) s.plu.rows r

/-- Fills or frees row r. -/
def State.setRow (s : State) (r : Nat) (x : Option Round) : State :=
  { s with plu := { s.plu with rows := tset (fun _ => none) s.plu.rows r x } }

/-- The row of a RunID. -/
def State.rowOf (s : State) (run : Nat) : Option Nat :=
  (List.range 24).find? (fun r => (s.row r).map (fun (x : Round) => x.runId) = some run)

/-- Entry A[r][p]: mean attenuation, or 0xFFFF with fewer than half of the soundings (R288). -/
def Round.entry (x : Round) (p : Nat) : Nat :=
  let e := nth x.sums p (0, 0)
  if e.2 * 2 < x.total || e.2 = 0 then 0xFFFF else e.1 / e.2

/-- Entry of the matrix; a row not in use holds 0xFFFF (R289). -/
def State.att (s : State) (r p : Nat) : Nat := match s.row r with | none => 0xFFFF | some x => x.entry p

/-- The port with the lowest attenuation of a row, the lower index on a tie (R288). -/
def State.nearest (s : State) (r : Nat) : Nat :=
  (List.range 24).foldl (fun a p => if s.att r p < s.att r a then p else a) 0

/-- The smallest margin found in the checks of R288. -/
def State.slacMargin (s : State) (r p : Nat) : Int :=
  let base : Int := (s.att r p : Nat)
  let cols := ((List.range 24).filter (· ≠ p)).map (fun j => ((s.att r j : Nat) : Int) - base)
  let rows := ((List.range 24).filter (fun q => q ≠ r && (s.row q).isSome)).map (fun q => ((s.att q p : Nat) : Int) - base)
  (cols ++ rows).foldl min 32767

/-- The SLAC record (R289). -/
def State.slacRecord (s : State) (r p result rounds : Nat) (margin : Int) (run t : Nat) : List Nat :=
  let used := ((List.range 24).filter (fun q => (s.row q).isSome)).length
  leBytes 2 (entPort p) ++ [result, rounds, r, used] ++ sBytes 2 (clampS 16 margin) ++ leBytes 8 run ++ leBytes 8 t ++ zeros 8 ++
  (List.range 24).flatMap (fun q => (List.range 24).flatMap (fun j => leBytes 2 (s.att q j)))

/-- An association completes on port p: fresh keys from the KVT's generator (R284, R287). -/
def State.associate (s : State) (p : Nat) : State :=
  let (s1, nmk) := s.freshBytes 16
  let (s2, nek) := s1.freshBytes 16
  let (s3, nid) := s2.freshBytes 7
  ((s3.modPort p (fun x => { x with nmk := nmk, nek := nek, nid := nid })).wr (PLU_CP_STAT.ASSOC p) 1).slacArm p

/-- The sounding window of row r closes (R288, R289). -/
def State.slacClose (s : State) (r : Nat) (x : Round) : State :=
  let p := s.nearest r
  let armed := s.flag (PLU_CP_STAT.ARMED p) && !(s.port p).mute
  let m := s.slacMargin r p
  let result := if !armed then 2 else if m < (s.rd PLU_GCFG.SLAC_MARGIN : Nat) then 1 else 0
  let t := s.siteNs
  let s1 := s.setRow r (some { x with closedAt := some s.now })
  let k := s.rd (PLU_CP_STAT.ROUNDS p)
  if result = 0 then
    let s2 := ((s1.toVehicle p 2 false (leBytes 8 x.runId)).associate p).ev 0x0C02 (entPort p) x.runId (enc 64 m)
    s2.postItem p 1 (s2.slacRecord r p 0 k m x.runId t)
  else
    let n := if (s.port p).mute then k else min 255 (k + 1)
    let s2 := (s1.wr (PLU_CP_STAT.ROUNDS p) n).ev 0x0C03 (entPort p) x.runId (result + 2 ^ 16 * enc 16 (clampS 16 m))
    let s3 := s2.postItem p 1 (s2.slacRecord r p result n m x.runId t)
    if armed && n = 3 then
      ((s3.modPort p (fun y => { y with mute := true })).ev 0x0C04 (entPort p) 3 x.runId).notice p 4 3 t
    else s3

/-! ### Frames (R285, R286, R290) -/

/-- A valid frame from the vehicle (R285, R290, R302). -/
def State.vehicleFrame (s : State) (p : Nat) (f : List Nat) (lead : Nat) : State :=
  let s0 := s.modPort p (fun x => { x with lastSrc := field f 6 6 })
  let s1 := if s.ccs p then s0 else if s.connected p || s.pilot p = 3 then s0.wr (PLU_CP_STAT.LINK p) 1 else s0
  let mgmt := s.ccs p && nth f 12 0 = 0x88 && nth f 13 0 = 0xE1
  if mgmt || s.glb.mode = .shadow then s1
  else match (s1.port p).rx with
  | [] => s1.bump (PLU_RX_DROP.FRAMES p)
  | b :: _ => s1.fillBuffer p b 0 f (s.siteNs - lead)

/-- A unicast frame to the vehicle failed (R286). -/
def State.unicastFail (s : State) (p : Nat) : State :=
  let s1 := s.bump (PLU_LINK_CNT.ERR p)
  if !s.ccs p then s1
  else
    let l := s.now :: (s.port p).fails.take 2
    let s2 := (s1.bump (PLU_LINK_CNT.RETX p)).modPort p (fun x => { x with fails := l, failAt := s.now })
    if s.rd (PLU_PLC_STAT.MODE p) = 0 && l.length = 3 && s.now ≤ nth l 2 0 + 200000000 then
      (((s2.wr (PLU_PLC_STAT.MODE p) 1).bump (PLU_IMP_CNT.FALLBACK p)).modPort p (fun x => { x with stdAt := s.now })).ev 0x0C05
        (entPort p) 3 (s.port p).lastSrc
    else s2

/-- Uptime-independent instant of the next beacon of port p: j × 40 ms + p × 1,600 µs, after the last one (R284). -/
def State.nextBeacon (s : State) (p : Nat) : Nat :=
  let o := 1600000 * p
  let from0 := match (s.port p).beaconAt with | none => s.siteNs | some t => max s.siteNs (t + 1)
  40000000 * divUp (from0 - o) 40000000 + o

/-- PLU_CFG_p.TYPE has changed: the PHY the port does not use any more is in reset, with all it held (R279). -/
def State.typeChanged (s : State) (p : Nat) : State :=
  if s.ccs p then ((s.wr (PLU_CP_STAT.LINK p) 0).modPort p (fun x => { x with fails := [] })).slacArm p
  else
    let s1 := [PLU_PLC_STAT.CCO p, PLU_PLC_STAT.MODE p, PLU_CP_STAT.ASSOC p, PLU_CP_STAT.ROUNDS p].foldl (fun a f => a.wr f 0) s
    (s1.modPort p (fun x => { x with nid := [], nmk := [], nek := [], beaconAt := none, fails := [], mute := false })).slacArm p

/-- Clears every counter of port p (R304). -/
def State.pluClear (s : State) (p : Nat) : State :=
  [PLU_CP_STAT.INV_CNT p, PLU_VIOL.A_CNT p, PLU_VIOL.C_CNT p, PLU_LINK_CNT.ERR p, PLU_LINK_CNT.RETX p,
   PLU_IMP_CNT.IMP p, PLU_IMP_CNT.FALLBACK p, PLU_RX_DROP.FRAMES p, PLU_RX_DROP.NOTICES p].foldl (fun a f => a.wr f 0) s

/-- A port becomes disabled: what has started on its rings completes with ENTITY_DISABLED (spec/17 R414). -/
def State.portDisabled (s : State) (p : Nat) : State :=
  let fl (r : Nat) : List (Nat × Nat) := ((s.ring r).flights.filter (fun f => f.started)).map (fun (f : Flight) => (r, f.idx))
  let s1 := s.modPort p (fun x => { x with tx := [], rx := [], ending := [] })
  (fl p ++ fl (24 + p)).foldl (fun a d => a.complete d.1 d.2 false true 0 0x0012) s1

/-- A beacon of port p at t (R284). -/
def State.beacon (s : State) (p t : Nat) : State :=
  ((s.modPort p (fun x => { x with beaconAt := some t })).wr (PLU_PLC_STAT.CCO p) 1).toVehicle p 3 true (s.port p).nid

/-- Port p is back in standard mode (R286). -/
def State.roboOff (s : State) (p : Nat) : State :=
  ((s.wr (PLU_PLC_STAT.MODE p) 0).modPort p (fun x => { x with fails := [] })).ev 0x0C06 (entPort p)
    ((s.now - (s.port p).stdAt) / 1000000) (s.port p).lastSrc

/-- Port p answers a SLAC_PARM_REQ while it is armed (R287). -/
def State.slacAnswer (s : State) (p runId : Nat) : State :=
  if s.flag (PLU_CP_STAT.ARMED p) && !(s.port p).mute then s.toVehicle p 1 false (leBytes 8 runId) else s

/-- The attenuation sums of a round with one more sounding (R287, R288). -/
def State.soundSums (s : State) (sums : List (Nat × Nat)) (atten : List (BitVec 16)) : List (Nat × Nat) :=
  (List.range 24).map (fun p =>
    let e := nth sums p (0, 0)
    let a := (nth atten p (BitVec.ofNat 16 0xFFFF)).toNat
    if a = 0xFFFF || !s.portOn p || !s.ccs p then e else (e.1 + a, e.2 + 1))

/-- The identity the next session of port p takes (R292). -/
def State.nextSession (s : State) (p : Nat) : Nat := p * 2 ^ 27 + (tget (fun _ => 0) s.plu.counters p + 1) % 2 ^ 27

/-- A session starts on port p (R292, R293). -/
def State.startSession (s : State) (p evcc maxV maxI maxP : Nat) (contract : List Nat) : State :=
  let id := s.nextSession p
  let n := (tget (fun _ => 0) s.plu.counters p + 1) % 2 ^ 27
  let s1 := { s with plu := { s.plu with counters := tset (fun _ => 0) s.plu.counters p n } }
  let s2 := s1.openSession p id (leBytes 6 evcc) contract
  let s3 := (s2.setSession p 1).wr (PLU_SESS_ID.ID p) id
  let s4 := s3.modPort p (fun x => { x with evcc := evcc, maxI := maxI, maxV := maxV, maxP := maxP, reqAt := s.now, lastI := 0, lastP := 0,
                                            classC := none, exits := [] })
  ({ s4 with alp := { s4.alp with inReq := tdel s4.alp.inReq p } }).ev 0x0C07 (entPort p) id evcc

/-- The voltage the vehicle reports is far from the one measured (R294). -/
def State.farV (s : State) (p : Nat) (presentV : BitVec 32) : Bool :=
  match tget (fun _ => []) s.alp.inPort p with
  | [] => false
  | (_, m) :: _ =>
    let off : Int := (presentV.toNat : Int) - m.v
    presentV.toNat ≠ 0xFFFFFFFF && s.contactClosed p && decide (max 10000 (divZ (m.v * 2) 100) < (off.natAbs : Int))

/-- A maximum the request restates, 0 for none (R294). -/
def keepMax (n : BitVec 32) (o : Nat) : Nat := if n.toNat = 0 then o else n.toNat

/-- The values a request is held to (R294, R295). -/
def State.requestOf (s : State) (p : Nat) (reqI reqV reqP presentV : BitVec 32) : Req :=
  let x := s.port p
  let i2 := min (clampI 0 (s.rd (PLU_LIM_I.LIM_I p) : Nat) reqI.toInt) (x.maxI : Int)
  let v1 := clampI 0 (min (s.rd (PLU_LIM_V.LIM_V p)) x.maxV : Nat) reqV.toInt
  let p1 := clampI 0 (min (s.rd (PLU_LIM_P.LIM_P p)) x.maxP : Nat) reqP.toInt
  let far := s.farV p presentV
  { i := if far then min i2 x.lastI else i2, v := v1, p := if far then min p1 x.lastP else p1 }

/-- A request is posted to the mailbox of port p (R294). -/
def State.postRequest (s : State) (p : Nat) (q : Req) : State :=
  let s6 := s.modPort p (fun y => { y with lastI := q.i, lastP := q.p })
  { s6 with alp := { s6.alp with inReq := tput s6.alp.inReq p (mailPost (tget (fun _ => []) s6.alp.inReq p) s6.siteNs q) } }

/-- A cool-off is over (R301). -/
def State.coolDone (s : State) (p : Nat) : State :=
  let s2 := ((s.setSession p 0).wr (PLU_SESS.COOL_LEFT p) 0).modPort p (fun x => { x with coolEnd := none, held := false, dutyAt := none })
  (s2.ev 0x0C0A (entPort p) (s.rd (PLU_SESS_ID.ID p)) 0).notice p 3 0 s.siteNs

open Host (Outcome)

/-- The port's link unit works: the main domains serve and the port is enabled. -/
def State.pluOn (s : State) (p : Nat) : Bool := s.up && s.portOn p

/-- PILOT_PERIOD: the samples of CP_SENSE in the high time and in the low time of the period, 1 MS/s, mV (R281). -/
def execPilotPeriod (port : Fin 24) (high low : List (BitVec 16)) (s : State) : Outcome State Fault Refusal :=
  .next (if s.pluOn port.val then
    let l := s.pilotLevels port.val (high.map (·.toInt)) (low.map (·.toInt))
    s.pilotPeriod port.val l.1 l.2
  else s)

/-- PILOT_CONTROL_WRITE (R280). -/
def execPilotControlWrite (port : Fin 24) (v : BitVec 32) (s : State) : Outcome State Fault Refusal :=
  .next (if !s.up then s else if port.val < s.nPorts then s.pilotControl port.val v.toNat
    else s.gradeLimit (entPort port.val) (PLU_CP_CTL.DUTY port.val).off)

/-- BEACON_SEND: the beacon of port p at its next instant (R284); a standby sends none (R303). -/
def execBeaconSend (port : Fin 24) (s : State) : Outcome State Fault Refusal :=
  let p := port.val
  .next (if s.pluOn p && s.ccs p && s.guards then
    let t := s.nextBeacon p
    (s.waitSite t).beacon p t
  else s)

/-- VEHICLE_FRAME_RECEIVE: a valid frame without FCS, `lead` ns after its start-of-frame (R285). -/
def execVehicleFrameReceive (port : Fin 24) (frame : List (BitVec 8)) (lead : Nat) (s : State) : Outcome State Fault Refusal :=
  .next (if s.pluOn port.val then s.vehicleFrame port.val (frame.map (·.toNat)) lead else s)

/-- UNICAST_FRAME_FAIL; on a 10BASE-T1S port a frame with an FCS error or a lost PLCA beacon (R286). -/
def execUnicastFrameFail (port : Fin 24) (s : State) : Outcome State Fault Refusal :=
  .next (if s.pluOn port.val then s.unicastFail port.val else s)

/-- ROBO_RESTORE: 2 s without a failed frame (R286). -/
def execRoboRestore (port : Fin 24) (s : State) : Outcome State Fault Refusal :=
  let p := port.val
  .next (if s.pluOn p && s.rd (PLU_PLC_STAT.MODE p) = 1 then
    (s.waitTill ((s.port p).failAt + 2000000000)).roboOff p
  else s)

/-- IMPULSE_EVENT (R286). -/
def execImpulseEvent (port : Fin 24) (s : State) : Outcome State Fault Refusal :=
  .next (if s.pluOn port.val && s.ccs port.val then s.bump (PLU_IMP_CNT.IMP port.val) else s)

/-- SLAC_PARM_REQ heard on a port: an armed port answers, and the first of a round takes the next free row; while all rows
are in use no port answers a new RunID (R287). -/
def execSlacParmReq (port : Fin 24) (runId : BitVec 64) (s : State) : Outcome State Fault Refusal :=
  let p := port.val
  .next (if !(s.pluOn p && s.ccs p && s.guards) then s
    else match s.rowOf runId.toNat with
      | some _ => s.slacAnswer p runId.toNat
      | none =>
        match (List.range 24).find? (fun r => (s.row r).isNone) with
        | none => s
        | some r =>
          (s.setRow r (some { runId := runId.toNat, total := 0, sums := List.replicate 24 (0, 0), closedAt := none })).slacAnswer p runId.toNat)

/-- SLAC_SOUND: one sounding of a round, with the attenuation each PHY measured, the mean over the attenuation groups in
0.1 dB, 0xFFFF where it received none (R287, R288). -/
def execSlacSound (runId : BitVec 64) (atten : List (BitVec 16)) (s : State) : Outcome State Fault Refusal :=
  .next (match s.rowOf runId.toNat with
    | none => s
    | some r =>
      match s.row r with
      | none => s
      | some x =>
        if !s.up || x.closedAt.isSome then s
        else s.setRow r (some { x with total := x.total + 1, sums := s.soundSums x.sums atten }))

/-- SLAC_WINDOW_CLOSE of a round (R288). -/
def execSlacWindowClose (runId : BitVec 64) (s : State) : Outcome State Fault Refusal :=
  .next (match s.rowOf runId.toNat with
    | none => s
    | some r =>
      match s.row r with
      | none => s
      | some x => if !s.up || x.closedAt.isSome then s else s.slacClose r x)

/-- SLAC_ROW_FREE, 100 ms after the window closed (R287). -/
def execSlacRowFree (runId : BitVec 64) (s : State) : Outcome State Fault Refusal :=
  .next (match s.rowOf runId.toNat with
    | none => s
    | some r =>
      match (s.row r).bind (fun (x : Round) => x.closedAt) with
      | none => s
      | some t => if s.up then (s.waitTill (t + 100000000)).setRow r none else s)

/-- An operation of a transmit ring: in SHADOW every one is denied (R303). -/
def State.runTx (s : State) (d : DescRef) (k : State → State) : State :=
  s.run d 0x0C01 fun s => s.checkMode d s.guards k

/-- FRAME: `argOk`, the reserved bytes are 0; `data` is what the host buffer holds (spec/17 R415). -/
def execFrame (d : DescRef) (argOk : Bool) (len : BitVec 32) (data : List (BitVec 8)) (s : State) : Outcome State Fault Refusal :=
  .next (s.runTx d fun s =>
    let b := fitData len.toNat (data.map (·.toNat))
    if !argOk || len.toNat < 60 || 1514 < len.toNat || (nth b 12 0 = 0x88 && nth b 13 0 = 0xE1) then s.fail d 0x0090
    else s.modPort d.ring.val (fun x => { x with tx := x.tx ++ [(d.ring.val, d.idx.toNat, s.now, b)] }))

/-- FRAME_SENT: the oldest frame of the port has left the PHY, its start-of-frame `lead` ns ago (spec/17 R415); a unicast frame ends
a row of failures (R286). -/
def execFrameSent (port : Fin 24) (lead : Nat) (s : State) : Outcome State Fault Refusal :=
  let p := port.val
  .next (match (s.port p).tx with
    | [] => s
    | (r, i, _, b) :: l =>
      if !s.pluOn p then s
      else
        let s1 := s.modPort p (fun x => { x with tx := l, fails := if (nth b 0 0).testBit 0 then x.fails else [] })
        (s1.toVehicle p 0 ((nth b 0 0).testBit 0) (b ++ leBytes 4 (crc32 b))).complete r i false false 0 0 (zeros 4 ++ leBytes 8 (s.siteNs - lead)))

/-- FRAME_TX_TIMEOUT: 200 ms after its start (spec/17 R415). -/
def execFrameTxTimeout (port : Fin 24) (s : State) : Outcome State Fault Refusal :=
  let p := port.val
  .next (match (s.port p).tx with
    | [] => s
    | (r, i, t, _) :: l =>
      if !s.pluOn p then s
      else ((s.waitTill (t + 200000000)).modPort p (fun x => { x with tx := l })).complete r i false true 0 0x009F)

/-- The port is tripped in the caps last published (CAP_FLAGS bit 1, R292). -/
def State.capTripped (s : State) (p : Nat) : Bool :=
  match s.alp.inCaps with | [] => false | (_, c) :: _ => (nth c.ports p (0, 0, false, false)).2.2.2

/-- SESSION_START (R292, R293). No request of the session before it is left (DEDUCED, log entry 68). -/
def execSessionStart (d : DescRef) (argOk : Bool) (evcc : BitVec 48) (maxV maxI maxP : BitVec 32)
    (contract : List (BitVec 8)) (s : State) : Outcome State Fault Refusal :=
  let p := d.ring.val
  .next (s.run d 0x0C01 fun s => s.checkMode d (s.glb.mode = .active) fun s =>
    if !argOk || maxV.toNat = 0 || maxI.toNat = 0 || maxP.toNat = 0 then s.fail d 0x0090
    else if s.session p = 3 then s.fail d 0x009B
    else if s.session p ≠ 0 then s.fail d 0x009A
    else if s.capTripped p then s.fail d 0x009C
    else if !s.connected p then s.fail d 0x009D
    else if !(if s.ccs p then s.flag (PLU_CP_STAT.ASSOC p) else s.flag (PLU_CP_STAT.LINK p)) then s.fail d 0x009E
    else if s.flag RSL_JRNL_STAT.LOW then s.fail d 0x007A
    else
      (s.startSession p evcc.toNat maxV.toNat maxI.toNat maxP.toNat (contract.map (·.toNat))).done d
        (leBytes 4 (s.nextSession p) ++ leBytes 8 s.siteNs))

/-- One check of R295: when it fails the clamped value, the violation and the first code. -/
def State.check (s : State) (p : Nat) (bad : Bool) (cause code : Nat) (first : Nat) : State × Nat :=
  if bad then (s.classB p cause code, if first = 0 then code else first) else (s, first)

/-- The interval since the last REQUEST (R296). -/
def State.timeRequest (s : State) (p : Nat) : State :=
  let dt := s.now - (s.port p).reqAt
  let per := 1000000 * s.rd (PLU_GUARD.PERIOD p)
  let tol := 1000000 * s.rd (PLU_GUARD.TOL p)
  if dt ≤ per + tol then s else if dt ≤ per + 2 * tol then s.violate p 1 0x01 0 else s.violate p 1 0x02 0

/-- The checks of a request in order: events, counters, and the code of the first that clamps (R294, R295). -/
def State.requestChecks (s : State) (p : Nat) (reqI reqV reqP presentV : BitVec 32) : State × Nat :=
  let x := s.port p
  let limI : Int := (s.rd (PLU_LIM_I.LIM_I p) : Nat)
  let topV : Int := (min (s.rd (PLU_LIM_V.LIM_V p)) x.maxV : Nat)
  let topP : Int := (min (s.rd (PLU_LIM_P.LIM_P p)) x.maxP : Nat)
  let i0 := reqI.toInt
  let v0 := reqV.toInt
  let p0 := reqP.toInt
  let (s1, c1) := s.check p (i0 < 0 || limI < i0) 0x10 0x0091 0
  let (s2, c2) := s1.check p ((x.maxI : Int) < clampI 0 limI i0) 0x11 0x0092 c1
  let (s3, c3) := s2.check p (v0 < 0 || topV < v0) 0x12 0x0093 c2
  let (s4, c4) := s3.check p (p0 < 0 || topP < p0) 0x13 0x0094 c3
  s4.check p (s.farV p presentV) 0x14 0x0095 c4

/-- The maxima a request restates, and its time (R294, R296). -/
def State.requestTimed (s : State) (p : Nat) (newI newV newP : BitVec 32) : State :=
  (s.timeRequest p).modPort p (fun x => { x with reqAt := s.now, maxI := keepMax newI x.maxI, maxV := keepMax newV x.maxV, maxP := keepMax newP x.maxP })

/-- REQUEST (R294 to R296). -/
def execRequest (d : DescRef) (argOk : Bool) (reqI reqV reqP presentV : BitVec 32) (newI newV newP : BitVec 32) (s : State) :
    Outcome State Fault Refusal :=
  let p := d.ring.val
  .next (s.runTx d fun s =>
    if s.session p = 2 then s.fail d 0x0098
    else if s.session p ≠ 1 then s.fail d 0x0099
    else if !argOk then s.fail d 0x0090
    else
      let s0 := s.requestTimed p newI newV newP
      let q := s0.requestOf p reqI reqV reqP presentV
      let r := s0.requestChecks p reqI reqV reqP presentV
      (r.1.postRequest p q).done d (sBytes 4 q.i ++ sBytes 4 q.v ++ sBytes 4 q.p) r.2)

/-- SESSION_END (R300). -/
def execSessionEnd (d : DescRef) (argOk : Bool) (reason : BitVec 8) (s : State) : Outcome State Fault Refusal :=
  let p := d.ring.val
  .next (s.runTx d fun s =>
    if !argOk || (reason.toNat ≠ 0 && reason.toNat ≠ 5) then s.fail d 0x0090
    else if s.session p ≠ 1 then s.fail d 0x0099
    else
      ((s.guardExit p reason.toNat).modPort p (fun x => { x with ending := x.ending ++ [(d.ring.val, d.idx.toNat)] })).reportStart
        d.ring.val d.idx.toNat)

/-- A class and cause of the table of R297. -/
def violationListed (cls cause : Nat) : Bool :=
  (cls == 1 && 1 ≤ cause && cause ≤ 3) || (cls == 2 && 0x10 ≤ cause && cause ≤ 0x15) || (cls == 3 && 1 ≤ cause && cause ≤ 5)

/-- REPORT (R297). -/
def execReport (d : DescRef) (argOk : Bool) (cls cause : BitVec 8) (s : State) : Outcome State Fault Refusal :=
  let p := d.ring.val
  .next (s.runTx d fun s =>
    if !argOk || !violationListed cls.toNat cause.toNat then s.fail d 0x0090
    else if cls.toNat = 3 then (s.classC p cause.toNat).done d
    else if cls.toNat = 2 then (s.classB p cause.toNat 0).done d
    else (s.violate p 1 cause.toNat 0).done d)

/-- PORT_RX (R302): a waiting record or notice goes into the buffer at once. -/
def execPortRx (d : DescRef) (argOk : Bool) (len : BitVec 32) (addr : BitVec 64) (s : State) : Outcome State Fault Refusal :=
  let p := d.ring.val - 24
  .next (s.run d 0x0C02 fun s =>
    if !argOk || len.toNat < 1536 then s.fail d 0x0090
    else
      let b := (d.ring.val, d.idx.toNat, addr.toNat)
      let s1 := (s.waitOutside d).modPort p (fun x => { x with rx := x.rx ++ [b] })
      match (s1.port p).items, (s1.port p).rx with
      | (k, bytes, t) :: l, b0 :: _ => (s1.modPort p (fun x => { x with items := l })).fillBuffer p b0 k bytes t
      | _, _ => s1)

/-- SESSION_TIMEOUT (R296). -/
def execSessionTimeout (port : Fin 24) (s : State) : Outcome State Fault Refusal :=
  let p := port.val
  .next (if s.pluOn p && s.guards && s.session p = 1 && (s.port p).classC.isNone then
    (s.waitTill ((s.port p).reqAt + 1000000 * s.rd (PLU_TMO.SESSION_TMO p))).classC p 0x04
  else s)

/-- COOLOFF_END (R301). -/
def execCooloffEnd (port : Fin 24) (s : State) : Outcome State Fault Refusal :=
  let p := port.val
  .next (match (s.port p).coolEnd with
    | none => s
    | some t =>
      if !s.up || s.session p ≠ 3 then s else (s.waitTill t).coolDone p)

/-- PLU_CLR_COUNTS (R304). -/
def execPluClrCounts (port : Fin 24) (s : State) : Outcome State Fault Refusal :=
  .next (if !s.up then s else if port.val < s.nPorts then s.pluClear port.val
    else s.gradeLimit (entPort port.val) (PLU_CLR.COUNTS port.val).off)

end Sys2Proof.Machine
end

