-- ==== Sys2Proof/Machine/Rind.lean ====
section
/-!
DEFINITION. The Rind (spec/14_safety_island.md): safe inputs, safety functions, trips, safe outputs, caps, twin duties and
the logic cycle. What a trip changes in the rest of the device, and the commands themselves, stand in RindExec.
-/
namespace Sys2Proof.Machine

/-! ### Parameters and access -/

abbrev State.pairFunc (s : State) (i : Nat) : Nat := s.par (0x240 + 8 * i) 1
abbrev State.pairScope (s : State) (i : Nat) : Nat := s.par (0x244 + 8 * i) 4
abbrev State.connRole (s : State) (c : Nat) : Nat := s.par (0x402 + 16 * c) 1

/-- A time in 0.1 ms as whole cycles, rounded up (R340). -/
def cyc (t : Nat) : Nat := max 1 (divUp t 5)

/-- Pair i. -/
def State.pair (s : State) (i : Nat) : Pair := tget (fun _ => Pair.reset) s.sfi.pairs i

/-- Replaces pair i. -/
def State.setPair (s : State) (i : Nat) (x : Pair) : State :=
  { s with sfi := { s.sfi with pairs := tset (fun _ => Pair.reset) s.sfi.pairs i x } }

/-- Replaces output k. -/
def State.setSo (s : State) (k : Nat) (x : SafeOut) : State :=
  { s with sfi := { s.sfi with outs := tset (fun _ => SafeOut.reset) s.sfi.outs k x } }

/-- Terminal ch. -/
def State.term (s : State) (ch : Nat) : SafeIn := tget (fun _ => SafeIn.reset) s.sfi.si ch

/-- Replaces terminal ch. -/
def State.setTerm (s : State) (ch : Nat) (x : SafeIn) : State :=
  { s with sfi := { s.sfi with si := tset (fun _ => SafeIn.reset) s.sfi.si ch x } }

/-- Connection c. -/
def State.conn (s : State) (c : Nat) : Conn := tget (fun _ => Conn.reset) s.sfi.conns c

/-- Replaces connection c. -/
def State.setConn (s : State) (c : Nat) (x : Conn) : State :=
  { s with sfi := { s.sfi with conns := tset (fun _ => Conn.reset) s.sfi.conns c x } }

/-- An event of the Rind, with its own stamp (R361). -/
def State.evS (s : State) (code entity : Nat) (a1 a2 : Nat := 0) : State := s.logFrom 3 code entity a1 a2

/-- The peer connection, if the image has one. -/
def State.peerConn (s : State) : Option Nat := (List.range 8).find? (fun c => s.connRole c == 2)

/-- A bit of the peer payload, at its safe value 0 outside RUN (R351, R353). -/
def State.peerBit (s : State) (b : Nat) : Bool :=
  match s.peerConn with
  | none => false
  | some c => (s.conn c).state == 2 && (nth (s.conn c).payload 0 0).testBit b

/-! ### Heartbeat (spec/02 R35) -/

/-- Mode shown by the last heartbeat. -/
def State.hbMode (s : State) : Nat := match s.sfi.hb with | none => 0 | some w => w / 2 ^ 24 % 8

/-- The last heartbeat shows ACTIVE, SHADOW, LIMP or HALT. -/
def State.hbRuns (s : State) : Bool := s.sfi.hb.isSome && 2 ≤ s.hbMode && s.hbMode ≤ 5

/-- Heartbeat loss: a ramp-down request is in force (R35). -/
def State.hbLoss (s : State) : Bool := s.hbRuns && s.sfi.hbStop

/-- A ramp-down request is in force: heartbeat loss (R35), or a brown-out until writes resume (spec/02 R32). -/
def State.rampReq (s : State) : Bool := s.hbLoss || s.glb.brownAt.isSome

/-- The site is a twin, as the Rind knows it: by TOPO while the main domains run, and as they last ran while TOPO is in reset
(R35; DESIGN CHOICE, log entry 119). -/
def State.rindTwin (s : State) : Bool := if s.up then s.twinSite else s.sfi.twinSite

/-- The forced switch-off is withheld under the twin rule (R35). -/
def State.withheld (s : State) : Bool := s.rindTwin && s.sfi.aliveOk && s.peerBit 0

/-! ### Trips (R341, R342) -/

/-- Key of a condition or cause. -/
def ckey (func origin : Nat) : Nat := func * 256 + origin

/-- A trip is latched, once per entity, function and origin (R342). -/
def State.trip (s : State) (target func origin cat : Nat) (val : Int) : State :=
  if s.sfi.trips.any (fun t => t.target = target && t.func = func && t.origin = origin) then s
  else
    let t : Trip := { target := target, func := func, origin := origin, cat := cat, since := s.now,
                      acting := cat = 0 || target = 0 }
    let s1 := { s with sfi := { s.sfi with trips := s.sfi.trips ++ [t] } }
    let s2 := s1.evS 0x0E01 target func (cat + enc 56 val * 256)
    if s2.mainUp then s2.attn 2 else s2

/-- The entities of a scope word: ports in bits [23:0], converters in [27:24], the site in bit 31 (R354). -/
def State.scopeEnts (s : State) (m : Nat) : List Nat :=
  (bitsOf (m % 2 ^ 24) s.nPorts).map entPort ++ (bitsOf (m / 2 ^ 24 % 16) 4).map entConv ++ (if m.testBit 31 then [0] else [])

/-- Trips every entity of a scope. -/
def State.tripScope (s : State) (m func origin cat : Nat) (val : Int) : State :=
  (s.scopeEnts m).foldl (fun a e => a.trip e func origin cat val) s

/-- Trips the scope of output k: its ports, converters and axes. -/
def State.tripOut (s : State) (k : Nat) : State :=
  let b := 0x280 + 8 * k
  let l := (bitsOf (s.par b 4) s.nPorts).map entPort ++ (bitsOf (s.par (b + 4) 1) 4).map entConv ++
    (bitsOf (s.par (b + 5) 1) 4).map entAxis
  l.foldl (fun a e => a.trip e 10 (64 + k) 0 0) s

/-- A cause is present in this cycle. -/
def State.cause (s : State) (func origin : Nat) : State :=
  { s with sfi := { s.sfi with present := ckey func origin :: s.sfi.present } }

/-- Counts the cycles for which a condition has held; answers the state and the count (R340). -/
def State.count (s : State) (key : Nat) (on : Bool) (val : Int) : State × Nat :=
  let n := if on then tget (fun _ => 0) s.sfi.counts key + 1 else 0
  ({ s with sfi := { s.sfi with counts := tset (fun _ => 0) s.sfi.counts key n,
                                vals := tset (fun _ => 0) s.sfi.vals key val } }, n)

/-- A safety function's condition in this cycle: its cause while it holds, and the trip once it has held for its time. -/
def State.condition (s : State) (func origin cycles : Nat) (on : Bool) (val : Int) (trip : State → State) : State :=
  let (s1, n) := s.count (ckey func origin) on val
  let s2 := if on then s1.cause func origin else s1
  if on && cycles ≤ n then trip s2 else s2

/-- A site-wide trip is latched. -/
def State.siteTrip (s : State) : Bool := s.sfi.trips.any (fun t => t.target = 0)

/-- A trip is latched on the entity; a site-wide trip counts on every one (R341). -/
def State.tripped (s : State) (e : Nat) : Bool := s.sfi.trips.any (fun t => t.target = e || t.target = 0)

/-! ### Safe inputs (R330 to R332) -/

/-- Samples of one terminal: a level is accepted after 2 × FILT consecutive samples, on the first with FILT 0 (R330). -/
def SafeIn.sample (x : SafeIn) (filt : Nat) : List Bool → SafeIn
  | [] => x
  | b :: l =>
    let y : SafeIn :=
      if b = x.level then { x with run := 0 }
      else if max 1 (2 * filt) ≤ x.run + 1 then { x with level := b, run := 0 } else { x with run := x.run + 1 }
    y.sample filt l

/-- Two levels of a pair in its mode: 0 clear, 1 demand, 2 discrepancy (R330). -/
def pairState (antivalent a b : Bool) : Nat :=
  if antivalent then (if a && !b then 0 else if b && !a then 1 else 2)
  else if a && b then 0 else if !a && !b then 1 else 2

/-- The clear level a connection's payload gives for pair i, where its MAP names the pair (R353). -/
def State.mapped (s : State) (i : Nat) : Option Bool :=
  match (List.range 8).find? (fun c => 1 ≤ i && s.connRole c == 1 && (s.par (0x40D + 16 * c) 1).testBit i) with
  | none => none
  | some c => some ((s.conn c).state == 2 && (nth (s.conn c).payload 0 0).testBit i)

/-- Source a terminal is assigned: 0 none, 1 TPS0, 2 TPS1 (R354). -/
def State.tpSource (s : State) (ch : Nat) : Nat :=
  let m := s.par (0x241 + 8 * (ch / 2)) 1
  if ch % 2 = 0 then m / 2 % 4 else m / 8 % 4

/-- A source was low at an instant: within the 200 µs of its last pulse (R331). -/
def lowAt (pulse : Option Nat) (t : Nat) : Bool := match pulse with | none => false | some a => a ≤ t && t < a + 200000

/-- A sample of terminal ch at an instant falls in the test-pulse window of its source (R330). -/
def State.maskedAt (s : State) (ch t : Nat) : Bool :=
  match s.tpSource ch with
  | 1 => lowAt s.sfi.tps0 t
  | 2 => lowAt s.sfi.tps1 t
  | _ => false

/-- The samples of terminal ch that count: every 50 µs of the cycle that ends now, outside its test-pulse windows (R330). -/
def State.termSamples (s : State) (ch : Nat) (samples : List (BitVec 16)) : List Bool :=
  (((List.range samples.length).zip samples).filter (fun x => !s.maskedAt ch (s.now - 500000 + 50000 * (x.1 + 1)))).map
    (fun x => x.2.getLsbD ch)

/-- Terminals take their samples of the cycle. -/
def State.scanTerms (s : State) (samples : List (BitVec 16)) : State :=
  (List.range 16).foldl (fun a ch =>
    a.setTerm ch ((a.term ch).sample (s.par (0x242 + 8 * (ch / 2)) 1) (s.termSamples ch samples))) s

/-- Demand held for 0.1 s to 2 s (R332). -/
def ackHeld (len : Nat) : Bool := 100000000 ≤ len && len ≤ 2000000000

/-- An acknowledge sequence meets the state of its pair, 0 clear, 1 demand, 2 discrepancy; the second part says that it is
complete (R332; DEDUCED: the two channels need not change in one cycle, log entry 134). -/
def AckSeq.step (x : AckSeq) (st now : Nat) : AckSeq × Bool :=
  match st, x with
  | 0, .demand t => (.clear, ackHeld (now - t))
  | 0, .held n => (.clear, ackHeld n)
  | 0, _ => (.clear, false)
  | 1, .clear => (.demand now, false)
  | 1, .demand t => (.demand t, false)
  | 1, _ => (.idle, false)
  | _, .demand t => (.held (now - t), false)
  | _, y => (y, false)

/-- Levels of pair i as its mode reads them. -/
def State.pairRaw (s : State) (i : Nat) : Nat :=
  pairState ((s.par (0x241 + 8 * i) 1).testBit 0) (s.term (2 * i)).level (s.term (2 * i + 1)).level

/-- The discrepancy fault of pair i latches (R330). -/
def State.discFault (s : State) (i : Nat) : State :=
  (s.setPair i { s.pair i with fault := true }).evS 0x0E05 (ent 14 (2 * i)) 1 i

/-- Pair i in this cycle: the latched discrepancy fault, test-pulse faults, mapped payload bits; the state and whether an
acknowledge sequence of 0.1 s to 2 s completed (R330 to R332, R353). -/
def State.scanPair (s : State) (i : Nat) : State × Bool :=
  let raw := s.pairRaw i
  let x := s.pair i
  let used := s.pairFunc i ≠ 0
  let since := if raw = 2 && used then (match x.discAt with | none => some s.now | some t => some t) else none
  let late : Bool := match since with | none => false | some t => t + 10000000 * s.par (0x243 + 8 * i) 1 ≤ s.now
  let s1 := s.setPair i { x with discAt := since, fault := x.fault && raw != 1 }
  let s2 := if late && !(s1.pair i).fault then s1.discFault i else s1
  let tpf := (s.term (2 * i)).tpf || (s.term (2 * i + 1)).tpf
  let st := match s.mapped i with
    | some c => if c then 0 else 1
    | none => if (s2.pair i).fault || x.fault || tpf then 1 else raw
  let (ack, seq) := x.ack.step st s.now
  (s2.setPair i { s2.pair i with last := st, ack := ack }, seq)

/-- Demands of the pairs: FUNC 1 emergency stop, FUNC 2 port enable (R332). -/
def State.pairTrips (s : State) (i : Nat) : State :=
  let d := (s.pair i).last == 1
  let m := s.pairScope i
  match s.pairFunc i with
  | 1 => s.condition 6 i 1 d (i : Nat) (fun a => a.tripScope m 6 i 0 (i : Nat))
  | 2 => s.condition 13 i 1 d (i : Nat) (fun a => a.tripScope (m % 2 ^ 31) 13 i 1 (i : Nat))
  | _ => s

/-- Scopes of the pairs with a function in a state: the or of their scope words. -/
def State.pairMask (s : State) (func : Nat) (clear : Bool) : Nat :=
  ((List.range 8).filter (fun i => s.pairFunc i == func && ((s.pair i).last == 0) == clear)).foldl (fun a i => a ||| s.pairScope i) 0

/-! ### Caps (R338) and SAFE_OFF (R345) -/

/-- Scope masks of the de-energised outputs: ports and converters. -/
def State.offMasks (s : State) : Nat × Nat :=
  ((List.range 8).filter (fun k => !(s.so k).on)).foldl (fun a k =>
    (a.1 ||| s.par (0x280 + 8 * k) 4, a.2 ||| s.par (0x284 + 8 * k) 1)) (0, 0)

/-- The port is SAFE_OFF by its current (R345). -/
def State.quiet (s : State) (p : Nat) : Bool := cyc (s.par 0x00C 2 * 10) ≤ tget (fun _ => 0) s.sfi.low p

/-- SAFE_OFF of port p (R345). -/
def State.safeOff (s : State) (p : Nat) : Bool :=
  let l := s.outsOfPort p
  (!l.isEmpty && l.all (fun k => !(s.so k).on)) || s.quiet p

/-- The caps as they stand (R338). -/
def State.capsNow (s : State) : Caps :=
  let (offP, offC) := s.offMasks
  let block := s.pairMask 2 false
  let permit := s.pairMask 5 true
  let loss := s.rampReq
  let port (p : Nat) : Nat × Nat × Bool × Bool :=
    let slc := s.par (0x040 + 16 * p) 4
    let c := if s.hbMode = 4 then min slc (s.par (0x048 + 16 * p) 4) else slc
    let t := s.tripped (entPort p)
    (if t || block.testBit p || offP.testBit p || loss then 0 else c, s.par (0x044 + 16 * p) 4,
     (s.par (0x04C + 16 * p) 1).testBit 0 && permit.testBit p && !loss, t)
  let str (i : Nat) : Nat × Bool :=
    let k := s.par (0x1C5 + 8 * i) 1
    (if s.tripped (entConv k) || offC.testBit k || loss then 0 else s.par (0x1C0 + 8 * i) 4,
     (s.par (0x1C4 + 8 * i) 1).testBit 0 && permit.testBit (24 + k) && !loss)
  { ports := (List.range s.nPorts).map port, strings := (List.range s.nStrings).map str,
    safeOff := maskOf ((List.range s.nPorts).filter s.safeOff) }

/-! ### Measurements and safety functions (R336, R337, R339, R340) -/

/-- LIM_I and LIM_V of a port, in 1/1,000 mA and 1/1,000 mV, over the publications of the window (R339). -/
def State.limits (s : State) (p : Nat) (c : Caps) : Nat × Nat :=
  let now := nth c.ports p (0, 0, false, false)
  let win := s.sfi.pubs.filter (fun x => s.siteNs ≤ x.stamp + 1000000 * s.par 0x00E 2)
  let mi := win.foldl (fun a x => max a (nth x.capI p 0)) now.1
  let mv := win.foldl (fun a x => max a (nth x.capV p 0)) now.2.1
  let tol := 1000 + s.par 0x010 2
  (mi * tol + 1000000 * s.par 0x012 2, mv * tol + 1000000 * s.par 0x016 2)

/-- The limits that apply in this cycle: those before the request while the switch-off is withheld (R339); a lowered limit
counts from the first whole cycle it stood through (R344, example). -/
def State.limitsNow (s : State) (p : Nat) (c : Caps) : State × (Nat × Nat) :=
  match (if s.hbLoss && s.withheld then tget (fun _ => (0, 0)) s.sfi.limKeep p else (0, 0)) with
  | (0, 0) =>
    let l := s.limits p c
    let was := (tget (fun _ => none) s.sfi.limPrev p).getD l
    let s1 := { s with sfi := { s.sfi with
      limPrev := tset (fun _ => none) s.sfi.limPrev p (some l)
      limKeep := if s.hbLoss then s.sfi.limKeep else tset (fun _ => (0, 0)) s.sfi.limKeep p l } }
    (s1, (max l.1 was.1, max l.2 was.2))
  | l => (s, l)

/-- A diagnostic that also requests LIMP is present or gone (R358, R361). -/
def State.limpCause (s : State) (key entity diag : Nat) (on : Bool) : State :=
  let had := s.sfi.limpBy.contains key
  if on = had then s
  else
    let l := if on then key :: s.sfi.limpBy else s.sfi.limpBy.filter (· ≠ key)
    ({ s with sfi := { s.sfi with limpBy := l } }).evS 0x0E09 entity diag (b2n on)

/-- The cross-check of one mean against the metering mean of channel ch: beyond XCHK_PCT of SCALE in 4 consecutive cycles
(R336). -/
def State.crossCheck (s : State) (p ch : Nat) (d m : Int) (on : Bool) : State × Bool :=
  let bad : Bool := on && s.par 0x01E 1 * s.rd (MTE_CH_SCALE.SCALE ch) < (d - m).natAbs * 1000
  let (s1, n) := s.count (ckey 15 ch) bad d
  let s2 := if n = 4 then s1.evS 0x0E06 (entPort p) (enc 64 d) (enc 64 m) else s1
  (s2, 4 ≤ n)

/-- Mean of the samples of a cycle (R336). -/
def cycleMean (l : List (BitVec 32)) : Int := divZ (sumI (l.map BitVec.toInt)) l.length

/-- The functions of port p in a cycle (R336, R339, R340). -/
def State.portCycle (s : State) (c : Caps) (p : Nat) (d : PortDiag) : State :=
  let i := cycleMean d.i
  let v := cycleMean d.v
  let e := entPort p
  let (s1, lim) := s.limitsNow p c
  let s2 := s1.condition 1 p (cyc (s.par 0x014 1)) (lim.1 < i.natAbs * 1000) i (fun a => a.trip e 1 p 0 i)
  let s3 := s2.condition 2 p (cyc (s.par 0x015 1)) (decide ((lim.2 : Int) < v * 1000)) v (fun a => a.trip e 2 p 0 v)
  let exp := (nth c.ports p (0, 0, false, false)).2.2.1 || s.sfi.lastExp.testBit p
  let sdi : Bool := decide (i < -((s.par 0x018 2 * 1000 : Nat) : Int)) && !exp
  let s4 := s3.condition 3 p (cyc (s.par 0x01A 1)) sdi i (fun a => a.trip e 3 p 0 i)
  let (s5, bv) := s4.crossCheck p (2 * p) v (cycleMean d.mv) (!d.mv.isEmpty)
  let (s6, bi) := s5.crossCheck p (2 * p + 1) i (cycleMean d.mi) (!d.mi.isEmpty)
  let bad := bv || bi || d.stuck
  let s7 := (s6.condition 10 p 1 bad i (fun a => a.trip e 10 p 1 i)).limpCause (1000 + p) e 7 bad
  let low := if i.natAbs < s.par 0x008 4 then tget (fun _ => 0) s.sfi.low p + 1 else 0
  { s7 with sfi := { s7.sfi with low := tset (fun _ => 0) s7.sfi.low p low } }

/-- A port without diagnostic samples: none of its conditions holds. -/
def State.portSilent (s : State) (p : Nat) : State :=
  let clear := [ckey 1 p, ckey 2 p, ckey 3 p, ckey 10 p, ckey 15 (2 * p), ckey 15 (2 * p + 1)]
  { s with sfi := { s.sfi with counts := clear.foldl (fun t k => tset (fun _ => 0) t k 0) s.sfi.counts,
                               low := tset (fun _ => 0) s.sfi.low p 0, limPrev := tset (fun _ => none) s.sfi.limPrev p none } }

/-- String current from the Rind's own filter with the image's copies, 2^−8 mA (R337). -/
def State.rindCurrent (s : State) (i : Nat) (code : BitVec 24) : Int :=
  divZ (code.toInt * (s.par (0x480 + 8 * i) 4 : Nat) * 256) (2 ^ 23) + sx 32 (s.par (0x484 + 8 * i) 4)

/-- SDI of converter k, and the faults of the Q filters (R336, R337, R340). -/
def State.convCycle (s : State) (c : Caps) (l : List (BitVec 24 × Bool)) (k : Nat) : State :=
  let mine := (List.range s.nStrings).filter (fun i => s.par (0x1C5 + 8 * i) 1 == k && i < l.length)
  let cur := sumI (mine.map (fun i => s.rindCurrent i (nth l i (0, false)).1))
  let barred := mine.any (fun i => !(nth c.strings i (0, false)).2)
  let on : Bool := decide (((s.par 0x018 2 * 256000 : Nat) : Int) < cur) && barred
  let s1 := s.condition 3 (24 + k) (cyc (s.par 0x01A 1)) on (divZ cur 256) (fun a => a.trip (entConv k) 3 (24 + k) 0 (divZ cur 256))
  mine.foldl (fun a i =>
    let bad := (nth l i (0, false)).2
    (a.condition 10 (32 + i) 1 bad 0 (fun b => b.trip (entConv k) 10 (32 + i) 1 0)).limpCause (1032 + i) (entString i) 7 bad) s1

/-- Number spelled by a Gray code of `w` bits. -/
def ungray (w n : Nat) : Nat :=
  (List.range w).foldl (fun a i => Nat.xor a (n / 2 ^ i)) 0 % 2 ^ w

/-- An axis in a cycle: position, SLS, SLP and encoder faults (R340). -/
def State.axisCycle (s : State) (a : Nat) (x : AxisIn) : State :=
  let b := 0x2C0 + 16 * a
  let mode := s.par b 1
  if mode = 0 then s
  else
    let y := tget (fun _ => Axis.reset) s.sfi.axes a
    let raw := x.ssi.toNat % 2 ^ s.par (b + 1) 1
    let cur : Int := if mode = 3 then sx 32 (ungray (s.par (b + 1) 1) raw) else sx 32 raw
    let slsMax := s.par (b + 12) 4
    let step : Int := if mode = 1 then x.delta.toInt else match y.ssi with | none => 0 | some q => cur - q
    let jump : Bool := mode ≠ 1 && y.ssi.isSome && 2 * slsMax < step.natAbs
    let bad := if mode = 1 then x.illegal else !x.parity || jump
    let pos : Int := if mode = 1 then sx 32 (enc 32 (y.pos + step)) else cur
    let y1 : Axis := { pos := pos, d0 := step, d1 := y.d0, ssi := if mode = 1 then none else some cur }
    let e := entAxis a
    let s1 := { s with sfi := { s.sfi with axes := tset (fun _ => Axis.reset) s.sfi.axes a y1 } }
    let v := step + y.d0
    let s2 := s1.condition 4 a 1 (slsMax < v.natAbs) v (fun u => u.trip e 4 a 0 v)
    let out : Bool := decide (pos < sx 32 (s.par (b + 4) 4)) || decide (sx 32 (s.par (b + 8) 4) < pos)
    let s3 := s2.condition 5 a 1 out pos (fun u => u.trip e 5 a 0 pos)
    s3.condition 11 a 1 bad pos (fun u => u.trip e 11 a 0 pos)

/-- A comparator entry in a cycle (spec/15 R370) and its self-test (R358). -/
def State.tempCycle (s : State) (j : Nat) (t : Int) (selfBad : Bool) : State :=
  let b := 0x300 + 8 * j
  if s.par b 1 = 0x7F then s
  else
    let level : Int := (s.par (b + 2) 2 : Nat)
    let m := s.par (b + 4) 4
    let crossed : Bool := decide (level ≤ t) || decide (t ≤ -600)
    let inside : Bool := decide (-600 < t) && decide (t < level - 50)
    let (s1, n) := s.count (ckey 8 j) crossed t
    let was := tget (fun _ => (false, 0)) s.sfi.temps j
    let calm := if inside then was.2 + 1 else 0
    let on := (was.1 && calm < 2000) || 2 ≤ n
    let s2 := { s1 with sfi := { s1.sfi with temps := tset (fun _ => (false, 0)) s1.sfi.temps j (on, if on then calm else 0) } }
    let s3 := if on then (s2.cause 8 j).tripScope m 8 j 1 t else s2
    s3.condition 10 (100 + j) 1 selfBad t (fun u => u.tripScope m 10 (100 + j) 1 t)

/-! ### Safe outputs (R333 to R335, R341, R345) -/

/-- An acting trip lies in the scope of output k: its function (R333, R341). -/
def State.actingOn (s : State) (k : Nat) : Option Nat :=
  let b := 0x280 + 8 * k
  (s.sfi.trips.find? (fun t => t.acting && (t.target = 0 ||
    (t.target / 2048 = 1 && (s.par b 4).testBit (t.target % 2048)) || (t.target / 2048 = 7 && (s.par (b + 4) 1).testBit (t.target % 2048)) ||
    (t.target / 2048 = 16 && (s.par (b + 5) 1).testBit (t.target % 2048))))).map (·.func)

/-- IDLE_OPEN de-energises output k: it serves one port, that port is SAFE_OFF by current and no FUNC 2 pair of it is clear
(R345). -/
def State.idleOpen (s : State) (k : Nat) : Bool :=
  let ports := bitsOf (s.par (0x280 + 8 * k) 4) 24
  (s.par (0x286 + 8 * k) 1).testBit 1 && ports.length == 1 &&
  ports.all (fun p => s.quiet p && !(s.pairMask 2 true).testBit p)

/-- Why output k is de-energised: cause function and kind of SFI_SO_OFF; none while it is energised (R333, R361). -/
def State.soWhy (s : State) (k : Nat) : Option (Nat × Nat) :=
  if !s.sfi.ready || s.glb.holds.order || !(s.par (0x286 + 8 * k) 1).testBit 0 then some (0, 0)
  else if !s.hbRuns then some (9, 3)
  else if s.hbLoss && s.sfi.grace && !s.withheld then some (9, 3)
  else if s.hbMode = 5 && s.sfi.haltOpen then some (0, 1)
  else match s.actingOn k with
  | some f => some (f, 0)
  | none =>
    if (s.so k).fault then some (10, 0)
    else if s.idleOpen k then some (0, 2)
    else if !s.sfi.supply.testBit k then some (0, 0)
    else none

/-- The outputs follow their conditions (R333). -/
def State.driveSo (s : State) : State :=
  (List.range 8).foldl (fun a k =>
    match a.soWhy k with
    | none => if (a.so k).on then a else a.setSo k { a.so k with on := true, bad := 0, edmAt := some a.now }
    | some (f, kind) =>
      if (a.so k).on then (a.setSo k { a.so k with on := false, bad := 0, edmAt := some a.now }).evS 0x0E03 (entSafeOut k) f kind
      else a) s

/-- An output or EDM fault of output k: held off, its scope tripped with category 0 (R334, R335). -/
def State.soFault (s : State) (k kind : Nat) : State :=
  if (s.so k).fault then s
  else
    let cmd := b2n (s.so k).on
    ((s.setSo k { s.so k with fault := true, edmAt := none }).evS 0x0E04 (entSafeOut k) kind cmd).tripOut k

/-- The feedback of output k shows what the command expects (R335). -/
def State.edmOk (s : State) (k : Nat) : Bool :=
  match s.edmPair k with
  | none => true
  | some i => (s.pair i).last == (if (s.so k).on then 0 else 1)

/-- EDM of output k in a cycle: the feedback must follow within EDM_TIME (R335). -/
def State.edmCycle (s : State) (k : Nat) : State :=
  match (s.so k).edmAt with
  | none => s
  | some t =>
    if s.edmOk k then s.setSo k { s.so k with edmAt := none }
    else if t + 10000000 * s.par (0x287 + 8 * k) 1 ≤ s.now then s.soFault k 2 else s

/-- Internal fault of the Rind: every output off, pins low, latched, the Rind reset once; a second within 10 s stays until
VAON powers on (R358). -/
def State.rindFault (s : State) (diag : Nat) : State :=
  let again : Bool := match s.sfi.fault with | none => false | some (_, t) => s.now < t + 10000000000
  let z := s.sfi
  let s1 := s.evS 0x0E0D 0 diag (b2n again)
  let s2 := { s1 with sfi := { Sfi.reset with
    image := z.image, confirmed := z.confirmed, cv := z.cv, staged := z.image, aliveIn := z.aliveIn, aliveInAt := z.aliveInAt,
    aliveOff := z.aliveOff, fault := some (diag, s.now), faultStays := again || z.faultStays, refreshAt := z.refreshAt,
    pwdHash := z.pwdHash, chlog := z.chlog, chnum := z.chnum, supply := z.supply } }
  ((s2.wr SFI_STAT.STATE 4).wr SFI_SO_STAT.ON 0).wr SFI_STAT.VLR_HOLD 0

/-- Readback of the de-energised outputs: a contradiction in two consecutive checks is an output fault, and an output that
cannot be switched off is an internal fault (R334, R358). -/
def State.readbackOff (s : State) (read : BitVec 8) (gap : Bool) : State × Bool :=
  (List.range 8).foldl (fun (a : State × Bool) k =>
    let o := a.1.so k
    let inUse := (s.par (0x286 + 8 * k) 1).testBit 0
    if o.on = gap && inUse then
      let n := if read.getLsbD k then o.bad + 1 else 0
      let s1 := a.1.setSo k { o with bad := min n 2 }
      if 2 ≤ n then (s1.soFault k 1, true) else (s1, a.2)
    else a) (s, false)

/-! ### Acknowledgement and category 1 (R341, R342) -/

/-- An acknowledgement clears each latched trip whose cause has cleared, and lets connections in SAFE reopen (R342, R351).
`via` is 0 for a pair, 1 for Soelaone. -/
def State.acknowledge (s : State) (via : Nat) : State :=
  let gone (t : Trip) : Bool := !s.sfi.present.contains (ckey t.func t.origin)
  let l := s.sfi.trips.filter gone
  let s1 := { s with sfi := { s.sfi with trips := s.sfi.trips.filter (fun t => !gone t) } }
  let s2 := l.foldl (fun a t =>
    let b := a.evS 0x0E02 t.target t.func via
    if t.func = 10 && 64 ≤ t.origin && t.origin < 72 then b.setSo (t.origin - 64) { b.so (t.origin - 64) with fault := false } else b) s1
  (List.range 8).foldl (fun a c =>
    if (a.conn c).state = 3 then
      (a.setConn c { Conn.reset with state := 1, lastAt := a.now, tx := (a.conn c).tx }).evS 0x0E07 0 (c + 256) 0
    else a) s2

/-- Category 1 trips whose delay has ended act: the port's current has been below OPEN_I for OFF_CONFIRM, or C1_GRACE has
passed (R341). -/
def State.actLate (s : State) : State :=
  { s with sfi := { s.sfi with trips := s.sfi.trips.map (fun (t : Trip) =>
    let q : Bool := t.target / 2048 = 1 && s.quiet (t.target % 2048)
    { t with acting := t.acting || q || t.since + 1000000 * s.par 0x006 2 ≤ s.now }) } }

/-- Heartbeat loss for SAFE_GRACE: logged once, and a latched site-wide trip unless withheld (R35, R342). -/
def State.graceCheck (s : State) : State :=
  if !s.hbLoss then s
  else
    let s1 := s.cause 9 0
    if s.sfi.hbAt + 1000000 * s.par 0x004 2 ≤ s.now then
      let w := s.withheld
      let s2 := { s1 with sfi := { s1.sfi with grace := true, lossLogged := true } }
      let s3 := if s.sfi.lossLogged then s2 else s2.evS 0x0E08 0 (s.sfi.hb.getD 0 % 2 ^ 16) (b2n w)
      if w then s3 else s3.trip 0 9 0 0 0
    else s1

/-- In HALT the outputs open when every port current is below OPEN_I, or SAFE_GRACE after the first heartbeat that shows
HALT (R38, R343). -/
def State.haltCheck (s : State) (l : List (Option PortDiag)) : State :=
  match s.sfi.haltAt with
  | none => s
  | some t =>
    let m := (l.filterMap id).filter (fun (d : PortDiag) => !d.i.isEmpty)
    let calm := !m.isEmpty && m.all (fun d => (cycleMean d.i).natAbs < s.par 0x008 4)
    if calm || t + 1000000 * s.par 0x004 2 ≤ s.now then { s with sfi := { s.sfi with haltOpen := true } } else s

/-! ### Twin duties, status mirror, publication (R338, R345 to R348, R360) -/

/-- TWIN_ALIVE_O (R347). -/
def State.aliveOut (s : State) : Bool := s.sfi.ready && !s.sfi.aliveOff && s.rd GLB_PWR_STAT.PGOOD % 2 == 1

/-- The unit's heartbeat lets it hold the relay set (R346). -/
def State.mayHold (s : State) : Bool := (s.hbMode = 2 || s.hbMode = 4 || s.hbMode = 5) && s.sfi.hb.isSome && !s.sfi.hbStop

/-- The peer has not held for 20 ms (R346). -/
def State.peerFree (s : State) : Bool :=
  s.peerConn.isNone || (match s.sfi.noHoldAt with | none => false | some t => t + 20000000 ≤ s.now)

/-- VLR_HOLD takes a level (R346, R361). -/
def State.setHold (s : State) (on : Bool) : State :=
  if on = s.sfi.hold then s
  else (({ s with sfi := { s.sfi with hold := on } }).evS 0x0E0E 0 (b2n on) (b2n (s.peerBit 0))).wr SFI_STAT.VLR_HOLD (b2n on)

/-- Level of RIND_STAT for a pattern, ms into the second (R348). -/
def rindLevel (pattern ms : Nat) : Bool :=
  match pattern with
  | 1 => false
  | 2 => ms / 125 % 2 == 0
  | 3 => ms < 100 || (200 ≤ ms && ms < 300)
  | 4 => ms / 50 % 2 == 0
  | 5 => ms / 250 % 2 == 0
  | 6 => ms < 500
  | _ => true

/-- The pattern order RIND_STAT shows (R348); 3 while RESET_N has been low for more than 4 s. -/
def State.rindStat (s : State) : Nat :=
  if !s.sfi.ready then 1
  else if s.siteTrip then 2
  else if s.glb.stuck then 3
  else if !s.sfi.confirmed || s.glb.mode = .commission then 4
  else if !s.sfi.trips.isEmpty then 5
  else if (List.range 8).all (fun k => !(s.so k).on) then 6
  else 7

/-- RIND_STAT at this instant: each pattern repeats every 1 s (R348). -/
def State.rindPin (s : State) : Bool := rindLevel s.rindStat (s.now / 1000000 % 1000)

/-- The status mirror (R360). -/
def State.mirror (s : State) : State :=
  let on := maskOf ((List.range 8).filter (fun k => (s.so k).on))
  let st := if !s.sfi.ready then s.rd SFI_STAT.STATE else if !s.sfi.trips.isEmpty then 3 else if on ≠ 0 then 2 else 1
  let trip (n : Nat) (f : Nat → Nat) : Nat := maskOf ((List.range n).filter (fun i => s.tripped (f i)))
  let pairs (f : Nat → Bool) : Nat := maskOf ((List.range 8).filter f)
  let c := s.capsNow
  let conns := sumN ((List.range 8).map (fun i => (s.conn i).state * 4 ^ i))
  let l : List (Fld × Nat) :=
    [(SFI_STAT.STATE, st), (SFI_STAT.CONFIRMED, b2n s.sfi.confirmed), (SFI_STAT.HB_OK, b2n (s.sfi.hb.isSome && !s.sfi.hbStop)),
     (SFI_STAT.SITE_TRIP, b2n s.siteTrip), (SFI_STAT.LIMP_REQ, b2n (!s.sfi.limpBy.isEmpty)), (SFI_STAT.VLR_HOLD, b2n s.sfi.hold),
     (SFI_STAT.PEER_HOLD, b2n (s.peerBit 0)), (SFI_STAT.PEER_ALIVE, b2n s.sfi.aliveOk), (SFI_STAT.RAMP_REQ, b2n s.rampReq),
     (SFI_PORT_TRIP.PORTS, trip s.nPorts entPort), (SFI_PORT_OFF.PORTS, c.safeOff), (SFI_SO_STAT.ON, on),
     (SFI_SO_STAT.FAULT, pairs (fun k => (s.so k).fault)), (SFI_SO_STAT.AXIS_TRIP, trip 4 entAxis),
     (SFI_SO_STAT.CONV_TRIP, trip 4 entConv), (SFI_SI_STAT.CLEAR, pairs (fun i => (s.pair i).last == 0)),
     (SFI_SI_STAT.DISC, pairs (fun i => (s.pair i).fault)),
     (SFI_SI_STAT.TPF, pairs (fun i => (s.term (2 * i)).tpf || (s.term (2 * i + 1)).tpf)), (SFI_SI_STAT.IMD, b2n s.sfi.imd),
     (SFI_CONN_STAT.CONN, conns), (SFI_CV.CV, s.sfi.cv),
     (SFI_STR_AUTH.DIS, maskOf ((List.range s.nStrings).filter (fun i => (nth c.strings i (0, false)).2)))] ++
    (List.range 4).map (fun a => (SFI_AXIS_POS.POS a, enc 32 (tget (fun _ => Axis.reset) s.sfi.axes a).pos))
  l.foldl (fun u x => u.wr x.1 x.2) s

/-- The publication at the end of a cycle: caps to the Churn, the window of R339, session ends (R299, R338, R345). -/
def State.publish (s : State) : State :=
  let c := s.capsNow
  let pub : Pub := { stamp := s.siteNs, capI := c.ports.map (·.1), capV := c.ports.map (·.2.1) }
  let keep := s.sfi.pubs.filter (fun x => s.siteNs ≤ x.stamp + 100000000)
  let exp := maskOf ((List.range s.nPorts).filter (fun p => (nth c.ports p (0, 0, false, false)).2.2.1))
  let pubs := if s.hbLoss && s.withheld then keep else pub :: keep
  let s1 := { s with sfi := { s.sfi with pubs := pubs, lastExp := exp } }
  if !s1.up then s1
  else
    let s2 := { s1 with alp := { s1.alp with inCaps := mailPost s1.alp.inCaps s.siteNs c } }
    if !s2.guards then s2
    else (List.range s.nPorts).foldl (fun a p => if c.safeOff.testBit p then a.sessionEnd p s.siteNs else a) s2

/-! ### Confirmation of parameters (R355) and the change log (R357) -/

/-- An entry of the change log: kinds 1 confirmed, 2 sealed, 3 password set, 4 lockout, 5 COMMISSION entered (R357). -/
def State.changeLog (s : State) (kind : Nat) : State :=
  let n := s.sfi.chnum + 1
  let t := s.stamp
  let e : List Nat := [t % 2 ^ 32, t / 2 ^ 32, kind, s.sfi.cv, s.cfgDigest, s.mte.calId, n % 2 ^ 32, 0]
  { s with sfi := { s.sfi with chlog := (e :: s.sfi.chlog).take 64, chnum := n } }

/-- A confirmation is refused (R355). -/
def State.paramRefuse (s : State) (code ofs : Nat) : State :=
  let s1 := { s with sfi := { s.sfi with reqAt := none } }
  (((s1.wr SFI_CONFIRM_STAT.STATE 4).wr SFI_CONFIRM_STAT.REFUSE code).wr SFI_CONFIRM_STAT.BAD_OFS ofs).evS 0x0E0B 0 code ofs

/-- A confirmation runs: STATE 1, 5 or 2. -/
def State.confirming (s : State) : Bool :=
  let x := s.rd SFI_CONFIRM_STAT.STATE
  x == 1 || x == 5 || x == 2

/-- Parameters changed: every connection is CLOSED (R351). -/
def State.closeConns (s : State) : State := (List.range 8).foldl (fun a c => a.setConn c Conn.reset) s

/-- The acknowledgement of step 4: the staged image is confirmed (R355). -/
def State.paramConfirm (s : State) : State :=
  let cv := s.rd SFI_CV_STAGED.CV
  let old := s.sfi.cv
  let s1 := ({ s with sfi := { s.sfi with image := s.sfi.staged, confirmed := true, cv := cv, reqAt := none } }).closeConns
  ((s1.wr SFI_CONFIRM_STAT.STATE 3).evS 0x0E0A 0 cv old).changeLog 1

/-- The acknowledge pair that the staged image names, watched during step 4 (R332, R355). -/
def State.confirmPair (s : State) : State :=
  if s.rd SFI_CONFIRM_STAT.STATE ≠ 2 then s
  else
    let i := img s.sfi.staged 0x01F 1
    let anti := (img s.sfi.staged (0x241 + 8 * i) 1).testBit 0
    let st := pairState anti (s.term (2 * i)).level (s.term (2 * i + 1)).level
    let (cfm, seq) := s.sfi.cfm.step st s.now
    let s1 := { s with sfi := { s.sfi with cfm := cfm } }
    if seq then s1.paramConfirm else s1

/-! ### The logic cycle (R329) -/

/-- The end of a cycle: outputs, caps, hold, mirror. -/
def State.rindOut (s : State) : State :=
  let s1 := s.driveSo.publish
  (if s1.mayHold && s1.peerFree then s1.setHold true else s1.setHold false).mirror

/-- The start of a cycle: its instant, the qualified TWIN_ALIVE, the heartbeat's age, and what the pins show (R328, R329). -/
def State.rindBegin (s : State) (x : RindIn) : State :=
  let s0 := match s.sfi.cycleAt with | none => s | some t => s.waitTill (t + 500000)
  let alive := s0.sfi.aliveOk || (s0.sfi.aliveIn && s0.sfi.aliveInAt + 10000000 ≤ s0.now)
  let stop := s0.sfi.hbStop || (s0.sfi.hb.isSome && s0.sfi.hbAt + 5000000 ≤ s0.now)
  { s0 with sfi := { s0.sfi with
    cycleAt := some s0.now, present := [], aliveOk := alive && s0.sfi.aliveIn, hbStop := stop, imd := x.imd,
    supply := x.soSup.toNat } }

/-- The safe inputs of a cycle: the pairs, and the pairs that completed a reset sequence (R330, R332). -/
def State.rindPairs (s : State) (x : RindIn) : State × List Nat :=
  (List.range 8).foldl (fun (a : State × List Nat) i =>
    let (u, q) := a.1.scanPair i
    (u, if q then i :: a.2 else a.2)) (s.scanTerms x.si, [])

/-- The safety functions of a cycle: inputs, insulation, ports, converters, axes, temperatures, self-check and connections
(R336 to R340). -/
def State.rindWatch (s : State) (x : RindIn) : State :=
  let s4 := (List.range 8).foldl (fun a i => a.pairTrips i) s
  let m := s.par 0x020 4
  let s5 := if m = 0 then s4 else s4.condition 7 0 (cyc (s.par 0x01B 1)) (!x.imd) 0 (fun a => a.tripScope m 7 0 0 0)
  let c := s5.capsNow
  let s6 := (List.range s.nPorts).foldl (fun a p =>
    match nth x.ports p none with
    | none => a.portSilent p
    | some d => if d.i.isEmpty || d.v.isEmpty then a.portSilent p else a.portCycle c p d) s5
  let s7 := (List.range 4).foldl (fun a k => a.convCycle c x.strings k) s6
  let s8 := ((List.range 4).zip x.axes).foldl (fun a y => a.axisCycle y.1 y.2) s7
  let s9 := ((List.range 32).zip x.temps).foldl (fun a y => a.tempCycle y.1 y.2.toInt (x.tempSelf.getLsbD y.1)) s8
  let s10 := s9.condition 10 250 1 s9.sfi.safBad 0 (fun a => a.trip 0 10 250 0 0)
  (List.range 8).foldl (fun a i => if a.connRole i = 1 && (a.conn i).state ≠ 2 then a.cause 12 i else a) s10

/-- The end of a cycle: the outputs' read-back and monitoring, the grace times, the acknowledgement, the reactions and the
publication (R333 to R335, R338, R341, R342, R355). -/
def State.rindDecide (s : State) (x : RindIn) (ack short : Bool) : State :=
  let s13 := (List.range 8).foldl (fun a k =>
    let b := a.edmCycle k
    if 0 < (b.so k).bad || !b.edmOk k then b.cause 10 (64 + k) else b) s
  let s14 := (s13.graceCheck).haltCheck x.ports
  let s15 := if ack then s14.acknowledge 0 else s14
  let s16 := s15.actLate.rindOut.confirmPair
  if short then s16.rindFault 6 else s16

/-- One logic cycle (R329). -/
def State.rindCycle (s : State) (x : RindIn) : State :=
  let s1 := s.rindBegin x
  match x.fault with
  | some d => s1.rindFault (d.val + 1)
  | none =>
    let a := s1.rindPairs x
    let b := (a.1.rindWatch x).readbackOff x.soRead false
    b.1.rindDecide x (a.2.any (fun i => s.pairFunc i == 4)) b.2

/-! ### Soelaone (R349 to R353) -/

/-- A Soelaone frame (R349). -/
def soelaone (id kind seq stamp : Nat) (payload : List Nat) : List Nat :=
  let b := leBytes 2 id ++ [kind, payload.length] ++ leBytes 4 seq ++ leBytes 4 stamp ++ payload
  b ++ leBytes 4 (crcS b)

/-- The payload a connection sends: the peer payload of R353, else zeros. -/
def State.connPayload (s : State) (c : Nat) : List Nat :=
  let n := s.par (0x403 + 16 * c) 1
  if s.connRole c = 2 then fitData n [b2n s.sfi.hold + 2 * b2n s.aliveOut + 4 * b2n s.siteTrip] else zeros n

/-- A frame goes to CAN5 and to the mirror controller's objects 120 to 127 (R322, R352). -/
def State.connCan (s : State) (c : Nat) (bytes : List Nat) : State :=
  let w := s.par (0x408 + 16 * c) 4
  let mir := s.par (0x40C + 16 * c) 1
  let put (a : State) (n o : Nat) : State :=
    let k := (a.can n).order
    let q : CanReq := { obj := o, id := if w.testBit 31 then w % 2 ^ 29 else w % 2 ^ 11, ide := w.testBit 31, fdf := true,
                        brs := false, data := bytes, deadline := none, src := .rind, order := k }
    ((a.canWithdrawAll n 3 (fun x => x.obj = o)).modCan n (fun x => { x with pend := x.pend ++ [q], order := k + 1 })).canFill n
  let s1 := put s 5 c
  if mir = 1 || mir = 2 then put s1 (mir - 1) (120 + c) else s1

/-- Sends the next frame of a connection (R351): the open of a peer connection, the answer to an open, data in RUN. -/
def State.connSend (s : State) (c : Nat) : State :=
  let x := s.conn c
  let role := s.connRole c
  let send (a : State) (kind seq : Nat) (y : Conn) : State :=
    (a.setConn c { y with tx := some seq, sentAt := some a.now, answer := false }).connCan c
      (soelaone (a.par (0x400 + 16 * c) 2) kind seq (a.siteNs % 2 ^ 32)
        (if kind = 0 then a.connPayload c else zeros (a.par (0x403 + 16 * c) 1)))
  if role = 0 || x.state = 3 then s
  else if x.answer then
    let seq := low 32 (x.tx.getD 0 + 1)
    (send s 2 seq { x with state := 2, lastAt := s.now }).evS 0x0E07 0 (c + 512) 0
  else if x.state = 2 then (if role = 2 then send s 0 (low 32 (x.tx.getD 0 + 1)) x else s)
  else if role ≠ 2 then s
  else
    let (v, s1) := s.fresh
    let seq := if x.state = 0 then v % 2 ^ 32 else low 32 (x.tx.getD v + 1)
    let s2 := send s1 1 seq { x with state := 1, lastAt := if x.state = 0 then s1.now else x.lastAt }
    if x.state = 0 then s2.evS 0x0E07 0 (c + 256) 0 else s2

/-- A connection fault: SAFE; an external node's connection trips its scope, the peer's payload takes its safe values
(R350, R351). Checks: 1 CRC, 2 sequence, 3 stamp, 4 TEXP. -/
def State.connFault (s : State) (c check : Nat) : State :=
  if (s.conn c).state = 3 then s
  else
    let s1 := (s.setConn c { s.conn c with state := 3, payload := [], answer := false }).evS 0x0E07 0 (c + 768) check
    if s.connRole c = 1 then s1.tripScope (s.par (0x40E + 16 * c) 2 % 2 ^ 12) 12 c 0 (check : Nat)
    else
      { s1 with sfi := { s1.sfi with
          hold0 := 0
          noHoldAt := match s1.sfi.noHoldAt with | none => some s.now | some t => some t } }

/-- An accepted data frame of the peer: the run of frames in which it does not hold (R346, spec/16 R398). -/
def State.peerFrame (s : State) (payload : List Nat) : State :=
  let hold := (nth payload 0 0).testBit 0
  { s with sfi := { s.sfi with
      hold0 := if hold then 0 else s.sfi.hold0 + 1
      noHoldAt := if hold then none else match s.sfi.noHoldAt with | none => some s.now | some t => some t } }

/-- SEQ of a frame against the last accepted one: 1 where it follows, and for the open that gives a connection its starting SEQ,
before which no SEQ has been accepted (R350, R351). -/
def Conn.step (x : Conn) (kind seq : Nat) : Int :=
  if kind = 1 && x.state ≠ 2 then 1 else match x.rx with | none => 1 | some q => diff32 seq q

/-- A frame received on a connection: the checks, then its KIND (R350, R351). -/
def State.connReceive (s : State) (c : Nat) (b : List Nat) : State :=
  let x := s.conn c
  let n := s.par (0x403 + 16 * c) 1
  let kind := nth b 2 0
  let seq := field b 4 4
  let d := diff32 s.siteNs (field b 8 4)
  let texp : Int := (s.par (0x406 + 16 * c) 2 * 1000000 : Nat)
  if nth b 3 0 ≠ n || b.length ≠ 16 + n || field b (12 + n) 4 ≠ crcS (b.take (12 + n)) then s.connFault c 1
  else if x.state = 3 || x.step kind seq ≤ 0 then s
  else if x.step kind seq ≠ 1 then s.connFault c 2
  else if d < -1000000 || texp ≤ d then s.connFault c 3
  else if kind = 3 then (s.setConn c Conn.reset).evS 0x0E07 0 c 0
  else if kind = 1 && x.state ≠ 2 then
    let s1 := s.setConn c { x with state := 1, rx := some seq, lastAt := s.now, answer := true }
    if x.state = 1 then s1 else s1.evS 0x0E07 0 (c + 256) 0
  else if kind = 2 && x.state = 1 then
    (s.setConn c { x with state := 2, rx := some seq, lastAt := s.now }).evS 0x0E07 0 (c + 512) 0
  else if x.state ≠ 2 then s
  else
    let payload := (b.drop 12).take n
    let s1 := s.setConn c { x with rx := some seq, lastAt := s.now, payload := if kind = 0 then payload else x.payload }
    if kind ≠ 0 then s1
    else if s.connRole c = 2 then s1.peerFrame payload
    else if (nth payload 0 0).testBit 0 && !(nth x.payload 0 0).testBit 0 then (s1.acknowledge 1).driveSo.mirror
    else s1

end Sys2Proof.Machine
end

