-- ==== Sys2Proof/Machine/Thermal.lean ====
section
/-!
DEFINITION. The Thermal Manager and the Housekeeping ADC (spec/15_thermal_and_load_switches.md, R362 to R371). A conversion
brings what the ADC reads and the pin voltage; State.hkaTemp makes a temperature of it (R365).
-/
namespace Sys2Proof.Machine

/-- Channel c. -/
def State.chan (s : State) (c : Nat) : Chan := tget (fun _ => Chan.reset) s.thm.chans c

/-- Replaces channel c. -/
def State.setChan (s : State) (c : Nat) (x : Chan) : State :=
  { s with thm := { s.thm with chans := tset (fun _ => Chan.reset) s.thm.chans c x } }

/-- The reference channel of c (R365). -/
def State.chanRef (s : State) (c : Nat) : Option Nat :=
  let r := s.rd (THM_CH_CFG.REF c)
  if r < 96 then some r else none

/-- The temperature a conversion of channel c gives: ratiometric against the reference of its group, corrected for the drift of the
ADC's reference by on-die sensor 10, through the sensor curve of the group (R365; log entry 51). -/
def State.hkaTemp (s : State) (c raw : Nat) : Int :=
  let g := c / 8
  Config.hkaTemp (s.flag (THM_GRP.TYPE g)) (s.rd (THM_GRP.BETA g)) (s.rd (THM_NTC_R25.R25 g)) raw
    (tget (fun _ => 10000) s.thm.refs g) (s.rdS (THM_DIE.T 10))

/-- The compared value: the channel's own temperature, less that of its reference channel (R365). -/
def State.compared (s : State) (c : Nat) : Option Int :=
  match (s.chan c).own, s.chanRef c with
  | some t, none => some t
  | some t, some r => (s.chan r).own.map (fun u => t - u)
  | none, _ => none

/-- THM_CH_VAL_c of a channel (R377). -/
def State.showChan (s : State) (c : Nat) : State :=
  let x := s.chan c
  let t := if x.fault then 0x8000 else match s.compared c with | none => 0x8000 | some v => enc 16 v
  (s.wr (THM_CH_VAL.T c) t).wr (THM_CH_VAL.FLAGS c)
    (b2n (s.thm.fast.contains c) + 2 * b2n x.fault + 4 * b2n x.warn + 8 * b2n x.thr + 16 * b2n x.shut)

/-! ### Throttle entries (R368, R369) -/

/-- The throttle factor a channel asks for on its target. -/
def State.asks (s : State) (c : Nat) : Option Nat :=
  let x := s.chan c
  if !s.flag (THM_CH_CFG.EN c) || s.thm.unbound.contains c || s.rd (THM_CH_CFG.TARGET c) = 0 then none
  else if x.fault || x.shut then some 0
  else if x.thr then some (s.rd (THM_CH_LIM2.FACTOR c)) else none

/-- The entry of a target: lowest factor, lower channel on a tie (R368). -/
def State.wanted (s : State) (target : Nat) : Option (Nat × Nat) :=
  (List.range 96).foldl (fun best c =>
    if s.rd (THM_CH_CFG.TARGET c) ≠ target then best
    else match s.asks c, best with
      | some f, none => some (f, c)
      | some f, some (g, d) => if f < g then some (f, c) else some (g, d)
      | none, b => b) none

/-- Index of the throttle entry of a target, if one is placed. -/
def State.throttleAt (s : State) (target : Nat) : Option Nat :=
  ((List.range 55).map (fun i => 1984 + i)).find? (fun i => (s.entry i).enabled && (s.entry i).target == target)

/-- The lowest free index from 1,984 to 2,038 (which one is not stated, log entry 26). -/
def State.throttleFree (s : State) : Nat :=
  (((List.range 55).map (fun i => 1984 + i)).find? (fun i => !(s.entry i).enabled)).getD 2038

/-- Places, updates or removes the entry of a target (R368). -/
def State.updateThrottle (s : State) (target : Nat) : State :=
  if target = 0 then s
  else
    let s1 := match s.wanted target, s.throttleAt target with
      | none, none => s
      | none, some i => s.setEntry i Entry.zero
      | some (f, c), o =>
        s.setEntry (o.getD s.throttleFree)
          { type := 0x10, enabled := true, windowed := false, device := true, target := target, ownerTag := 0, start := 0,
            stop := 0, a := f, b := entTemp c }
    s1.wr THM_STAT.SLOTS (((List.range 55).filter (fun i => (s1.entry (1984 + i)).enabled)).length)

/-- Factor in force on a target, 0xFFFF without an entry (R378). -/
def State.factorOn (s : State) (target : Nat) : Nat :=
  match s.throttleAt target with | none => 0xFFFF | some i => (s.entry i).a.toNat

/-! ### Promotion (R364) -/

/-- THR of a channel, 0.1 °C. -/
def State.thrOf (s : State) (c : Nat) : Int := (s.rd (THM_CH_LIM.THR c) : Nat)

/-- A channel ahead of another for promotion: highest value minus THR, lower index on a tie. -/
def State.ahead (s : State) (a b : Nat) : Bool :=
  let x := (s.compared a).getD (-100000) - s.thrOf a
  let y := (s.compared b).getD (-100000) - s.thrOf b
  decide (y < x) || (x == y && decide (a ≤ b))

/-- The promoted set follows the channels that qualify (R364). -/
def State.promote96 (s : State) : State :=
  let q := (List.range 96).filter (fun c => (s.chan c).qual && s.flag (THM_CH_CFG.EN c))
  let fast := if q.length ≤ 16 then q
              else q.filter (fun c => (q.filter (fun d => d ≠ c && s.ahead d c)).length < 16)
  let full := 16 < q.length
  let s1 := { s with thm := { s.thm with fast := fast } }
  let s2 := if full && !s.flag THM_STAT.FAST_FULL then s1.ev 0x0F05 0 q.length 0 else s1
  let m := maskOf fast
  let s3 := (((((s2.wr THM_STAT.FAST_FULL (b2n full)).wr THM_STAT.FAST_CNT fast.length).wr (THM_FAST.CH 0) m).wr (THM_FAST.CH 1)
    (m / 2 ^ 32)).wr (THM_FAST.CH 2) (m / 2 ^ 64))
  (((s.thm.fast.filter (fun c => !fast.contains c)) ++ (fast.filter (fun c => !s.thm.fast.contains c))).foldl
    (fun u c => u.showChan c) s3)

/-- Whether a channel qualifies after a reading (R364). -/
def State.qualify (s : State) (c : Nat) (v : Option Int) : State :=
  let x := s.chan c
  let promo : Int := (s.rd THM_CFG.PROMO : Nat)
  let fast := s.thm.fast.contains c
  match v with
  | none => (s.setChan c { x with qual := false, below := 0 }).promote96
  | some t =>
    let below := if fast && t < s.thrOf c - promo - 20 then x.below + 1 else 0
    let qual := decide (s.thrOf c - promo ≤ t) || (x.qual && fast && below < 10)
    (s.setChan c { x with qual := qual, below := if qual then below else 0 }).promote96

/-! ### Readings (R365 to R367) -/

/-- One level after a reading: crossed at or above, cleared below level − HYST (R367). -/
def crossed (was : Bool) (v level : Int) (hyst : Nat) : Bool := if level ≤ v then true else if v < level - hyst then false else was

/-- The channel is in fault on this reading (R366). -/
def State.faulty (s : State) (c : Nat) (t : Int) (pin : Nat) : Bool :=
  decide (t < -600) || decide (3000 < t) || decide (2450 < pin) || decide (pin < 10) || s.rdBit HKA_STAT.REF_FAULT (c / 8) ||
  (match s.chanRef c with | none => false | some r => (s.chan r).fault)

/-- The levels of a good reading, with their events; THM_THROTTLE carries the factor in force after the update (R367). -/
def State.levels (s : State) (c : Nat) (v : Int) : State :=
  let x := s.chan c
  let h := s.rd (THM_CH_LIM.HYST c)
  let w := crossed x.warn v (s.rd (THM_CH_LIM.WARN c) : Nat) h
  let t := crossed x.thr v (s.thrOf c) h
  let u := crossed x.shut v (s.rd (THM_CH_LIM2.SHUT c) : Nat) h
  let target := s.rd (THM_CH_CFG.TARGET c)
  let s1 := (s.setChan c { x with warn := w, thr := t, shut := u }).updateThrottle target
  let s2 := if w != x.warn then s1.ev 0x0F01 (entTemp c) (enc 64 v) (b2n w) else s1
  let s3 := if t != x.thr then s2.ev 0x0F02 (entTemp c) target (s1.factorOn target) else s2
  if u != x.shut then s3.ev 0x0F03 (entTemp c) target (b2n u) else s3

/-- A channel goes into fault, or stays there: its value is void and it takes the SHUT action (R366). -/
def State.chanFault (s : State) (c pin : Nat) : State :=
  let x := s.chan c
  let s1 := (s.setChan c { x with fault := true, good := 0 }).updateThrottle (s.rd (THM_CH_CFG.TARGET c))
  (if x.fault then s1 else s1.ev 0x0F04 (entTemp c) pin 1).qualify c none

/-- A reading of channel c: its own temperature, and the pin voltage in mV. -/
def State.chanReading (s : State) (c : Nat) (t : Int) (pin : Nat) : State :=
  if !s.flag (THM_CH_CFG.EN c) then s
  else
    let s0 := s.setChan c { s.chan c with own := some t, pin := pin }
    let s1 :=
      if s0.faulty c t pin then s0.chanFault c pin
      else
        let x := s0.chan c
        if x.fault && x.good + 1 < 3 then s0.setChan c { x with good := x.good + 1 }
        else
          let u := if x.fault then (s0.setChan c { x with fault := false, good := 0 }).ev 0x0F04 (entTemp c) pin 0 else s0
          match u.compared c with
          | none => u
          | some v => (u.levels c v).qualify c (some v)
    (s1.showChan c).pressTemp c

/-- A reading of the reference of group g, in 0.01 % of nominal: beyond 1 % the group is in fault (R365). -/
def State.refReading (s : State) (g : Nat) (v : Int) : State :=
  let bad := 100 < (v - 10000).natAbs
  let was := s.rdBit HKA_STAT.REF_FAULT g
  let s1 := { s with thm := { s.thm with refs := tset (fun _ => 10000) s.thm.refs g v } }.wrBit HKA_STAT.REF_FAULT g bad
  let s2 := if bad && !was then s1.ev 0x1001 0 g (enc 64 v) else s1
  if !bad then s2
  else (List.range 8).foldl (fun u i =>
    let c := 8 * g + i
    if u.flag (THM_CH_CFG.EN c) then ((u.chanFault c (u.chan c).pin).showChan c).pressTemp c else u) s2

/-- Conversion `k` of the slow round: T0–T95, the auxiliary inputs, the group references (R363). -/
def State.slowConversion (s : State) (k : Nat) (value pin : Nat) : State :=
  let s1 := if k < 96 then s.chanReading k (s.hkaTemp k value) pin
            else if k < 112 then s.wr (HKA_AUX.V (k - 96)) value
            else s.refReading (k - 112) (sx 32 value)
  if k + 1 < 124 then { s1 with thm := { s1.thm with slow := some (k + 1) } }
  else { s1.bumpWrap HKA_STAT.ROUNDS with thm := { (s1.bumpWrap HKA_STAT.ROUNDS).thm with slow := none } }

/-- The HKA's time base: site time while it is VALID, else running free (R363). -/
def State.hkaTime (s : State) : Nat := if s.flag STU_DISC_STAT.VALID then s.siteNs else s.now

/-- The end of the present 100 µs slot. -/
def State.slotWait (s : State) : State :=
  let t := 100000 * (s.hkaTime / 100000 + 1)
  if s.flag STU_DISC_STAT.VALID then s.waitSite t else s.waitTill t

/-- One slot of 100 µs (R363): slots 0 to 15 serve the promoted channels, the rest the slow round. -/
def State.hkaSlot (s : State) (value pin : Nat) : State :=
  let slot := s.hkaTime / 100000 % 20
  let s1 := s.slotWait
  match (if slot < 16 then s1.thm.fast[slot]? else none) with
  | some c => s1.chanReading c (s1.hkaTemp c value) pin
  | none => match s1.thm.slow with | none => s1 | some k => s1.slowConversion k value pin

/-! ### Checks at a request for ACTIVE or SHADOW (R369) -/

/-- The target of a channel is 0 or an enabled port, block, string or converter. -/
def State.chanTargetOk (s : State) (t : Nat) : Bool :=
  let c := t / 2048
  let i := t % 2048
  t = 0 || (classSize c > i && ((c = 1 && s.portOn i) || (c = 2 && s.blockOn i) || (c = 5 && s.stringOn i) ||
    (c = 7 && s.flag (CCE_CONV.EN i))))

/-- The first check of R369 a channel fails, 0 for none; `seen` are the distinct targets of the channels before. -/
def State.chanReason (s : State) (seen : List Nat) (c : Nat) : Nat :=
  let t := s.rd (THM_CH_CFG.TARGET c)
  if !s.chanTargetOk t then 1
  else if (match s.chanRef c with
      | none => false
      | some r => !s.flag (THM_CH_CFG.EN r) || r == c || (s.chanRef r).isSome) then 2
  else if decide (s.thrOf c < (s.rd (THM_CH_LIM.WARN c) : Nat)) || decide (((s.rd (THM_CH_LIM2.SHUT c) : Nat) : Int) < s.thrOf c) then 3
  else if t ≠ 0 && !seen.contains t && 55 ≤ seen.length then 4 else 0

/-- The checks of every enabled channel in ascending index (R369). -/
def State.thermalCheck (s : State) : State :=
  let r := ((List.range 96).filter (fun c => s.flag (THM_CH_CFG.EN c))).foldl
    (fun (a : State × List Nat × List Nat) c =>
      let (u, seen, bad) := a
      let why := u.chanReason seen c
      let t := u.rd (THM_CH_CFG.TARGET c)
      if why = 0 then (u, if t = 0 || seen.contains t then seen else t :: seen, bad)
      else (u.ev 0x0F06 (entTemp c) why (u.reg (0x68100 + 0x10 * c)), seen, c :: bad)) (s, [], [])
  let s1 := { r.1 with thm := { r.1.thm with unbound := r.2.2 } }
  (List.range 96).foldl (fun u c => u.updateThrottle (u.rd (THM_CH_CFG.TARGET c))) s1

/-! ### On-die sensors (R371) -/

/-- Reading of on-die sensor i: value, peak, warning. -/
def State.dieReading (s : State) (i : Nat) (t : Int) : State :=
  let s1 := (s.wrS (THM_DIE.T i) t).wrS (THM_DIE.PEAK i) (max (s.rdS (THM_DIE.PEAK i)) t)
  let was := s.thm.dieWarn.testBit i
  let lim : Int := (s.rd THM_DIE_CFG.WARN : Nat)
  let is := crossed was t lim 50
  let s2 := { s1 with thm := { s1.thm with dieWarn := setBit s1.thm.dieWarn i is } }
  if is != was then s2.ev 0x0F07 (entDie i) (enc 64 t) (b2n is) else s2

/-- THM_CLR.PEAK (R377). -/
def State.clearDiePeaks (s : State) : State := (List.range 12).foldl (fun u i => u.wr (THM_DIE.PEAK i) 0x8000) s

/-- A slow round starts (R363). -/
def State.slowStart (s : State) : State := { s with thm := { s.thm with slow := some 0 } }

open Host (Outcome)

/-- HKA_SLOT_CONVERSION (R363 to R368). -/
def execHkaSlotConversion (value : BitVec 32) (pin : BitVec 16) (s : State) : Outcome State Fault Refusal :=
  .next (if s.up then s.hkaSlot value.toNat pin.toNat else s)

/-- SLOW_ROUND_START: at the next whole multiple of 200 ms (R363). -/
def execSlowRoundStart (s : State) : Outcome State Fault Refusal :=
  .next (if s.up then
    let t := 200000000 * divUp s.hkaTime 200000000
    if s.flag STU_DISC_STAT.VALID then (s.waitSite t).slowStart else (s.waitTill t).slowStart
  else s)

/-- THM_CLR_PEAK (R377). -/
def execThmClrPeak (s : State) : Outcome State Fault Refusal := .next (if s.up then s.clearDiePeaks else s)

end Sys2Proof.Machine
end

