-- ==== Sys2Proof/Machine/Reset.lean ====
section
/-!
DEFINITION. Supplies, brown-out, RESET_N, boot, wake and clock loss (spec/02_supplies_reset_modes.md, spec/03 R49 to R51,
spec/15 R371): what holds the main domains in reset, what survives it and how they start again.
-/
namespace Sys2Proof.Machine

/-! ### Reset of the main domains -/

/-- A register of the VAON domain: it keeps its contents when the main domains are reset (spec/02 R46, spec/03 R69, spec/13
R317 and R323, spec/14 R360, spec/15 R379 table, spec/16 R402). -/
def vaonReg (off : Nat) : Bool :=
  [0x60, 0x64, 0x68, 0x6C, 0x70, 0x214, 0x8160, 0x8164, 0x5A020, 0x5A024, 0x5A028, 0x5C020, 0x5C024, 0x5C028].contains off ||
  (0x5D000 ≤ off && off < 0x5E000) || (0x60000 ≤ off && off < 0x64040) || (0x70000 ≤ off && off < 0x78000)

/-- Every domain except VAON is reset: registers and state return to their reset values, the mode is DORMANT with BOOTING set;
MRAM, the Rind, the RTC, the VAON status registers and the load switches keep theirs (spec/02 R33). The heartbeat counts as
stopped (R35); a confirmation in COMMISSION is abandoned, because the mode leaves COMMISSION (spec/14 R355). -/
def State.mainReset (s0 : State) : State :=
  let s := if s0.glb.mode = .commission && s0.confirming then s0.paramRefuse 5 0 else s0
  let trip := s.rd THM_STAT.DIE_TRIP
  let s1 := { s with
    regs := s.regs.filter (fun p => vaonReg p.1)
    glb := { s.glb with mode := .dormant, booting := true, lastCause := 0, prevMode := .dormant, brownAt := none,
                        brownOver := false, limpPend := none, kickAt := 0, wdogOut := false, pwrOffPend := false }
    stu := { Stu.reset with rtcBase := s.stu.rtcBase, rtcAt := s.stu.rtcAt, refHold := s.stu.refHold }
    log := { events := [], head := 0, kept := s.log.kept }
    hif := Hif.reset, alp := Alp.reset, con := Con.reset, link := Link.reset, cce := Press.reset
    thm := { Thm.reset with dieT := s.thm.dieT, dieCool := s.thm.dieCool, dieTrip := s.thm.dieTrip, dieHold := s.thm.dieHold,
                            dieSensor := s.thm.dieSensor }
    mte := { Mte.reset with ckptA := s.mte.ckptA, ckptB := s.mte.ckptB, calId := s.mte.calId, digest := s.mte.digest }
    rsl := { Rsl.reset with journal := s.rsl.journal, next := s.rsl.next, ack := s.rsl.ack, heads := s.rsl.heads,
                            opens := s.rsl.opens, refreshAt := s.rsl.refreshAt, hdr := s.rsl.hdr, tail := s.rsl.tail,
                            merges := s.rsl.merges, unlinked := s.rsl.unlinked }
    kvt := { Kvt.reset with helper := s.kvt.helper, helpers := s.kvt.helpers, enrols := s.kvt.enrols, slotA := s.kvt.slotA,
                            slotB := s.kvt.slotB, pend := s.kvt.pend }
    see := { See.reset with keys := s.see.sealedKeys, sealedKeys := s.see.sealedKeys }
    plu := { Plus.reset with counters := s.plu.counters }
    cans := { ctls := s.cans.ctls.filter (fun (p : Nat × CanCtl) => p.1 = 5), rx := [] }
    sfi := { s.sfi with hbStop := true, twinSite := s.rindTwin }
    twin := Twin.reset }
  s1.wr THM_STAT.DIE_TRIP trip

/-- GOING_DOWN on every ACTIVE Dreak lane before a reset takes effect: causes 1 RESET_N, 2 GLB_SWRST, 3 reference or PLL,
4 on-die temperature (spec/16 R397). -/
def State.goingDown (s : State) (cause : Nat) : State :=
  if s.mainUp then
    s.yokeSend ([0x25, 1, cause, 0] ++ leBytes 4 s.claim ++ leBytes 4 s.tickNum ++ zeros 4)
  else s

/-- The Rind is without power or starts anew: its outputs are off, what its store holds stays (spec/02 R31, spec/14 R328). -/
def State.rindDown (s : State) : State :=
  let z := s.sfi
  let s1 := { s with sfi := { Sfi.reset with
    image := z.image, staged := z.image, confirmed := z.confirmed, cv := z.cv, refreshAt := z.refreshAt, pwdHash := z.pwdHash,
    chlog := z.chlog, chnum := z.chnum, aliveOff := z.aliveOff } }
  ((s1.wr SFI_STAT.STATE 0).wr SFI_SO_STAT.ON 0).wr SFI_STAT.VLR_HOLD 0

/-- The VAON domain loses its power, or powers on: everything but MRAM and the Rind's store is lost, the registers of the domain
are at their reset values, and RESET_N counts as low from here on; the other supplies are as they were (spec/02 R31, R34, R46,
spec/14 R328; log entry 61). -/
def State.vaonLost (s : State) : State :=
  let z := State.reset
  { z with
    pending := s.pending, grade := s.grade, now := s.now, free := s.free, out := s.out
    glb := { z.glb with
      aboveOff := s.glb.aboveOff, powered := s.glb.powered, inReg := s.glb.inReg, pwrEnLowAt := s.now
      allOffAt := s.glb.allOffAt, rstLowAt := some s.now, sealed := s.glb.sealed, sealedCv := s.glb.sealedCv
      images := s.glb.images }
    stu := { z.stu with rtcAt := s.now }
    mte := { z.mte with ckptA := s.mte.ckptA, ckptB := s.mte.ckptB, calId := s.mte.calId, digest := s.mte.digest }
    rsl := { z.rsl with journal := s.rsl.journal, next := s.rsl.next, ack := s.rsl.ack, heads := s.rsl.heads,
                        opens := s.rsl.opens, refreshAt := s.rsl.refreshAt, hdr := s.rsl.hdr, tail := s.rsl.tail,
                        merges := s.rsl.merges, unlinked := s.rsl.unlinked }
    kvt := { z.kvt with helper := s.kvt.helper, helpers := s.kvt.helpers, enrols := s.kvt.enrols, slotA := s.kvt.slotA,
                        slotB := s.kvt.slotB, pend := s.kvt.pend }
    see := { z.see with keys := s.see.sealedKeys, sealedKeys := s.see.sealedKeys }
    plu := { z.plu with counters := s.plu.counters }
    sfi := { z.sfi with image := s.sfi.image, staged := s.sfi.image, confirmed := s.sfi.confirmed, cv := s.sfi.cv,
                        refreshAt := s.sfi.refreshAt, pwdHash := s.sfi.pwdHash, chlog := s.sfi.chlog, chnum := s.sfi.chnum } }

/-- The Rind's 365 days count VAON time alone: the time counted is kept while VAON is off, and counts on from its return
(spec/14 R328). -/
def State.turnRefresh (s : State) : State := { s with sfi := { s.sfi with refreshAt := s.now - s.sfi.refreshAt } }

/-- VAON falls below its off threshold (R31). -/
def State.vaonOff (s : State) : State :=
  let z := (if s.glb.powered.testBit 0 then s.turnRefresh else s).vaonLost
  { z with glb := { z.glb with aboveOff := setBit z.glb.aboveOff 0 false, powered := setBit z.glb.powered 0 false } }

/-! ### Supply sequence (R26 to R31) -/

/-- Supplies of a group, as bits of PGOOD (R26). -/
def groupBits : Nat → Nat
  | 1 => 0x01 | 2 => 0x06 | 3 => 0x08 | 4 => 0xF0 | _ => 0

/-- Supplies of the groups before and after g. -/
def earlierBits (g : Nat) : Nat := sumN ((List.range g).map groupBits)
def laterBits (g : Nat) : Nat := 0xFF - earlierBits (g + 1)

/-- Supplies in regulation, as the monitor shows them. -/
abbrev State.pgood (s : State) : Nat := s.rd GLB_PWR_STAT.PGOOD

/-- PGOOD shows the supplies in regulation while VAON feeds the monitor (R26, R46). -/
def State.showGood (s : State) : State := if s.glb.inReg.testBit 0 then s.wr GLB_PWR_STAT.PGOOD s.glb.inReg else s

/-- Supply i is, or is no longer, in regulation (R26). -/
def State.setGood (s : State) (i : Nat) (on : Bool) : State :=
  let s1 := { s with glb := { s.glb with inReg := setBit s.glb.inReg i on } }
  if i = 0 && !on then s1.wrBit GLB_PWR_STAT.PGOOD 0 false else s1.showGood

/-- A power-order violation by the supplies `who` (R29, R30). -/
def State.violation (s : State) (who : Nat) : State :=
  let (len, s1) := match s.glb.window with | some t => ((s.now - t) / 1000, s) | none => s.fresh
  let s2 := { s1 with glb := { s1.glb with holds := { s1.glb.holds with order := true }, pwrEn := false, pwrEnLowAt := s.now,
                                           offSeen := false, window := none } }
  let s3 := (((s2.wr GLB_PWR_STAT.ORDER_FAULT 1).wr GLB_PWR_STAT.ORDER_SUPPLY who).wr GLB_PWR_STAT.HOLD 1).wr GLB_RST_CAUSE.ORDER 1
  (((s3.mainReset.ev 0x0102 0 who len).driveSo).setHold false).driveAll

/-- The order is watched: VAON is in regulation. -/
def State.watched (s : State) : Bool := s.pgood.testBit 0

/-- The order hold ends: everything was off for 1 ms and the new sequence is complete (R30). -/
def State.orderEnd (s : State) : State :=
  if s.glb.holds.order && s.glb.offSeen && s.pgood = 0xFF then
    ({ s with glb := { s.glb with holds := { s.glb.holds with order := false } } }.wr GLB_PWR_STAT.HOLD 0).driveAll
  else s

/-- A supply rises above its off threshold (R27, R29). -/
def State.supplyAbove (s : State) (i g : Nat) : State :=
  let seen := s.glb.offSeen || (s.glb.holds.order && (match s.glb.allOffAt with
    | none => false | some t => t + 1000000 ≤ s.now))
  let opens := g = 2 && s.glb.aboveOff &&& 0x06 = 0
  let s1 := { s with glb := { s.glb with
    aboveOff := setBit s.glb.aboveOff i true, offSeen := seen
    allOffAt := if i = 0 then s.glb.allOffAt else none
    window := if opens && s.watched then some s.now else s.glb.window } }
  if s.watched && 2 < g && clearBits (earlierBits g) s.pgood ≠ 0 then s1.violation (1 <<< i) else s1

/-- A supply rises above its power-good threshold (R26, R27). VAON that comes back after it was off powers on: its domain starts
from its reset values, and PGOOD shows the other supplies as they are (R46). The reset of VCORE below 0.72 V, whose end the spec
does not state, ends when VCORE is in regulation again (R32; DESIGN CHOICE, log entry 120). -/
def State.supplyGood (s : State) (i g : Nat) : State :=
  let s1 := (if i = 0 && !s.glb.powered.testBit 0 then s.turnRefresh.vaonLost else s).setGood i true
  let s2 := { s1 with glb := { s1.glb with
    powered := setBit s1.glb.powered i true
    window := if g = 4 && s1.pgood &&& 0xF0 = 0xF0 then none else s1.glb.window
    holds := { s1.glb.holds with core := if i = 4 then false else s1.glb.holds.core } } }
  s2.orderEnd

/-- Every domain except VAON is reset because VCORE fell below 0.72 V (R32). -/
def State.coreReset (s : State) : State :=
  let us := match s.glb.brownAt with | none => 0 | some t => (s.now - t) / 1000 + 1
  let s1 := (s.setGood 4 false).wr GLB_RST_CAUSE.BROWNOUT 1
  ({ s1 with glb := { s1.glb with holds := { s1.glb.holds with core := true } } }.mainReset).ev 0x0103 0 us 2

/-- A supply leaves regulation (R28, R29). -/
def State.supplyLow (s : State) (i g : Nat) : State :=
  let s1 := s.setGood i false
  if i = 0 then s1.mainReset.rindDown.driveAll
  else if s.watched && s.glb.inReg.testBit i && (g = 2 || g = 3) && s.glb.aboveOff &&& laterBits g ≠ 0 then s1.violation (1 <<< i)
  else s1

/-- A supply falls below its off threshold: it holds what it fed in reset (R26, R28, R32). -/
def State.supplyOff (s : State) (i : Nat) : State :=
  if i = 0 then s.vaonOff
  else
    let s1 := if i = 4 && !s.glb.holds.core && s.mainUp then s.coreReset else if s.mainUp then s.mainReset else s
    let up := setBit s1.glb.aboveOff i false
    let s2 := { s1 with glb := { s1.glb with
      aboveOff := up, powered := setBit s1.glb.powered i false
      holds := { s1.glb.holds with core := if i = 4 then true else s1.glb.holds.core }
      allOffAt := if up / 2 = 0 && s1.glb.allOffAt.isNone then some s.now else s1.glb.allOffAt } }
    s2.setGood i false

open Host (Outcome)

/-- SUPPLY_RISE: a supply rises above its off threshold, or above its power-good threshold (R26). -/
def execSupplyRise (sup : SupplyName) (good : Bool) (s : State) : Outcome State Fault Refusal :=
  let i := supplyIdx sup
  let g := supplyGroup sup
  let s1 := if s.glb.aboveOff.testBit i then s else s.supplyAbove i g
  .next (if good then s1.supplyGood i g else s1)

/-- SUPPLY_FALL: a supply falls below its falling power-good threshold, or below its off threshold (R26). -/
def execSupplyFall (sup : SupplyName) (belowOff : Bool) (s : State) : Outcome State Fault Refusal :=
  let i := supplyIdx sup
  let s1 := if s.glb.inReg.testBit i then s.supplyLow i (supplyGroup sup) else s
  .next (if belowOff && s1.glb.aboveOff.testBit i then s1.supplyOff i else s1)

/-- SEQUENCE_WINDOW_EXPIRE: the window exceeds 20 ms (R29). -/
def execSequenceWindowExpire (s : State) : Outcome State Fault Refusal :=
  match s.glb.window with
  | none => .next s
  | some t =>
    let s1 := s.waitTill (t + 20000010)
    .next (s1.violation (clearBits 0xFE s1.pgood))

/-- PWR_EN_REASSERT: every supply of groups 2 to 4 off for 1 ms, and PWR_EN low for at least 10 ms (R30). -/
def execPwrEnReassert (s : State) : Outcome State Fault Refusal :=
  match s.glb.allOffAt with
  | none => .next s
  | some t =>
    if !s.glb.holds.order || s.glb.pwrEn then .next s
    else
      let s1 := s.waitTill (max (t + 1000000) (s.glb.pwrEnLowAt + 10000000))
      .next { s1 with glb := { s1.glb with pwrEn := true, offSeen := true } }

/-! ### Brown-out (R32) -/

/-- BROWNOUT_WARNING: VCORE has been below 0.76 V for 1 µs. -/
def execBrownoutWarning (s : State) : Outcome State Fault Refusal :=
  if !s.mainUp || s.glb.brownAt.isSome then .next s
  else
    let s1 := ({ s with glb := { s.glb with brownAt := some s.now, brownOver := false } }).wr GLB_PWR_STAT.BROWNOUT 1
    .next (if s1.see.reading.isSome then s1.seeReadFail none else s1)

/-- Time since the warning, µs, with the 1 µs that led to it. -/
def State.brownUs (s : State) (t : Nat) : Nat := (s.now - t) / 1000 + 1

/-- BROWNOUT_RESET: VCORE falls below 0.72 V. -/
def execBrownoutReset (s : State) : Outcome State Fault Refusal :=
  .next (if s.watched && !s.glb.holds.core then s.coreReset else s)

/-! ### RESET_N and GLB_SWRST (R33 to R36) -/

/-- RESET_N takes effect, `now` being 20 ms after its falling edge. -/
def execResetNAssert (s : State) : Outcome State Fault Refusal :=
  if s.glb.holds.resetN then .next s
  else
    let s1 := (s.goingDown 1).wr GLB_RST_CAUSE.RESET_N 1
    .next { s1.mainReset with glb := { s1.mainReset.glb with
      holds := { s1.glb.holds with resetN := true }, rstLowAt := some (s.now - 20000000), stuck := false } }

/-- RESET_N has been low for more than 4 s while VAON feeds the domain that counts it (R34). -/
def execResetNStuck (s : State) : Outcome State Fault Refusal :=
  match s.glb.rstLowAt with
  | none => .next s
  | some t =>
    if !s.watched then .next s
    else
    let s1 := s.waitTill (t + 4000000010)
    .next { s1 with glb := { s1.glb with stuck := true } }

/-- RESET_N has been low for 60 s: TWIN_ALIVE is latched low (R34). -/
def execTwinAliveLatch (s : State) : Outcome State Fault Refusal :=
  match s.glb.rstLowAt with
  | none => .next s
  | some t =>
    if !s.watched then .next s
    else
    let s1 := s.waitTill (t + 60000000000)
    .next ({ s1 with sfi := { s1.sfi with aliveOff := true }, glb := { s1.glb with stuck := true } }.wr GLB_RST_CAUSE.TWIN_LATCH 1)

/-- RESET_N release takes effect, 20 ms after the rising edge (R33, R34). -/
def execResetNRelease (s : State) : Outcome State Fault Refusal :=
  if !s.glb.holds.resetN then .next s
  else
    let ms := match s.glb.rstLowAt with | none => 0 | some t => (s.now - t) / 1000000 - 20
    let s1 := if s.glb.stuck then
        let e : Event := { code := 0x0104, entity := 0, source := 2, seq := 0, t := s.stamp, arg1 := ms,
                           arg2 := b2n (s.flag GLB_RST_CAUSE.TWIN_LATCH) }
        { s.wr GLB_RST_CAUSE.STUCK_RESET 1 with log := { s.log with kept := s.log.kept ++ [e] } }
      else s
    .next { s1 with glb := { s1.glb with holds := { s1.glb.holds with resetN := false }, rstLowAt := none, stuck := false,
                                         stuckMs := if s.glb.stuck then ms else s1.glb.stuckMs } }

/-- GLB_SWRST (R36). -/
def State.swrst (s : State) (v : Nat) : State :=
  if v ≠ 0x5A5A then s
  else if s.glb.mode = .dormant || s.glb.mode = .commission || s.glb.mode = .halt then
    (((s.goingDown 2).wr GLB_RST_CAUSE.RESET_N 1).wr GLB_RST_CAUSE.SWRST 1).mainReset
  else
    let (target, s1) := s.fresh
    s1.refuseMode target 0x09

/-- GLB_SWRST. -/
def execGlbSwrst (v : BitVec 32) (s : State) : Outcome State Fault Refusal := .next (if s.up then s.swrst v.toNat else s)

/-! ### Boot and wake (R44, R45) -/

/-- RIND_SELFTEST_COMPLETE: the Rind starts and drives PWR_EN high, at most 30 ms after VAON came up (R44, spec/14 R354). -/
def execRindSelftestComplete (s : State) : Outcome State Fault Refusal :=
  if !s.watched || s.sfi.ready || s.sfi.faultStays then .next s
  else
    let s1 := { s with sfi := { s.sfi with ready := true, staged := s.sfi.image, fault := s.sfi.fault }
                       glb := { s.glb with pwrEn := s.glb.pwrEn || !s.glb.holds.order } }
    .next (((s1.wr SFI_STAT.STATE 1).wr (CAN_CTL.EN 5) 1).wr (CAN_CTL.FD_EN 5) 1)

/-- The sealed image is loaded into the RWS registers (start-up step 8). -/
def State.loadSealed (s : State) : State :=
  match s.glb.sealed with
  | none => s
  | some t => { s with regs := t.foldl (fun r (p : Nat × BitVec 32) => tset regReset r p.1 p.2) s.regs }

/-- Boot loads what MRAM holds: the clocks' lock bits, the key root, the sealed configuration, the meter and the journal
(start-up steps 5 to 8). -/
def State.bootLoad (s : State) (tries bits : Nat) (meas : List Nat) (bad : List MramPart) : State :=
  let s0 := [CKG_STAT.MAIN_LOCK, CKG_STAT.SER_CAB_LOCK, CKG_STAT.MEM_LOCK, CKG_STAT.REF_OK].foldl (fun a f => a.wr f 1) (s.loadMram bad)
  let s1 := if s.grade = .ph4812 then s0 else s0.wr CKG_STAT.SER_DRK_LOCK 1
  let s2 := (s1.bootRoot tries bits meas).loadSealed
  (((s2.wr MTE_CAL_ID.ID s2.mte.calId).wr MTE_CAL_DIGEST.DIGEST (if s2.glb.sealed.isSome then s2.mte.digest else 0)).mteResume
    s2.rtcNs).rslRecover

/-- Boot checks the cycle table and begins to test the lanes; a twin site lets its Dreak lanes go (start-up step 9). -/
def State.bootLanes (s : State) : State :=
  let s5 := { s with see := { s.see with cycBad := s.cycFail.isSome } }
  let s6 := if s5.twinSite then s5.releaseDreak else s5
  (List.range 14).foldl (fun u l => u.modLane l (fun x => { x with testAt := u.now, since := u.now })) s6

/-- The events kept in VAON go to the log (spec/02 "Events"). -/
def State.logKept (s : State) : State :=
  s.log.kept.foldl (fun a e => a.pushEvent e) { s with log := { s.log with kept := [] } }

/-- Boot ends: BOOTING clears, the claim and the CAN roles follow, and the kept events are logged (R45). DORMANT at the end of
boot is no entry to DORMANT in the sense of PWR_OFF: PWR_EN goes low after a requested transition only (R44; DESIGN CHOICE, log
entry 121). -/
def State.bootEnd (s : State) : State :=
  let cause := if s.log.kept.any (fun (e : Event) => e.code = 0x0106) then 9 else 0
  let s8 := { s with glb := { s.glb with booting := false, lastCause := cause, kickAt := s.now } }
  let s9 := (s8.wr GLB_TWIN_CLAIM.CLAIM (s8.rd GLB_TWIN_EPOCH.EPOCH * 256 + s8.rd GLB_TWIN_CFG.RANK)).canRoles
  s9.logKept.ev 0x0100 0 0 (cause * 256)

/-- Boot (R45, start-up steps 5 to 9). -/
def State.boot (s : State) (tries bits : Nat) (meas : List Nat) (bad : List MramPart) : State :=
  ((s.bootLoad tries bits meas bad).bootLanes).bootEnd

/-- MEAS: the SHA-384 of the boot-ROM measurements of the HKC firmware and of the Rind firmware, in that order (spec/10 R247). -/
def measOf (hkc rind : List (BitVec 8)) : List Nat := sha384 ((hkc ++ rind).map (·.toNat))

/-- BOOT_COMPLETE: at most five attempts at the key root, the bad bits of the last, the boot-ROM measurements of the HKC and Rind
firmware, and the parts of the MRAM that fail their CRC-32, when any does. -/
def execBootComplete (rootTries : Fin 6) (badBits : BitVec 16) (meas : List (BitVec 8) × List (BitVec 8)) (s : State)
    (bad : List MramPart := []) : Outcome State Fault Refusal :=
  .next (if s.mainUp && s.glb.booting then s.boot rootTries.val badBits.toNat (measOf meas.1 meas.2) bad else s)

/-- A wake source acts while PWR_EN is low in DORMANT (R44). -/
def State.asleep (s : State) : Bool := s.sfi.ready && !s.glb.pwrEn && !s.glb.holds.order

/-- A wake source: latched, its event kept for the end of boot, PWR_EN high (R44). -/
def State.wake (s : State) (bit : Nat) : State :=
  let e : Event := { code := 0x0106, entity := 0, source := 2, seq := 0, t := s.stamp, arg1 := 1 <<< bit, arg2 := 0 }
  let s1 := s.wrBit GLB_WAKE_STAT.SOURCE bit true
  { s1 with log := { s1.log with kept := s1.log.kept ++ [e] }, glb := { s1.glb with pwrEn := true } }

/-- WAKE_IN_EDGE. -/
def execWakeInEdge (s : State) : Outcome State Fault Refusal :=
  .next (if s.asleep && s.flag GLB_WAKE_CFG.PIN then s.wake 3 else s)

/-- RTC_ALARM: the RTC reaches the alarm (spec/03 R69). -/
def execRtcAlarm (s : State) : Outcome State Fault Refusal :=
  let a := s.rd STU_RTC_ALARM.ALARM
  if !s.asleep || !s.flag GLB_WAKE_CFG.RTC || a = 0 || 1000000000 * (a + 1) ≤ s.rtcNs then .next s
  else
    let s1 := s.waitTill (s.now + (1000000000 * a - s.rtcNs))
    .next ((s1.wr STU_RTC_SEC.SEC a).wake 2)

/-- CAN_WAKE: a dominant level held for 5 µs, or a classic frame with a correct CRC: identifier, IDE and data byte 0
(spec/13 R317). -/
def execCanWake (can4 : Bool) (frame : Option (BitVec 29 × Bool × BitVec 8)) (s : State) : Outcome State Fault Refusal :=
  let n := if can4 then 4 else 2
  let cfg := s.rd (if can4 then GLB_WAKE_CFG.CAN4 else GLB_WAKE_CFG.CAN2)
  let hit : Bool := match cfg, frame with
    | 1, _ => true
    | 2, some (id, ide, d) =>
      id.toNat &&& s.rd (CAN_WAKE_MASK.MASK n) == s.rd (CAN_WAKE_ID.ID n) &&& s.rd (CAN_WAKE_MASK.MASK n) &&
      ide == s.flag (CAN_WAKE_ID.IDE n) &&
      d.toNat &&& s.rd (CAN_WAKE_DATA.DMASK n) == s.rd (CAN_WAKE_DATA.DATA n) &&& s.rd (CAN_WAKE_DATA.DMASK n)
    | _, _ => false
  .next (if s.asleep && hit then s.wake (if can4 then 1 else 0) else s)

/-- PWR_EN_OFF: the main domains have stored their state after an entry to DORMANT with PWR_OFF (R44). -/
def execPwrEnOff (s : State) : Outcome State Fault Refusal :=
  .next (if s.glb.pwrOffPend && s.glb.mode = .dormant then
    { s with glb := { s.glb with pwrOffPend := false, pwrEn := false, pwrEnLowAt := s.now } } else s)

/-! ### Reference, PLLs and the SAF check (spec/03 R49 to R51) -/

/-- The main domains are held for a reference or PLL fault: causes 0 reference, 1 main PLL, 2 memory PLL. -/
def State.refFault (s : State) (cause : Nat) : State :=
  if s.glb.holds.ref then s
  else
    let s1 := (s.goingDown 3).mainReset
    { s1 with glb := { s1.glb with holds := { s1.glb.holds with ref := true } }, stu := { s1.stu with refHold := some (s.now, cause) } }

/-- REF_LOSS: no TCXO edge for 1 µs. -/
def execRefLoss (s : State) : Outcome State Fault Refusal := .next (if s.watched then s.refFault 0 else s)

/-- PLL_UNLOCK: the main or the memory PLL. -/
def execPllUnlock (memory : Bool) (s : State) : Outcome State Fault Refusal :=
  .next (if s.mainUp then s.refFault (if memory then 2 else 1) else s)

/-- REF_RESTORED: the reference present for 10 ms and both PLLs locked; the cause is kept for the end of the next boot. The 10 ms
count from the loss or the unlock also where the reference stayed present, and the event is stamped as the hold ends (R49, R70;
DESIGN CHOICE, log entry 125). -/
def execRefRestored (s : State) : Outcome State Fault Refusal :=
  match s.stu.refHold with
  | none => .next s
  | some (t, cause) =>
    let s1 := s.waitTill (t + 10000000)
    let s2 := if cause = 0 then s1.ev 0x0201 0 0 ((s1.now - t) / 1000000) else s1.ev 0x0202 0 (if cause = 1 then 0 else 3) 1
    .next { s2 with glb := { s2.glb with holds := { s2.glb.holds with ref := false } }, stu := { s2.stu with refHold := none } }

/-- SAF_CHECK_WINDOW: SAF cycles counted over 10 ms of TIM, or over 1 s of the RTC while the main domains do not run (R51). -/
def execSafCheckWindow (count : Nat) (s : State) : Outcome State Fault Refusal :=
  if !s.sfi.ready then .next s
  else
    let main := s.mainUp
    let expect : Nat := if main then 480000 else 48000000
    let dev : Int := (count : Int) - (expect : Int)
    let bad := decide (expect * 3 < dev.natAbs * 100)
    let n := if bad then s.stu.safBad + 1 else 0
    let s1 := { s with stu := { s.stu with safBad := n } }
    let s2 := if main then s1.wrS CKG_STAT.SAF_DEV (clampS 8 (divZ (dev * 1000) expect)) else s1
    if 2 ≤ n then
      .next (({ s2 with sfi := { s2.sfi with safBad := true } }).evS 0x0203 0 count (b2n (!main)))
    else if !bad then .next { s2 with sfi := { s2.sfi with safBad := false } }
    else .next s2

/-! ### On-die temperatures (spec/15 R371) -/

/-- The hold for a die trip begins, at the hottest sensor i. -/
def State.dieTripped (s : State) (i : Nat) (t : Int) : State :=
  let lim := s.rd THM_DIE_CFG.TRIP
  let s1 := (s.goingDown 4).mainReset.wr THM_STAT.DIE_TRIP 1
  { s1 with glb := { s1.glb with holds := { s1.glb.holds with die := true } }
            thm := { s1.thm with dieTrip := lim, dieHold := some (s.now, t), dieCool := none, dieSensor := i } }

/-- The index and the value of the largest reading. -/
def hottest : List Int → Nat × Int
  | [] => (0, -32768)
  | t :: l => let (i, m) := hottest l; if l.isEmpty || m ≤ t then (0, t) else (i + 1, m)

/-- DIE_SENSOR_READ: the 12 sensors, every 2 ms (R371). -/
def execDieSensorRead (temps : List (BitVec 16)) (s : State) : Outcome State Fault Refusal :=
  let l := (temps.take 12).map (fun (t : BitVec 16) => t.toInt)
  if l.length < 12 then .next s
  else
    let (i, top) := hottest l
    match s.thm.dieHold with
    | some (t0, peak) =>
      let cool := decide (top ≤ (s.thm.dieTrip : Int) - 150)
      .next { s with thm := { s.thm with
        dieT := l, dieHold := some (t0, max peak top)
        dieSensor := if peak < top then i else s.thm.dieSensor
        dieCool := if !cool then none else match s.thm.dieCool with | none => some s.now | some t => some t } }
    | none =>
      if !s.mainUp then .next s
      else
        let s1 := ((List.range 12).zip l).foldl (fun a x => a.dieReading x.1 x.2) { s with thm := { s.thm with dieT := l } }
        .next (if (s.rd THM_DIE_CFG.TRIP : Nat) ≤ top then s1.dieTripped i top else s1)

/-- The die hold ends (R371). -/
def State.dieRelease (s : State) (t0 : Nat) (peak : Int) : State :=
  let s2 := s.ev 0x0F08 (entDie s.thm.dieSensor) (enc 64 peak) ((s.now - t0) / 1000000)
  { s2 with glb := { s2.glb with holds := { s2.glb.holds with die := false } }, thm := { s2.thm with dieHold := none, dieCool := none } }

/-- DIE_TRIP_RELEASE: every sensor has been 15.0 °C below TRIP for 10 ms (R371). -/
def execDieTripRelease (s : State) : Outcome State Fault Refusal :=
  match s.thm.dieHold, s.thm.dieCool with
  | some (t0, peak), some t =>
    .next ((s.waitTill (t + 10000000)).dieRelease t0 peak)
  | _, _ => .next s

end Sys2Proof.Machine
end

