-- ==== Sys2Proof/Machine/Replica.lean ====
section
/-!
DEFINITION. The replicated state of a twin (spec/16 R385 to R388; spec/08 R194, spec/11 R274, spec/12 R303): the leading
unit's objects as data, and what the standby takes from them. Instants are carried as site times (log entry 60).
-/
namespace Sys2Proof.Machine

/-- An uptime as site time, and back. -/
def State.toSite (s : State) (t : Nat) : Nat := s.siteNs + t - s.now
def State.fromSite (s : State) (t : Nat) : Nat := s.now + t - s.siteNs

/-- What an object stands for: section and index (R385). -/
def RepItem.key : RepItem → Nat × Nat
  | .entry i _ => (1, i)
  | .staged _ => (2, 0)
  | .migs _ => (3, 0)
  | .port p .. => (4, p)
  | .head e _ => (5, e)
  | .openSess p _ => (5, 64 + p)
  | .str i _ => (6, i)
  | .conv k .. => (7, k)
  | .site .. => (8, 0)

/-- The object of a key that a table no longer lists: an entry nothing has been written to, an absent head or slot. -/
def RepItem.gone (k : Nat × Nat) : Option RepItem :=
  match k with
  | (1, i) => some (.entry i Entry.zero)
  | (5, e) => some (if e < 64 then .head e none else .openSess (e - 64) none)
  | _ => none

/-- The guard and link state of a port that travels (spec/12 R303), its instants mapped by `f`. -/
def Plu.carried (x base : Plu) (f : Nat → Nat) : Plu :=
  { base with held := x.held, nid := x.nid, nmk := x.nmk, nek := x.nek, beaconAt := x.beaconAt, mute := x.mute, lastSrc := x.lastSrc,
              evcc := x.evcc, maxI := x.maxI, maxV := x.maxV, maxP := x.maxP, reqAt := f x.reqAt, lastI := x.lastI, lastP := x.lastP,
              bTimes := x.bTimes.map f, classC := x.classC, exits := x.exits, dutyAt := x.dutyAt, coolEnd := x.coolEnd.map f }

/-- The string state that travels (spec/11 R274). -/
def Str.carried (x base : Str) (f : Nat → Nat) : Str :=
  { base with q := x.q, qRes := x.qRes, dis := x.dis, disRes := x.disRes, chg := x.chg, chgRes := x.chgRes, u := x.u, uRes := x.uRes,
              untrusted := x.untrusted, needRef := x.needRef, auth := x.auth, eocHold := x.eocHold, eod := x.eod, stale := x.stale,
              cold := x.cold, restAt := x.restAt.map f, eocAt := x.eocAt.map f, eodOkAt := x.eodOkAt.map f, qFlag := x.qFault != 0 || x.qFlag }

/-- The converter state that travels (spec/08 R194). -/
def Cce.carried (x base : Cce) (f : Nat → Nat) : Cce :=
  { base with state := x.state, act := x.act, retries := x.retries, retryAt := x.retryAt.map f, retryLeft := x.retryLeft,
              u1 := x.u1, u2 := x.u2, u3 := x.u3, e1 := x.e1, e2 := x.e2, e3 := x.e3, removal := x.removal, adds := x.adds,
              lockTo := x.lockTo }

/-- The object of port p. -/
def State.repPort (s : State) (p : Nat) : RepItem :=
  .port p (s.session p) (s.rd (PLU_SESS.END_REASON p)) (s.rd (PLU_SESS_ID.ID p)) (s.rd (PLU_CP_CTL.DUTY p)) (s.rd (PLU_CP_CTL.F p))
    (s.rd (PLU_CP_STAT.ASSOC p)) (s.rd (PLU_VIOL.A_CNT p)) (s.rd (PLU_VIOL.C_CNT p)) (tget (fun _ => 0) s.plu.counters p)
    ((s.port p).carried Plu.reset s.toSite)

/-- Every replicated object as it stands (R385); of the objects of R274 and R194, those of strings and converters in use. -/
def State.repItems (s : State) : List RepItem :=
  s.con.table.map (fun (p : Nat × Entry) => .entry p.1 p.2) ++ [.staged s.con.staged, .migs s.con.migs] ++
  (List.range s.nPorts).map s.repPort ++
  s.rsl.heads.map (fun (p : Nat × Option ChainHead) => .head p.1 p.2) ++
  s.rsl.opens.map (fun (p : Nat × Option OpenSess) => .openSess p.1 p.2) ++
  ((List.range s.nStrings).filter s.stringOn).map (fun i => .str i ((s.str i).carried Str.reset s.toSite)) ++
  (if s.flag GLB_SITE_CFG.PRESS_EN then (List.range 4).map (fun k =>
    .conv k (s.rd (CCE_CTL.CONNECT k)) ((s.cv k).carried Cce.reset s.toSite)) else []) ++
  [.site (s.rd LSB_ON.ON) s.con.lastRest s.alp.wheys]

/-- What changed from `old` to `new`, objects that are gone included (R386). -/
def repDelta (old new : List RepItem) : List RepItem :=
  (old.filterMap (fun (x : RepItem) =>
    if new.any (fun (y : RepItem) => y.key == x.key) then none else RepItem.gone x.key)) ++
  new.filter (fun (x : RepItem) => !old.contains x)

/-- `l` with every object of `d` in place of the one with its key. -/
def repMerge (l d : List RepItem) : List RepItem :=
  d.foldl (fun (a : List RepItem) x => x :: a.filter (fun (y : RepItem) => y.key != x.key)) l

/-- The standby takes an object. A slot that opens takes the unit's own KIND 1 reading (spec/10 R238). -/
def State.takeItem (s : State) (x : RepItem) : State :=
  match x with
  | .entry i e => if i < 2048 then s.setEntry i e else s
  | .staged l => { s with con := { s.con with staged := l } }
  | .migs l => { s with con := { s.con with migs := l.map (fun (m : Mig) => { m with ring := 64 }) } }
  | .port p sess reason id duty f assoc aCnt cCnt counter y =>
    if s.nPorts ≤ p then s
    else
      let l : List (Fld × Nat) := [(PLU_SESS.SESSION p, sess), (PLU_SESS.END_REASON p, reason), (PLU_SESS_ID.ID p, id),
        (PLU_CP_CTL.DUTY p, duty), (PLU_CP_CTL.F p, f), (PLU_CP_STAT.ASSOC p, assoc), (PLU_VIOL.A_CNT p, aCnt),
        (PLU_VIOL.C_CNT p, cCnt)]
      let s1 := l.foldl (fun a w => a.wr w.1 w.2) s
      ({ s1 with plu := { s1.plu with counters := tset (fun _ => 0) s1.plu.counters p counter } }).modPort p
        (fun z => y.carried z s.fromSite)
  | .head e h => if e < 26 then s.setHead e h else s
  | .openSess p o =>
    if 24 ≤ p then s
    else
      let was := s.openSess p
      let s1 := { s with rsl := { s.rsl with opens := tset (fun _ => none) s.rsl.opens p o } }
      let newer := match o, was with
        | some a, some b => a.id != b.id || a.reading.tBound != b.reading.tBound
        | some _, none => true
        | none, _ => false
      if newer then
        let (s2, r) := s1.sessionReading p 1
        { s2 with rsl := { s2.rsl with kept1 := tset (fun _ => none) s2.rsl.kept1 p (some r) } }
      else if o.isNone then { s1 with rsl := { s1.rsl with kept1 := tset (fun _ => none) s1.rsl.kept1 p none } }
      else s1
  | .str i y => if s.stringOn i then s.setStr i (fun z => y.carried z s.fromSite) else s
  | .conv k connect y => if k < 4 then (s.wr (CCE_CTL.CONNECT k) connect).modCv k (fun z => y.carried z s.fromSite) else s
  | .site on rest w =>
    (s.setLsbOn on) |> fun s1 => { s1 with con := { s1.con with lastRest := rest }, alp := { s1.alp with wheys := w } }

/-- The standby takes the objects of a delta; every string and converter stands as the leading unit last reported it, whatever the
unit integrated or computed meanwhile (R274, R387; spec/08 R194). -/
def State.takeDelta (s : State) (d : List RepItem) : State :=
  let base := repMerge s.twin.base d
  let s1 := { s with twin := { s.twin with base := base, deltaIn := true } }
  let own (x : RepItem) : Bool := x.key.1 == 6 || x.key.1 == 7
  (d.filter (fun (x : RepItem) => !own x) ++ base.filter own).foldl (fun a x => a.takeItem x) s1

/-- The standby takes a whole copy: what it does not list is gone (R389). -/
def State.takeCopy (s : State) (l : List RepItem) : State :=
  let gone := s.repItems.filterMap (fun (x : RepItem) =>
    if l.any (fun (y : RepItem) => y.key == x.key) then none else RepItem.gone x.key)
  { s with twin := { s.twin with base := [] } }.takeDelta (gone ++ l)

end Sys2Proof.Machine
end

