-- ==== Sys2Proof/Machine/Modes.lean ====
section
/-!
DEFINITION. Operating modes (spec/02 R37 to R43, spec/01 R22, spec/14 R356, spec/16 R382): the preconditions of a request, the
sealing of the configuration, the commissioning password, and what a transition changes.
-/
namespace Sys2Proof.Machine

/-! ### Site configuration and sealing -/

/-- The first check of R22 that fails, 1 to 6. -/
def State.siteBad (s : State) : Option Nat :=
  let out := s.flag GLB_SITE_CFG.PRESS_OUT
  let en := s.flag GLB_SITE_CFG.PRESS_EN
  let lane := s.rd GLB_SITE_CFG.PRESS_LANE
  let blocks := s.rd GLB_BLOCK_EN0.BLK_LO + 2 ^ 32 * s.rd GLB_BLOCK_EN1.BLK_HI
  if s.twinSite && !out && en then some 1
  else if out && 12 ≤ lane then some 2
  else if out && blocks / 2 ^ (4 * lane) % 16 ≠ 0 then some 3
  else if out && !en then some 4
  else if s.rd GLB_STRING_EN.STR ≠ 0 && !en then some 5
  else if s.rd GLB_PORT_EN.PORT = 0 then some 6
  else none

/-- The RWS bits of a register (spec/00 R9). -/
def rwsMask (off : Nat) : Nat :=
  match regFind off with
  | none => 0
  | some r => (r.fields.filter (fun (f : FieldDef) => f.acc = .rws)).foldl (fun a (f : FieldDef) => a ||| f.mask) 0

/-- The RWS registers that differ from reset: the configuration image. -/
def State.rwsImage (s : State) : Tab (BitVec 32) :=
  (s.regs.map (fun (p : Nat × BitVec 32) =>
    let m := BitVec.ofNat 32 (rwsMask p.1)
    (p.1, (p.2 &&& m) ||| (regReset p.1 &&& ~~~m)))).filter (fun (p : Nat × BitVec 32) => p.2 ≠ regReset p.1)

/-- The configuration is sealed into MRAM with SAFETY_CV; calibration identity, cycle table, keys and Dreak lanes follow, and
the change log takes its entry (spec/02 R39, spec/07 R170, spec/09 R223, spec/11 R260, spec/14 R355 and R357). -/
def State.seal (s : State) : State :=
  let old := s.glb.sealed
  let s1 := { s with glb := { s.glb with sealed := some s.rwsImage, sealedCv := s.sfi.cv, images := s.glb.images.put (s.rwsImage, s.sfi.cv, s.see.keys) },
                     thm := { s.thm with unbound := [] } }
  let s2 := (s1.sealCal old).seeSeal
  (if s2.twinSite then s2.releaseDreak else s2.holdDreak).changeLog 2

/-! ### Claims reported by endpoints (spec/06 R147, spec/16 R382) -/

/-- FOLLOW and FLAGS of every cabinet endpoint whose last frame stamped before an instant is fresh at it. -/
def State.freshLanesAt (s : State) (till : Nat) : List (Nat × Nat × Nat) :=
  (List.range 12).filterMap (fun l =>
    match (s.lane l).follow.find? (fun x => decide (x.2.1 < till)) with
    | none => none
    | some (f, t, flags) => if till < t + s.rd ALP_AGE_CFG2.BLK_AGE * s.tickNs then some (l, f, flags) else none)

/-- What the endpoints report now. -/
def State.freshLanes (s : State) : List (Nat × Nat × Nat) := s.freshLanesAt (s.siteNs + 1)

/-- FOLLOW of every slow-load node whose status is fresh. -/
def State.freshSlow (s : State) : List (Nat × Nat) :=
  (List.range 16).filterMap (fun j =>
    match tget (fun _ => none) s.link.slowFollow j with
    | none => none
    | some (f, t) => if s.siteNs < t + 1000000 * s.rd ALP_AGE_CFG0.SLOW_AGE then some (j, f) else none)

/-- Every claim reported. -/
def State.follows (s : State) : List Nat := s.freshLanes.map (·.2.1) ++ s.freshSlow.map (·.2)

/-- RANK. -/
abbrev State.rank (s : State) : Nat := s.rd GLB_TWIN_CFG.RANK

/-- The smallest epoch above every epoch known with the parity of the rank (R382). -/
def State.newEpoch (s : State) : Nat :=
  let known := [s.rd GLB_TWIN_EPOCH.EPOCH, s.rd GLB_TWIN_PEER_CLAIM.CLAIM / 256] ++ s.follows.map (· / 256)
  let e := known.foldl max 0 + 1
  if e % 2 = s.rank % 2 then e else e + 1

/-- The promotion's epoch is taken (R382). -/
def State.raiseEpoch (s : State) : State :=
  let e := s.newEpoch
  (s.wr GLB_TWIN_EPOCH.EPOCH e).wr GLB_TWIN_CLAIM.CLAIM (e * 256 + s.rank)

/-- In SHADOW frames carry the leading unit's epoch, as last heard, with the own rank (R381). -/
def State.shadowClaim (s : State) : State :=
  let e := s.rd GLB_TWIN_PEER_CLAIM.CLAIM / 256
  if s.glb.mode = .shadow && e ≠ 0 then
    (s.wr GLB_TWIN_CLAIM.CLAIM (e * 256 + s.rank)).wr GLB_TWIN_EPOCH.EPOCH (max e (s.rd GLB_TWIN_EPOCH.EPOCH))
  else s

/-! ### A transition -/

/-- SUB of GLB_TWIN_STAT on entering a mode (R379). -/
def State.subOf (s : State) (m : Mode) : Nat := if !s.twinSite then 0 else if m.leading then 1 else if m = .shadow then 2 else 0

/-- Entry to SHADOW in SYNC: nothing replicated is held (R379). -/
def State.enterSync (s : State) : State :=
  let t := s.twin
  let s1 := { s with twin := { t with
    base := [], deltas := [], sending := none, parts := [], copy := none, snaps := [], agree := 0, fitSeen := false,
    replays := 0, disagree := 0, refused := [], silent := 0, unlockedAt := none }, alp := { s.alp with leadHalt := false } }
  let s2 := ((s1.wr GLB_TWIN_STAT.FIT 0).wr GLB_TWIN_STAT.CONTIG 0).wr GLB_TWIN_STAT.MM_RUN 0
  s2.wr GLB_TWIN_STAT.ORPHAN 0

/-- A port's session is cut by HALT (spec/12 R299). -/
def State.endSessions (s : State) : State := (List.range s.nPorts).foldl (fun a p => a.guardExit p 3) s

/-- What entering each mode does beside GLB_MODE and the event. -/
def State.onEntry (s : State) (prev new : Mode) : State :=
  match new with
  | .dormant => { s with glb := { s.glb with pwrOffPend := s.flag GLB_WAKE_CFG.PWR_OFF } }
  | .commission => ({ s with sfi := { s.sfi with staged := s.sfi.image } }).changeLog 5
  | .active =>
    let s1 := (s.lanesWake.armPress.seeEnter.authAll).wr ALP_SHORT_CNT.CNT 0
    if prev = .limp then s1 else s1.raiseEpoch
  | .shadow => (((s.lanesWake.armPress.seeEnter).wr ALP_SHORT_CNT.CNT 0).enterSync).shadowClaim
  | .limp =>
    let s1 := { s with con := { s.con with staged := [] } }
    (((s1.con.migs.filter (fun (m : Mig) => decide (m.step ≤ 1))).foldl (fun a m => a.abortMig m 0x4B) s1).attn 0).lanesWake
  | .halt =>
    let s1 := { s with con := { s.con with staged := [] } }
    (((s1.con.migs.foldl (fun a m => a.abortMig m 0x4B) s1).endSessions).attn 1).lanesWake

/-- Before a transition: the last heartbeat on the way into DORMANT or COMMISSION, and a confirmation in COMMISSION is abandoned
(R74, spec/14 R355). -/
def State.leaveMode (s : State) (new : Mode) : State :=
  let s0 := if new = .dormant || new = .commission then s.sendHeartbeat (putBits (s.reg ALP_STAT.STATUS.off) 24 3 new.code) else s
  if s.glb.mode = .commission && s0.confirming then s0.paramRefuse 5 0 else s0

/-- GLB_MODE and its event; the Churn's ticks start anew when it begins to run (R39, R42), and so does the host watchdog, whose
first period the spec does not place (R43; DESIGN CHOICE, log entry 122). -/
def State.showMode (s : State) (new : Mode) (cause : Nat) : State :=
  let prev := s.glb.mode
  let fresh := (prev = .dormant || prev = .commission) && new.running
  let s2 := { s with glb := { s.glb with
    mode := new, prevMode := prev, lastCause := cause, limpPend := none, pwrOffPend := false
    kickAt := if fresh then s.now else s.glb.kickAt, wdogOut := if fresh then false else s.glb.wdogOut } }
  let s3 := (s2.wr GLB_MODE_STAT.REQ_PEND 0).ev 0x0100 0 prev.code (new.code + 256 * cause)
  if fresh then s3.retick else s3

/-- GLB_TWIN_STAT on entering a mode (spec/16 R379). -/
def State.twinMarks (s : State) (new : Mode) : State :=
  let s5 := if new = .shadow then s else ((s.wr GLB_TWIN_STAT.FIT 0).wr GLB_TWIN_STAT.ORPHAN 0).wr GLB_TWIN_STAT.CONTIG 0
  s5.wr GLB_TWIN_STAT.SUB (s5.subOf new)

/-- A unit that begins to lead replicates from what stands (spec/16 R386). -/
def State.repStart (s : State) (prev new : Mode) : State :=
  if new.leading && !prev.leading then { s with twin := { s.twin with base := s.repItems, deltas := [], sending := none } } else s

/-- A transition (R39, R40, R74): GLB_MODE, its event, and what the mode's entry does; then roles and sources follow the mode. -/
def State.setMode (s : State) (new : Mode) (cause : Nat) : State :=
  let prev := s.glb.mode
  let s6 := (((s.leaveMode new).showMode new cause).twinMarks new).onEntry prev new
  ((s6.repStart prev new).canRoles).selectSource

/-- The device raises a HALT trigger: from ACTIVE or LIMP it enters HALT at once (R39, R40). -/
def State.haltTrigger (s : State) (cause : Nat) : State :=
  if s.glb.mode = .active || s.glb.mode = .limp then s.preempt.setMode .halt cause else s

/-- The pending LIMP entry takes effect (R74). -/
def State.limpNow (s : State) : State :=
  match s.glb.limpPend with
  | none => s
  | some cause => if s.glb.mode = .active then s.setMode .limp cause else { s with glb := { s.glb with limpPend := none } }

/-! ### Requests (R39 to R41, spec/14 R356) -/

/-- A GLB_MODE_REQ write: its KEY, and REQ_PEND (R40, R46). -/
def State.request (s : State) (target key : Nat) (k : State → State) : State :=
  if !s.up then s
  else if key ≠ 0xA5 then s.refuseMode target 0x0D
  else if s.flag GLB_MODE_STAT.REQ_PEND then s.refuseMode target 0x0A
  else k s

/-- The preconditions of R41 in order, with their refusal codes; `sealing` when the configuration is about to be sealed. -/
def State.preconditions (s : State) (target : Mode) (cold sealing : Bool) : List (Bool × Nat) :=
  let convs := ((List.range s.nStrings).filter s.stringOn).all (fun i => s.par (0x1C5 + 8 * i) 1 == s.rd (SEE_STR_CFG.CONV i))
  let adopt := s.rd SEE_STAT.ADOPT
  let theirs := s.follows.any (fun f => f != 0 && f % 256 != s.rank)
  [(s.siteBad.isNone, 0x01), (sealing || s.glb.sealed.isSome, 0x02),
   (s.sfi.confirmed && (sealing || s.sfi.cv == s.glb.sealedCv) && convs, 0x03),
   (s.kvt.rootOk && s.kvt.key.isSome, 0x04), (s.flag STU_DISC_STAT.VALID, 0x05),
   (adopt = 1 || adopt = 2 || cold, 0x06),
   (!(target == .active && s.twinSite && theirs), 0x07),
   (!(target == .shadow) || (s.twinSite && s.grade == .ph4800), 0x08),
   (!(s.twinSite && s.sfi.aliveOff), 0x0C)]

/-- The checks that every request for ACTIVE or SHADOW makes of the blocks (spec/08 R177, spec/09 R204, spec/11 R260, spec/13
R314, spec/15 R369). -/
def State.blockChecks (s : State) : State := s.pressCheck.tableCheck.thermalCheck.canCheck.seeCheck

/-- The cause of LIMP has cleared (R39). -/
def State.limpOver (s : State) : Bool :=
  match s.glb.lastCause with
  | 2 => !s.glb.wdogOut
  | 4 => s.sfi.limpBy.isEmpty
  | 5 => s.rd ALP_OVR_STAT.RUN == 0
  | _ => true

/-- A precondition fails: an invalid site is logged on the way out of COMMISSION, the blocks make their checks, and the request
is refused with the precondition's code (R22, R41). -/
def State.refuseRun (s : State) (target : Mode) (code : Nat) : State :=
  let s2 := if s.glb.mode = .commission then
    (match s.siteBad with | some n => s.ev 0x0142 0 n (s.reg GLB_SITE_CFG.TOPO.off) | none => s) else s
  s2.blockChecks.refuseMode target.code code

/-- Every precondition holds: the configuration is sealed on the way out of COMMISSION, strings without an adopted state start
cold, and the mode is entered (R39, spec/11 R271). -/
def State.beginRun (s : State) (target : Mode) (cold sealing : Bool) : State :=
  let s2 := (if sealing then s.seal else s).blockChecks
  let adopt := s2.rd SEE_STAT.ADOPT
  (if cold && (adopt = 0 || adopt = 3) then s2.coldAll else s2).setMode target 0x01

/-- The request is decided by the code of the first precondition that fails, if one does (R41). -/
def State.decideRun (s : State) (target : Mode) (cold sealing : Bool) (failed : Option Nat) : State :=
  match failed with
  | some code => s.refuseRun target code
  | none => s.beginRun target cold sealing

/-- A request for ACTIVE or SHADOW (R41). -/
def State.requestRun (s : State) (target : Mode) (cold : Bool) : State :=
  let m := s.glb.mode
  let ok := m == .dormant || m == .commission || (m == .limp && target == .active && s.limpOver)
  if !ok then s.blockChecks.refuseMode target.code 0x09
  else
    let sealing := m == .commission && s.siteBad.isNone
    let l := s.preconditions target cold sealing
    let s1 := s.wr GLB_MODE_STAT.PRECOND (maskOf ((List.range 9).filter (fun i => (nth l i (true, 0)).1)))
    s1.decideRun target cold sealing ((l.find? (fun x => !x.1)).map (·.2))

/-- HALT may be left: every SO output is open and every Rind trip acknowledged (R39). -/
def State.haltDone (s : State) : Bool := (List.range 8).all (fun k => !(s.so k).on) && s.sfi.trips.isEmpty

/-- A request for DORMANT (R39); from COMMISSION an invalid site refuses it and the previous sealed image stays (R22, log entry
105). -/
def State.requestDormant (s : State) : State :=
  match s.glb.mode with
  | .commission =>
    (match s.siteBad with
     | none => s.seal.setMode .dormant 0x01
     | some n => (s.ev 0x0142 0 n (s.reg GLB_SITE_CFG.TOPO.off)).refuseMode 0 0x01)
  | .halt => if s.haltDone then s.setMode .dormant 0x01 else s.refuseMode 0 0x09
  | _ => s.refuseMode 0 0x09

/-- The 16 bytes in SFI_PWD_0 to SFI_PWD_3. -/
def State.pwdBytes (s : State) : List Nat := (List.range 4).flatMap (fun i => leBytes 4 (tget (fun _ => 0) s.sfi.pwd i))

/-- The Rind judges the commissioning password (spec/14 R356): the state, and whether it is accepted. -/
def State.password (s : State) : State × Bool :=
  if s.flag SFI_PWD_STAT.LOCKED then (s.evS 0x0E0C 0 (s.rd SFI_PWD_STAT.FAILS) 2, false)
  else
    let ok := match s.sfi.pwdHash with
      | none => true
      | some (h, salt) => sha256 (salt ++ s.pwdBytes) == h
    let s1 := { s with sfi := { s.sfi with pwd := [] } }
    if ok then (s1.wr SFI_PWD_STAT.FAILS 0, true)
    else
      let n := min 5 (s.rd SFI_PWD_STAT.FAILS + 1)
      let s2 := s1.wr SFI_PWD_STAT.FAILS n
      if 5 ≤ n then
        let s3 := { s2.wr SFI_PWD_STAT.LOCKED 1 with sfi := { s2.sfi with lockEnd := some (s.now + 900000000000) } }
        ((s3.evS 0x0E0C 0 n 1).changeLog 4, false)
      else (s2.evS 0x0E0C 0 n 0, false)

/-- A request for COMMISSION (R39, spec/14 R356). -/
def State.requestCommission (s : State) : State :=
  if s.glb.mode = .dormant || (s.glb.mode = .halt && s.haltDone) then
    let (s1, ok) := s.password
    if ok then s1.setMode .commission 0x01 else s1.refuseMode 1 0x0E
  else s.refuseMode 1 0x09

/-- A request for LIMP: accepted in ACTIVE, it waits for the next tick boundary (R39, R40). -/
def State.requestLimp (s : State) : State :=
  if s.glb.mode ≠ .active then s.refuseMode 4 0x09
  else if s.glb.limpPend.isSome then s.refuseMode 4 0x0B
  else ({ s with glb := { s.glb with limpPend := some 0x01 } }).wr GLB_MODE_STAT.REQ_PEND 1

/-- A request for HALT (R39). -/
def State.requestHalt (s : State) : State :=
  if s.glb.mode = .active || s.glb.mode = .limp then s.setMode .halt 0x01 else s.refuseMode 5 0x09

/-! ### Host watchdog (R43) -/

/-- A kick. -/
def State.kick (s : State) : State := { s with glb := { s.glb with kickAt := s.now, wdogOut := false } }

/-- The instant the period passes. -/
def State.wdogAt (s : State) : Nat := s.glb.kickAt + 1000000 * s.rd GLB_HOST_WDOG.PERIOD

/-- The period passes without a kick; in LIMP that has no effect, and the next period runs (R43). -/
def State.wdogExpire (s : State) : State :=
  let s1 := { s with glb := { s.glb with wdogOut := true } }
  match s.glb.mode with
  | .active => (s1.ev 0x0105 0 (s.rd GLB_HOST_WDOG.PERIOD) 2).limpTrigger 0x02
  | .shadow => s1.ev 0x0105 0 (s.rd GLB_HOST_WDOG.PERIOD) 3
  | _ => { s with glb := { s.glb with kickAt := s.now } }

end Sys2Proof.Machine
end

