-- ==== Sys2Proof/Machine/Twin.lean ====
section
/-!
DEFINITION. The twin (spec/16_redundancy.md): deltas and epoch copies of the leading unit, what the standby does with them,
replay, fitness, health reports, promotion and demotion.
-/
namespace Sys2Proof.Machine

/-! ### Bytes of the replicated sections (R384, R385) -/

/-- Sizes of sections 1 to 8. -/
def sectionSize : Nat → Nat
  | 1 => 65536 | 2 => 1280 | 3 => 512 | 4 => 12288 | 5 => 6656 | 6 => 2048 | 7 => 1024 | 8 => 256 | _ => 0

/-- Place of an object within its section. -/
def RepItem.offset (x : RepItem) : Nat :=
  let i := x.key.2
  match x.key.1 with
  | 1 => 32 * i | 4 => 512 * i | 5 => if i < 64 then 256 * i else 256 * (i - 64) + 128 | 6 => 128 * i | 7 => 256 * i | _ => 0

/-- Bytes of an object: sections 1 and 2 as R385 lays them out, the others uninterpreted (log entry 60). -/
def RepItem.bytes : RepItem → List Nat
  | .entry _ e => e.bytes
  | .staged l => l.flatMap (fun (p : Nat × Entry) => leBytes 2 p.1 ++ [2] ++ zeros 5 ++ p.2.bytes)
  | x => (Config.repBytes x).map (· % 256)

/-- `l` with the bytes `b` from offset `o` on. -/
def overlay (l : List Nat) (o : Nat) (b : List Nat) : List Nat := l.take o ++ b ++ l.drop (o + b.length)

/-- Bytes of section k with its objects in place. -/
def sectionBytes (l : List RepItem) (k : Nat) : List Nat :=
  ((l.filter (fun (x : RepItem) => x.key.1 == k)).foldl (fun a x => overlay a x.offset x.bytes) (zeros (sectionSize k))).take
    (sectionSize k)

/-- The chunks of a copy: section, offset, length, at most 4,032 bytes within one section; 28 in all (R384, R385). -/
def copyChunks : List (Nat × Nat × Nat) :=
  [1, 2, 3, 4, 5, 6, 7, 8].flatMap (fun k =>
    (List.range (divUp (sectionSize k) 4032)).map (fun i => (k, 4032 * i, min 4032 (sectionSize k - 4032 * i))))

/-- The digest of a copy: SHA-256 over sections 1 to 8 (R384). -/
def copyDigest (l : List RepItem) : List Nat := sha256 ([1, 2, 3, 4, 5, 6, 7, 8].flatMap (sectionBytes l))

/-- A delta record (R384). -/
def RepItem.record (x : RepItem) : List Nat :=
  let b := x.bytes
  [x.key.1, 0] ++ leBytes 2 b.length ++ leBytes 4 x.offset ++ b ++ zeros (divUp b.length 8 * 8 - b.length)

/-- Records packed into parts of at most 4,064 bytes beside their header. -/
def packParts (l : List (List Nat)) : List (List Nat) :=
  (l.foldl (fun (a : List (List Nat)) (r : List Nat) =>
    match a with
    | [] => [r]
    | p :: q => if p.length + r.length ≤ 4064 then (p ++ r) :: q else r :: p :: q) [[]]).reverse

/-! ### The leading unit (R386, R388) -/

/-- The unit leads a twin. -/
def State.leadsTwin (s : State) : Bool := s.twinSite && s.glb.mode.leading

/-- Twin frames go out: the unit leads and the peer is admitted (R384, R396). -/
def State.twinSends (s : State) : Bool := s.leadsTwin && s.twin.admitted

/-- Tick n−1 overran: its curd is a repeat curd (R83). -/
def State.overran (s : State) (n : Nat) : Bool :=
  s.alp.curds.any (fun (c : Curd) => c.tick + 1 == n && c.status.testBit 16)

/-- The window of tick n−1 closes at t_n: its delta waits to be sent (R386). -/
def State.closeWindow (s : State) (n : Nat) : State :=
  if !s.leadsTwin || n = 0 then s
  else
    let items := s.repItems
    { s with twin := { s.twin with base := items, deltas := s.twin.deltas ++ [(n - 1, s.overran n, repDelta s.twin.base items)] } }

/-- A copy starts at the first boundary at or after each whole 100 ms of site time (R388). -/
def State.startCopy (s : State) (n : Nat) : State :=
  if !s.leadsTwin then { s with twin := { s.twin with copyAt := none } }
  else
    let h := s.tickAt n / 100000000
    let due := match s.twin.copyAt with | none => decide (s.tickAt n % 100000000 < s.tickNs) | some k => k != h
    let s1 := { s with twin := { s.twin with copyAt := some h } }
    if !due then s1
    else
      let e := (s1.rd GLB_TWIN_ESEQ.ESEQ + 1) % 2 ^ 32
      let s2 := s1.wr GLB_TWIN_ESEQ.ESEQ e
      { s2 with twin := { s2.twin with sending := some { eseq := e, tick := n, items := s.repItems, sent := 0 } } }

/-- A chunk of the copy goes out. -/
def State.sendChunk (s : State) (x : SCopy) : State :=
  match copyChunks[x.sent]? with
  | none => s
  | some (k, o, len) =>
    (s.yokeSend ([0x22, 1, 0, 0] ++ leBytes 4 x.eseq ++ leBytes 4 x.tick ++ leBytes 4 s.claim ++ leBytes 2 x.sent ++
      leBytes 2 copyChunks.length ++ [k, 0] ++ leBytes 2 len ++ leBytes 4 o ++ zeros 4 ++
      ((sectionBytes x.items k).drop o).take len))

/-- Up to two chunks of the copy, and the commit after the last (R388). -/
def State.sendCopy (s : State) : State :=
  match s.twin.sending with
  | none => s
  | some x =>
    let s1 := (s.sendChunk x).sendChunk { x with sent := x.sent + 1 }
    if x.sent + 2 < copyChunks.length then { s1 with twin := { s1.twin with sending := some { x with sent := x.sent + 2 } } }
    else
      let s2 := s1.yokeSend ([0x23, 1, 0, 0] ++ leBytes 4 x.eseq ++ leBytes 4 x.tick ++ leBytes 4 s.claim ++
        leBytes 2 copyChunks.length ++ [0, 0] ++ leBytes 4 89600 ++ zeros 8 ++ (copyDigest x.items).take 32)
      { s2 with twin := { s2.twin with sending := none } }

/-- After Seal of tick n: the two SNAP parts, then the copy (R384, R388). A tick that overran has no Seal and sends none. -/
def State.twinAfterSeal (s : State) (n : Nat) : State :=
  if !s.twinSends then s
  else
    let s1 := match s.alp.snaps.head?, s.alp.curds.head? with
      | some g, some c =>
        if g.tick ≠ n || c.tick ≠ n || c.status.testBit 16 then s
        else
          let b := g.bytes
          let part (a : State) (i : Nat) : State :=
            a.yokeSend ([0x20, 1, i, 0] ++ leBytes 4 n ++ leBytes 4 a.claim ++ leBytes 4 c.cmp ++ (b.drop (2048 * i)).take 2048)
          part (part s 0) 1
      | _, _ => s
    s1.sendCopy

/-- DELTA_SEND: the parts of the oldest delta that waits (R386). -/
def State.sendDelta (s : State) : State :=
  match s.twin.deltas with
  | [] => s
  | (n, late, l) :: q =>
    let s1 := { s with twin := { s.twin with deltas := q } }
    if !s1.twinSends then s1
    else
      let parts := packParts (l.map RepItem.record)
      ((List.range parts.length).zip parts).foldl (fun (a : State) (x : Nat × List Nat) =>
        a.yokeSend ([0x21, 1, x.1, b2n (x.1 + 1 == parts.length) + 2 * b2n late] ++ leBytes 4 n ++ leBytes 4 a.claim ++
          leBytes 4 (a.rd GLB_TWIN_ESEQ.ESEQ) ++ [a.glb.mode.code] ++ zeros 15 ++ x.2)) s1

/-! ### Receiving (R384, R387, R389) -/

/-- The standby's state is no longer contiguous (R387). -/
def State.breakRun (s : State) : State :=
  if s.flag GLB_TWIN_STAT.CONTIG then
    (s.wr GLB_TWIN_STAT.CONTIG 0).ev 0x0612 0 (low 32 (s.rd GLB_TWIN_DTICK.TICK + 1)) (s.rd GLB_TWIN_DTICK.TICK)
  else s

/-- The peer's claim as last heard (R384). -/
def State.hearClaim (s : State) (claim : Nat) : State :=
  (if s.rd GLB_TWIN_PEER_CLAIM.CLAIM / 256 ≤ claim / 256 then s.wr GLB_TWIN_PEER_CLAIM.CLAIM claim else s).shadowClaim

/-- A twin frame arrives on a Dreak lane: the state, and whether it is taken (R167, R384). -/
def State.twinRx (s : State) (h : TwinHead) : State × Bool :=
  let l := 12 + h.lane.val
  if !s.twinSite || !s.laneActive l then (s, false)
  else
    let y := h.yseq.toNat
    let gap := match s.link.yseqRx with | none => false | some q => y != (if q = 0xFFFFFF then 1 else q + 1)
    let (s1, first) := (s.laneRx l h.fseq.toNat).yokeRx y
    let s2 := if first && gap then s1.breakRun else s1
    let claim := h.claim.toNat
    let rank := claim % 256
    let ok := first && (rank == 1 || rank == 2) && rank != s.rank && s.rd GLB_TWIN_PEER_CLAIM.CLAIM / 256 ≤ claim / 256
    if ok then ({ s2 with twin := { s2.twin with heard := true } }.hearClaim claim, true) else (s2, false)

/-- A frame other than HEALTH is taken from an admitted peer only (R396). -/
def State.twinTake (s : State) (h : TwinHead) (k : State → State) : State :=
  let (s1, ok) := s.twinRx h
  if ok && s1.twin.admitted then k s1 else s1

/-- The objects of delta n, once every part of it is held. -/
def State.deltaOf (s : State) (n : Nat) : Option (List RepItem) :=
  let l := s.twin.parts.filter (fun (p : DPart) => p.tick = n)
  match l.find? (fun (p : DPart) => p.last) with
  | none => none
  | some z =>
    let ps := (List.range (z.part + 1)).map (fun i => l.find? (fun (p : DPart) => p.part = i))
    if ps.all Option.isSome then some ((ps.filterMap id).flatMap (fun (p : DPart) => p.items)) else none

/-- The standby applies the next delta for as long as the state is contiguous and the delta complete (R387). -/
def State.applyDeltas (s : State) : Nat → State
  | 0 => s
  | k + 1 =>
    if !s.flag GLB_TWIN_STAT.CONTIG then s
    else
      let n := low 32 (s.rd GLB_TWIN_DTICK.TICK + 1)
      match s.deltaOf n with
      | none => s
      | some l => ((s.takeDelta l).wr GLB_TWIN_DTICK.TICK n).applyDeltas k

/-- A delta part arrives (R387). The standby computes under the mode it carries (R380). -/
def State.deltaRx (s : State) (f : DeltaFrame) : State :=
  if s.glb.mode ≠ .shadow then s
  else
    let n := f.tick.toNat
    let p : DPart := { tick := n, part := f.part.toNat, last := f.flags.toNat.testBit 0, items := f.items }
    let l := s.twin.parts.filter (fun (q : DPart) => decide (diff32 n q.tick < 256) && !(q.tick == n && q.part == p.part))
    let s1 := { s with twin := { s.twin with parts := l ++ [p], peerMode := some f.mode.toNat },
                       alp := { s.alp with leadHalt := f.mode = 5 } }
    let next := low 32 (s.rd GLB_TWIN_DTICK.TICK + 1)
    let late := decide (0 < diff32 n next) && (s1.deltaOf next).isNone
    let torn := n == next && p.last && (s1.deltaOf next).isNone
    (if late || torn then s1.breakRun else s1).applyDeltas 257

/-- An incomplete copy is discarded (R389). -/
def State.dropCopy (s : State) (reason : Nat) : State :=
  match s.twin.copy with
  | none => s
  | some c => (({ s with twin := { s.twin with copy := none } }).bump GLB_TWIN_CNT.DISCARD).ev 0x0611 0 c.eseq reason

/-- A chunk of copy `e` opens the copy when none is being held, or joins the one that is (R387, R388). -/
def State.chunkTake (s : State) (e : Nat) (f : ChunkFrame) (held : Option ECopy) : State :=
  match held with
  | none =>
    { s with twin := { s.twin with
      copy := some { eseq := e, tick := f.tick.toNat, chunks := f.chunks.toNat, got := [(f.chunk.toNat, f.items)] } } }
  | some c =>
    if c.eseq ≠ e || c.got.any (fun (g : Nat × List RepItem) => g.1 = f.chunk.toNat) then s
    else { s with twin := { s.twin with copy := some { c with got := c.got ++ [(f.chunk.toNat, f.items)] } } }

/-- A chunk arrives (R389). -/
def State.chunkRx (s : State) (f : ChunkFrame) : State :=
  let e := f.eseq.toNat
  if s.glb.mode ≠ .shadow then s
  else
    let older := match s.twin.copy with | none => false | some c => decide (0 < diff32 e c.eseq)
    let s1 := if older then s.dropCopy 3 else s
    s1.chunkTake e f s1.twin.copy

/-- The standby adopts a copy of tick E: its state is contiguous through E − 1, and the deltas held from E on follow
(R387, R389). The first copy makes the unit READY (R379). -/
def State.adoptCopy (s : State) (c : ECopy) : State :=
  let sync := s.rd GLB_TWIN_STAT.SUB == 2
  let s1 := ({ s with twin := { s.twin with copy := none } }).takeCopy (c.got.flatMap (fun (g : Nat × List RepItem) => g.2))
  let s2 := ((s1.wr GLB_TWIN_STAT.CONTIG 1).wr GLB_TWIN_DTICK.TICK (low 32 (c.tick + 2 ^ 32 - 1))).wr GLB_TWIN_ESEQ.ESEQ c.eseq
  let s3 := if sync then { s2.wr GLB_TWIN_STAT.SUB 3 with twin := { s2.twin with agree := 0, fitSeen := false } } else s2
  (s3.ev 0x0610 0 c.eseq c.tick).applyDeltas 257

/-- A commit arrives (R389). A copy with a chunk missing has the wrong digest (log entry 58). -/
def State.commitRx (s : State) (f : CommitFrame) : State :=
  if s.glb.mode ≠ .shadow then s
  else match s.twin.copy with
  | none => s
  | some c =>
    if c.eseq ≠ f.eseq.toNat then s
    else
      let all := (List.range f.chunks.toNat).all (fun i => c.got.any (fun (g : Nat × List RepItem) => g.1 = i))
      let good := all && f.total.toNat == 89600 && c.chunks == f.chunks.toNat &&
        (copyDigest (c.got.flatMap (fun (g : Nat × List RepItem) => g.2))).take 32 ==
          f.digest.map (fun (b : BitVec 8) => b.toNat)
      if good then s.adoptCopy c else s.dropCopy 2

/-! ### Replay (R390) -/

/-- Byte k of a record, and signed and unsigned fields of it. -/
def sField (b : List Nat) (i k : Nat) : Int := sx (8 * k) (field b i k)

/-- The port record at `b` (spec/04 R88). -/
def portOf (b : List Nat) : PortRec :=
  let sub := field b 0x30 2
  let fl := field b 0x24 2
  { reqI := sField b 0 4, reqV := sField b 4 4, reqP := sField b 8 4, reqT := field b 0xC 4, measV := sField b 0x10 4,
    measI := sField b 0x14 4, measT := field b 0x18 4, capI := field b 0x1C 4, capV := field b 0x20 4,
    exportOk := fl.testBit 0, tripped := fl.testBit 1, session := field b 0x26 1, prevI := sField b 0x28 4,
    prevP := sField b 0x2C 4, subReq := sub.testBit 0, subV := sub.testBit 1, subI := sub.testBit 2, subCaps := sub.testBit 3 }

/-- The block record at `b`. -/
def blockOf (b : List Nat) : BlockRec :=
  let sub := field b 2 2
  { state := field b 0 1, path := field b 1 1, frozen := sub.testBit 0, dropped := sub.testBit 1, availP := field b 4 4,
    outI := sField b 8 4, outV := sField b 0xC 4, t := field b 0x10 4, temp := sField b 0x14 2, prevI := sField b 0x18 4 }

/-- The string record at `b`. -/
def stringOf (b : List Nat) : StrRec :=
  let f := field b 2 2
  { soc := field b 0 2, untrusted := f.testBit 0, needRef := f.testBit 1, auth := f.testBit 2, exportOk := f.testBit 3,
    subst := f.testBit 4, disLim := field b 4 4, chgLim := field b 8 4, usable := field b 0xC 4, reserve := field b 0x10 4,
    i := sField b 0x14 4, capI := field b 0x18 4 }

/-- The converter record at `b`. -/
def convOf (b : List Nat) : ConvRec :=
  { batV := sField b 0 4, batI := sField b 4 4, p := sField b 8 4, t := field b 0xC 4, state := field b 0x10 1,
    phases := field b 0x11 1, subst := (field b 0x12 2).testBit 0, prevRef := sField b 0x14 4 }

/-- The snapshot record spelled by 4,096 bytes (spec/04 R88). -/
def snapOf (b : List Nat) : Snap :=
  let sub := field b 0x5C 2
  let recs {α : Type} (at0 size n : Nat) (f : List Nat → α) : List α := (List.range n).map (fun i => f (b.drop (at0 + size * i)))
  { tick := field b 4 4, tN := field b 8 8, strobe := field b 0x10 8, claim := field b 0x18 4, entries := field b 0x1C 2,
    mode := field b 0x1E 1, substCount := field b 0x20 4, g0 := sField b 0x40 8, g1 := sField b 0x48 8, g0T := field b 0x50 4,
    g1T := field b 0x54 4, aux := sField b 0x58 4, subG0 := sub.testBit 0, subG1 := sub.testBit 1, subAux := sub.testBit 2,
    subCaps := sub.testBit 3, prevGrid := sField b 0x60 8, ports := recs 0x80 64 24 portOf, blocks := recs 0x680 32 48 blockOf,
    strings := recs 0xC80 32 16 stringOf, convs := recs 0xE80 32 4 convOf,
    slow := recs 0xF00 4 16 (fun x => (field x 0 2, (field x 3 1).testBit 7)) }

/-- CURD_CMP of the standby's own stages on the leading unit's snapshot, taken as Sanitize left it (R390; log entry 56). -/
def State.replayCmp (s : State) (n : Snap) : Nat :=
  let (s1, opening) := s.checkMigs n
  let bd := s1.constrain n
  let al := s1.allocate n bd
  let slots := (List.range 16).filter (fun j => s.flag (LCH_CAN_SLOT.EN j))
  let c0 := s1.shape n bd al slots opening
  let c1 := if s.alp.leadHalt then c0.zeroed else c0
  crc32 (s1.sealCaps n { c1 with whey := wheyOf c1 }).1.body

/-- The result of a replay is counted; a fourth disagreement in a row is latched as cause 1 (R390, R391). -/
def State.replayed (s : State) (agrees : Bool) : State :=
  let t := s.twin
  if agrees then
    let a := t.agree + 1
    ({ s with twin := { t with replays := t.replays + 1, agree := a, fitSeen := t.fitSeen || s.rd GLB_TWIN_CFG.FIT_TICKS ≤ a } }).wr
      GLB_TWIN_STAT.MM_RUN 0
  else
    let s1 := (({ s with twin := { t with replays := t.replays + 1, disagree := t.disagree + 1, agree := 0 } }).bump
      GLB_TWIN_STAT.MM_RUN).bump GLB_TWIN_CNT.MISMATCH
    if 4 ≤ s1.rd GLB_TWIN_STAT.MM_RUN then { s1 with twin := { s1.twin with latched := s1.twin.latched ||| 1 } } else s1

/-- A SNAP part arrives; with both of tick N and a state contiguous through N − 1 the standby replays (R390). -/
def State.snapRx (s : State) (part tick cmp : Nat) (data : List Nat) : State :=
  if s.glb.mode ≠ .shadow then s
  else
    let l := (tick, part, cmp, data) :: s.twin.snaps.filter (fun x => x.1 = tick && x.2.1 ≠ part)
    let get (i : Nat) : Option (List Nat) := (l.find? (fun x => x.2.1 = i)).map (fun x => x.2.2.2)
    let s1 := { s with twin := { s.twin with snaps := l } }
    match get 0, get 1 with
    | some a, some b =>
      let s2 := { s1 with twin := { s1.twin with snaps := [] } }
      if s.flag GLB_TWIN_STAT.CONTIG && low 32 (s.rd GLB_TWIN_DTICK.TICK + 1) = tick && s.rd GLB_TWIN_STAT.SUB = 3 then
        s2.replayed (s2.replayCmp (snapOf (a ++ b)) == cmp)
      else s2
    | _, _ => s1

/-! ### Promotion and demotion (R398 to R400) -/

/-- A promotion (R399). What the failed unit's head record says of itself is not in the replicated head: its claim and
serial are those last heard, its key generation is a free value (log entry 57). -/
def State.promote (s : State) (trigger : Nat) : State :=
  let peer := s.rd GLB_TWIN_PEER_CLAIM.CLAIM
  let dtick := s.rd GLB_TWIN_DTICK.TICK
  let (gen, s0) := s.fresh
  let s1 := (s0.takeHeld).dropCopy 4
  let s2 := { s1 with twin := { s1.twin with parts := [], snaps := [], refused := [], silent := 0 },
                      alp := { s1.alp with leadHalt := false } }
  let s3 := (s2.setMode .active 0x08).wr GLB_TWIN_STAT.UNFIT 0
  let s4 := (s3.wr GLB_TWIN_STAT.LAST_TRIGGER trigger).ev 0x0110 0 s3.claim (trigger + 2 ^ 32 * dtick)
  (((s4.attn 5).guardRestart).startTakeover peer (s.rd (DLC_CAPS2.SERIAL 0)) (gen % 65536))

/-- A trigger stands: a fit standby promotes, an unfit one logs the refusal once: of triggers 2 to 4 while the condition stands, of
triggers 1 and 5 at each frame and descriptor (R398). -/
def State.tryPromote (s : State) (trigger : Nat) : State :=
  if s.glb.mode ≠ .shadow then s
  else if s.flag GLB_TWIN_STAT.FIT then s.promote trigger
  else if s.twin.refused.contains trigger then s
  else ({ s with twin := { s.twin with refused := if trigger = 1 || trigger = 5 then s.twin.refused else trigger :: s.twin.refused } }).ev 0x0111 0 trigger (s.rd GLB_TWIN_STAT.UNFIT)

/-- A unit of a twin in ACTIVE or LIMP demotes when a higher claim is reported (R400); a single unit, and always a PH4812, never
enters SHADOW (spec/00 R3, spec/16 R383). -/
def State.demoteCheck (s : State) : State :=
  if !(s.glb.mode == .active || s.glb.mode == .limp) || !s.twinSite || s.grade = .ph4812 then s
  else if s.rd LCH_HIGHER.LANES = 0 && !s.flag LCH_HIGHER.SLOW then s
  else
    let top := s.follows.foldl max 0
    ((s.preempt).ev 0x0112 0 s.claim top).setMode .shadow 0x07

/-! ### Fitness (R391, R392) -/

/-- A cabinet lane with an enabled block is not ACTIVE. -/
def State.laneMissing (s : State) : Bool := (List.range 12).any (fun l => s.carriesBlocks l && !s.laneActive l)

/-- The fitness causes 1 to 7 that hold, as bits 0 to 6 (R391). -/
def State.unfitNow (s : State) : Nat :=
  let report := s.rd (GLB_PEER_HEALTH.WORD 0) != 0
  let c3 := !s.sfi.confirmed || s.rd SFI_STAT.STATE == 4 || (report && s.rd SFI_CV.CV != s.rd (GLB_PEER_HEALTH.WORD 11))
  let c6 := match s.twin.unlockedAt with | none => false | some t => decide (t + 1000000000 < s.now)
  let c7 := s.glb.wdogOut || !s.sfi.limpBy.isEmpty || s.alp.ovrHold || (s.glb.brownAt.isSome && s.glb.brownOver) || s.siteTrip
  s.twin.latched % 4 + 4 * b2n c3 + 8 * b2n s.sfi.aliveOff + 16 * b2n (s.flag GLB_TWIN_CFG.LANES_REQ && s.laneMissing) +
    32 * b2n c6 + 64 * b2n c7

/-- The onset of fitness cause c: argument 2 is MM_RUN, or the offending value, which no rule names (a free value). -/
def State.unfitEvent (s : State) (c : Nat) : State :=
  if c = 1 then s.ev 0x0114 0 c (s.rd GLB_TWIN_STAT.MM_RUN)
  else
    let (v, s1) := s.fresh
    s1.ev 0x0114 0 c v

/-- ORPHAN follows the yoke (R379, R403). -/
def State.orphanWatch (s : State) : State :=
  let lost := s.flag DLC_YOKE_STAT.LOST
  if lost = s.flag GLB_TWIN_STAT.ORPHAN then s
  else
    let c := match s.peerConn with | none => 0 | some c => (s.conn c).state
    ((s.wr GLB_TWIN_STAT.ORPHAN (b2n lost)).ev 0x0113 0 (b2n lost) c).selectSource

/-- The Rind peer connection is in RUN: without it trigger 4 alone acts (R398; a PROMOTE descriptor fails only as R401
lists, log entry 62). -/
def State.peerRuns (s : State) : Bool := match s.peerConn with | none => false | some c => (s.conn c).state == 2

/-- What the standby judges whenever something it depends on changes: ORPHAN, fitness, and the triggers that stand
(R391, R392, R398). -/
def State.twinWatch (s : State) : State :=
  if !s.up || s.glb.mode ≠ .shadow || !s.twinSite then s
  else
    let s1 := s.orphanWatch
    let off := !s1.dreakUp.isEmpty && !s1.flag STU_DISC_STAT.LOCKED
    let s2 := { s1 with twin := { s1.twin with
      unlockedAt := if !off then none else match s1.twin.unlockedAt with | none => some s1.now | some t => some t } }
    let now := s2.unfitNow
    let was := s2.rd GLB_TWIN_STAT.UNFIT
    let s3 := (bitsOf (clearBits now was) 7).foldl (fun (a : State) b => a.unfitEvent (b + 1)) (s2.wr GLB_TWIN_STAT.UNFIT now)
    let fit := s3.rd GLB_TWIN_STAT.SUB == 3 && now == 0 && s3.twin.fitSeen
    let s4 := if fit && !s3.flag GLB_TWIN_STAT.FIT then s3.ev 0x0115 0 (s3.rd GLB_TWIN_ESEQ.ESEQ) s3.twin.agree else s3
    let s5 := s4.wr GLB_TWIN_STAT.FIT (b2n fit)
    let lost := s5.flag DLC_YOKE_STAT.LOST
    let run := s5.peerRuns
    let quiet : Bool := decide (s5.rd GLB_TWIN_CFG.PROMOTE_TIMEOUT ≤ s5.twin.silent)
    let stands : List Nat := (if lost && run && !s5.sfi.aliveOk then [2] else []) ++ (if lost && run && 2 ≤ s5.sfi.hold0 then [3] else []) ++
      (if quiet then [4] else [])
    let s6 := { s5 with twin := { s5.twin with refused := s5.twin.refused.filter (fun t => stands.contains t) } }
    stands.foldl (fun a t => a.tryPromote t) s6

/-! ### Health (R394, R395) -/

/-- The HEALTH payload. -/
def State.healthPayload (s : State) : List Nat :=
  let sub := s.rd GLB_TWIN_STAT.SUB + 4 * s.rd GLB_TWIN_STAT.ORPHAN + 8 * s.rd GLB_TWIN_STAT.CONTIG + 16 * s.rd GLB_TWIN_STAT.FIT
  let up := maskOf ((List.range 12).filter s.laneActive)
  let bad := maskOf ((List.range 12).filter (fun l => (s.lane l).measBad))
  let top := match s.thm.dieT with | [] => (0 : Int) | t :: l => l.foldl max t
  [0x24, 1, s.glb.mode.code, sub] ++ leBytes 4 s.claim ++ leBytes 4 s.tickNum ++ leBytes 2 (s.rd GLB_TWIN_STAT.UNFIT) ++
  [s.rd GLB_TWIN_STAT.MM_RUN, 0] ++ leBytes 4 (s.rd GLB_TWIN_ESEQ.ESEQ) ++ leBytes 4 (s.rd GLB_TWIN_DTICK.TICK) ++
  leBytes 4 s.twin.replays ++ leBytes 4 s.twin.disagree ++ leBytes 2 s.twin.passes ++ leBytes 2 s.twin.corrected ++
  leBytes 2 up ++ leBytes 2 bad ++ leBytes 4 (s.reg SFI_STAT.STATE.off) ++ leBytes 4 (s.rd SFI_CV.CV) ++
  [s.reg STU_DISC_STAT.VALID.off % 256, 0] ++ sBytes 2 top ++ zeros 12

/-- The next instant of a HEALTH frame: each whole 100 ms of site time plus 50 ms; its number. -/
def State.nextHealth (s : State) : Nat :=
  let k := divUp (s.siteNs - 50000000) 100000000
  match s.twin.healthSent with | none => k | some j => if k ≤ j then j + 1 else k

/-- A HEALTH report of the peer. -/
def State.healthRx (s : State) (words : List Nat) : State :=
  let w := fitData 16 words
  let s1 := ((List.range 16).zip w).foldl (fun (a : State) (x : Nat × Nat) => a.wr (GLB_PEER_HEALTH.WORD x.1) x.2) s
  let fit := (nth w 0 0).testBit 28
  let s2 := { s1 with twin := { s1.twin with healthAt := some s.now, peerFit := fit, peerMode := some (nth w 0 0 / 65536 % 256) } }
  (if fit != s.twin.peerFit then s2.ev 0x0613 0 (nth w 1 0) (nth w 3 0 % 65536) else s2).twinWatch

/-- RESYNC (R393). -/
def State.resync (s : State) (v : Nat) : State :=
  if v % 2 = 0 || s.glb.mode ≠ .shadow then s
  else
    let s1 := (s.takeCopy [.staged [], .migs []]).enterSync
    (({ s1 with twin := { s1.twin with latched := 0 } }).wr GLB_TWIN_STAT.SUB (b2n s.twinSite * 2)).twinWatch

/-- The peer's CAPS frame at a yoke bring-up on Dreak lane d: whether its twin frames are admitted (R396). -/
def State.admitPeer (s : State) (d claim digest : Nat) : State :=
  if !s.twinSite then s
  else
    let s1 := if s.twin.heard then s else (s.wr GLB_TWIN_PEER_CLAIM.CLAIM claim).shadowClaim
    if claim % 256 = s.rank then
      ({ s1 with twin := { s1.twin with admitted := false } }).ev 0x0116 (entLane (12 + d)) 1 claim
    else if digest ≠ s.cfgDigest then
      ({ s1 with twin := { s1.twin with admitted := false } }).ev 0x0116 (entLane (12 + d)) 2 digest
    else { s1 with twin := { s1.twin with admitted := true } }

/-- The health report of period k goes out (R395). -/
def State.healthOut (s : State) (k : Nat) : State :=
  ({ s with twin := { s.twin with healthSent := some k } }).yokeSend s.healthPayload

/-- No health report came for 300 ms. -/
def State.healthLost (s : State) : State :=
  ({ s with twin := { s.twin with healthAt := none } }).ev 0x0613 0 (s.rd GLB_TWIN_PEER_CLAIM.CLAIM) 0xFFFF

/-- One step of the memory march (R394). -/
def State.march (s : State) (corrected : Nat) (uncorrectable : Bool) : State :=
  let m := s.twin.marchMib + 1
  { s with twin := { s.twin with
      marchAt := s.now, marchMib := if m = 256 then 0 else m
      passes := if m = 256 then (s.twin.passes + 1) % 65536 else s.twin.passes
      corrected := min 65535 (s.twin.corrected + corrected)
      latched := if uncorrectable && s.glb.mode == .shadow then s.twin.latched ||| 2 else s.twin.latched } }

open Host (Outcome)

/-- DELTA_SEND. -/
def execDeltaSend (s : State) : Outcome State Fault Refusal := .next (if s.up then s.sendDelta else s)

/-- SNAP_RECEIVE. -/
def execSnapReceive (h : TwinHead) (part : BitVec 8) (tick cmp : BitVec 32) (data : List (BitVec 8)) (s : State) :
    Outcome State Fault Refusal :=
  .next (if s.up then (s.twinTake h (fun a =>
    a.snapRx part.toNat tick.toNat cmp.toNat (fitData 2048 (data.map (fun (b : BitVec 8) => b.toNat))))).twinWatch else s)

/-- DELTA_RECEIVE. -/
def execDeltaReceive (h : TwinHead) (f : DeltaFrame) (s : State) : Outcome State Fault Refusal :=
  .next (if s.up then (s.twinTake h (fun a => a.deltaRx f)).twinWatch else s)

/-- DELTA_TIMEOUT: the delta of tick N has not arrived whole by t_{N+1} + 20 µs (R387). -/
def execDeltaTimeout (s : State) : Outcome State Fault Refusal :=
  if !s.up || s.glb.mode ≠ .shadow || !s.flag GLB_TWIN_STAT.CONTIG then .next s
  else .next ((s.waitSite (s.tickAt (s.fullTick (s.rd GLB_TWIN_DTICK.TICK) + 2) + 20000)).breakRun)

/-- EPOCH_CHUNK_RECEIVE. -/
def execEpochChunkReceive (h : TwinHead) (f : ChunkFrame) (s : State) : Outcome State Fault Refusal :=
  .next (if s.up then s.twinTake h (fun a => a.chunkRx f) else s)

/-- EPOCH_COMMIT_RECEIVE. -/
def execEpochCommitReceive (h : TwinHead) (f : CommitFrame) (s : State) : Outcome State Fault Refusal :=
  .next (if s.up then (s.twinTake h (fun a => a.commitRx f)).twinWatch else s)

/-- EPOCH_COMMIT_TIMEOUT: no commit within 50 ms of t_E (R389). -/
def execEpochCommitTimeout (s : State) : Outcome State Fault Refusal :=
  match s.twin.copy with
  | none => .next s
  | some c => .next (if s.up then (s.waitSite (s.tickAt (s.fullTick c.tick) + 50000000)).dropCopy 1 else s)

/-- HEALTH_SEND (R395). -/
def execHealthSend (s : State) : Outcome State Fault Refusal :=
  if !s.up || !s.twinSite then .next s
  else
    let k := s.nextHealth
    .next ((s.waitSite (100000000 * k + 50000000)).healthOut k)

/-- HEALTH_RECEIVE: an unadmitted peer's report is taken too (R396). -/
def execHealthReceive (h : TwinHead) (words : List (BitVec 32)) (s : State) : Outcome State Fault Refusal :=
  if !s.up then .next s
  else
    let (s1, ok) := s.twinRx h
    .next (if ok then s1.healthRx (words.map (fun (w : BitVec 32) => w.toNat)) else s1)

/-- HEALTH_TIMEOUT: no report for 300 ms. -/
def execHealthTimeout (s : State) : Outcome State Fault Refusal :=
  match s.twin.healthAt with
  | none => .next s
  | some t =>
    if !s.up then .next s
    else .next (s.waitTill (t + 300000000)).healthLost

/-- The peer leads: its last report or delta shows ACTIVE, LIMP or HALT (R379). -/
def State.peerLeads (s : State) : Bool := s.twin.peerMode == some 2 || s.twin.peerMode == some 4 || s.twin.peerMode == some 5

/-- GOING_DOWN_RECEIVE: from the leading unit it is trigger 1 (R397, R398). -/
def execGoingDownReceive (h : TwinHead) (cause : BitVec 8) (_tick : BitVec 32) (s : State) : Outcome State Fault Refusal :=
  .next (if s.up then s.twinTake h (fun a =>
    let b := a.ev 0x0614 0 h.claim.toNat cause.toNat
    if b.peerRuns && b.peerLeads then b.tryPromote 1 else b) else s)

/-- PROMOTE (R401). -/
def execPromote (d : DescRef) (reservedZero : Bool) (s : State) : Outcome State Fault Refusal :=
  .next (s.run d 0x0601 fun s =>
    s.checkMode d (s.glb.mode == .shadow) fun s =>
      if !s.flag GLB_TWIN_STAT.FIT then (s.tryPromote 5).fail d 0x00B0
      else if !reservedZero then s.fail d 0x00B1
      else (s.promote 5).done d)

/-- GLB_TWIN_RESYNC: a write of GLB_TWIN_CTL (R393). -/
def execGlbTwinResync (v : BitVec 32) (s : State) : Outcome State Fault Refusal := .next (if s.up then s.resync v.toNat else s)

/-- MEMORY_MARCH_STEP: 1 MiB of the memory test every 100 ms, 256 MiB to a pass (R394). -/
def execMemoryMarchStep (corrected : BitVec 16) (uncorrectable : Bool) (s : State) : Outcome State Fault Refusal :=
  if !s.up || !s.twinSite || !s.glb.mode.running then .next s
  else
    .next ((s.waitTill (s.twin.marchAt + 100000000)).march corrected.toNat uncorrectable).twinWatch

end Sys2Proof.Machine
end

