-- ==== Sys2Proof/Machine/Launch.lean ====
section
/-!
DEFINITION. The Launch Unit (spec/06_launch_and_endpoints.md): SETPOINT and slow-load frames, the frames of the endpoints, and
the claims they report.
-/
namespace Sys2Proof.Machine

/-- The curd whose frames leave now: that of the tick before the current one (R129, R137). -/
def State.curdOut (s : State) : Option Curd := s.alp.curds.find? (fun (c : Curd) => c.tick + 1 == s.curTick)

/-- A claim outranks another by its epoch alone (R139). -/
def outranks (a b : Nat) : Bool := decide (b / 256 < a / 256)

/-! ### Frames sent -/

/-- The slot entry of block b (R128, R132). Fallback and ramping are those of the entry of the block's port (log entry 19). -/
def State.slotEntry (s : State) (c : Curd) (b : Nat) : List Nat :=
  let e := nth c.blocks b BlockSet.zero
  if !s.blockOn b then leBytes 4 0 ++ leBytes 4 0 ++ [0xFF, 0, 0, 1] ++ zeros 4
  else
    let q := nth c.ports e.port PortSet.zero
    let fl := 2 * b2n (bit c.clampBlocks b) + 4 * b2n q.fallback + 8 * b2n q.ramping
    sBytes 4 e.i ++ sBytes 4 e.v ++ [e.port % 256, e.contactor % 256, e.migStep % 256, fl] ++ zeros 4

/-- The SETPOINT payload of lane l, 96 bytes (R132). -/
def State.setpointPayload (s : State) (c : Curd) (copy l : Nat) : List Nat :=
  [0x01, 1, b2n s.leads + 2 * copy + 4 * b2n (bit c.status 16) + 8 * b2n (bit c.status 22), s.rd STU_TICK_CFG.TICK_LEN] ++
  leBytes 4 c.tick ++ leBytes 4 s.claim ++ leBytes 4 c.launch ++
  [s.rd LCH_EP_CFG.HOLD, s.rd LCH_EP_CFG.RAMP, l, s.rd LCH_EP_CFG.CLAIM_WIN] ++ leBytes 4 s.siteNs ++
  (List.range 4).flatMap (fun k => s.slotEntry c (4 * l + k)) ++ zeros 8

/-- The SETPOINT frames of one copy, on every lane that carries blocks (R128, R129, R161). -/
def State.sendSetpoints (s : State) (copy : Nat) : State :=
  match s.curdOut with
  | none => s
  | some c =>
    if !s.sendsFrames || (copy = 1 && !s.flag LCH_TX_CFG.COPIES) then s
    else
      let s1 := s.waitSite (s.tickAt s.curTick + s.copyOffset copy)
      ((List.range 12).filter s1.carriesBlocks).foldl (fun (a : State) l => a.send l (a.setpointPayload c copy l)) s1

/-- The slow-load payload of slot j, 20 bytes (R137). -/
def State.slowPayload (s : State) (c : Curd) (j : Nat) : List Nat :=
  leBytes 4 c.tick ++ leBytes 4 s.claim ++ leBytes 4 c.launch ++ sBytes 4 (nth c.slow j 0) ++
  [b2n s.leads + 4 * b2n (bit c.status 16) + 8 * b2n (bit c.status 22), s.rd LCH_CAN_CFG.DIV, s.rd LCH_EP_CFG.CLAIM_WIN,
   s.rd LCH_CAN_CFG.HOLD]

/-- The slow-load frames of the slots scheduled in this tick go to CAN0 and CAN1 with their age limit (R137). -/
def State.sendSlow (s : State) : State :=
  match s.curdOut with
  | none => s
  | some c =>
    if !s.sendsFrames then s
    else
      let s1 := s.waitSite (s.tickAt s.curTick + 5000)
      let d := s1.rd LCH_CAN_CFG.DIV
      let limit := s1.tickAt (s1.curTick + 1) - s1.rd LCH_CAN_CFG.GUARD * 1000
      ((List.range 16).filter (fun j => s1.flag (LCH_CAN_SLOT.EN j) && low 32 c.tick % d == j % d)).foldl (fun (a : State) j =>
        a.canRequest (a.rd (LCH_CAN_SLOT.CTRL j)) (a.rd (LCH_CAN_SLOT.TX_OBJ j)) (a.slowPayload c j) (some limit) (.slow j)) s1

/-! ### Frames received -/

/-- MISS_CNT of an endpoint has advanced: counted and logged (R147, R148). The first report of a lane is the baseline (log
entry 63). -/
def State.noteMiss (s : State) (l miss applied : Nat) : State :=
  let s1 := s.modLane l (fun x => { x with miss := some (miss % 65536) })
  match (s.lane l).miss with
  | none => s1
  | some m =>
    let n := low 16 (miss + 65536 - m)
    if n = 0 then s1 else (s1.bump LCH_CNT_EPMISS.CNT n).ev 0x0404 (entLane l) n applied

/-- What the frame says of the claim followed, stamped on arrival. -/
def State.noteFollow (s : State) (l follow flags : Nat) : State :=
  s.modLane l (fun x => { x with follow := (follow, s.siteNs, flags) :: x.follow.take 15 })

/-- One slot record of a STATUS frame: stored as the status of its block, an interlock refusal logged (R133, R144, R148). -/
def State.slotReport (s : State) (l flags k : Nat) (r : StatusSlot) : State :=
  let b := 4 * l + k
  let st : BlockStat := { state := r.state.toNat, path := r.path.toNat, availP := (r.availP.toNat : Nat),
                          outI := r.outI.toInt, outV := r.outV.toInt, temp := r.temp.toInt }
  let s1 := { s with alp := { s.alp with
    inBlock := tput s.alp.inBlock b (mailPost (tget (fun _ => []) s.alp.inBlock b) s.siteNs st) } }
  if bit flags 3 && r.fault.toNat = 1 then
    s1.ev 0x0405 (entBlock b) r.path.toNat (match s.commandedOf b with | none => 0xFF | some c => c.1)
  else s1

/-- A STATUS frame that passed R151 arrives (R133). -/
def State.statusRx (s : State) (l fseq : Nat) (f : StatusFrame) : State :=
  let fl := f.flags.toNat
  let s1 := ((s.laneRx l fseq).noteFollow l f.follow.toNat fl).noteMiss l f.miss.toNat f.seqApplied.toNat
  (((s1.slotReport l fl 0 f.s0).slotReport l fl 1 f.s1).slotReport l fl 2 f.s2).slotReport l fl 3 f.s3

/-- A PHASE_STATUS frame arrives (R136, R148; spec/08 R192). All phases off is logged at its onset. -/
def State.phaseRx (s : State) (l fseq : Nat) (f : PhaseStatus) : State :=
  let fl := f.flags.toNat
  let was := match (s.lane l).follow with | [] => false | x :: _ => bit x.2.2 1
  let s1 := ((s.laneRx l fseq).noteFollow l f.follow.toNat fl).noteMiss l f.miss.toNat f.cycleApplied.toNat
  let s2 := if bit fl 1 && !was then s1.ev 0x0407 (entLane l) (low 32 (f.cycleApplied.toNat + 1)) 0 else s1
  if s2.pressLane l then s2.selectorRestart l fl f.cycleApplied.toNat else s2

/-- A claim that a cabinet endpoint, or a slow-load node, reports outranks the unit's own (R147, R148). -/
def State.higherSlow (s : State) (j follow : Nat) : State :=
  let hi := outranks follow s.claim
  let s1 := if hi && !s.flag LCH_HIGHER.SLOW then s.ev 0x0403 (entCan (s.rd (LCH_CAN_SLOT.CTRL j))) follow s.claim else s
  s1.wr LCH_HIGHER.SLOW (b2n (s1.freshSlow.any (fun x => outranks x.2 s1.claim)))

/-- The frames of slot j's node are received: its controller CTRL is on the bus, and RX_OBJ is an enabled receive object there
(R138, spec/13 R309). -/
def State.slowHears (s : State) (j : Nat) : Bool :=
  let n := s.rd (LCH_CAN_SLOT.CTRL j)
  let o := s.rd (LCH_CAN_SLOT.RX_OBJ j)
  s.flag (LCH_CAN_SLOT.EN j) && s.canOnBus n && s.flag (CAN_OBJ_CFG.EN n o) && !s.flag (CAN_OBJ_CFG.DIR n o)

/-- The status frame of the node of slot j, on the identifier that RX_OBJ receives (R138). -/
def State.slowRx (s : State) (j code follow : Nat) : State :=
  if !s.slowHears j then s
  else
    let s1 := { s with
      alp := { s.alp with inSlow := tput s.alp.inSlow j (mailPost (tget (fun _ => []) s.alp.inSlow j) s.siteNs code) }
      link := { s.link with slowFollow := tput s.link.slowFollow j (some (follow, s.siteNs)) } }
    ((s1.wrBit LCH_FOLLOW_SLOW.SLOTS j (follow != 0 && follow == s1.claim)).higherSlow j follow).demoteCheck.twinWatch

/-- LCH_FOLLOW and LCH_HIGHER after the strobe of t_N: the bits of every lane whose frame, the last stamped before t_N, the snapshot
found fresh (R147, R148). -/
def State.noteClaims (s : State) (tN : Nat) : State :=
  let s1 := (s.freshLanesAt tN).foldl (fun (a : State) (x : Nat × Nat × Nat) =>
    let hi := outranks x.2.1 a.claim
    let b := if hi && !a.rdBit LCH_HIGHER.LANES x.1 then a.ev 0x0403 (entLane x.1) x.2.1 a.claim else a
    (b.wrBit LCH_FOLLOW.LANES x.1 (x.2.1 != 0 && x.2.1 == b.claim)).wrBit LCH_HIGHER.LANES x.1 hi) s
  s1.wr LCH_HIGHER.SLOW (b2n (s1.freshSlow.any (fun x => outranks x.2 s1.claim)))

/-- LCH_CLR.COUNTS (R147). -/
def State.clearLch (s : State) : State := (s.wr LCH_CNT_LATE.CNT 0).wr LCH_CNT_EPMISS.CNT 0

open Host (Outcome)

/-- SETPOINT_SEND. -/
def execSetpointSend (copy : Fin 2) (s : State) : Outcome State Fault Refusal :=
  .next (if s.up then s.sendSetpoints copy.val else s)

/-- SLOW_LOAD_SEND. -/
def execSlowLoadSend (s : State) : Outcome State Fault Refusal := .next (if s.up then s.sendSlow else s)

/-- STATUS_FRAME_RECEIVE: frames are taken in ACTIVE only (spec/07 R161). -/
def execStatusFrameReceive (lane : Fin 12) (fseq : BitVec 16) (f : StatusFrame) (s : State) : Outcome State Fault Refusal :=
  .next (if s.mainUp && s.laneActive lane.val then s.statusRx lane.val fseq.toNat f else s)

/-- PHASE_STATUS_RECEIVE. -/
def execPhaseStatusReceive (lane : Fin 12) (fseq : BitVec 16) (f : PhaseStatus) (s : State) : Outcome State Fault Refusal :=
  .next (if s.mainUp && s.laneActive lane.val then s.phaseRx lane.val fseq.toNat f else s)

/-- SLOW_NODE_STATUS_RECEIVE. -/
def execSlowNodeStatusReceive (slot : Fin 16) (code : BitVec 16) (follow _seqApplied : BitVec 32) (s : State) :
    Outcome State Fault Refusal :=
  .next (if s.up then s.slowRx slot.val code.toNat follow.toNat else s)

/-- LCH_CLR_COUNTS. -/
def execLchClrCounts (s : State) : Outcome State Fault Refusal := .next (if s.up then s.clearLch else s)

end Sys2Proof.Machine
end

