-- ==== Sys2Proof/Machine/LaneEvents.lean ====
section
/-!
DEFINITION. The commands of the serial lanes (spec/07_serial_lanes.md): bring-up, integrity, delay measurement, low power and
eye scans. The lanes run with the main domains, boot included (R162).
-/
namespace Sys2Proof.Machine

/-- Frames are received on lane l: in CAPS, DELAY and ACTIVE (R155, R161). -/
def State.laneHears (s : State) (l : Nat) : Bool := 4 ≤ s.laneState l && s.laneState l ≤ 6

/-- Boot and lanes: what a lane event does while the main domains run, with what the standby concludes from it, and the progress
the running eye scans have made (R172). -/
def State.onLane (s : State) (k : State → State) : State := if s.mainUp then (k s).twinWatch.scanReports else s

/-! ### Bring-up -/

/-- The CAPS frame goes out again after 1 ms (R158). -/
def State.resendCaps (s : State) (l : Nat) : State :=
  if s.laneState l = 4 then (s.waitTill ((s.lane l).capsAt + 1000000)).sendCaps l else s

/-- The fields of a CAPS frame as numbers. -/
def capsFar (f : CapsFrame) : FarCaps :=
  { role := f.role.toNat, portId := f.portId.toNat, slots := f.slots.toNat, features := f.features.toNat,
    frameVer := f.frameVer.toNat, maxPayload := f.maxPayload.toNat, maker := f.maker.toNat, serial := f.serial.toNat,
    asym := f.asym.toInt, claim := f.claim.toNat, digest := f.cfgDigest.toNat }

/-- A CAPS frame arrives: checked in CAPS; on a Dreak lane the peer is admitted or not (R159, spec/16 R396). -/
def State.capsFrame (s : State) (l fseq : Nat) (f : CapsFrame) : State :=
  if !s.laneHears l then s
  else
    let s1 := s.laneRx l fseq
    if s.laneState l ≠ 4 then s1
    else
      let (s2, ok) := s1.capsRx l (capsFar f)
      if ok && 12 ≤ l then s2.admitPeer (l - 12) f.claim.toNat f.cfgDigest.toNat else s2

/-! ### Integrity (R151, R160) -/

/-- A frame is discarded at uptime `now`; those of the last 1 ms are remembered. -/
def State.discard (s : State) (l : Nat) : State :=
  s.modLane l (fun x => { x with discards := s.now :: x.discards.filter (fun t => decide (s.now < t + 1000000)) })

/-- The blocks that came in are checked (R150, R151): a frame that fails CRC, LEN or block count or is void counts in CRC_CNT, one
of unknown TYPE in UNK_CNT, and either is discarded. A frame of unknown TYPE passed its CRC, so its FSEQ and the no-frame
timer count it (log entry 64). A frame that passes is what its own command brings. -/
def State.badFrame (s : State) (l : Nat) (blocks : List LaneBlock) : State :=
  if !s.laneHears l then s
  else match rxFrame (maxPayload l) blocks with
  | .nothing => s
  | .void => (s.bump (LN.CRC_CNT l)).discard l
  | .frame q _ payload =>
    if knownType l (nth payload 0 0) then s else ((s.laneRx l q).bump (LN.UNK_CNT l)).discard l

/-- ERR_LIMIT discards within 1 ms (R160, cause 2). -/
def State.errorLimit (s : State) (l : Nat) : State :=
  let n := ((s.lane l).discards.filter (fun t => decide (s.now < t + 1000000))).length
  if s.rd (LN.ERR_LIMIT l) ≤ n then s.laneDown l 2 3 else s

/-- Block lock is lost (R160, cause 1). -/
def State.lockLoss (s : State) (l : Nat) : State :=
  if s.laneHears l then (s.bump (LN.LOCK_CNT l)).laneDown l 1 3 else s

/-- No valid frame for LOSS_TIME (R160, cause 3). -/
def State.frameTimeout (s : State) (l : Nat) : State :=
  if s.laneActive l then (s.waitTill ((s.lane l).rxAt + 1000 * s.rd (LN.LOSS_TIME l))).laneDown l 3 3 else s

/-- Loss of signal for 1 µs (R160, cause 6): the lane goes to DETECT. -/
def State.signalLoss (s : State) (l : Nat) : State :=
  if s.laneActive l then ((s.cycles 100).laneDown l 6 2).toDetect l else s

/-- ALIVE after 50 µs without a frame (R160). -/
def State.sendAlive (s : State) (l : Nat) : State :=
  if s.laneActive l then (s.waitTill ((s.lane l).txAt + 50000)).laneTx l 0 ([0x15, 1] ++ zeros 6) else s

/-! ### Counters -/

/-- Clears the counters of one lane (R174). -/
def State.clearLane (s : State) (l : Nat) : State := (s.setReg (laneBase l + 0xC) 0).setReg (laneBase l + 0x10) 0

/-- CLC_CLR.COUNTS. -/
def State.clearClc (s : State) : State := (List.range 12).foldl State.clearLane s

/-- DLC_CLR.COUNTS (R175; on the PH4812 ignored under spec/00 R4). -/
def State.clearDlc (s : State) : State :=
  if s.grade = .ph4812 then s.gradeLimit (entLane 12) 0x28404 else ((s.clearLane 12).clearLane 13).wr DLC_YOKE_STAT.YSEQ_GAP 0

/-! ### Eye scans (R171 to R173) -/

/-- The scan an argument block asks for. -/
def scanOf (a : ScanArg) (d : DescRef) : Scan :=
  { ring := d.ring.val, idx := d.idx.toNat,
    lane := if a.lane.toNat / 2048 = 3 then a.lane.toNat % 2048 else 12 + a.lane.toNat % 2048,
    phMin := a.phMin.toInt, phMax := a.phMax.toInt, phStep := a.phStep.toNat, vMin := a.vMin.toInt, vMax := a.vMax.toInt,
    vStep := a.vStep.toNat, dwell := a.dwell.toNat, addr := a.addr.toNat, start := 0, site := 0, ctle := 0, dfe := 0 }

/-- Every argument of a scan lies in its range (R171, R172). -/
def Scan.argsOk (c : Scan) : Bool :=
  decide (-32 ≤ c.phMin) && decide (c.phMin ≤ c.phMax) && decide (c.phMax ≤ 32) && decide (1 ≤ c.phStep) &&
  decide (c.phStep ≤ 32) && decide (-64 ≤ c.vMin) && decide (c.vMin ≤ c.vMax) && decide (c.vMax ≤ 64) &&
  decide (1 ≤ c.vStep) && decide (c.vStep ≤ 64) && decide (20 ≤ c.dwell) && decide (c.dwell ≤ 36) && decide (c.points ≤ 4096)

/-- An eye scan is asked for (R171, R172). -/
def State.askScan (s : State) (d : DescRef) (a : ScanArg) : State :=
  let e := a.lane.toNat
  if e / 2048 ≠ 3 && e / 2048 ≠ 4 then s.fail d 0x0010
  else s.checkEntity d e fun s =>
    let c := scanOf a d
    if !c.argsOk || !a.reservedZero then s.fail d 0x0060
    else if a.len.toNat < 32 + 4 * c.points then s.fail d 0x0061
    else if 2 ≤ s.link.scans.length then
      { s with link := { s.link with scanWait := s.link.scanWait ++ [c] } }.waitShared d
    else if !s.laneActive c.lane then s.fail d 0x0062
    else if s.link.scans.any (fun (x : Scan) => x.lane = c.lane) then s.fail d 0x0063
    else s.startScan c

/-- The scan of lane l finishes its points with the counts measured (R173). -/
def State.scanDone (s : State) (l : Nat) (counts : List Nat) : State :=
  match s.link.scans.find? (fun (c : Scan) => c.lane = l) with
  | none => s
  | some c =>
    let bits := c.points * 2 ^ c.dwell
    let s1 := s.waitTill (c.start + divUp (bits * 10000) (if c.lane < 12 then 62500 else 103125))
    let s2 := { s1 with link := { s1.link with scans := s1.link.scans.erase c } }
    let words := (List.range c.points).flatMap (fun i => leBytes 4 (nth counts i 0))
    ((s2.emit (.host c.addr (c.header c.points s2.now ++ words))).complete c.ring c.idx false false 1000 0
      (leBytes 4 c.points)).nextScan

open Host (Outcome)

/-- SERIAL_PLL_UNLOCK (spec/03 R50); on a PH4812 the Dreak channel stays off (spec/00 R3). -/
def execSerialPllUnlock (dreak : Bool) (s : State) : Outcome State Fault Refusal :=
  .next (s.onLane fun a => if dreak && a.grade = .ph4812 then a else a.serialUnlock dreak)

/-- SERIAL_PLL_LOCK (spec/03 R50); on a PH4812 the Dreak channel stays off (spec/00 R3). -/
def execSerialPllLock (dreak : Bool) (s : State) : Outcome State Fault Refusal :=
  .next (s.onLane fun a => if dreak && a.grade = .ph4812 then a else a.serialLock dreak)

/-- LANE_DETECT_TEST. -/
def execLaneDetectTest (lane : Fin 14) (found : Bool) (s : State) : Outcome State Fault Refusal :=
  .next (s.onLane fun a => a.detectTest lane.val found)

/-- LANE_TRAIN_COMPLETE. -/
def execLaneTrainComplete (lane : Fin 14) (inverted : Bool) (ctle : BitVec 8) (dfe : BitVec 40) (s : State) :
    Outcome State Fault Refusal :=
  .next (s.onLane fun a => a.trainDone lane.val inverted ctle.toNat dfe.toNat)

/-- LANE_BRINGUP_TIMEOUT. -/
def execLaneBringupTimeout (lane : Fin 14) (s : State) : Outcome State Fault Refusal :=
  .next (s.onLane fun a => a.bringupTimeout lane.val)

/-- CAPS_RESEND. -/
def execCapsResend (lane : Fin 14) (s : State) : Outcome State Fault Refusal := .next (s.onLane fun a => a.resendCaps lane.val)

/-- CAPS_FRAME_RECEIVE. -/
def execCapsFrameReceive (lane : Fin 14) (fseq : BitVec 16) (f : CapsFrame) (s : State) : Outcome State Fault Refusal :=
  .next (s.onLane fun a => a.capsFrame lane.val fseq.toNat f)

/-- DELAY_MEASUREMENT_START. -/
def execDelayMeasurementStart (lane : Fin 12) (s : State) : Outcome State Fault Refusal :=
  .next (s.onLane fun a => a.measStart lane.val)

/-- DLY_REQ_SEND. -/
def execDlyReqSend (lane : Fin 14) (s : State) : Outcome State Fault Refusal := .next (s.onLane fun a => a.sendReq lane.val)

/-- DLY_REQ_RECEIVE: answered while the lane is in DELAY or ACTIVE (R166). -/
def execDlyReqReceive (lane : Fin 2) (fseq : BitVec 16) (xid : BitVec 16) (wait : Nat) (s : State) :
    Outcome State Fault Refusal :=
  let l := 12 + lane.val
  .next (s.onLane fun a =>
    if a.laneState l = 5 || a.laneState l = 6 then (a.laneRx l fseq.toNat).answerReq l xid.toNat wait else a)

/-- DLY_RESP_RECEIVE. -/
def execDlyRespReceive (lane : Fin 14) (fseq : BitVec 16) (xid : BitVec 16) (t2Ns : BitVec 32) (t2Frac : BitVec 16)
    (t3Ns : BitVec 32) (t3Frac : BitVec 16) (s : State) : Outcome State Fault Refusal :=
  let l := lane.val
  .next (s.onLane fun a =>
    if a.laneState l = 5 || a.laneState l = 6 then
      (a.laneRx l fseq.toNat).respRx l xid.toNat t2Ns.toNat t2Frac.toNat t3Ns.toNat t3Frac.toNat (a.twin.peerMode == some 2)
    else a)

/-- DELAY_MEASUREMENT_COMPLETE. -/
def execDelayMeasurementComplete (lane : Fin 14) (s : State) : Outcome State Fault Refusal :=
  .next (s.onLane fun a => a.measDone lane.val)

/-- TIME_FRAME_SEND: every 1 ms while the lane is ACTIVE (R165). -/
def execTimeFrameSend (lane : Fin 12) (s : State) : Outcome State Fault Refusal :=
  let l := lane.val
  .next (s.onLane fun a => if a.laneActive l then (a.waitTill ((a.lane l).timeAt + 1000000)).sendTime l else a)

/-- ALIVE_SEND. -/
def execAliveSend (lane : Fin 14) (s : State) : Outcome State Fault Refusal := .next (s.onLane fun a => a.sendAlive lane.val)

/-- ALIVE_RECEIVE. -/
def execAliveReceive (lane : Fin 14) (fseq : BitVec 16) (s : State) : Outcome State Fault Refusal :=
  .next (s.onLane fun a => if a.laneHears lane.val then a.laneRx lane.val fseq.toNat else a)

/-- LANE_FRAME_INVALID. -/
def execLaneFrameInvalid (lane : Fin 14) (blocks : List LaneBlock) (s : State) : Outcome State Fault Refusal :=
  .next (s.onLane fun a => a.badFrame lane.val blocks)

/-- LANE_ERROR_LIMIT. -/
def execLaneErrorLimit (lane : Fin 14) (s : State) : Outcome State Fault Refusal := .next (s.onLane fun a => a.errorLimit lane.val)

/-- LANE_BLOCK_LOCK_LOSS. -/
def execLaneBlockLockLoss (lane : Fin 14) (s : State) : Outcome State Fault Refusal := .next (s.onLane fun a => a.lockLoss lane.val)

/-- LANE_FRAME_TIMEOUT. -/
def execLaneFrameTimeout (lane : Fin 14) (s : State) : Outcome State Fault Refusal :=
  .next (s.onLane fun a => a.frameTimeout lane.val)

/-- LANE_SIGNAL_LOSS. -/
def execLaneSignalLoss (lane : Fin 14) (s : State) : Outcome State Fault Refusal := .next (s.onLane fun a => a.signalLoss lane.val)

/-- LANE_SIGNAL_DETECT. -/
def execLaneSignalDetect (lane : Fin 14) (s : State) : Outcome State Fault Refusal :=
  .next (s.onLane fun a => a.signalDetect lane.val)

/-- A host write of CLC_CTL_Lk or DLC_CTL_Dd acts on lane l; on the PH4812 a write to a Dreak lane is ignored under spec/00 R4. -/
def State.laneCtl (s : State) (l : Nat) (k : State → State) : State :=
  if !s.up then s
  else if s.grade = .ph4812 && 12 ≤ l then s.gradeLimit (entLane l) (laneBase l)
  else (k s).twinWatch

/-- LANE_RETRAIN (R160, cause 5). -/
def execLaneRetrain (lane : Fin 14) (s : State) : Outcome State Fault Refusal :=
  .next (s.laneCtl lane.val fun a => a.laneDown lane.val 5 3)

/-- LANE_LP_UP. -/
def execLaneLpUp (lane : Fin 14) (s : State) : Outcome State Fault Refusal := .next (s.laneCtl lane.val fun a => a.lpUp lane.val)

/-- LANE_LP_IDLE. -/
def execLaneLpIdle (lane : Fin 14) (s : State) : Outcome State Fault Refusal := .next (s.laneCtl lane.val fun a => a.lpLow lane.val 1)

/-- LANE_LP_DEEP. -/
def execLaneLpDeep (lane : Fin 14) (s : State) : Outcome State Fault Refusal := .next (s.laneCtl lane.val fun a => a.lpLow lane.val 2)

/-- LANE_LP_OFF. -/
def execLaneLpOff (lane : Fin 14) (s : State) : Outcome State Fault Refusal := .next (s.laneCtl lane.val fun a => a.lpOff lane.val)

/-- LP_REQ_RECEIVE: in ACTIVE, and in IDLE a request for DEEP (R168, R169). -/
def execLpReqReceive (lane : Fin 2) (fseq : BitVec 16) (target : BitVec 8) (s : State) : Outcome State Fault Refusal :=
  let l := 12 + lane.val
  .next (s.onLane fun a => if a.laneActive l || (a.laneState l = 7 && target.toNat = 2) then
    (a.laneRx l fseq.toNat).lpReqRx l target.toNat else a)

/-- LP_ACK_RECEIVE. -/
def execLpAckReceive (lane : Fin 14) (fseq : BitVec 16) (target : BitVec 8) (s : State) : Outcome State Fault Refusal :=
  .next (s.onLane fun a =>
    if a.laneState lane.val = 6 || a.laneState lane.val = 7 then (a.laneRx lane.val fseq.toNat).lpAck lane.val target.toNat
    else a)

/-- CLC_CLR_COUNTS. -/
def execClcClrCounts (s : State) : Outcome State Fault Refusal := .next (if s.up then s.clearClc else s)

/-- DLC_CLR_COUNTS. -/
def execDlcClrCounts (s : State) : Outcome State Fault Refusal := .next (if s.up then s.clearDlc else s)

/-- EYE_SCAN. -/
def execEyeScan (d : DescRef) (a : ScanArg) (s : State) : Outcome State Fault Refusal :=
  .next (s.run d 0x0501 fun s => s.askScan d a)

/-- EYE_SCAN_COMPLETE: the error counts are what the offset sampler measured. -/
def execEyeScanComplete (lane : Fin 14) (counts : List (BitVec 32)) (s : State) : Outcome State Fault Refusal :=
  .next (s.onLane fun a => a.scanDone lane.val (counts.map (fun (w : BitVec 32) => w.toNat)))

end Sys2Proof.Machine
end

