-- ==== Sys2Proof/Machine/ModeExec.lean ====
section
/-!
DEFINITION. The commands of the operating modes (spec/02_supplies_reset_modes.md R32, R39 to R43, R74).
-/
namespace Sys2Proof.Machine

open Host (Outcome)

/-- MODE_REQ_DORMANT. -/
def execModeReqDormant (key : BitVec 8) (s : State) : Outcome State Fault Refusal :=
  .next (s.request 0 key.toNat (fun a => a.requestDormant))

/-- MODE_REQ_COMMISSION. -/
def execModeReqCommission (key : BitVec 8) (s : State) : Outcome State Fault Refusal :=
  .next (s.request 1 key.toNat (fun a => a.requestCommission))

/-- MODE_REQ_ACTIVE. -/
def execModeReqActive (key : BitVec 8) (seeCold : Bool) (s : State) : Outcome State Fault Refusal :=
  .next (s.request 2 key.toNat (fun a => a.requestRun .active seeCold))

/-- MODE_REQ_SHADOW. -/
def execModeReqShadow (key : BitVec 8) (seeCold : Bool) (s : State) : Outcome State Fault Refusal :=
  .next (s.request 3 key.toNat (fun a => (a.requestRun .shadow seeCold).twinWatch))

/-- MODE_REQ_LIMP. -/
def execModeReqLimp (key : BitVec 8) (s : State) : Outcome State Fault Refusal :=
  .next (s.request 4 key.toNat (fun a => a.requestLimp))

/-- MODE_REQ_HALT. -/
def execModeReqHalt (key : BitVec 8) (s : State) : Outcome State Fault Refusal :=
  .next (s.request 5 key.toNat (fun a => a.requestHalt))

/-- LIMP_ENTRY: at the next tick boundary (R74). -/
def execLimpEntry (s : State) : Outcome State Fault Refusal :=
  .next (if s.up && s.glb.limpPend.isSome then (s.waitSite (s.tickAt s.stu.nextTick)).limpNow else s)

/-- HOST_KICK: any value (R43). -/
def execHostKick (_v : BitVec 32) (s : State) : Outcome State Fault Refusal :=
  .next (if s.up then s.kick.twinWatch else s)

/-- HOST_WATCHDOG_EXPIRE: PERIOD passes without a kick, in ACTIVE, SHADOW or LIMP (R43). -/
def execHostWatchdogExpire (s : State) : Outcome State Fault Refusal :=
  let m := s.glb.mode
  let runs := m == .active || m == .shadow || m == .limp
  .next (if s.up && runs && s.rd GLB_HOST_WDOG.PERIOD ≠ 0 && !s.glb.wdogOut then
    ((s.waitTill s.wdogAt).wdogExpire).twinWatch else s)

/-- BO_RIDE has passed since the warning at `t` without recovery: HALT from ACTIVE and LIMP, else the mode is kept (R32). -/
def State.rideOver (s : State) (t : Nat) : State :=
  let s1 := s.waitTill (t + 1000 * s.rd GLB_PWR_CFG.BO_RIDE)
  let s2 := { s1 with glb := { s1.glb with brownOver := true } }
  let halts := s2.glb.mode == .active || s2.glb.mode == .limp
  ((s2.ev 0x0103 0 (s2.brownUs t) (if halts then 1 else 3)).haltTrigger 0x06).twinWatch

/-- BROWNOUT_RIDE_EXPIRE: BO_RIDE passes after the warning without recovery (R32). -/
def execBrownoutRideExpire (s : State) : Outcome State Fault Refusal :=
  match s.glb.brownAt with
  | none => .next s
  | some t => .next (if s.glb.brownOver then s else s.rideOver t)

/-- VCORE comes back: `below` is the time in µs between the warning and its return to 0.77 V; within BO_RIDE the warning is ridden
through, after it BO_RIDE has passed first. Writes resume once VCORE has stayed there for BO_RIDE (R32). -/
def execBrownoutRecovered (below : BitVec 32) (s : State) : Outcome State Fault Refusal :=
  match s.glb.brownAt with
  | none => .next s
  | some t =>
    let late := s.rd GLB_PWR_CFG.BO_RIDE < below.toNat
    let s0 := if late && !s.glb.brownOver then s.rideOver t else s
    let s1 := s0.waitTill (t + 1000 * below.toNat + 1000 * s0.rd GLB_PWR_CFG.BO_RIDE)
    let s2 := if s0.glb.brownOver then s1 else s1.ev 0x0103 0 (below.toNat + 1) 0
    .next ({ s2 with glb := { s2.glb with brownAt := none, brownOver := false } }).twinWatch

end Sys2Proof.Machine
end

