-- ==== Sys2Proof/Machine/RindExec.lean ====
section
/-!
DEFINITION. The commands of the Rind (spec/14_safety_island.md) and what its decisions change in the rest of the device:
HALT on a site-wide trip, LIMP on a request, the session of a tripped port (spec/02 R39, spec/12 R299).
-/
namespace Sys2Proof.Machine

/-- What the Rind's decisions change in the device. -/
def State.rindEffects (s : State) : State :=
  if !s.up then s
  else
    let s1 := if s.siteTrip then s.haltTrigger 0x03 else s
    let s2 := if s1.sfi.limpBy.isEmpty then s1 else s1.limpTrigger 0x04
    let s3 := if !s2.guards then s2
      else (List.range s2.nPorts).foldl (fun (a : State) p =>
        if a.tripped (entPort p) then a.guardExit p 2 else a) s2
    s3.twinWatch

/-- The Rind runs: VAON is in regulation and the start-up self-test has passed. -/
def State.rindRuns (s : State) : Bool := s.watched && s.sfi.ready

/-- Outputs, caps and mirror follow a decision of the Rind, then the device. -/
def State.rindActs (s : State) : State := s.actLate.rindOut.rindEffects

/-- A heartbeat arrives (spec/02 R35, R38): it ends a ramp-down request; one that shows DORMANT or COMMISSION is an orderly
stop, which de-energises every output at once. -/
def State.heartbeat (s : State) (w : Nat) : State :=
  let mode := w / 2 ^ 24 % 8
  let s1 := { s with sfi := { s.sfi with
    hb := some w, hbAt := s.now, hbStop := false, grace := false, lossLogged := false
    haltAt := if mode ≠ 5 then none else match s.sfi.haltAt with | none => some s.now | some t => some t
    haltOpen := if mode ≠ 5 then false else s.sfi.haltOpen } }
  if 2 ≤ mode && mode ≤ 5 then s1 else ((s1.driveSo).setHold false).mirror

/-- Cycles for which a condition must hold, what it trips, and the key of its count: 1 SLC, 2 SLV, 3 SDI (converters from 24
on), 4 isolation monitor (R340). -/
def State.functionOf (s : State) (which idx : Nat) : Option (Nat × Nat × (State → State)) :=
  let val (f o : Nat) : Int := tget (fun _ => 0) s.sfi.vals (ckey f o)
  match which with
  | 1 => if s.nPorts ≤ idx then none else some (ckey 1 idx, cyc (s.par 0x014 1), fun a => a.trip (entPort idx) 1 idx 0 (val 1 idx))
  | 2 => if s.nPorts ≤ idx then none else some (ckey 2 idx, cyc (s.par 0x015 1), fun a => a.trip (entPort idx) 2 idx 0 (val 2 idx))
  | 3 =>
    if 28 ≤ idx || (idx < 24 && s.nPorts ≤ idx) then none
    else some (ckey 3 idx, cyc (s.par 0x01A 1), fun a =>
      a.trip (if idx < 24 then entPort idx else entConv (idx - 24)) 3 idx 0 (val 3 idx))
  | 4 => if s.par 0x020 4 = 0 then none
         else some (ckey 7 0, cyc (s.par 0x01B 1), fun a => a.tripScope (s.par 0x020 4) 7 0 0 0)
  | _ => none

/-- A condition that holds goes on to hold for its time: the trip is decided at the end of that cycle (R340). -/
def State.functionExpire (s : State) (which idx : Nat) : State :=
  match s.functionOf which idx with
  | none => s
  | some (key, need, act) =>
    let n := tget (fun _ => 0) s.sfi.counts key
    if n = 0 || need ≤ n then s
    else
      let s1 := s.waitTill (s.now + 500000 * (need - n))
      let s2 := { s1 with sfi := { s1.sfi with counts := tset (fun _ => 0) s1.sfi.counts key need } }
      (act s2).rindActs

/-- The current of port p stays below OPEN_I until OFF_CONFIRM has passed (R345). -/
def State.offConfirm (s : State) (p : Nat) : State :=
  let need := cyc (s.par 0x00C 2 * 10)
  let n := tget (fun _ => 0) s.sfi.low p
  if s.nPorts ≤ p || n = 0 || need ≤ n then s
  else
    let s1 := s.waitTill (s.now + 500000 * (need - n))
    ({ s1 with sfi := { s1.sfi with low := tset (fun _ => 0) s1.sfi.low p need } }).rindActs

/-- Instant from which the next pulse of a source is due: one TP_PERIOD after its last; the first of TPS1 half a period after one
of TPS0 (R331). Before any pulse, at once. -/
def State.pulseDue (s : State) (src : Nat) : Nat :=
  let period := 1000000 * s.par 0x01C 2
  match (if src = 0 then s.sfi.tps0 else s.sfi.tps1), s.sfi.tps0 with
  | some t, _ => t + period
  | none, some t => t + period / 2
  | none, none => s.now

/-- The pulse of a source begins (R331). -/
def State.pulseAt (s : State) (src : Nat) : State :=
  let w := s.waitTill (s.pulseDue src)
  if src = 0 then { w with sfi := { w.sfi with tps0 := some w.now } } else { w with sfi := { w.sfi with tps1 := some w.now } }

/-- A test pulse: the channels on the source, and with TPS0's pulse the readback of the energised outputs in their gap, once per
TP_PERIOD (R331, R334, R358; DESIGN CHOICE, log entry 134: which pulse the gap falls in). -/
def State.testPulse (s : State) (src : Nat) (follows : BitVec 16) (read : BitVec 8) (stuck : Bool) : State :=
  let s1 := ((List.range 16).filter (fun ch => s.tpSource ch == src + 1)).foldl (fun (a : State) ch =>
    let x := a.term ch
    let bad := stuck || !follows.getLsbD ch
    let b := a.setTerm ch { x with tpf := bad }
    if bad && !x.tpf then b.evS 0x0E05 (ent 14 ch) 2 (ch / 2) else b) s
  let s2 := { s1 with sfi := { s1.sfi with tpsStuck := setBit s1.sfi.tpsStuck src stuck } }
  let s3 := s2.limpCause (2000 + src) 0 8 stuck
  if src ≠ 0 then s3.rindActs
  else
    let r := s3.readbackOff read true
    if r.2 then r.1.rindActs.rindFault 6 else r.1.rindActs

/-- The connection that carries identity `id`. -/
def State.connById (s : State) (id : Nat) : Option Nat :=
  (List.range 8).find? (fun c => s.connRole c != 0 && s.par (0x400 + 16 * c) 2 == id)

/-- The staged word a read of SFI_PDATA returns; 0 at ADDR 0x500 and above (R360). -/
def State.pdata (s : State) : Nat :=
  let a := s.rd SFI_PADDR.ADDR / 4 * 4
  if a < 0x500 then imgWord s.sfi.staged a else 0

/-- A write of SFI_PDATA (R354, R355, R360): ADDR advances, and outside COMMISSION a write of another value than the staged
word is GLB_SEALED_WRITE (spec/00 R445). At ADDR 0x500 and above it is ignored without an event. DESIGN CHOICE, log entry 133:
the staged image is no register of a port or string, so a row of an absent port or string is stored like any other (spec/00 R4
leaves open whether its rule for register writes holds for the image). -/
def State.pdataWrite (s : State) (v : Nat) : State :=
  let a := s.rd SFI_PADDR.ADDR / 4 * 4
  let s1 := s.wr SFI_PADDR.ADDR ((a + 4) % 2048)
  if 0x500 ≤ a || v = s.pdata then s1
  else if s.glb.mode ≠ .commission then s1.ev 0x0141 0 SFI_PDATA.DATA.off v
  else
    let s2 := { s1 with sfi := { s1.sfi with staged := tset defImage s1.sfi.staged a v } }
    if s.confirming then s2.paramRefuse 6 0 else s2

/-- A write of SFI_CV_REQ (R355). -/
def State.cvReq (s : State) (v : Nat) : State :=
  if v ≠ 0x4356 then s
  else if s.glb.mode ≠ .commission then s.paramRefuse 5 0
  else ({ s with sfi := { s.sfi with reqAt := some s.now } }.wr SFI_CONFIRM_STAT.REFUSE 0).wr SFI_CONFIRM_STAT.BAD_OFS 0 |>.wr SFI_CONFIRM_STAT.STATE 1

/-- The ranges are checked and the check value is computed (R355). -/
def State.cvDone (s : State) : State :=
  if s.rd SFI_CONFIRM_STAT.STATE ≠ 1 then s
  else match badField s.sfi.staged with
  | some o => s.paramRefuse 1 o
  | none => (s.wr SFI_CV_STAGED.CV (checkValue s.sfi.staged)).wr SFI_CONFIRM_STAT.STATE 5

/-- A write of SFI_CONFIRM (R355). -/
def State.confirm (s : State) (v : Nat) : State :=
  if s.glb.mode ≠ .commission || s.rd SFI_CONFIRM_STAT.STATE ≠ 5 then s
  else
    let i := img s.sfi.staged 0x01F 1
    if v ≠ s.rd SFI_CV_STAGED.CV then s.paramRefuse 2 0
    else if 8 ≤ i || img s.sfi.staged (0x240 + 8 * i) 1 ≠ 4 then s.paramRefuse 3 0
    else ({ s with sfi := { s.sfi with reqAt := some s.now, cfm := .idle } }).wr SFI_CONFIRM_STAT.STATE 2

/-- A write of SFI_PWD_CMD: the password is set, with a random salt (R356). -/
def State.setPassword (s : State) (v : Nat) : State :=
  if v ≠ 0x5057 || s.glb.mode ≠ .commission then s
  else
    let (s1, salt) := s.freshBytes 16
    (({ s1 with sfi := { s1.sfi with pwdHash := some (sha256 (salt ++ s1.pwdBytes), salt) } }).wr
      SFI_PWD_STAT.SET 1).changeLog 3

/-- Heartbeats have stopped (spec/02 R35). -/
def State.hbLost (s : State) : State := { s with sfi := { s.sfi with hbStop := true } }.mirror

/-- The discrepancy time of a pair is over (R330). -/
def State.discExpire (s : State) (i : Nat) : State :=
  let x := s.pair i
  let s2 := s.discFault i
  let s3 := s2.setPair i { s2.pair i with last := 1, ack := (x.ack.step 1 s.now).1 }
  (s3.pairTrips i).rindActs

/-- TWIN_ALIVE has stood high for 10 ms (R347). -/
def State.aliveUp (s : State) : State := ({ s with sfi := { s.sfi with aliveOk := true } }).mirror.twinWatch

/-- The password lock-out is over (R356). -/
def State.unlockPwd (s : State) : State := ({ s with sfi := { s.sfi with lockEnd := none } }).wr SFI_PWD_STAT.LOCKED 0

/-- The stores have been refreshed now (R328). -/
def State.storesFresh (s : State) : State := { s with sfi := { s.sfi with refreshAt := s.now } }

open Host (Outcome)

/-- RIND_CYCLE (R329). -/
def execRindCycle (x : RindIn) (s : State) : Outcome State Fault Refusal :=
  .next (if s.rindRuns then (s.rindCycle x).rindEffects else s)

/-- HEARTBEAT_RECEIVE: the oldest heartbeat on its way. -/
def execHeartbeatReceive (s : State) : Outcome State Fault Refusal :=
  match s.alp.heartbeats with
  | [] => .next s
  | w :: l =>
    let s1 := { s with alp := { s.alp with heartbeats := l } }
    .next (if s.rindRuns then s1.heartbeat w else s1)

/-- HEARTBEAT_LOSS: 5 ms without a heartbeat (spec/02 R35). -/
def execHeartbeatLoss (s : State) : Outcome State Fault Refusal :=
  if !s.rindRuns || s.sfi.hb.isNone || s.sfi.hbStop then .next s
  else .next (s.waitTill (s.sfi.hbAt + 5000000)).hbLost

/-- SAFE_GRACE_EXPIRE: SAFE_GRACE after the last heartbeat of a loss, or after the first that shows HALT (spec/02 R35, R38). -/
def execSafeGraceExpire (s : State) : Outcome State Fault Refusal :=
  if !s.rindRuns then .next s
  else if s.hbLoss && !s.sfi.grace then
    .next (((s.waitTill (s.sfi.hbAt + 1000000 * s.par 0x004 2)).graceCheck).rindActs)
  else match s.sfi.haltAt with
  | none => .next s
  | some t =>
    .next (if s.sfi.haltOpen then s else ((s.waitTill (t + 1000000 * s.par 0x004 2)).haltCheck []).rindActs)

/-- SAFETY_FUNCTION_TIME_EXPIRE: 0 OFF_CONFIRM, 1 SLC, 2 SLV, 3 SDI, 4 isolation monitor. -/
def execSafetyFunctionTimeExpire (which : Fin 5) (idx : Fin 32) (s : State) : Outcome State Fault Refusal :=
  .next (if !s.rindRuns then s else if which.val = 0 then s.offConfirm idx.val else s.functionExpire which.val idx.val)

/-- C1_GRACE_EXPIRE: the delay of the oldest category 1 trip that waits (R341). -/
def execC1GraceExpire (s : State) : Outcome State Fault Refusal :=
  match s.sfi.trips.find? (fun (t : Trip) => !t.acting) with
  | none => .next s
  | some t => .next (if s.rindRuns then (s.waitTill (t.since + 1000000 * s.par 0x006 2)).rindActs else s)

/-- DISCREPANCY_TIMEOUT (R330). -/
def execDiscrepancyTimeout (pair : Fin 8) (s : State) : Outcome State Fault Refusal :=
  let i := pair.val
  let x := s.pair i
  match x.discAt with
  | none => .next s
  | some t =>
    if !s.rindRuns || x.fault then .next s
    else .next ((s.waitTill (t + 10000000 * s.par (0x243 + 8 * i) 1)).discExpire i)

/-- TEST_PULSE: the source, the terminals that read low within 100 µs, the outputs that read on in their gap, and whether the
source is stuck. -/
def execTestPulse (source : Bool) (follows : BitVec 16) (soRead : BitVec 8) (stuck : Bool) (s : State) :
    Outcome State Fault Refusal :=
  .next (if s.rindRuns then (s.pulseAt (b2n source)).testPulse (b2n source) follows soRead stuck else s)

/-- EDM_TIMEOUT (R335). -/
def execEdmTimeout (out : Fin 8) (s : State) : Outcome State Fault Refusal :=
  match (s.so out.val).edmAt with
  | none => .next s
  | some t =>
    if !s.rindRuns || s.edmOk out.val then .next s
    else .next (((s.waitTill (t + 10000000 * s.par (0x287 + 8 * out.val) 1)).soFault out.val 2).rindActs)

/-- RELAY_HOLD_TAKE (R346). -/
def execRelayHoldTake (s : State) : Outcome State Fault Refusal :=
  if !s.rindRuns || !s.mayHold then .next s
  else if s.peerConn.isNone then .next (s.setHold true).mirror
  else match s.sfi.noHoldAt with
  | none => .next s
  | some t => .next (((s.waitTill (t + 20000000)).setHold true).mirror)

/-- TWIN_ALIVE_CHANGE: a low level counts at once; a high one once it has stood for 10 ms, which the next cycle finds, or this
command where the pin was high already (R347). -/
def execTwinAliveChange (level : Bool) (s : State) : Outcome State Fault Refusal :=
  if !s.rindRuns then .next { s with sfi := { s.sfi with aliveIn := level, aliveInAt := s.now, aliveOk := false } }
  else if !level then
    .next (({ s with sfi := { s.sfi with aliveIn := false, aliveInAt := s.now, aliveOk := false } }).mirror.twinWatch)
  else if s.sfi.aliveIn then
    .next (s.waitTill (s.sfi.aliveInAt + 10000000)).aliveUp
  else .next { s with sfi := { s.sfi with aliveIn := true, aliveInAt := s.now } }

/-- SOELAONE_SEND: every PERIOD of the connection (R351, R353). -/
def execSoelaoneSend (conn : Fin 8) (s : State) : Outcome State Fault Refusal :=
  let c := conn.val
  if !s.rindRuns || s.connRole c = 0 then .next s
  else
    let s1 := match (s.conn c).sentAt with | none => s | some t => s.waitTill (t + 1000000 * s.par (0x404 + 16 * c) 2)
    .next (s1.connSend c)

/-- SOELAONE_RECEIVE: a frame on CAN5 or its mirror (R350, R352). -/
def execSoelaoneReceive (frame : List (BitVec 8)) (s : State) : Outcome State Fault Refusal :=
  let b := frame.map (fun (x : BitVec 8) => x.toNat)
  match s.connById (field b 0 2) with
  | none => .next s
  | some c => .next (if s.rindRuns then (s.connReceive c b).rindActs else s)

/-- SOELAONE_TIMEOUT: no frame accepted for TEXP (R350). -/
def execSoelaoneTimeout (conn : Fin 8) (s : State) : Outcome State Fault Refusal :=
  let c := conn.val
  let x := s.conn c
  if !s.rindRuns || s.connRole c = 0 || !(x.state == 1 || x.state == 2) then .next s
  else .next (((s.waitTill (x.lastAt + 1000000 * s.par (0x406 + 16 * c) 2)).connFault c 4).rindActs)

/-- SFI_PDATA_WRITE. -/
def execSfiPdataWrite (v : BitVec 32) (s : State) : Outcome State Fault Refusal := .next (if s.up then s.pdataWrite v.toNat else s)

/-- SFI_PDATA_READ: the staged word at ADDR, which advances by 4 (R360). -/
def execSfiPdataRead (s : State) : Outcome State Fault Refusal :=
  let a := s.rd SFI_PADDR.ADDR / 4 * 4
  .next (if s.up then (s.wr SFI_PDATA.DATA s.pdata).wr SFI_PADDR.ADDR ((a + 4) % 2048) else s)

/-- SFI_CV_REQ. -/
def execSfiCvReq (v : BitVec 32) (s : State) : Outcome State Fault Refusal := .next (if s.up then s.cvReq v.toNat else s)

/-- CV_COMPUTE_COMPLETE: within 10 ms of the request (R355). -/
def execCvComputeComplete (s : State) : Outcome State Fault Refusal := .next (if s.rindRuns then s.cvDone else s)

/-- SFI_CONFIRM. -/
def execSfiConfirm (v : BitVec 32) (s : State) : Outcome State Fault Refusal := .next (if s.up then s.confirm v.toNat else s)

/-- CONFIRM_TIMEOUT: 60 s without acknowledgement (R355). -/
def execConfirmTimeout (s : State) : Outcome State Fault Refusal :=
  match s.sfi.reqAt with
  | none => .next s
  | some t => .next (if s.rd SFI_CONFIRM_STAT.STATE = 2 then (s.waitTill (t + 60000000000)).paramRefuse 4 0 else s)

/-- SFI_PWD_CMD. -/
def execSfiPwdCmd (v : BitVec 32) (s : State) : Outcome State Fault Refusal := .next (if s.up then s.setPassword v.toNat else s)

/-- PASSWORD_LOCKOUT_END: after 15 min (R356). -/
def execPasswordLockoutEnd (s : State) : Outcome State Fault Refusal :=
  match s.sfi.lockEnd with
  | none => .next s
  | some t => .next (s.waitTill t).unlockPwd

/-- RIND_STORE_REFRESH: every 365 days of VAON (R328). -/
def execRindStoreRefresh (s : State) : Outcome State Fault Refusal :=
  .next (if s.rindRuns then (s.waitTill (s.sfi.refreshAt + 31536000000000000)).storesFresh else s)

end Sys2Proof.Machine
end

