-- ==== Sys2Proof/Machine/RegView.lean ====
section
/-!
DEFINITION. What a host read of a set-up register returns (spec/00 R9, R10): the stored word, with every field that shows a
counter or a machine state of the block as it is at that moment. Reads that act (latches, SFI_PDATA) are commands of their own.
-/
namespace Sys2Proof.Machine

/-- Lock-out time left, s (spec/14 R356, R360). -/
def State.lockLeft (s : State) : Nat := match s.sfi.lockEnd with | none => 0 | some t => divUp (t - s.now) 1000000000

/-- The word of a converter's CCE_STAT: STATE, PHASES, READY, SKIM_LOCK, LSTEP, TEMP_OFF, BAT_EST, HOLD_REASON, RETRIES (spec/08
R196). BAT_V is estimated only for a converter in use (R179; reset 0). -/
def State.cceStat (s : State) (k : Nat) : Nat :=
  let x := s.cv k
  x.state.code + x.act.length * 4 + b2n x.ready * 256 + 512 * b2n (x.locked s.siteNs) +
    b2n (match s.cce.cycle with | none => false | some c => x.stepActive c) * 1024 + b2n x.tempOff * 2048 +
    b2n (s.flag (CCE_CONV.EN k) && s.rd (CCE_IN.IN_BAT k) == 0x3F) * 4096 + 8192 * x.hold + 65536 * x.retries

/-- The fields of the word at `off` that show the block's state, beside those the block stores as it runs. -/
def State.liveFields (s : State) (off : Nat) : List (Fld × Nat) :=
  match off with
  | 0x0 => [(⟨0x0, 0, 32⟩, s.glbId)]
  | 0x4 => [(⟨0x4, 0, 32⟩, if s.grade = .ph4800 then 0x03103018 else 0x0208180C)]
  | 0x40 => [(GLB_MODE.MODE, s.glb.mode.code), (GLB_MODE.BOOTING, b2n s.glb.booting), (GLB_MODE.ORPHAN, s.rd GLB_TWIN_STAT.ORPHAN),
             (GLB_MODE.LAST_CAUSE, s.glb.lastCause), (GLB_MODE.PREV_MODE, s.glb.prevMode.code)]
  | 0x812C => [(STU_TICK_NUM.N, s.tickNum)]
  | 0x8160 => [(STU_RTC_SEC.SEC, s.rtcNs / 1000000000)]
  | 0x10020 => [(ALP_LIMIT.ENTRY_MAX, s.entryMax), (ALP_LIMIT.ENABLED, (s.con.table.filter (fun p => p.2.enabled)).length)]
  | 0x10130 => [(ALP_MIG_STAT.SLOTS, maskOf (s.con.migs.map (fun m => m.slot)))]
  | 0x10024 => [(ALP_DEADLINE.D, deadlineOf s.tickUs)]
  | 0x3001C => [(⟨0x3001C, 0, 4⟩, maskOf ((List.range 4).filter (fun k => (s.cv k).state == .running))),
                (⟨0x3001C, 4, 4⟩, maskOf ((List.range 4).filter (fun k => (s.cv k).state == .latched))),
                (⟨0x3001C, 8, 1⟩, b2n s.allOff)]
  | 0x40100 => [(KVT_STAT.ROOT_OK, b2n s.kvt.rootOk), (KVT_STAT.ENROLLED, b2n s.kvt.helper.isSome),
                (KVT_STAT.METER_LOADED, b2n s.kvt.key.isSome), (KVT_STAT.ROLL_PENDING, b2n s.kvt.pend.isSome),
                (KVT_STAT.UNBOUND, b2n s.kvt.unbound), (KVT_STAT.ROOT_TRIES, s.kvt.tries), (KVT_STAT.GEN, s.keyGen)]
  | 0x40104 => [(KVT_PEND.GEN, match s.kvt.pend with | none => 0 | some p => p.gen)]
  | 0x64018 => [(SFI_PDATA.DATA, s.pdata)]
  | 0x6402C => [(SFI_PWD_STAT.LOCK_LEFT, s.lockLeft)]
  | 0x64034 => [(SFI_LOG_DATA.DATA, nth (nth s.sfi.chlog (s.rd SFI_LOG_IDX.ENTRY) []) (s.rd SFI_LOG_IDX.WORD) 0)]
  | 0x78008 => [(HIF_POOL_STAT.FREE, 1024 - s.inFlight), (HIF_POOL_STAT.LOW, s.hif.poolLow)]
  | 0x78020 => [(HIF_RING_RUN0.RUN, maskOf ((List.range 32).filter (fun r => (s.ring r).run)))]
  | 0x78024 => [(HIF_RING_RUN1.RUN, maskOf ((List.range 32).filter (fun r => (s.ring (32 + r)).run)))]
  | 0x78028 => [(HIF_RING_HALT0.HALT, maskOf ((List.range 32).filter (fun r => (s.ring r).halted)))]
  | 0x7802C => [(HIF_RING_HALT1.HALT, maskOf ((List.range 32).filter (fun r => (s.ring (32 + r)).halted)))]
  | _ =>
    if 0x18040 ≤ off && off < 0x18070 then [(LCH_DELAY.AGE ((off - 0x18040) / 4), s.delayAge ((off - 0x18040) / 4))]
    else if 0x30100 ≤ off && off < 0x30300 && off % 0x80 = 0x48 then [(⟨off, 0, 20⟩, s.cceStat ((off - 0x30100) / 0x80))]
    else if 0x39000 ≤ off && off < 0x39480 && off % 0x10 = 0 then
      let c := (off - 0x39000) / 0x10
      (match kindFixed c with | some k => [(MTE_CH_CFG.KIND c, b2n k)] | none => [])
    else if 0x50000 ≤ off && off < 0x56000 && off % 0x400 = 0x24 then
      let p := (off - 0x50000) / 0x400
      [(PLU_SESS.COOL_LEFT p, match (s.port p).coolEnd with | none => 0 | some t => divUp (t - s.now) 1000000000)]
    else if 0x50000 ≤ off && off < 0x56000 && off % 0x400 = 0x2C then
      let p := (off - 0x50000) / 0x400
      [(PLU_VIOL.B_WIN p, min 255 ((s.port p).bTimes.filter (fun t => s.now < t + 60000000000)).length)]
    else if 0x70100 ≤ off && off < 0x70280 && off % 0x10 = 0x8 then
      let n := (off - 0x70100) / 0x10
      [(LSB_CH_STAT.I n, if (s.lsw n).on then Config.switchAmps n s.now % 2 ^ 16 else 0)]
    else if 0x78100 ≤ off && off < 0x78900 then
      let x := s.ring ((off - 0x78100) / 0x20)
      match off % 0x20 with
      | 0x14 => [(⟨off, 0, 16⟩, x.stateWord), (⟨off, 16, 11⟩, x.flights.length)]
      | 0x18 => [(⟨off, 0, 32⟩, x.head)]
      | 0x1C => [(⟨off, 0, 32⟩, x.oldest)]
      | _ => []
    else []

/-- The word a register shows: absent entities read 0 on a PH4812, but for DLC_CTL_Dd.LP (spec/00 R4, spec/07 R175). -/
def State.shown (s : State) (off : Nat) : Nat :=
  let x := (s.liveFields off).foldl (fun a p => putBits a p.1.lo p.1.w p.2) (s.reg off)
  if s.grade = .ph4812 then
    if off = 0x28000 || off = 0x28040 then 3
    else if (absentReg off).isSome then 0
    else clearBits x (absentBits off).1
  else x

/-- The bytes a host read of `k` bytes at `off` returns; an unassigned offset reads 0, and WO fields read 0 (R9, R10). -/
def State.readReg (s : State) (off k : Nat) : List Nat :=
  let w := off / 4 * 4
  if 0x7F000 ≤ w && w < 0x7F010 then
    ((leBytes 4 (if w = 0x7F00C then b2n s.hif.vecMask else s.reg w)).drop (off % 4)).take k
  else if w = 0x7F800 then ((leBytes 4 (b2n s.hif.msixPend)).drop (off % 4)).take k
  else match regFind w with
  | none => List.replicate k 0
  | some r =>
    let hidden := (r.fields.filter (fun f => f.acc == .wo)).foldl (fun a f => a ||| f.mask) 0
    ((leBytes 4 (clearBits (s.shown w) hidden)).drop (off % 4)).take k

/-- Groups of output pins (spec/18 R435); a CAN transmitter by its controller. -/
inductive PinGroup where
  | mclk | pwm | cpPwm | phy | canTx (n : Nat) | ppsOut | vaonStatus | encoderClk | safeOut | testPulse | loadSwitch | serialPair
  deriving DecidableEq, Repr

/-- What drives a pin: nothing, its off or low state, or the function of its block. -/
inductive PinState where
  | highZ | off | driven
  deriving DecidableEq, Repr

/-- State of the pins of a group: in reset or in a power-order hold as the table of spec/18 R435 gives it, else as their block
drives them. -/
def State.pinState (s : State) (g : PinGroup) : PinState :=
  if s.mainUp then .driven
  else match g with
  | .mclk => if s.glb.holds.order then .highZ else .off
  | .vaonStatus | .encoderClk | .testPulse => .driven
  | .canTx 5 => if s.glb.holds.order then .highZ else .driven
  | .safeOut | .loadSwitch => if s.glb.holds.order then .off else .driven
  | .pwm | .cpPwm | .phy | .canTx _ | .ppsOut | .serialPair => .highZ

/-- CANn_STB is high: the controller sleeps (spec/13 R316). -/
def State.canStb (s : State) (n : Nat) : Bool := s.flag (CAN_STAT.SLEEP n)

/-- How the HIF answers a PCI Express configuration request (spec/02 R45). -/
inductive CfgAnswer where
  /-- nothing answers: the main domains are in reset -/
  | silent
  /-- Configuration Request Retry Status -/
  | retry
  /-- the request is served -/
  | served
  deriving DecidableEq, Repr

/-- Until BOOTING clears, a configuration request is answered with Configuration Request Retry Status (spec/02 R45). -/
def State.configAnswer (s : State) : CfgAnswer :=
  if !s.mainUp then .silent else if s.glb.booting then .retry else .served

end Sys2Proof.Machine
end

