-- ==== Sys2Proof/Machine/HostWrite.lean ====
section
/-!
DEFINITION. A host write of a set-up register (spec/00 R4, R9, R10, R445, spec/17 "Set-up register map"): the access codes of its
fields, the ranges of their values, and what a write of a field that acts does.
-/
namespace Sys2Proof.Machine

/-! ### Ranges and access codes -/

/-- Field `f` of the register at `off` takes the value `w`, the whole written value being `v` (the ranges of the register
tables; "a write outside a field's range leaves the field unchanged"). -/
def State.inRange (s : State) (off v : Nat) (f : FieldDef) (w : Nat) : Bool :=
  match f.rng with
  | .any => true
  | .le lo hi => lo ≤ w && w ≤ hi
  | .sle m => decide ((sx f.w w).natAbs ≤ m)
  | .pairAge => 1 ≤ v % 256 && v % 256 ≤ 16 && v % 256 + 1 ≤ v / 256 % 256 && v / 256 % 256 ≤ 64
  | .divisor => 60 ≤ w && w ≤ 3600 && 3600 % w == 0
  | .kind => 0x39380 ≤ off && off < 0x39400
  | .delay => decide ((sx f.w w).natAbs ≤ (if 0x3E000 ≤ off then 5000 else 10000))
  | .uMax => s.rd SEE_UNC_CFG.U_WARN ≤ w && w ≤ 5000
  | .input => 56 ≤ w
  | .temp => w < 96 || w == 0x7F
  | .band => decide (sx 16 (v % 65536) ≤ sx 16 (v / 65536))

/-- The places of a field. -/
def FieldDef.fld (f : FieldDef) (off : Nat) : Fld := ⟨off, f.lo, f.w⟩

/-- What a written value holds for a field. -/
def FieldDef.part (f : FieldDef) (v : Nat) : Nat := v / 2 ^ f.lo % 2 ^ f.w

/-- A field that keeps what is written takes its part of `v`. -/
def State.storeField (s : State) (off v : Nat) (f : FieldDef) : State :=
  if s.inRange off v f (f.part v) then s.wr (f.fld off) (f.part v) else s

/-- The RWS fields of a register: set in COMMISSION; outside it kept, a write that differs in one of them logged once with the
whole written value `raw` (R9, R445). -/
def State.writeSealed (s : State) (r : RegDef) (off v raw : Nat) : State :=
  let l := r.fields.filter (fun f => f.acc == .rws)
  if s.glb.mode = .commission then l.foldl (fun (a : State) f => a.storeField off v f) s
  else if l.any (fun f => f.part v != f.part (s.shown off)) then s.ev 0x0141 0 off raw
  else s

/-- The RW and W1C fields of a register (R9). -/
def State.writeOpen (s : State) (r : RegDef) (off v : Nat) : State :=
  r.fields.foldl (fun (a : State) f => match f.acc with
    | .rw => a.storeField off v f
    | .w1c => a.wr (f.fld off) (clearBits (a.rd (f.fld off)) (f.part v))
    | _ => a) s

/-! ### Registers with fields that act -/

/-- A GLB_MODE_REQ write (spec/02 R39 to R41, R46). -/
def State.modeReq (s : State) (v : Nat) : State :=
  let cold := v.testBit 3
  s.request (v % 8) (v / 2 ^ 24 % 256) fun a => match v % 8 with
    | 0 => a.requestDormant
    | 1 => a.requestCommission
    | 2 => a.requestRun .active cold
    | 3 => (a.requestRun .shadow cold).twinWatch
    | 4 => a.requestLimp
    | 5 => a.requestHalt
    | t => a.refuseMode t 0x09

/-- The lane whose CLC_CTL or DLC_CTL lies at an offset (spec/07 R174). -/
def ctlLane (off : Nat) : Option Nat :=
  if 0x20000 ≤ off && off < 0x20300 && off % 0x40 = 0 then some ((off - 0x20000) / 0x40)
  else if 0x28000 ≤ off && off < 0x28080 && off % 0x40 = 0 then some (12 + (off - 0x28000) / 0x40)
  else none

/-- LP and RETRAIN of a lane (spec/07 R160, R170, R174). -/
def State.writeLaneCtl (s : State) (l v : Nat) : State :=
  s.laneCtl l fun a =>
    let b := match v % 4 with | 0 => a.lpUp l | 3 => a.lpOff l | t => a.lpLow l t
    if v.testBit 2 then b.laneDown l 5 3 else b

/-- CONNECT and UNLATCH of a converter (spec/08 R188, R190, R196). -/
def State.writeCceCtl (s : State) (k v : Nat) : State :=
  let a := if v.testBit 0 then s.connectCv k else s.disconnectCv k
  if v.testBit 1 then a.unlatchCv k else a

/-- REC_REQ and SLEEP of a controller (spec/13 R316, R321, R326). -/
def State.writeCanCtl (s : State) (n v : Nat) : State :=
  let a := if v.testBit 4 then s.canRecReq n else s
  if v.testBit 5 then
    let b := a.wr (CAN_CTL.SLEEP n) 1
    if b.flag (CAN_STAT.SLEEP n) then b else b.canSleep n
  else if a.flag (CAN_CTL.SLEEP n) then (a.wr (CAN_CTL.SLEEP n) 0).canAwake n
  else a

/-- Objects 120 to 127 of CAN0 or CAN1 belong to the Rind: a connection is mirrored there (spec/13 R322, spec/14 R352). -/
def State.mirrorsOn (s : State) (n : Nat) : Bool :=
  (List.range 8).any (fun c => s.connRole c != 0 && s.par (0x40C + 16 * c) 1 == n + 1)

/-- Registers of the CAN window that are read-only to the host or absent: the group of CAN5 (spec/13 R323), the objects of a
mirror controller that the Rind holds (R322), and the wake registers but for CAN2 and CAN4 (R326). -/
def State.canClosed (s : State) (off : Nat) : Bool :=
  let n := (off - 0x58000) / 0x1000
  let a := (off - 0x58000) % 0x1000
  n == 5 || (n < 2 && 0xF80 ≤ a && s.mirrorsOn n) || (n != 2 && n != 4 && 0x20 ≤ a && a ≤ 0x28)

/-- A write in the CAN window. -/
def State.writeCan (s : State) (r : RegDef) (off v raw : Nat) : State :=
  let n := (off - 0x58000) / 0x1000
  let a := (off - 0x58000) % 0x1000
  if s.canClosed off then s
  else if a = 0 then (s.writeSealed r off v raw).writeCanCtl n v
  else if a = 0x50 then (if v.testBit 0 then s.canClear n else s)
  else (s.writeSealed r off v raw).writeOpen r off v

/-- A write in a ring's register group (spec/17 R420, R428). -/
def State.writeRing (s : State) (r : RegDef) (off v : Nat) : State :=
  let n := (off - 0x78100) / 0x20
  match off % 0x20 with
  | 0x10 => if v.testBit 4 then s.enableRing n v else s.ringOff n v
  | 0x00 => if s.flag (HIF_RING_CFG.EN n) then s else s.writeOpen r off (v / 4096 * 4096)
  | 0x08 => if s.flag (HIF_RING_CFG.EN n) then s else s.writeOpen r off (v / 64 * 64)
  | _ => if s.flag (HIF_RING_CFG.EN n) then s else s.writeOpen r off v

/-- HIF_ATTN_EN: the message goes out when the enabled causes change from none to some (spec/17 R424). -/
def State.writeAttnEn (s : State) (v : Nat) : State :=
  let s1 := s.wr HIF_ATTN_EN.EN v
  if s.attnActive = 0 && s1.attnActive != 0 then s1.message else s1

/-- GLB_PORT_EN: what has started on the rings of a port that becomes disabled completes (spec/17 R414); SLAC is armed on enabled ports
only (spec/12 R287). -/
def State.portsChanged (s old : State) : State :=
  (List.range 24).foldl (fun (a : State) p =>
    (if old.portOn p && !a.portOn p then a.portDisabled p else a).slacArm p) s

/-- A write of a register that has no row of its own, and no field that acts. A THM_CH_CFG.TARGET value that names a port, block or
string absent on a PH4812 is stored as any other value: the register exists and R4 speaks of registers and bits of absent entities
(DESIGN CHOICE, log entry 130). -/
def State.writePlain (s : State) (r : RegDef) (off v raw : Nat) : State :=
  let s1 := (s.writeSealed r off v raw).writeOpen r off v
  match off with
  | 0x14 => s1.portsChanged s
  | 0x8124 => if s1.reg 0x8124 = s.reg 0x8124 then s1 else s1.retick
  | 0x8128 => if s1.reg 0x8128 = s.reg 0x8128 then s1 else s1.retick
  | 0x8140 => if s1.reg 0x8140 = s.reg 0x8140 then s1 else s1.selectSource
  | 0x40000 => s1.showJrnl
  | 0x64014 => s1.wr SFI_PADDR.ADDR (v / 4 * 4)
  | _ =>
    if 0x50000 ≤ off && off < 0x56000 && off % 0x400 = 0 then
      let p := (off - 0x50000) / 0x400
      if s1.ccs p == s.ccs p then s1 else s1.typeChanged p
    else s1

/-- A write of the register `r` at `off`, bits of absent entities taken out of `v`; `raw` is the value as written. -/
def State.writeReg (s : State) (r : RegDef) (off v raw : Nat) : State :=
  match off with
  | 0x44 => s.modeReq v
  | 0x54 => s.kick.twinWatch
  | 0x58 => s.swrst v
  | 0x204 => s.resync v
  | 0x8118 => s.setTime v
  | 0x8120 => s.writeTickLen v
  | 0x8154 => s.armLabel v
  | 0x10018 =>
    let a := if v.testBit 0 then s.clearStages else s
    let b := if v.testBit 1 then a.clearAlpCounts else a
    if v.testBit 2 then b.restartWhey else b
  | 0x18028 => if v.testBit 0 then s.clearLch else s
  | 0x20404 => if v.testBit 0 then s.clearClc else s
  | 0x28404 => if v.testBit 0 then s.clearDlc else s
  | 0x30018 =>
    let a := if v.testBit 0 then s.clearCcePeaks else s
    if v.testBit 1 then a.clearCceCounts else a
  | 0x48008 => s.seeCommit v
  | 0x64010 => s.setPassword v
  | 0x64018 => s.pdataWrite v
  | 0x6401C => s.cvReq v
  | 0x64024 => s.confirm v
  | 0x68860 => if v.testBit 0 then s.clearDiePeaks else s
  | 0x70000 => s.hostLsbOn (v % 2 ^ 24)
  | 0x70004 => s.hostLsbOn (s.rd LSB_ON.ON ||| v % 2 ^ 24)
  | 0x70008 => s.hostLsbOn (clearBits (s.rd LSB_ON.ON) (v % 2 ^ 24))
  | 0x70014 => s.unlockLsb (v % 2 ^ 24)
  | 0x7001C => if v.testBit 0 then s.clearLsbCounts else s
  | 0x78000 => s.attnWrite v
  | 0x78004 => s.writeAttnEn v
  | 0x78018 => if v.testBit 0 then s.hifClear else s
  | _ =>
    match ctlLane off with
    | some l => (s.writeSealed r off v raw).writeLaneCtl l v
    | none =>
      if 0x30144 ≤ off && off < 0x30300 && off % 0x80 = 0x44 then s.writeCceCtl ((off - 0x30100) / 0x80) v
      else if 0x50000 ≤ off && off < 0x56000 && off % 0x400 = 0x18 then s.pilotControl ((off - 0x50000) / 0x400) v
      else if 0x50000 ≤ off && off < 0x56000 && off % 0x400 = 0x50 then
        (if v.testBit 0 then s.pluClear ((off - 0x50000) / 0x400) else s)
      else if 0x58000 ≤ off && off < 0x5E000 then s.writeCan r off v raw
      else if 0x64000 ≤ off && off < 0x64010 then
        { s with sfi := { s.sfi with pwd := tset (fun _ => 0) s.sfi.pwd ((off - 0x64000) / 4) v } }
      else if 0x78100 ≤ off && off < 0x78900 then s.writeRing r off v
      else s.writePlain r off v raw

/-- A write of the MSI-X table: address, data, and vector control with its mask bit (spec/17 R424, R428; log entry 7). -/
def State.writeMsix (s : State) (off v : Nat) : State :=
  if off = 0x7F00C then s.msixVec (v.testBit 0) else s.wr ⟨off, 0, 32⟩ (if off = 0x7F000 then v / 4 * 4 else v)

/-- A host write of `size` bytes at BAR0 offset `off`: only an aligned 32-bit write counts (R9), an unassigned offset ignores it
(R10), and a PH4812 ignores what belongs to an absent entity (R4). -/
def State.hostWrite (s : State) (off size v : Nat) : State :=
  if size ≠ 4 || off % 4 ≠ 0 then s
  else if 0x7F000 ≤ off && off < 0x7F010 then s.writeMsix off v
  else match regFind off with
    | none => s
    | some r =>
      if 0x10300 ≤ off && off < 0x10400 then s.writeGroup ((off - 0x10300) / 4) v
      else match (if s.grade = .ph4812 then absentReg off else none) with
        | some e => s.gradeLimit e off
        | none =>
          let (s1, w) := s.gradeCut off v
          s1.writeReg r off (if s.grade = .ph4812 && off = 0x10 then w / 4 * 4 else w) v

open Host (Outcome)

/-- The frame or buffer of a descriptor leaves a port's queues. -/
def Plu.dropDesc (x : Plu) (r idx : Nat) : Plu :=
  { x with rx := x.rx.filter (fun w => !(w.1 == r && w.2.1 == idx)), tx := x.tx.filter (fun w => !(w.1 == r && w.2.1 == idx)) }

/-- What runs or waits on behalf of descriptor `idx` of ring r ends, and what waited for its place starts (spec/17 R413). -/
def State.dropJob (s : State) (r idx : Nat) : State :=
  let mine (a b : Nat) : Bool := a == r && b == idx
  let s1 := { s with
    hif := { s.hif with evWaits := s.hif.evWaits.filter (fun w => !mine w.ring w.idx) }
    cans := { s.cans with rx := s.cans.rx.filter (fun w => !mine w.1 w.2.1) }
    alp := { s.alp with captures := s.alp.captures.filter (fun c => !mine c.ring c.idx) }
    mte := { s.mte with caps := s.mte.caps.filter (fun j => !mine j.ring j.idx), capWait := s.mte.capWait.filter (fun j => !mine j.ring j.idx) }
    link := { s.link with scans := s.link.scans.filter (fun c => !mine c.ring c.idx), scanWait := s.link.scanWait.filter (fun c => !mine c.ring c.idx) }
    plu := { s.plu with ports := (s.plu.ports.map (fun (x : Nat × Plu) => (x.1, x.2.dropDesc r idx))).filter (fun (x : Nat × Plu) => x.2 ≠ Plu.reset) } }
  s1.nextScan.nextMcap

/-- HOST_ACCESS_FAILURE: 0 input data, 1 result: the descriptor ends, and what it ran with it (R413); 2 descriptor fetch, 3 status,
RESULT or shadow write (R422). -/
def execHostAccessFailure (d : DescRef) (kind : Fin 4) (s : State) : Outcome State Fault Refusal :=
  let tag := match s.flight d.ring.val d.idx.toNat with | none => 0 | some f => f.tag
  .next (if !s.up then s
    else if kind.val ≤ 1 then (s.fail d 0x0003).dropJob d.ring.val d.idx.toNat
    else if (s.ring d.ring.val).run then s.haltRing d.ring.val (kind.val + 1) d.idx.toNat tag else s)

/-- REGISTER_WRITE (R4, R9, R10, R445). -/
def execRegisterWrite (off : BitVec 20) (size : Nat) (v : BitVec 32) (s : State) : Outcome State Fault Refusal :=
  .next (if s.up then s.hostWrite off.toNat size v.toNat else s)

end Sys2Proof.Machine
end

