-- ==== Sys2Proof/Machine/Tick.lean ====
section
/-!
DEFINITION. The tick (spec/03 R62, spec/04 R71 to R85): the strobe at a boundary, Gather, the pipeline, and the repeat curd of a
tick that overruns, at its deadline.
-/
namespace Sys2Proof.Machine

/-! ### Gather (R75, R88, spec/01 R11) -/

/-- The caps the Rind published before t_N; none: all zero. -/
def State.capsAt (s : State) (tN : Nat) : Caps :=
  match mailBefore s.alp.inCaps tN with
  | none => { ports := [], strings := [], safeOff := 0 }
  | some c => c.2

/-- The record of port p. -/
def State.gatherPort (s : State) (tN p : Nat) : PortRec :=
  if !s.portOn p then PortRec.zero
  else
    let q := mailBefore (tget (fun _ => []) s.alp.inReq p) tN
    let m := mailBefore (tget (fun _ => []) s.alp.inPort p) tN
    let c := nth (s.capsAt tN).ports p (0, 0, false, false)
    let prev := s.prevPort p
    { reqI := match q with | none => 0 | some x => x.2.i
      reqV := match q with | none => 0 | some x => x.2.v
      reqP := match q with | none => 0 | some x => x.2.p
      reqT := match q with | none => 0 | some x => x.1
      measV := match m with | none => 0 | some x => x.2.v
      measI := match m with | none => 0 | some x => x.2.i
      measT := match m with | none => 0 | some x => x.1
      capI := c.1, capV := c.2.1, exportOk := c.2.2.1, tripped := c.2.2.2, session := s.sessionAt tN p, prevI := prev.i, prevP := prev.p,
      subReq := false, subV := false, subI := false, subCaps := false }

/-- The record of block b; one that never reported is absent with no closed path. -/
def State.gatherBlock (s : State) (tN b : Nat) : BlockRec :=
  if !s.blockOn b then BlockRec.zero
  else
    let prev := (s.prevBlock b).i
    match mailBefore (tget (fun _ => []) s.alp.inBlock b) tN with
    | none => { BlockRec.zero with path := 0xFF, prevI := prev }
    | some (t, x) => { state := x.state, path := x.path, frozen := false, dropped := false, availP := x.availP, outI := x.outI,
                       outV := x.outV, t := t, temp := x.temp, prevI := prev }

/-- The record of string i (spec/11 R266). -/
def State.gatherString (s : State) (n tN i : Nat) : StrRec :=
  if !s.stringOn i then StrRec.zero
  else
    let c := nth (s.capsAt tN).strings i (0, false)
    s.stringRec n i c.1 c.2

/-- The record of converter k (spec/08 R193). -/
def State.gatherConv (s : State) (tN k : Nat) : ConvRec :=
  if !s.convOn k then ConvRec.zero
  else
    let base : ConvRec := { ConvRec.zero with state := (s.cv k).state.code, phases := (s.cv k).act.length, prevRef := (s.prevConv k).ref }
    match mailBefore (tget (fun _ => []) s.alp.inConv k) tN with
    | none => base
    | some (t, x) => { base with batV := x.batV, batI := x.batI, p := x.p, t := t }

/-- The value of an AC point with its stamp. -/
def State.gatherAc (s : State) (tN g : Nat) : Int × Nat :=
  if !s.acOn g then (0, 0)
  else match mailBefore (tget (fun _ => []) s.alp.inAc g) tN with | none => (0, 0) | some (t, v) => (v, t)

/-- The auxiliary residual, W, rounded toward zero, from exact products; AUX_FB where it is fixed or G0 is not in use (R75). -/
def State.auxResidual (s : State) (g0 : Int) (ports : List PortRec) (convs : List ConvRec) : Int :=
  let pv := sumI (((List.range 24).filter s.portOn).map (fun p => let r := nth ports p PortRec.zero; r.measV * r.measI))
  if s.auxFixed then (s.rd ALP_AUX_FB.AUX_FB : Nat)
  else divZ ((g0 + sumI (convs.map (fun (r : ConvRec) => r.p))) * 1000000 - pv) 1000000

/-- Gather: the snapshot record of tick n (R75, R88). -/
def State.gather (s : State) (n : Nat) : Snap :=
  let tN := s.tickAt n
  let g0 := s.gatherAc tN 0
  let g1 := s.gatherAc tN 1
  let ports := (List.range 24).map (s.gatherPort tN)
  let convs := (List.range 4).map (s.gatherConv tN)
  { tick := n, tN := tN, strobe := s.siteNs, claim := s.claim, entries := s.enabledEntries, mode := s.glb.mode.code, substCount := 0,
    g0 := g0.1, g1 := g1.1, g0T := g0.2, g1T := g1.2, aux := s.auxResidual g0.1 ports convs,
    subG0 := false, subG1 := false, subAux := false, subCaps := false,
    prevGrid := match s.lastCurd with | none => 0 | some c => c.pGrid
    ports := ports, blocks := (List.range 48).map (s.gatherBlock tN), strings := (List.range 16).map (s.gatherString n tN),
    convs := convs,
    slow := (List.range 16).map (fun j =>
      if !s.flag (LCH_CAN_SLOT.EN j) then (0, false)
      else match mailBefore (tget (fun _ => []) s.alp.inSlow j) tN with | none => (0, false) | some x => (x.2, false)) }

/-! ### The strobe -/

/-- Trigger 4 counts the ticks in which no endpoint reports the leading unit's claim (spec/16 R398). -/
def State.countSilent (s : State) : State :=
  if s.glb.mode ≠ .shadow then s
  else
    let lead := s.rd GLB_TWIN_PEER_CLAIM.CLAIM
    let heard := s.freshLanes.any (fun (x : Nat × Nat × Nat) => x.2.1 == lead && !bit x.2.2 1 && !bit x.2.2 2)
    { s with twin := { s.twin with silent := if heard then 0 else s.twin.silent + 1 } }

/-- Changes of SESSION that every later snapshot sees are no longer kept apart. -/
def State.forgetSess (s : State) (tN : Nat) : State :=
  { s with alp := { s.alp with lateSess := s.alp.lateSess.filter (fun x => tN ≤ x.1) } }

/-- What happens at the boundary t_n before the stages run: the window of tick n−1 closes, a pending LIMP entry takes effect,
the Press publishes, the guard's class C decisions take effect, snapshot n is frozen on the table as it stood before t_n, and the
claims reported are judged
(R62, R74, R75; spec/06 R147; spec/08 R193; spec/12 R298; spec/16 R386, R388, R398, R400). -/
def State.strobe (s : State) : State × Snap :=
  let n := s.stu.nextTick
  let s1 := (((s.waitSite (s.tickAt n)).takeHeld).closeWindow n).startCopy n
  let s2 := ({ s1 with stu := { s1.stu with nextTick := n + 1 } }).limpNow
  let s3 := ((s2.pressPublish).guardStrobe n (s2.tickAt n)).hideLate (s2.tickAt n)
  let g := s3.gather n
  (((s3.noteClaims (s2.tickAt n)).demoteCheck.countSilent).forgetSess (s2.tickAt n), g)

/-- The slow-load slots in use. -/
def State.slots (s : State) : List Nat := (List.range 16).filter (fun j => s.flag (LCH_CAN_SLOT.EN j))

/-- The stages of a tick. In SHADOW what the own stages change in the replicated tables is not kept: deltas bring it
(spec/16 R385, R387; log entry 65). -/
def State.stages (s : State) (g : Snap) (times : List Nat) : State :=
  let s1 := s.pipeline g s.slots times
  if s.glb.mode = .shadow then
    { s1 with con := { s1.con with
        table := s.con.table, staged := s.con.staged, migs := s.con.migs, lastRest := s.con.lastRest, late := s.con.late } }
  else s1

/-- A tick that completes (R71). -/
def State.tick (s : State) (times : List Nat) : State :=
  let (s1, g) := s.strobe
  (((s1.stages g times).showLate).twinAfterSeal g.tick).twinWatch

/-- A boundary passes while the Churn does not run: no snapshot, no curd, no heartbeat (R74); the Press closes its averaging window
(spec/08 R193). -/
def State.passBoundary (s : State) : State :=
  let n := s.stu.nextTick
  let s1 := (s.waitSite (s.tickAt n)).pressPublish
  { s1.forgetSess (s.tickAt n) with stu := { s1.stu with nextTick := n + 1 }
                                    con := { s1.con with late := s1.con.late.filter (fun x => s.tickAt n ≤ x.1) } }

/-- The event of a tick that overruns, or is hit by an uncorrectable memory error: the tick and the stage, or the entity and what
was hit (R83, R85, R93). -/
def State.overrunEvent (s : State) (tick stage cycles : Nat) (mem : Option (BitVec 16 × Fin 3)) : State :=
  match mem with
  | none => s.ev 0x0301 0 (low 32 tick) (stage + 65536 * cycles)
  | some m => s.ev 0x0302 m.1.toNat (low 32 tick) m.2.val

/-- A tick that overruns, or is hit by an uncorrectable memory error (R83 to R85, R93). Its stages leave no trace but the snapshot
gathered (log entry 66). -/
def State.overrun (s : State) (stage cycles : Nat) (mem : Option (BitVec 16 × Fin 3)) : State :=
  let a := s.strobe
  let s2 := (a.1.storeSnap a.2).waitSite (a.2.tN + deadlineOf s.tickUs * 10 / 3)
  ((s2.overrunEvent a.2.tick stage cycles mem).repeatCurd a.2 (mem.any (fun m => m.2.val == 2))).showLate.afterOverrun.twinWatch

open Host (Outcome)

/-- TICK_STROBE. -/
def execTickStrobe (stages : List Nat) (s : State) : Outcome State Fault Refusal :=
  .next (if !s.up then s else if s.glb.mode.running then s.tick stages else s.passBoundary)

/-- PIPELINE_OVERRUN: the next boundary's tick is strobed and abandoned. -/
def execPipelineOverrun (stage : Fin 8) (cycles : BitVec 16) (mem : Option (BitVec 16 × Fin 3)) (s : State) :
    Outcome State Fault Refusal :=
  .next (if s.up && s.glb.mode.running then s.overrun stage.val cycles.toNat mem else s)

end Sys2Proof.Machine
end

