-- ==== Sys2Proof/Machine/Dispatch.lean ====
section
/-! DEFINITION. The dispatch of every command to its meaning: one arm per constructor of Instr, in the order of
spec/opcode_table.json. -/
namespace Sys2Proof.Machine

open Host (Outcome)

/-- The effect of a command on everything but the queue. -/
def exec (i : Instr) (s : State) : Host.Outcome State Fault Refusal :=
  match i with
  | .registerWrite off size v => Sys2Proof.Machine.execRegisterWrite off size v s
  | .supplyRise sup good => Sys2Proof.Machine.execSupplyRise sup good s
  | .supplyFall sup belowOff => Sys2Proof.Machine.execSupplyFall sup belowOff s
  | .sequenceWindowExpire => Sys2Proof.Machine.execSequenceWindowExpire s
  | .pwrEnReassert => Sys2Proof.Machine.execPwrEnReassert s
  | .brownoutWarning => Sys2Proof.Machine.execBrownoutWarning s
  | .brownoutRideExpire => Sys2Proof.Machine.execBrownoutRideExpire s
  | .brownoutRecovered below => Sys2Proof.Machine.execBrownoutRecovered below s
  | .brownoutReset => Sys2Proof.Machine.execBrownoutReset s
  | .resetNAssert => Sys2Proof.Machine.execResetNAssert s
  | .resetNRelease => Sys2Proof.Machine.execResetNRelease s
  | .resetNStuck => Sys2Proof.Machine.execResetNStuck s
  | .twinAliveLatch => Sys2Proof.Machine.execTwinAliveLatch s
  | .bootComplete rootTries badBits meas bad => Sys2Proof.Machine.execBootComplete rootTries badBits meas s bad
  | .rindSelftestComplete => Sys2Proof.Machine.execRindSelftestComplete s
  | .glbSwrst v => Sys2Proof.Machine.execGlbSwrst v s
  | .modeReqDormant key => Sys2Proof.Machine.execModeReqDormant key s
  | .modeReqCommission key => Sys2Proof.Machine.execModeReqCommission key s
  | .modeReqActive key seeCold => Sys2Proof.Machine.execModeReqActive key seeCold s
  | .modeReqShadow key seeCold => Sys2Proof.Machine.execModeReqShadow key seeCold s
  | .modeReqLimp key => Sys2Proof.Machine.execModeReqLimp key s
  | .modeReqHalt key => Sys2Proof.Machine.execModeReqHalt key s
  | .limpEntry => Sys2Proof.Machine.execLimpEntry s
  | .hostKick v => Sys2Proof.Machine.execHostKick v s
  | .hostWatchdogExpire => Sys2Proof.Machine.execHostWatchdogExpire s
  | .wakeInEdge => Sys2Proof.Machine.execWakeInEdge s
  | .rtcAlarm => Sys2Proof.Machine.execRtcAlarm s
  | .canWake can4 frame => Sys2Proof.Machine.execCanWake can4 frame s
  | .pwrEnOff => Sys2Proof.Machine.execPwrEnOff s
  | .refLoss => Sys2Proof.Machine.execRefLoss s
  | .pllUnlock memory => Sys2Proof.Machine.execPllUnlock memory s
  | .refRestored => Sys2Proof.Machine.execRefRestored s
  | .serialPllUnlock dreak => Sys2Proof.Machine.execSerialPllUnlock dreak s
  | .safCheckWindow count => Sys2Proof.Machine.execSafCheckWindow count s
  | .stuSetCmd v => Sys2Proof.Machine.execStuSetCmd v s
  | .timeLatchRead => Sys2Proof.Machine.execTimeLatchRead s
  | .ppsLabelArm v => Sys2Proof.Machine.execPpsLabelArm v s
  | .ppsEdge => Sys2Proof.Machine.execPpsEdge s
  | .ppsLoss => Sys2Proof.Machine.execPpsLoss s
  | .ref10mMeasurement devPpb => Sys2Proof.Machine.execRef10mMeasurement devPpb s
  | .ref10mLoss => Sys2Proof.Machine.execRef10mLoss s
  | .hostOffsetLoss => Sys2Proof.Machine.execHostOffsetLoss s
  | .timeOffset d offset measuredAt => Sys2Proof.Machine.execTimeOffset d offset measuredAt s
  | .rtcAlign => Sys2Proof.Machine.execRtcAlign s
  | .ppsOutRise => Sys2Proof.Machine.execPpsOutRise s
  | .ppsOutFall => Sys2Proof.Machine.execPpsOutFall s
  | .tickStrobe stages => Sys2Proof.Machine.execTickStrobe stages s
  | .pipelineOverrun stage cycles mem => Sys2Proof.Machine.execPipelineOverrun stage cycles mem s
  | .tickLenWrite v => Sys2Proof.Machine.execTickLenWrite v s
  | .alpClrStage => Sys2Proof.Machine.execAlpClrStage s
  | .alpClrCounts => Sys2Proof.Machine.execAlpClrCounts s
  | .alpClrWhey => Sys2Proof.Machine.execAlpClrWhey s
  | .capture d first count kind addr len => Sys2Proof.Machine.execCapture d first count kind addr len s
  | .captureComplete => Sys2Proof.Machine.execCaptureComplete s
  | .constraintWriteEnable d index argOk e => Sys2Proof.Machine.execConstraintWriteEnable d index argOk e s
  | .constraintDisable d index argOk => Sys2Proof.Machine.execConstraintDisable d index argOk s
  | .constraintStage d index argOk e => Sys2Proof.Machine.execConstraintStage d index argOk e s
  | .constraintCommit d argOk => Sys2Proof.Machine.execConstraintCommit d argOk s
  | .constraintDiscard d argOk => Sys2Proof.Machine.execConstraintDiscard d argOk s
  | .constraintRead d index argOk addr => Sys2Proof.Machine.execConstraintRead d index argOk addr s
  | .groupWrite n v => Sys2Proof.Machine.execGroupWrite n v s
  | .migrate d block port ramp force reservedZero => Sys2Proof.Machine.execMigrate d block port ramp force reservedZero s
  | .migrationCheck => Sys2Proof.Machine.execMigrationCheck s
  | .setpointSend copy => Sys2Proof.Machine.execSetpointSend copy s
  | .slowLoadSend => Sys2Proof.Machine.execSlowLoadSend s
  | .statusFrameReceive lane fseq f => Sys2Proof.Machine.execStatusFrameReceive lane fseq f s
  | .phaseStatusReceive lane fseq f => Sys2Proof.Machine.execPhaseStatusReceive lane fseq f s
  | .slowNodeStatusReceive slot code follow seqApplied => Sys2Proof.Machine.execSlowNodeStatusReceive slot code follow seqApplied s
  | .lchClrCounts => Sys2Proof.Machine.execLchClrCounts s
  | .laneDetectTest lane found => Sys2Proof.Machine.execLaneDetectTest lane found s
  | .laneTrainComplete lane inverted ctle dfe => Sys2Proof.Machine.execLaneTrainComplete lane inverted ctle dfe s
  | .laneBringupTimeout lane => Sys2Proof.Machine.execLaneBringupTimeout lane s
  | .capsResend lane => Sys2Proof.Machine.execCapsResend lane s
  | .capsFrameReceive lane fseq f => Sys2Proof.Machine.execCapsFrameReceive lane fseq f s
  | .delayMeasurementStart lane => Sys2Proof.Machine.execDelayMeasurementStart lane s
  | .dlyReqSend lane => Sys2Proof.Machine.execDlyReqSend lane s
  | .dlyReqReceive lane fseq xid wait => Sys2Proof.Machine.execDlyReqReceive lane fseq xid wait s
  | .dlyRespReceive lane fseq xid t2Ns t2Frac t3Ns t3Frac => Sys2Proof.Machine.execDlyRespReceive lane fseq xid t2Ns t2Frac t3Ns t3Frac s
  | .delayMeasurementComplete lane => Sys2Proof.Machine.execDelayMeasurementComplete lane s
  | .timeFrameSend lane => Sys2Proof.Machine.execTimeFrameSend lane s
  | .aliveSend lane => Sys2Proof.Machine.execAliveSend lane s
  | .aliveReceive lane fseq => Sys2Proof.Machine.execAliveReceive lane fseq s
  | .laneFrameInvalid lane blocks => Sys2Proof.Machine.execLaneFrameInvalid lane blocks s
  | .laneErrorLimit lane => Sys2Proof.Machine.execLaneErrorLimit lane s
  | .laneBlockLockLoss lane => Sys2Proof.Machine.execLaneBlockLockLoss lane s
  | .laneFrameTimeout lane => Sys2Proof.Machine.execLaneFrameTimeout lane s
  | .laneSignalLoss lane => Sys2Proof.Machine.execLaneSignalLoss lane s
  | .laneSignalDetect lane => Sys2Proof.Machine.execLaneSignalDetect lane s
  | .laneRetrain lane => Sys2Proof.Machine.execLaneRetrain lane s
  | .laneLpUp lane => Sys2Proof.Machine.execLaneLpUp lane s
  | .laneLpIdle lane => Sys2Proof.Machine.execLaneLpIdle lane s
  | .laneLpDeep lane => Sys2Proof.Machine.execLaneLpDeep lane s
  | .laneLpOff lane => Sys2Proof.Machine.execLaneLpOff lane s
  | .lpReqReceive lane fseq target => Sys2Proof.Machine.execLpReqReceive lane fseq target s
  | .lpAckReceive lane fseq target => Sys2Proof.Machine.execLpAckReceive lane fseq target s
  | .clcClrCounts => Sys2Proof.Machine.execClcClrCounts s
  | .dlcClrCounts => Sys2Proof.Machine.execDlcClrCounts s
  | .eyeScan d a => Sys2Proof.Machine.execEyeScan d a s
  | .eyeScanComplete lane counts => Sys2Proof.Machine.execEyeScanComplete lane counts s
  | .pressCycleStart => Sys2Proof.Machine.execPressCycleStart s
  | .phaseSend => Sys2Proof.Machine.execPhaseSend s
  | .pressControlSample conv batI busV batV => Sys2Proof.Machine.execPressControlSample conv batI busV batV s
  | .ilimAssert phase => Sys2Proof.Machine.execIlimAssert phase s
  | .ssRetryDelayExpire conv => Sys2Proof.Machine.execSsRetryDelayExpire conv s
  | .runningRetryClear conv => Sys2Proof.Machine.execRunningRetryClear conv s
  | .zeroCurdSwitchOff conv => Sys2Proof.Machine.execZeroCurdSwitchOff conv s
  | .cceConnect conv => Sys2Proof.Machine.execCceConnect conv s
  | .cceDisconnect conv => Sys2Proof.Machine.execCceDisconnect conv s
  | .cceUnlatch conv => Sys2Proof.Machine.execCceUnlatch conv s
  | .cceClrPeak => Sys2Proof.Machine.execCceClrPeak s
  | .cceClrCounts => Sys2Proof.Machine.execCceClrCounts s
  | .meteringSample port lead codesV codesI => Sys2Proof.Machine.execMeteringSample port lead codesV codesI s
  | .acSample point lead codesV codesI => Sys2Proof.Machine.execAcSample point lead codesV codesI s
  | .acWindowEnd point w => Sys2Proof.Machine.execAcWindowEnd point w s
  | .acFreq10Window point f => Sys2Proof.Machine.execAcFreq10Window point f s
  | .intervalBoundary => Sys2Proof.Machine.execIntervalBoundary s
  | .mteCheckpoint => Sys2Proof.Machine.execMteCheckpoint s
  | .modulatorStuck chan => Sys2Proof.Machine.execModulatorStuck chan s
  | .sinc3Overflow chan => Sys2Proof.Machine.execSinc3Overflow chan s
  | .modulatorRestored chan => Sys2Proof.Machine.execModulatorRestored chan s
  | .mteOverrange chan full => Sys2Proof.Machine.execMteOverrange chan full s
  | .rollLatchRead entity => Sys2Proof.Machine.execRollLatchRead entity s
  | .acStatLatchRead point => Sys2Proof.Machine.execAcStatLatchRead point s
  | .mteCapture d a => Sys2Proof.Machine.execMteCapture d a s
  | .mteCaptureComplete d shift amps => Sys2Proof.Machine.execMteCaptureComplete d shift amps s
  | .recordBuild cut => Sys2Proof.Machine.execRecordBuild s cut
  | .mramRefresh bad => Sys2Proof.Machine.execMramRefresh bad s
  | .exportRecords d argOk addr len => Sys2Proof.Machine.execExport d argOk addr len s
  | .ack d argOk pos => Sys2Proof.Machine.execAck d argOk pos s
  | .read d argOk addr len first count => Sys2Proof.Machine.execRead d argOk addr len first count s
  | .heads d argOk addr len => Sys2Proof.Machine.execHeads d argOk addr len s
  | .attest d argOk addr len nonce => Sys2Proof.Machine.execAttest d argOk addr len nonce s
  | .keyRoll d argOk len target cut => Sys2Proof.Machine.execKeyRoll d argOk len target s cut
  | .rollAbort d argOk => Sys2Proof.Machine.execRollAbort d argOk s
  | .enrol d argOk force => Sys2Proof.Machine.execEnrol d argOk force s
  | .rebind d argOk => Sys2Proof.Machine.execRebind d argOk s
  | .pubkey d argOk addr len => Sys2Proof.Machine.execPubkey d argOk addr len s
  | .coulombSample string code => Sys2Proof.Machine.execCoulombSample string code s
  | .restReference string => Sys2Proof.Machine.execRestReference string s
  | .eocReference string => Sys2Proof.Machine.execEocReference string s
  | .eodClear string => Sys2Proof.Machine.execEodClear string s
  | .coulombInputFault string overflow => Sys2Proof.Machine.execCoulombInputFault string overflow s
  | .coulombInputRestored string => Sys2Proof.Machine.execCoulombInputRestored string s
  | .bmuStatusReceive ctrl id ide frame => Sys2Proof.Machine.execBmuStatusReceive ctrl id ide frame s
  | .bmuStale string => Sys2Proof.Machine.execBmuStale string s
  | .authChallenge obj => Sys2Proof.Machine.execAuthChallenge obj s
  | .authResponseReceive ctrl id1 id2 ide frame1 frame2 => Sys2Proof.Machine.execAuthResponseReceive ctrl id1 id2 ide frame1 frame2 s
  | .authTimeout => Sys2Proof.Machine.execAuthTimeout s
  | .seeCommit v => Sys2Proof.Machine.execSeeCommit v s
  | .seeBufferReadComplete readOk block => Sys2Proof.Machine.execSeeBufferReadComplete readOk block s
  | .save d argOk buffer => Sys2Proof.Machine.execSave d argOk buffer s
  | .authKey d argOk string key => Sys2Proof.Machine.execAuthKey d argOk string key s
  | .authNow d argOk string => Sys2Proof.Machine.execAuthNow d argOk string s
  | .qcLatchRead string => Sys2Proof.Machine.execQcLatchRead string s
  | .pilotPeriod port high low => Sys2Proof.Machine.execPilotPeriod port high low s
  | .pilotControlWrite port v => Sys2Proof.Machine.execPilotControlWrite port v s
  | .beaconSend port => Sys2Proof.Machine.execBeaconSend port s
  | .vehicleFrameReceive port frame lead => Sys2Proof.Machine.execVehicleFrameReceive port frame lead s
  | .unicastFrameFail port => Sys2Proof.Machine.execUnicastFrameFail port s
  | .roboRestore port => Sys2Proof.Machine.execRoboRestore port s
  | .impulseEvent port => Sys2Proof.Machine.execImpulseEvent port s
  | .slacParmReq port runId => Sys2Proof.Machine.execSlacParmReq port runId s
  | .slacSound runId atten => Sys2Proof.Machine.execSlacSound runId atten s
  | .slacWindowClose runId => Sys2Proof.Machine.execSlacWindowClose runId s
  | .slacRowFree runId => Sys2Proof.Machine.execSlacRowFree runId s
  | .frame d argOk len data => Sys2Proof.Machine.execFrame d argOk len data s
  | .frameSent port lead => Sys2Proof.Machine.execFrameSent port lead s
  | .frameTxTimeout port => Sys2Proof.Machine.execFrameTxTimeout port s
  | .sessionStart d argOk evcc maxV maxI maxP contract => Sys2Proof.Machine.execSessionStart d argOk evcc maxV maxI maxP contract s
  | .request d argOk reqI reqV reqP presentV newI newV newP => Sys2Proof.Machine.execRequest d argOk reqI reqV reqP presentV newI newV newP s
  | .sessionEnd d argOk reason => Sys2Proof.Machine.execSessionEnd d argOk reason s
  | .report d argOk cls cause => Sys2Proof.Machine.execReport d argOk cls cause s
  | .portRx d argOk len addr => Sys2Proof.Machine.execPortRx d argOk len addr s
  | .sessionTimeout port => Sys2Proof.Machine.execSessionTimeout port s
  | .cooloffEnd port => Sys2Proof.Machine.execCooloffEnd port s
  | .pluClrCounts port => Sys2Proof.Machine.execPluClrCounts port s
  | .canFrameReceive ctrl id ide fdf brs data lead hkcTakes => Sys2Proof.Machine.execCanFrameReceive ctrl id ide fdf brs data lead hkcTakes s
  | .canFrameSent ctrl start => Sys2Proof.Machine.execCanFrameSent ctrl start s
  | .canTxDeadline ctrl => Sys2Proof.Machine.execCanTxDeadline ctrl s
  | .canBusError ctrl kind => Sys2Proof.Machine.execCanBusError ctrl kind s
  | .canSuspectExpire ctrl => Sys2Proof.Machine.execCanSuspectExpire ctrl s
  | .canBusOn ctrl => Sys2Proof.Machine.execCanBusOn ctrl s
  | .canRecoveryRequest ctrl => Sys2Proof.Machine.execCanRecoveryRequest ctrl s
  | .canSleep ctrl => Sys2Proof.Machine.execCanSleep ctrl s
  | .canSleepExit ctrl => Sys2Proof.Machine.execCanSleepExit ctrl s
  | .canRefMessage ctrl => Sys2Proof.Machine.execCanRefMessage ctrl s
  | .canUnblock ctrl obj => Sys2Proof.Machine.execCanUnblock ctrl obj s
  | .canClrCounts ctrl => Sys2Proof.Machine.execCanClrCounts ctrl s
  | .send d argOk ctrl obj len data deadline => Sys2Proof.Machine.execSend d argOk ctrl obj len data deadline s
  | .rxPost d argOk len addr => Sys2Proof.Machine.execRxPost d argOk len addr s
  | .rindCycle x => Sys2Proof.Machine.execRindCycle x s
  | .heartbeatReceive => Sys2Proof.Machine.execHeartbeatReceive s
  | .heartbeatLoss => Sys2Proof.Machine.execHeartbeatLoss s
  | .safeGraceExpire => Sys2Proof.Machine.execSafeGraceExpire s
  | .safetyFunctionTimeExpire which idx => Sys2Proof.Machine.execSafetyFunctionTimeExpire which idx s
  | .c1GraceExpire => Sys2Proof.Machine.execC1GraceExpire s
  | .discrepancyTimeout pair => Sys2Proof.Machine.execDiscrepancyTimeout pair s
  | .testPulse source follows soRead stuck => Sys2Proof.Machine.execTestPulse source follows soRead stuck s
  | .edmTimeout out => Sys2Proof.Machine.execEdmTimeout out s
  | .relayHoldTake => Sys2Proof.Machine.execRelayHoldTake s
  | .twinAliveChange level => Sys2Proof.Machine.execTwinAliveChange level s
  | .soelaoneSend conn => Sys2Proof.Machine.execSoelaoneSend conn s
  | .soelaoneReceive frame => Sys2Proof.Machine.execSoelaoneReceive frame s
  | .soelaoneTimeout conn => Sys2Proof.Machine.execSoelaoneTimeout conn s
  | .sfiPdataWrite v => Sys2Proof.Machine.execSfiPdataWrite v s
  | .sfiPdataRead => Sys2Proof.Machine.execSfiPdataRead s
  | .sfiCvReq v => Sys2Proof.Machine.execSfiCvReq v s
  | .cvComputeComplete => Sys2Proof.Machine.execCvComputeComplete s
  | .sfiConfirm v => Sys2Proof.Machine.execSfiConfirm v s
  | .confirmTimeout => Sys2Proof.Machine.execConfirmTimeout s
  | .sfiPwdCmd v => Sys2Proof.Machine.execSfiPwdCmd v s
  | .passwordLockoutEnd => Sys2Proof.Machine.execPasswordLockoutEnd s
  | .rindStoreRefresh => Sys2Proof.Machine.execRindStoreRefresh s
  | .hkaSlotConversion value pin => Sys2Proof.Machine.execHkaSlotConversion value pin s
  | .slowRoundStart => Sys2Proof.Machine.execSlowRoundStart s
  | .dieSensorRead temps => Sys2Proof.Machine.execDieSensorRead temps s
  | .dieTripRelease => Sys2Proof.Machine.execDieTripRelease s
  | .thmClrPeak => Sys2Proof.Machine.execThmClrPeak s
  | .lsbOnWrite v => Sys2Proof.Machine.execLsbOnWrite v s
  | .lsbOnSet v => Sys2Proof.Machine.execLsbOnSet v s
  | .lsbOnClr v => Sys2Proof.Machine.execLsbOnClr v s
  | .lsbUnlock v => Sys2Proof.Machine.execLsbUnlock v s
  | .lsbClrCounts => Sys2Proof.Machine.execLsbClrCounts s
  | .lsbShort sw => Sys2Proof.Machine.execLsbShort sw s
  | .lsbOverload sw => Sys2Proof.Machine.execLsbOverload sw s
  | .lsbThermalTrip sw => Sys2Proof.Machine.execLsbThermalTrip sw s
  | .lsbThermalRelease sw => Sys2Proof.Machine.execLsbThermalRelease sw s
  | .lsbRetry sw => Sys2Proof.Machine.execLsbRetry sw s
  | .lsbRetryClear sw => Sys2Proof.Machine.execLsbRetryClear sw s
  | .lsbInrushEnd sw => Sys2Proof.Machine.execLsbInrushEnd sw s
  | .vswUndervoltage vsw => Sys2Proof.Machine.execVswUndervoltage vsw s
  | .vswHoldExpire => Sys2Proof.Machine.execVswHoldExpire s
  | .vswRestored vsw => Sys2Proof.Machine.execVswRestored vsw s
  | .deltaSend => Sys2Proof.Machine.execDeltaSend s
  | .snapReceive h part tick cmp data => Sys2Proof.Machine.execSnapReceive h part tick cmp data s
  | .deltaReceive h f => Sys2Proof.Machine.execDeltaReceive h f s
  | .deltaTimeout => Sys2Proof.Machine.execDeltaTimeout s
  | .epochChunkReceive h f => Sys2Proof.Machine.execEpochChunkReceive h f s
  | .epochCommitReceive h f => Sys2Proof.Machine.execEpochCommitReceive h f s
  | .epochCommitTimeout => Sys2Proof.Machine.execEpochCommitTimeout s
  | .healthSend => Sys2Proof.Machine.execHealthSend s
  | .healthReceive h words => Sys2Proof.Machine.execHealthReceive h words s
  | .healthTimeout => Sys2Proof.Machine.execHealthTimeout s
  | .goingDownReceive h cause tick => Sys2Proof.Machine.execGoingDownReceive h cause tick s
  | .promote d reservedZero => Sys2Proof.Machine.execPromote d reservedZero s
  | .glbTwinResync v => Sys2Proof.Machine.execGlbTwinResync v s
  | .memoryMarchStep corrected uncorrectable => Sys2Proof.Machine.execMemoryMarchStep corrected uncorrectable s
  | .doorbell off size v => Sys2Proof.Machine.execDoorbell off size v s
  | .descriptorFetch fetched => Sys2Proof.Machine.execDescriptorFetch fetched s
  | .ringEnable ring v => Sys2Proof.Machine.execRingEnable ring v s
  | .ringDisable ring v => Sys2Proof.Machine.execRingDisable ring v s
  | .hostAccessFailure d kind => Sys2Proof.Machine.execHostAccessFailure d kind s
  | .pcieLinkDown => Sys2Proof.Machine.execPcieLinkDown s
  | .pcieLinkUp speed width => Sys2Proof.Machine.execPcieLinkUp speed width s
  | .pcieHotReset => Sys2Proof.Machine.execPcieHotReset s
  | .functionLevelReset => Sys2Proof.Machine.execFunctionLevelReset s
  | .busMasterDisable => Sys2Proof.Machine.execBusMasterDisable s
  | .d3hotEntry => Sys2Proof.Machine.execD3hotEntry s
  | .hifAttnCauseWrite v => Sys2Proof.Machine.execHifAttnCauseWrite v s
  | .msixEnable => Sys2Proof.Machine.execMsixEnable s
  | .msixUnmask function => Sys2Proof.Machine.execMsixUnmask function s
  | .hifClrCounts => Sys2Proof.Machine.execHifClrCounts s
  | .nop d reservedZero => Sys2Proof.Machine.execNop d reservedZero s
  | .eventRead d first addr len wait reservedZero => Sys2Proof.Machine.execEventRead d first addr len wait reservedZero s
  | .eventReadWake => Sys2Proof.Machine.execEventReadWake s
  | .evtHeadLatchRead => Sys2Proof.Machine.execEvtHeadLatchRead s
  | .evtOldestLatchRead => Sys2Proof.Machine.execEvtOldestLatchRead s
  | .selfTestMarch d reservedZero => Sys2Proof.Machine.execSelfTestMarch d reservedZero s
  | .selfTestLaneDelay d reservedZero => Sys2Proof.Machine.execSelfTestLaneDelay d reservedZero s
  | .selfTestMramCrc d reservedZero => Sys2Proof.Machine.execSelfTestMramCrc d reservedZero s
  | .selfTestComplete a b => Sys2Proof.Machine.execSelfTestComplete a b s
  | .serialPllLock dreak => Sys2Proof.Machine.execSerialPllLock dreak s
  | .d3hotExit => Sys2Proof.Machine.execD3hotExit s
  | .busMasterEnable => Sys2Proof.Machine.execBusMasterEnable s
  | .msixMask function => Sys2Proof.Machine.execMsixMask function s
  | .msixDisable => Sys2Proof.Machine.execMsixDisable s

end Sys2Proof.Machine
end

