-- ==== Sys2Proof/Safety.lean ====
section
/-!
DEFINITION. What a sound state is, in the terms the claims use: invariants that every step keeps.
-/
namespace Sys2Proof.Machine

/-- The register file is in its canonical form: offsets strictly rising, and no register listed at its reset value. -/
def State.regsOk (s : State) : Bool := tabWf regReset s.regs

/-- A PH4812 is not in SHADOW (spec/00 R3). -/
def State.gradeOk (s : State) : Bool := s.grade != .ph4812 || s.glb.mode != .shadow

/-- Events, newest first, carry the sequence numbers before `h`, each one less than the one after it (spec/17 R425). -/
def numbered : Nat → List Event → Bool
  | _, [] => true
  | h, e :: l => (e.seq + 1) % 2 ^ 64 == h && numbered e.seq l

/-- The event log holds at most 65,536 events, numbered without gap up to GLB_EVT_HEAD (spec/17 R425). -/
def State.logOk (s : State) : Bool := decide (s.log.events.length ≤ 65536) && numbered s.log.head s.log.events

/-! ### What the statements say of a command -/

/-- The descriptor is in flight and its completion can still be written. -/
def State.served (s : State) (d : DescRef) : Bool :=
  match s.flight d.ring.val d.idx.toNat with
  | none => false
  | some f => !f.lost

/-- A descriptor of this opcode can run to its own effect: the block serves the host, and the descriptor can start and be
answered (spec/17 R407, R411). -/
def State.ready (s : State) (d : DescRef) (opcode : Nat) : Bool := s.up && s.canStart d opcode && s.served d

/-- The descriptor has completed: it is no longer in flight, and its RESULT and STATUS have been written (spec/17 R411). -/
def State.answered (t : State) (d : DescRef) (partly err : Bool) (progress code : Nat) (result : List Nat) : Prop :=
  t.flight d.ring.val d.idx.toNat = none ∧
  Out.status d.ring.val d.idx.toNat ((result ++ List.replicate 12 0).take 12) (statusWord partly err progress code) ∈ t.out

/-- The newest event of the log. -/
def State.newest (t : State) (code entity a1 a2 : Nat) : Prop :=
  t.log.events.head?.map (fun e => (e.code, e.entity, e.arg1, e.arg2)) = some (code, entity, a1, a2)

/-- From `s` to `t` one event was logged. -/
def State.logOne (s t : State) (code entity a1 a2 : Nat) : Prop :=
  t.log.head = (s.log.head + 1) % 2 ^ 64 ∧ t.newest code entity a1 a2

/-- From `s` to `t` nothing changed but registers at the offsets listed. -/
def State.onlyRegs (s t : State) (l : List Nat) : Prop := { t with regs := s.regs } = s ∧ ∀ o, o ∉ l → t.reg o = s.reg o

end Sys2Proof.Machine
end

