-- ==== Sys2Proof/Certificates/Slice0/Obligations.lean ====
section
/-!
DEFINITION. The statements about the model.
-/
open Sys2Proof Sys2Proof.Machine

/-- For every command c and state s with c at the front of its queue, the step of s is exec of c on s with the rest of the queue. -/
def Obligations.StepRunsFront : Prop :=
  ∀ (c : Instr) (rest : List Instr) (s : State), s.pending = c :: rest → step s = exec c { s with pending := rest }

/-- With no command waiting, a step answers a next state in which one TIM cycle has passed: the clock is 10 ns on, and the registers, the event log, the mode and supplies and every other block but site time are as they were. It is the model's choice (log entry 13). -/
def Obligations.IdleStepPassesTime : Prop :=
  ∀ s : State, s.pending = [] → ∃ t, step s = .next t ∧ t.now = s.now + 10 ∧ t.regs = s.regs ∧ t.log = s.log ∧ t.glb = s.glb ∧
    { t with now := s.now, stu := s.stu } = s

/-- At reset the queue is empty, the mode is DORMANT with BOOTING set, no event is logged and the next sequence number is 0, no power order holds it but RESET_N does, the main domains are held, and no descriptor is in flight. -/
def Obligations.EmptyQueueAndLogAtReset : Prop :=
  State.reset.pending = [] ∧ State.reset.glb.mode = .dormant ∧ State.reset.glb.booting = true ∧ State.reset.log.events = [] ∧
  State.reset.log.head = 0 ∧ State.reset.glb.holds.resetN = true ∧ State.reset.glb.holds.order = false ∧
  (∀ r, (State.reset.ring r).flights = []) ∧ State.reset.mainUp = false

/-- At reset the register file is in canonical form, the event log is numbered without gap, and a PH4812 is not in SHADOW. -/
def Obligations.ResetIsSound : Prop :=
  State.reset.regsOk = true ∧ State.reset.logOk = true ∧ State.reset.gradeOk = true

/-- A 32-bit read of GLB_ID gives PART 0x4800 on the PH4800 and 0x4812 on the PH4812, STEPPING 0x11 and BUILD 0x03, in every state. -/
def Obligations.GlbIdReads : Prop :=
  ∀ s : State,
    (s.grade = .ph4800 → s.readReg 0x0 4 = [0x00, 0x48, 0x11, 0x03]) ∧ (s.grade = .ph4812 → s.readReg 0x0 4 = [0x12, 0x48, 0x11, 0x03])

/-- A 32-bit read of GLB_CAPS gives 0x03103018 on the PH4800 and 0x0208180C on the PH4812, in every state: ports, blocks, strings, twin and Press. -/
def Obligations.GlbCapsReads : Prop :=
  ∀ s : State,
    (s.grade = .ph4800 → s.readReg 0x4 4 = [0x18, 0x30, 0x10, 0x03]) ∧ (s.grade = .ph4812 → s.readReg 0x4 4 = [0x0C, 0x18, 0x08, 0x02])

/-- SUPPLY_RISE of a supply that was above its off threshold, to its power-good threshold, while VAON is in regulation and no power order is held: PGOOD reads the supplies in regulation with this one among them, it counts as powered, and the mode and the log are as they were. SUPPLY_FALL of VCORE or of a supply of group 4 out of regulation, still above its off threshold, while VAON is in regulation: PGOOD reads the supplies in regulation without it, and nothing else changed. SEQUENCE_WINDOW_EXPIRE while the sequence window is open: the block holds the order, PWR_EN is low, the window is closed, and the main domains are reset (DORMANT, booting). PWR_EN_REASSERT after a power-order hold with every supply off: PWR_EN is high again, not before every supply has been off for 1 ms and PWR_EN low for 10 ms, and nothing else changed but the clock. BROWNOUT_WARNING while the main domains run and none is in force: PWR_STAT.BROWNOUT reads 1, and the warning's instant is kept (an emergency read of the SEE buffer that is under way fails). BROWNOUT_RIDE_EXPIRE in ACTIVE: the block goes to HALT with cause 6. BROWNOUT_RECOVERED within BO_RIDE, outside SHADOW: after the time below and BO_RIDE at the level, the warning is over, the brown-out is logged with its duration and ended in time (0), and writes resume. -/
def Obligations.SuppliesResetAndBoot : Prop :=
  (∀ (sup : SupplyName) (s : State),
      s.glb.aboveOff.testBit (supplyIdx sup) = true →
      s.glb.inReg.testBit 0 = true →
      s.glb.powered.testBit 0 = true →
      s.glb.holds.order = false →
        ∃ t, exec (.supplyRise sup true) s = .next t ∧ t.pgood = setBit s.glb.inReg (supplyIdx sup) true % 256 ∧
        t.glb.inReg = setBit s.glb.inReg (supplyIdx sup) true ∧ t.glb.powered.testBit (supplyIdx sup) = true ∧ t.glb.mode = s.glb.mode ∧ t.log = s.log) ∧
  (∀ (sup : SupplyName) (s : State),
      supplyGroup sup = 4 →
      s.glb.inReg.testBit 0 = true →
      s.glb.inReg.testBit (supplyIdx sup) = true →
        ∃ t, exec (.supplyFall sup false) s = .next t ∧ t.pgood = setBit s.glb.inReg (supplyIdx sup) false % 256 ∧
        t.glb = { s.glb with inReg := setBit s.glb.inReg (supplyIdx sup) false } ∧ { t with regs := s.regs, glb := s.glb } = s ∧
        ∀ o, o ≠ 0x60 → t.reg o = s.reg o) ∧
  (∀ (t0 : Nat) (s : State),
      s.glb.window = some t0 →
        ∃ t, exec .sequenceWindowExpire s = .next t ∧ t.glb.holds.order = true ∧ t.glb.pwrEn = false ∧ t.glb.window = none ∧
        t.glb.mode = .dormant ∧ t.glb.booting = true ∧ t0 + 20000000 < t.now) ∧
  (∀ (t0 : Nat) (s : State),
      s.glb.allOffAt = some t0 →
      s.glb.holds.order = true →
      s.glb.pwrEn = false →
        ∃ t, exec .pwrEnReassert s = .next t ∧ t.glb = { s.glb with pwrEn := true, offSeen := true } ∧
        t0 + 1000000 ≤ t.now ∧ s.glb.pwrEnLowAt + 10000000 ≤ t.now ∧ t.regs = s.regs ∧ t.log = s.log ∧ t.out = s.out) ∧
  (∀ (s : State),
      s.mainUp = true →
      s.glb.brownAt = none →
      s.see.reading = none →
        ∃ t, exec .brownoutWarning s = .next t ∧ t.flag GLB_PWR_STAT.BROWNOUT = true ∧
        t.glb = { s.glb with brownAt := some s.now, brownOver := false } ∧ { t with regs := s.regs, glb := s.glb } = s) ∧
  (∀ (t0 : Nat) (s : State),
      s.glb.brownAt = some t0 →
      s.glb.brownOver = false →
      s.mainUp = true →
      s.glb.mode = .active →
        ∃ t, exec .brownoutRideExpire s = .next t ∧ t.glb.mode = .halt ∧ t.glb.lastCause = 6 ∧ t.glb.prevMode = .active) ∧
  (∀ (below : BitVec 32) (t0 : Nat) (s : State),
      s.glb.brownAt = some t0 →
      s.glb.brownOver = false →
      below.toNat ≤ s.rd GLB_PWR_CFG.BO_RIDE →
      s.glb.mode ≠ .shadow →
      s.mainUp = true →
        ∃ t, exec (.brownoutRecovered below) s = .next t ∧ t.glb = { s.glb with brownAt := none } ∧
        s.logOne t 0x0103 0 (below.toNat + 1) 0 ∧ t.regs = s.regs ∧
        t0 + 1000 * below.toNat + 1000 * s.rd GLB_PWR_CFG.BO_RIDE ≤ t.now)

/-- BROWNOUT_RESET while VAON is in regulation and VCORE does not hold the block yet: VCORE holds every domain but VAON in reset: DORMANT, booting, RST_CAUSE.BROWNOUT 1, PGOOD without the VCORE bit. RESET_N low taking effect: the hold is on, the mode is DORMANT with BOOTING, RST_CAUSE.RESET_N reads 1, the rings and the event log are as after reset. RESET_N released after less than 4 s low: the hold is off and nothing else changed but its own instant. RESET_N low for more than 4 s while VAON is in regulation: the state is as it was but for the mark that RESET_N is stuck and the clock. RESET_N low for 60 s while VAON is in regulation: TWIN_ALIVE is latched low and RST_CAUSE.TWIN_LATCH reads 1. BOOT_COMPLETE while the main domains run and boot has not ended: the boot runs with these key root attempts, bad bits, measurements and failing MRAM parts, and at its end BOOTING is 0. RIND_SELFTEST_COMPLETE of a Rind that is in regulation, not yet ready and without a lasting fault: the Rind is ready, SFI_STAT.STATE reads 1, CAN5 is enabled with FD, and PWR_EN is high unless the order is held. -/
def Obligations.SuppliesResetAndBootPart2 : Prop :=
  (∀ (s : State),
      s.glb.inReg.testBit 0 = true →
      s.watched = true →
      s.glb.holds.core = false →
        ∃ t, exec .brownoutReset s = .next t ∧ t.glb.mode = .dormant ∧ t.glb.booting = true ∧ t.glb.holds.core = true ∧
        t.pgood = setBit s.glb.inReg 4 false % 256 ∧ t.flag GLB_RST_CAUSE.BROWNOUT = true) ∧
  (∀ (s : State),
      s.glb.holds.resetN = false →
        ∃ t, exec .resetNAssert s = .next t ∧ t.glb.holds.resetN = true ∧ t.glb.mode = .dormant ∧ t.glb.booting = true ∧
        t.flag GLB_RST_CAUSE.RESET_N = true ∧ t.hif = Hif.reset ∧ t.log.events = [] ∧ t.sfi.hbStop = true) ∧
  (∀ (s : State),
      s.glb.holds.resetN = true →
      s.glb.stuck = false →
        ∃ t, exec .resetNRelease s = .next t ∧
        t = { s with glb := { s.glb with holds := { s.glb.holds with resetN := false }, rstLowAt := none } }) ∧
  (∀ (t0 : Nat) (s : State),
      s.glb.rstLowAt = some t0 →
      s.watched = true →
        ∃ t, exec .resetNStuck s = .next t ∧ t.glb = { s.glb with stuck := true } ∧ t0 + 4000000000 < t.now ∧ t.regs = s.regs) ∧
  (∀ (t0 : Nat) (s : State),
      s.glb.rstLowAt = some t0 →
      s.watched = true →
        ∃ t, exec .twinAliveLatch s = .next t ∧ t.sfi = { s.sfi with aliveOff := true } ∧
        t.flag GLB_RST_CAUSE.TWIN_LATCH = true ∧ t0 + 60000000000 ≤ t.now) ∧
  (∀ (tries : Fin 6) (bits : BitVec 16) (hkc rind : List (BitVec 8)) (bad : List MramPart) (s : State),
      s.mainUp = true →
      s.glb.booting = true →
        exec (.bootComplete tries bits (hkc, rind) bad) s = .next (s.boot tries.val bits.toNat (measOf hkc rind) bad) ∧
        (s.boot tries.val bits.toNat (measOf hkc rind) bad).glb.booting = false) ∧
  (∀ (s : State),
      s.watched = true →
      s.sfi.ready = false →
      s.sfi.faultStays = false →
        ∃ t, exec .rindSelftestComplete s = .next t ∧ t.sfi = { s.sfi with ready := true, staged := s.sfi.image } ∧
        t.rd SFI_STAT.STATE = 1 ∧ t.flag (CAN_CTL.EN 5) = true ∧ t.flag (CAN_CTL.FD_EN 5) = true ∧
        t.glb = { s.glb with pwrEn := s.glb.pwrEn || !s.glb.holds.order })

/-- REGISTER_WRITE of an RW field: an aligned 32-bit write of GLB_HOST_WDOG leaves the value written in PERIOD and changes nothing else. REGISTER_WRITE of a W1C field: each 1 written to GLB_WAKE_STAT clears its bit, each 0 leaves it. REGISTER_WRITE of an RWS field in COMMISSION: a value in the range of GLB_PWR_CFG.BO_RIDE is taken. GLB_SWRST with the reset code in DORMANT, COMMISSION or HALT: the main domains are reset (DORMANT, booting) and RST_CAUSE.SWRST reads 1. MODE_REQ_DORMANT from HALT with every safety output open and every trip acknowledged: DORMANT, with cause 1. MODE_REQ_COMMISSION from DORMANT with the password accepted: COMMISSION, with cause 1. MODE_REQ_ACTIVE from DORMANT, COMMISSION, or a LIMP whose cause has cleared, with every precondition met: ACTIVE, with cause 1. MODE_REQ_SHADOW likewise, on a twin site: SHADOW, with cause 1, and the standby's watch begins. MODE_REQ_LIMP in ACTIVE with no entry pending: the entry waits for the next tick boundary, and REQ_PEND reads 1. -/
def Obligations.RegisterWritesAndModes : Prop :=
  (∀ (v : BitVec 32) (s : State),
      s.up = true →
        ∃ t, exec (.registerWrite 0x50 4 v) s = .next t ∧ t.rd GLB_HOST_WDOG.PERIOD = v.toNat % 2 ^ 16 ∧
        s.onlyRegs t [GLB_HOST_WDOG.PERIOD.off]) ∧
  (∀ (v : BitVec 32) (s : State),
      s.up = true →
        ∃ t, exec (.registerWrite 0x70 4 v) s = .next t ∧
        t = s.wr GLB_WAKE_STAT.SOURCE (clearBits (s.rd GLB_WAKE_STAT.SOURCE) (v.toNat % 2 ^ 4))) ∧
  (∀ (v : BitVec 32) (s : State),
      s.up = true →
      s.glb.mode = .commission →
      10 ≤ v.toNat % 2 ^ 10 →
      v.toNat % 2 ^ 10 ≤ 1000 →
        ∃ t, exec (.registerWrite 0x64 4 v) s = .next t ∧ t = s.wr GLB_PWR_CFG.BO_RIDE (v.toNat % 2 ^ 10)) ∧
  (∀ (s : State),
      s.up = true →
      (s.glb.mode = .dormant ∨ s.glb.mode = .commission ∨ s.glb.mode = .halt) →
        ∃ t, exec (.glbSwrst 0x5A5A) s = .next t ∧ t.glb.mode = .dormant ∧ t.glb.booting = true ∧
        t.flag GLB_RST_CAUSE.SWRST = true ∧ t.hif = Hif.reset) ∧
  (∀ (s : State),
      s.up = true →
      s.flag GLB_MODE_STAT.REQ_PEND = false →
      s.glb.mode = .halt →
      s.haltDone = true →
        ∃ t, exec (.modeReqDormant 0xA5) s = .next t ∧ t.glb.mode = .dormant ∧ t.glb.lastCause = 1 ∧ t.glb.prevMode = .halt) ∧
  (∀ (s : State),
      s.up = true →
      s.flag GLB_MODE_STAT.REQ_PEND = false →
      s.glb.mode = .dormant →
      s.password.2 = true →
        ∃ t, exec (.modeReqCommission 0xA5) s = .next t ∧ t.glb.mode = .commission ∧ t.glb.lastCause = 1) ∧
  (∀ (cold : Bool) (s : State),
      s.up = true →
      s.flag GLB_MODE_STAT.REQ_PEND = false →
      (s.glb.mode = .dormant ∨ s.glb.mode = .commission ∨ (s.glb.mode = .limp ∧ s.limpOver = true)) →
      (s.preconditions .active cold (s.glb.mode == .commission && s.siteBad.isNone)).all (·.1) = true →
        ∃ t, exec (.modeReqActive 0xA5 cold) s = .next t ∧ t.glb.mode = .active ∧ t.glb.lastCause = 1) ∧
  (∀ (cold : Bool) (s : State),
      s.up = true →
      s.flag GLB_MODE_STAT.REQ_PEND = false →
      (s.glb.mode = .dormant ∨ s.glb.mode = .commission) →
      (s.preconditions .shadow cold (s.glb.mode == .commission && s.siteBad.isNone)).all (·.1) = true →
        ∃ t : State, exec (.modeReqShadow 0xA5 cold) s = .next t.twinWatch ∧ t.glb.mode = .shadow ∧ t.glb.lastCause = 1) ∧
  (∀ (s : State),
      s.up = true →
      s.flag GLB_MODE_STAT.REQ_PEND = false →
      s.glb.mode = .active →
      s.glb.limpPend = none →
        ∃ t, exec (.modeReqLimp 0xA5) s = .next t ∧ t.glb = { s.glb with limpPend := some 1 } ∧
        t.flag GLB_MODE_STAT.REQ_PEND = true ∧ { t with regs := s.regs, glb := s.glb } = s)

/-- MODE_REQ_HALT in ACTIVE or LIMP: HALT at once, with cause 1. LIMP_ENTRY with an entry pending in ACTIVE: LIMP, with the cause that was pending. HOST_KICK: the watchdog's period starts anew and its expiry is forgotten; a standby judges its fitness again. HOST_WATCHDOG_EXPIRE in ACTIVE with a period set and no LIMP entry pending: the expiry is kept, and a LIMP entry with cause 2 is pending; the period has passed since the last kick. WAKE_IN_EDGE while PWR_EN is low and the pin may wake: WAKE_STAT bit 3 is set, PWR_EN is high, and the wake event is kept for the end of boot. RTC_ALARM of an alarm still ahead, while PWR_EN is low and the RTC may wake: WAKE_STAT bit 2 is set, PWR_EN is high, and the RTC's seconds read the alarm. CAN_WAKE while PWR_EN is low and a dominant level may wake on the controller: WAKE_STAT bit 0 or 1 is set and PWR_EN is high. PWR_EN_OFF after an entry to DORMANT with PWR_OFF: PWR_EN is low from now on, and nothing else changed. -/
def Obligations.RegisterWritesAndModesPart2 : Prop :=
  (∀ (s : State),
      s.up = true →
      s.flag GLB_MODE_STAT.REQ_PEND = false →
      (s.glb.mode = .active ∨ s.glb.mode = .limp) →
        ∃ t, exec (.modeReqHalt 0xA5) s = .next t ∧ t.glb.mode = .halt ∧ t.glb.lastCause = 1 ∧ t.glb.prevMode = s.glb.mode) ∧
  (∀ (cause : Nat) (s : State),
      s.up = true →
      s.glb.limpPend = some cause →
      s.glb.mode = .active →
        ∃ t, exec .limpEntry s = .next t ∧ t.glb.mode = .limp ∧ t.glb.lastCause = cause ∧ t.glb.prevMode = .active) ∧
  (∀ (v : BitVec 32) (s : State),
      s.up = true →
        ∃ t, exec (.hostKick v) s = .next t.twinWatch ∧ t = { s with glb := { s.glb with kickAt := s.now, wdogOut := false } }) ∧
  (∀ (s : State),
      s.up = true →
      s.glb.mode = .active →
      s.rd GLB_HOST_WDOG.PERIOD ≠ 0 →
      s.glb.wdogOut = false →
      s.glb.limpPend = none →
        ∃ t, exec .hostWatchdogExpire s = .next t ∧ t.glb = { s.glb with wdogOut := true, limpPend := some 2 } ∧
        s.logOne t 0x0105 0 (s.rd GLB_HOST_WDOG.PERIOD) 2 ∧ s.glb.kickAt + 1000000 * s.rd GLB_HOST_WDOG.PERIOD ≤ t.now) ∧
  (∀ (s : State),
      s.asleep = true →
      s.flag GLB_WAKE_CFG.PIN = true →
        ∃ t, exec .wakeInEdge s = .next t ∧ t.rdBit GLB_WAKE_STAT.SOURCE 3 = true ∧ t.glb = { s.glb with pwrEn := true } ∧
        t.log.kept.length = s.log.kept.length + 1 ∧ t.log.events = s.log.events) ∧
  (∀ (s : State),
      s.asleep = true →
      s.flag GLB_WAKE_CFG.RTC = true →
      s.rd STU_RTC_ALARM.ALARM ≠ 0 →
      s.rtcNs < 1000000000 * (s.rd STU_RTC_ALARM.ALARM + 1) →
        ∃ t, exec .rtcAlarm s = .next t ∧ t.rdBit GLB_WAKE_STAT.SOURCE 2 = true ∧ t.glb = { s.glb with pwrEn := true } ∧
        t.rd STU_RTC_SEC.SEC = s.rd STU_RTC_ALARM.ALARM) ∧
  (∀ (can4 : Bool) (frame : Option (BitVec 29 × Bool × BitVec 8)) (s : State),
      s.asleep = true →
      (s.rd (if can4 then GLB_WAKE_CFG.CAN4 else GLB_WAKE_CFG.CAN2) = 1) →
        ∃ t, exec (.canWake can4 frame) s = .next t ∧ t.rdBit GLB_WAKE_STAT.SOURCE (if can4 then 1 else 0) = true ∧
        t.glb = { s.glb with pwrEn := true }) ∧
  (∀ (s : State),
      s.glb.pwrOffPend = true →
      s.glb.mode = .dormant →
        ∃ t, exec .pwrEnOff s = .next t ∧
        t = { s with glb := { s.glb with pwrOffPend := false, pwrEn := false, pwrEnLowAt := s.now } })

/-- REF_LOSS while VAON is in regulation and no reference hold stands: every domain but VAON is held and reset (DORMANT, booting). PLL_UNLOCK of the main or the memory PLL while the main domains run: they are held and reset. REF_RESTORED: after 10 ms the hold ends, and no register changed. SERIAL_PLL_UNLOCK (the Dreak channel on a PH4800): CKG_STAT shows the channel unlocked, with SER_UNLOCKED latched, the loss is logged, and then every lane of the channel past DETECT goes back to DETECT, an ACTIVE one first going down with cause 4. SERIAL_PLL_LOCK (the Dreak channel on a PH4800): CKG_STAT shows the channel locked again, and nothing else changed before the standby's watch and the progress reports of a scan. SAF_CHECK_WINDOW with a count within 3 % while the main domains run: the run of failing windows ends, SAF_DEV takes the deviation, and the Rind no longer holds its outputs for the check. STU_SET_CMD with its code in COMMISSION: site time takes STU_SET_NS, VALID reads 1, and the change is logged with the old and the new time. TIME_LATCH_READ: STU_TIME_FRAC, STU_TIME_NS_LO and STU_TIME_NS_HI hold one instant of site time, and nothing else changed. PPS_LABEL_ARM while site time is not valid: STU_PPS_LABEL_HI takes the value and the label is armed; no other register changed. -/
def Obligations.ClocksAndSiteTime : Prop :=
  (∀ (s : State),
      s.watched = true →
      s.glb.holds.ref = false →
        ∃ t, exec .refLoss s = .next t ∧ t.glb.holds.ref = true ∧ t.glb.mode = .dormant ∧ t.glb.booting = true ∧
        t.stu.refHold = some (s.now, 0)) ∧
  (∀ (memory : Bool) (s : State),
      s.mainUp = true →
      s.glb.holds.ref = false →
        ∃ t, exec (.pllUnlock memory) s = .next t ∧ t.glb.holds.ref = true ∧ t.glb.mode = .dormant ∧ t.glb.booting = true ∧
        t.stu.refHold = some (s.now, if memory then 2 else 1)) ∧
  (∀ (t0 cause : Nat) (s : State),
      s.stu.refHold = some (t0, cause) →
        ∃ t, exec .refRestored s = .next t ∧ t.glb = { s.glb with holds := { s.glb.holds with ref := false } } ∧
        t.stu.refHold = none ∧ t.regs = s.regs ∧ t0 + 10000000 ≤ t.now) ∧
  (∀ (dreak : Bool) (s : State),
      s.mainUp = true →
      (dreak = true → s.grade = .ph4800) →
        ∃ u, exec (.serialPllUnlock dreak) s = .next (((if dreak then [12, 13] else List.range 12).foldl (fun v l =>
        if v.laneActive l then (v.laneDown l 4 2).toDetect l else if 3 ≤ v.laneState l then v.toDetect l else v) u).twinWatch.scanReports) ∧
        u.flag (if dreak then CKG_STAT.SER_DRK_LOCK else CKG_STAT.SER_CAB_LOCK) = false ∧ u.flag CKG_STAT.SER_UNLOCKED = true ∧
        s.logOne u 0x0202 0 (if dreak then 2 else 1) 0) ∧
  (∀ (dreak : Bool) (s : State),
      s.mainUp = true →
      (dreak = true → s.grade = .ph4800) →
        ∃ t, exec (.serialPllLock dreak) s = .next ((State.twinWatch t).scanReports) ∧
        t.flag (if dreak then CKG_STAT.SER_DRK_LOCK else CKG_STAT.SER_CAB_LOCK) = true ∧ s.onlyRegs t [CKG_STAT.SER_DRK_LOCK.off]) ∧
  (∀ (count : Nat) (s : State),
      s.sfi.ready = true →
      s.mainUp = true →
      (465600 ≤ count ∧ count ≤ 494400) →
        ∃ t, exec (.safCheckWindow count) s = .next t ∧ t.stu.safBad = 0 ∧ t.sfi.safBad = false ∧ t.log = s.log ∧
        t.rd CKG_STAT.SAF_DEV = enc 8 (clampS 8 (divZ (((count : Int) - ((480000 : Nat) : Int)) * 1000) 480000)) % 2 ^ CKG_STAT.SAF_DEV.w) ∧
  (∀ (s : State),
      s.up = true →
      s.glb.mode = .commission →
        ∃ t, exec (.stuSetCmd 0x5E7E) s = .next t ∧ t.siteNs = s.rd64 STU_SET_NS_LO.NS_LO STU_SET_NS_HI.NS_HI % 2 ^ 64 ∧
        t.flag STU_DISC_STAT.VALID = true ∧
        s.logOne t 0x0214 0 (s.siteNs % 2 ^ 64) (s.rd64 STU_SET_NS_LO.NS_LO STU_SET_NS_HI.NS_HI % 2 ^ 64)) ∧
  (∀ (s : State),
      s.up = true →
        ∃ t, exec .timeLatchRead s = .next t ∧ t.rd STU_TIME_FRAC.FRAC = s.stu.site / 2 ^ 16 % 2 ^ 16 ∧
        t.rd64 STU_TIME_NS_LO.NS_LO STU_TIME_NS_HI.NS_HI = s.siteNs ∧
        s.onlyRegs t [STU_TIME_FRAC.FRAC.off, STU_TIME_NS_LO.NS_LO.off, STU_TIME_NS_HI.NS_HI.off]) ∧
  (∀ (v : BitVec 32) (s : State),
      s.up = true →
      s.flag STU_DISC_STAT.VALID = false →
        ∃ t, exec (.ppsLabelArm v) s = .next t ∧ t.rd STU_PPS_LABEL_HI.LBL_HI = v.toNat ∧
        t.stu = { s.stu with labelArmed := true } ∧ { t with regs := s.regs, stu := s.stu } = s)

/-- PPS_EDGE that is qualified, with a label armed while site time is not valid: site time takes the label, VALID reads 1, the change is logged, the label is spent, the STU chooses its source, and the edge is kept for the next one's period. PPS_LOSS: 3 s after the last qualified edge PPS is no longer qualified; where PPS is not the source, no register changed. REF10M_MEASUREMENT within ±50 ppm with the source enabled: REF10M is qualified from now on, and the STU then chooses its source. REF10M_LOSS of a qualified reference that is not the source: 100 µs later it is no longer qualified, and no register changed. HOST_OFFSET_LOSS where the host is not the source: 10 s after the last offset the host source is no longer qualified, and no register changed. TIME_OFFSET measured within 2 s, with the host source enabled and no better source qualified: the offset's time is kept, the STU chooses its source and, if that is the host, feeds the offset to its loop; the descriptor then completes with code 0. RTC_ALIGN while site time is valid: at the next whole second the RTC takes site time. PPS_OUT_RISE with the output enabled and site time valid: PPS_OUT is high, and its instant is kept. PPS_OUT_FALL: when WIDTH has passed since it rose, PPS_OUT is low, and no register changed. -/
def Obligations.ClocksAndSiteTimePart2 : Prop :=
  (∀ (s : State),
      s.up = true →
      s.flag STU_DISC_CFG.SRC_PPS = true →
      s.rd STU_DISC_STAT.VALID = 0 →
      s.stu.labelArmed = true →
      s.ppsPeriodOk = true →
        ∃ t, exec .ppsEdge s = .next { (State.selectSource t) with stu := { (State.selectSource t).stu with ppsLast := some s.now } } ∧ t.stu.ppsAt = some s.now ∧ t.stu.labelArmed = false ∧
        t.siteNs = s.rd64 STU_PPS_LABEL_LO.LBL_LO STU_PPS_LABEL_HI.LBL_HI % 2 ^ 64 ∧ t.flag STU_DISC_STAT.VALID = true) ∧
  (∀ (t0 : Nat) (s : State),
      s.up = true →
      s.stu.ppsAt = some t0 →
      s.rd STU_DISC_STAT.SOURCE ≠ 2 →
      s.rd STU_DISC_STAT.SOURCE ≠ 5 →
        ∃ t, exec .ppsLoss s = .next t ∧ t.stu.ppsAt = none ∧ t0 + 3000000000 ≤ t.now ∧ t.regs = s.regs ∧ t.log = s.log) ∧
  (∀ (dev : Int) (s : State),
      s.up = true →
      s.flag STU_DISC_CFG.SRC_REF10 = true →
      dev.natAbs ≤ 50000 →
        ∃ u, exec (.ref10mMeasurement dev) s = .next (
        if (State.selectSource u).rd STU_DISC_STAT.SOURCE = 3 || (State.selectSource u).rd STU_DISC_STAT.SOURCE = 5 then
        (State.selectSource u).setRate (Config.loopRate (State.selectSource u).stu.freqTerm dev) (State.selectSource u).stu.phaseTerm
        else State.selectSource u) ∧ u = { s with stu := { s.stu with ref10At := some s.now } }) ∧
  (∀ (t0 : Nat) (s : State),
      s.up = true →
      s.stu.ref10At = some t0 →
      s.rd STU_DISC_STAT.SOURCE ≠ 3 →
      s.rd STU_DISC_STAT.SOURCE ≠ 5 →
        ∃ t, exec .ref10mLoss s = .next t ∧ t.stu.ref10At = none ∧ t.now = s.now + 100000 ∧ t.regs = s.regs ∧ t.log = s.log) ∧
  (∀ (t0 : Nat) (s : State),
      s.up = true →
      s.stu.hostAt = some t0 →
      s.rd STU_DISC_STAT.SOURCE ≠ 4 →
        ∃ t, exec .hostOffsetLoss s = .next t ∧ t.stu.hostAt = none ∧ t0 + 10000000000 ≤ t.now ∧ t.regs = s.regs ∧ t.log = s.log) ∧
  (∀ (d : DescRef) (offset measuredAt : BitVec 64) (s : State),
      s.ready d 0x0201 = true →
      ((s.siteNs : Int) - (measuredAt.toNat : Int)) ≤ 2000000000 →
      s.flag STU_DISC_CFG.SRC_HOST = true →
      (s.ppsOk = false ∧ s.ref10Ok = false ∧ (s.glb.mode = .shadow → s.stu.twinOk = false)) →
        ∃ u, exec (.timeOffset d offset measuredAt) s = .next ((
        if (State.selectSource u).rd STU_DISC_STAT.SOURCE = 4 then (State.selectSource u).discipline (sx 64 offset.toNat)
        else State.selectSource u).done d) ∧ u = { s.start d with stu := { s.stu with hostAt := some s.now } }) ∧
  (∀ (s : State),
      s.mainUp = true →
      s.flag STU_DISC_STAT.VALID = true →
        ∃ t, exec .rtcAlign s = .next t ∧ t.stu.rtcBase = t.siteNs ∧ t.stu.rtcAt = t.now ∧
        t.rd STU_RTC_SEC.SEC = t.siteNs / 1000000000 % 2 ^ STU_RTC_SEC.SEC.w) ∧
  (∀ (s : State),
      s.mainUp = true →
      s.flag STU_DISC_STAT.VALID = true →
      s.flag STU_PPS_OUT_CFG.EN = true →
      s.stu.ppsOut = false →
        ∃ t, exec .ppsOutRise s = .next t ∧ t.stu.ppsOut = true ∧ t.stu.ppsOutAt = t.now ∧ t.regs = s.regs ∧ s.now ≤ t.now) ∧
  (∀ (s : State),
      s.stu.ppsOut = true →
        ∃ t, exec .ppsOutFall s = .next t ∧ t.stu.ppsOut = false ∧ t.regs = s.regs ∧ t.log = s.log ∧
        s.stu.ppsOutAt + 1000000 * s.rd STU_PPS_OUT_CFG.WIDTH ≤ t.now)

/-- TICK_STROBE in ACTIVE, SHADOW, LIMP or HALT: the boundary t_n of the next tick is reached, the tick counter counts, snapshot n is gathered, and the stages of the tick run on it, edits stamped at or after t_n held back; then the twin and the watch of the standby. TICK_STROBE in DORMANT or COMMISSION: the boundary passes, the tick counter counts and the Press closes its averaging window; no snapshot or curd is made, and the mode, the constraint table and the log are as they were. PIPELINE_OVERRUN in a mode where the Churn runs: the tick is strobed and its snapshot kept, the event of the overrun (or of the memory error) is logged at the deadline, the repeat curd is issued with OVR_STAT, and the run of overruns decides LIMP or HALT. TICK_LEN_WRITE in COMMISSION of a new length within 10 and 200 for which the enabled entries fit: STU_TICK_CFG takes it and the ticks begin anew from it. ALP_CLR_STAGE: the maximum stage times read zero, and nothing else changed. ALP_CLR_COUNTS: ALP_CLAMP_CNT, ALP_SUBST_CNT and the total of ALP_OVR_STAT read zero, and nothing else changed. ALP_CLR_WHEY: the window of the minimum starts again, and nothing else changed. CAPTURE of ticks within reach into a buffer long enough: it waits for its ticks, and nothing else changed. CAPTURE_COMPLETE once the ticks of the oldest ready capture are sealed: it leaves the list, its records go to host memory, and its descriptor completes with the first tick and the number of records written. -/
def Obligations.Churn : Prop :=
  (∀ (times : List Nat) (s : State),
      s.up = true →
      s.glb.mode.running = true →
        ∃ u g, exec (.tickStrobe times) s = .next (((State.stages u g times).showLate).twinAfterSeal g.tick).twinWatch ∧ s.strobe = (u, g) ∧
        g.tick = s.stu.nextTick) ∧
  (∀ (times : List Nat) (s : State),
      s.up = true →
      s.glb.mode.running = false →
        ∃ t, exec (.tickStrobe times) s = .next t ∧ t.stu.nextTick = s.stu.nextTick + 1 ∧ t.glb = s.glb ∧ t.log = s.log ∧ t.con.table = s.con.table ∧ t.alp.curds = s.alp.curds) ∧
  (∀ (stage : Fin 8) (cycles : BitVec 16) (mem : Option (BitVec 16 × Fin 3)) (s : State),
      s.up = true →
      s.glb.mode.running = true →
        ∃ u g v, exec (.pipelineOverrun stage cycles mem) s = .next ((State.repeatCurd (State.overrunEvent v g.tick stage.val cycles.toNat mem) g
        (mem.any (fun m => m.2.val == 2))).showLate.afterOverrun).twinWatch ∧ s.strobe = (u, g) ∧
        v = (u.storeSnap g).waitSite (g.tN + deadlineOf s.tickUs * 10 / 3) ∧ g.tick = s.stu.nextTick) ∧
  (∀ (v : BitVec 32) (s : State),
      s.up = true →
      s.glb.mode = .commission →
      v.toNat % 2 ^ STU_TICK_CFG.TICK_LEN.w ≠ s.rd STU_TICK_CFG.TICK_LEN →
      (10 ≤ v.toNat % 2 ^ STU_TICK_CFG.TICK_LEN.w ∧ v.toNat % 2 ^ STU_TICK_CFG.TICK_LEN.w ≤ 200) →
      hostEnabled s.con.table ≤ entryMaxOf (v.toNat % 2 ^ STU_TICK_CFG.TICK_LEN.w * 10) - 64 →
        ∃ t, exec (.tickLenWrite v) s = .next t ∧ t.rd STU_TICK_CFG.TICK_LEN = v.toNat % 2 ^ STU_TICK_CFG.TICK_LEN.w ∧
        t.log = s.log ∧ t = (s.wr STU_TICK_CFG.TICK_LEN (v.toNat % 2 ^ STU_TICK_CFG.TICK_LEN.w)).retick) ∧
  (∀ (s : State),
      s.up = true →
        ∃ t, exec .alpClrStage s = .next t ∧ s.onlyRegs t [0x10008, 0x1000C, 0x10010, 0x10014] ∧
        t.reg 0x10008 = 0 ∧ t.reg 0x1000C = 0 ∧ t.reg 0x10010 = 0 ∧ t.reg 0x10014 = 0) ∧
  (∀ (s : State),
      s.up = true →
        ∃ t, exec .alpClrCounts s = .next t ∧ t.rd ALP_CLAMP_CNT.CNT = 0 ∧ t.rd ALP_SUBST_CNT.CNT = 0 ∧ t.rd ALP_OVR_STAT.TOTAL = 0 ∧
        s.onlyRegs t [ALP_CLAMP_CNT.CNT.off, ALP_SUBST_CNT.CNT.off, ALP_OVR_STAT.TOTAL.off]) ∧
  (∀ (s : State),
      s.up = true →
        ∃ t, exec .alpClrWhey s = .next t ∧ t.alp = { s.alp with wheys := [] } ∧ { t with alp := s.alp } = s) ∧
  (∀ (d : DescRef) (first : BitVec 32) (count : BitVec 16) (kind : Fin 3) (addr : BitVec 64) (len : BitVec 32) (s : State),
      s.ready d 0x0303 = true →
      (-63 ≤ diff32 first.toNat s.curTick ∧ diff32 first.toNat s.curTick ≤ 64) →
      (1 ≤ count.toNat ∧ count.toNat ≤ 64) →
      (count.toNat * (if kind.val = 0 then 4096 else if kind.val = 1 then 2048 else 6144) ≤ len.toNat) →
        ∃ t, exec (.capture d first count kind addr len) s = .next t ∧ t.alp.captures = s.alp.captures ++
        [{ ring := d.ring.val, idx := d.idx.toNat, first := ((s.curTick : Int) + diff32 first.toNat s.curTick).toNat, count := count.toNat, kind := kind.val, addr := addr.toNat }] ∧ t.regs = s.regs ∧ t.log = s.log) ∧
  (∀ (d : DescRef) (c : Capture) (s : State),
      s.up = true →
      s.served d = true →
      s.alp.captures.find? (fun c => decide (c.first + c.count ≤ s.stu.nextTick)) = some c →
      (c.ring = d.ring.val ∧ c.idx = d.idx.toNat) →
        ∃ t, exec .captureComplete s = .next t ∧ t.alp.captures = s.alp.captures.erase c ∧ t.regs = s.regs ∧ t.log = s.log ∧
        t.answered d false false 0 0 (leBytes 4 c.first ++ leBytes 2 (s.captureBytes c).length))

/-- CONSTRAINT_WRITE_ENABLE in a mode that may edit, with an entry that passes every check: the table holds the entry at the index, enabled, the entry it replaces is kept for the snapshot of a boundary passed before it, and the descriptor completes with the number of entries the host has enabled. CONSTRAINT_DISABLE of a host entry: its enable bit clears and the rest of it stays. CONSTRAINT_STAGE of an entry that passes every check, with fewer than 32 staged: it is staged last, and the table stays. CONSTRAINT_COMMIT of staged edits that still pass: all of them are in the table in staging order, and none is staged. CONSTRAINT_DISCARD: nothing is staged, and the table stays. CONSTRAINT_READ, in every mode: the 32 bytes of the entry go to host memory, and neither the table nor a register changed. GROUP_WRITE in COMMISSION of a value that names no absent port and puts no port into a fifth group: ALP_GROUP_n takes its ports, and nothing else changed. MIGRATE of a block to a port, both valid, present and enabled, in a mode of operation: the proposal waits for its check behind those before it, and nothing else changed. MIGRATION_CHECK in ACTIVE, with a curd and its snapshot kept: the oldest proposal leaves the queue and either takes the lowest free slot (every check passes) or is refused with the code of the first check that fails. -/
def Obligations.ConstraintsAndMigration : Prop :=
  (∀ (d : DescRef) (index : BitVec 16) (x : EntryArg) (s : State),
      s.ready d 0x0301 = true →
      s.editMode = true →
      s.entryCheck index.toNat x = 0 →
      s.countOk (tset (fun _ => Entry.zero) (applyStaged s.con.table s.con.staged) index.toNat (entryOf x)) = true →
        ∃ t, exec (.constraintWriteEnable d index true x) s = .next t ∧
        t.con = { s.con with table := tset (fun _ => Entry.zero) s.con.table index.toNat (entryOf x), late := (s.siteNs, index.toNat, s.entry index.toNat) :: s.con.late } ∧ t.regs = s.regs ∧ t.log = s.log ∧
        t.answered d false false 0 0 (leBytes 4 (hostEnabled t.con.table))) ∧
  (∀ (d : DescRef) (index : BitVec 16) (s : State),
      s.ready d 0x0301 = true →
      s.editMode = true →
      index.toNat ≤ 1983 →
        ∃ t, exec (.constraintDisable d index true) s = .next t ∧
        t.con = { s.con with table := tset (fun _ => Entry.zero) s.con.table index.toNat { s.entry index.toNat with enabled := false }, late := (s.siteNs, index.toNat, s.entry index.toNat) :: s.con.late } ∧
        t.regs = s.regs ∧ t.log = s.log ∧ t.answered d false false 0 0 (leBytes 4 (hostEnabled t.con.table))) ∧
  (∀ (d : DescRef) (index : BitVec 16) (x : EntryArg) (s : State),
      s.ready d 0x0301 = true →
      s.editMode = true →
      s.entryCheck index.toNat x = 0 →
      s.countOk (applyStaged s.con.table (s.con.staged ++ [(index.toNat, entryOf x)])) = true →
      s.con.staged.length < 32 →
        ∃ t, exec (.constraintStage d index true x) s = .next t ∧ t.con = { s.con with staged := s.con.staged ++ [(index.toNat, entryOf x)] } ∧
        t.regs = s.regs ∧ t.log = s.log ∧ t.answered d false false 0 0 (leBytes 4 (hostEnabled t.con.table))) ∧
  (∀ (d : DescRef) (s : State),
      s.ready d 0x0301 = true →
      s.editMode = true →
      s.commitCheck s.con.table s.con.staged = 0 →
        ∃ t, exec (.constraintCommit d true) s = .next t ∧ t.con.table = applyStaged s.con.table s.con.staged ∧ t.con.staged = [] ∧
        t.con.migs = s.con.migs ∧ t.regs = s.regs ∧ t.log = s.log ∧ t.answered d false false 0 0 (leBytes 4 (hostEnabled t.con.table))) ∧
  (∀ (d : DescRef) (s : State),
      s.ready d 0x0301 = true →
      s.editMode = true →
        ∃ t, exec (.constraintDiscard d true) s = .next t ∧ t.con = { s.con with staged := [] } ∧
        t.regs = s.regs ∧ t.log = s.log ∧ t.answered d false false 0 0 (leBytes 4 (hostEnabled t.con.table))) ∧
  (∀ (d : DescRef) (index : BitVec 16) (addr : BitVec 64) (s : State),
      s.ready d 0x0301 = true →
      index.toNat ≤ 2047 →
        ∃ t, exec (.constraintRead d index true addr) s = .next t ∧ Out.host addr.toNat (s.entry index.toNat).bytes ∈ t.out ∧
        t.con = s.con ∧ t.regs = s.regs ∧ t.log = s.log ∧ t.answered d false false 0 0 (leBytes 4 (hostEnabled s.con.table))) ∧
  (∀ (n : Fin 64) (v : BitVec 32) (s : State),
      s.up = true →
      s.glb.mode = .commission →
      s.gradeCut (0x10300 + 4 * n.val) v.toNat = (s, v.toNat) →
      (∀ p ∈ List.range 24, (low 24 v.toNat).testBit p = true → ((List.range 64).filter (fun g => g != n.val && s.rdBit (ALP_GROUP.PORTS g) p)).length < 4) →
        ∃ t, exec (.groupWrite n v) s = .next t ∧ t.rd (ALP_GROUP.PORTS n.val) = low 24 v.toNat ∧ s.onlyRegs t [(ALP_GROUP.PORTS n.val).off]) ∧
  (∀ (d : DescRef) (block port ramp : BitVec 16) (force reservedZero : Bool) (s : State),
      s.ready d 0x0302 = true →
      (block.toNat / 2048 = 2 ∧ block.toNat % 2048 < 48 ∧ s.absent 2 (block.toNat % 2048) = false ∧ s.blockOn (block.toNat % 2048) = true) →
      (port.toNat / 2048 = 1 ∧ port.toNat % 2048 < 24 ∧ s.absent 1 (port.toNat % 2048) = false ∧ s.portOn (port.toNat % 2048) = true) →
      (s.glb.mode ≠ .dormant ∧ s.glb.mode ≠ .commission) →
        ∃ t, exec (.migrate d block port ramp force reservedZero) s = .next t ∧ t.con = { s.con with proposals := s.con.proposals ++
        [{ ring := d.ring.val, idx := d.idx.toNat, block := block.toNat % 2048, new := port.toNat % 2048, ramp := ramp.toNat, force := force, reservedZero := reservedZero }] } ∧
        t.regs = s.regs ∧ t.log = s.log ∧ t.out = s.out) ∧
  (∀ (p : Proposal) (l : List Proposal) (c : Curd) (n : Snap) (s : State),
      s.up = true →
      s.glb.mode = .active →
      s.con.proposals = p :: l →
      s.lastCurd = some c →
      s.alp.snaps.find? (fun x => x.tick = c.tick) = some n →
        ∃ u, exec .migrationCheck s = .next (if State.migCheck u n c p = 0 then u.acceptMig n p else u.refuseMig p (u.migCheck n c p)) ∧
        u = { s with con := { s.con with proposals := l } })

/-- SETPOINT_SEND of the first copy, or of the second with COPIES set, in a mode that sends frames: at its instant in the tick every lane that carries blocks sends its payload of the curd of the tick before; registers and log stay till then. SLOW_LOAD_SEND in a mode that sends frames: 5 µs into the tick, every enabled slot scheduled in it asks its controller for transmission from its object, with the age limit of the next tick less the guard. STATUS_FRAME_RECEIVE on an ACTIVE lane: the FSEQ, the time of arrival, the claim followed and MISS_CNT are kept, and each slot's report is posted for its block with its stamp. PHASE_STATUS_RECEIVE on an ACTIVE lane: the FSEQ, the time of arrival, the claim followed and MISS_CNT are kept; all phases off is logged at its onset; the Press lane then restarts its converters where the frame asks for it. SLOW_NODE_STATUS_RECEIVE for an enabled slot whose controller is on the bus and whose receive object is enabled: its code and its claim are kept with their stamps, and LCH_FOLLOW_SLOW shows whether it follows the unit's claim; then higher claims are judged. LCH_CLR_COUNTS: the late and missed counters of the Launch Unit read zero, and nothing else changed. -/
def Obligations.LaunchAndFrames : Prop :=
  (∀ (copy : Fin 2) (c : Curd) (s : State),
      s.up = true →
      s.curdOut = some c →
      s.sendsFrames = true →
      (copy.val = 0 ∨ s.flag LCH_TX_CFG.COPIES = true) →
        ∃ u : State, exec (.setpointSend copy) s = .next (((List.range 12).filter u.carriesBlocks).foldl (fun a l => a.send l (a.setpointPayload c copy.val l)) u) ∧
        u = s.waitSite (s.tickAt s.curTick + s.copyOffset copy.val) ∧ u.regs = s.regs ∧ u.log = s.log) ∧
  (∀ (c : Curd) (s : State),
      s.up = true →
      s.curdOut = some c →
      s.sendsFrames = true →
        ∃ u : State, exec .slowLoadSend s = .next (((List.range 16).filter (fun j => u.flag (LCH_CAN_SLOT.EN j) && low 32 c.tick % u.rd LCH_CAN_CFG.DIV == j % u.rd LCH_CAN_CFG.DIV)).foldl (fun (a : State) j =>
        a.canRequest (a.rd (LCH_CAN_SLOT.CTRL j)) (a.rd (LCH_CAN_SLOT.TX_OBJ j)) (a.slowPayload c j) (some (u.tickAt (u.curTick + 1) - u.rd LCH_CAN_CFG.GUARD * 1000)) (.slow j)) u) ∧
        u = s.waitSite (s.tickAt s.curTick + 5000) ∧ u.regs = s.regs ∧ u.log = s.log) ∧
  (∀ (lane : Fin 12) (fseq : BitVec 16) (f : StatusFrame) (s : State),
      s.mainUp = true →
      s.laneActive lane.val = true →
        ∃ t, exec (.statusFrameReceive lane fseq f) s = .next t ∧
        t.lane lane.val = { s.lane lane.val with fseqRx := some fseq.toNat, rxAt := s.now, follow := (f.follow.toNat, s.siteNs, f.flags.toNat) :: (s.lane lane.val).follow.take 15, miss := some (f.miss.toNat % 65536) } ∧
        (∀ k r, (k, r) ∈ [(0, f.s0), (1, f.s1), (2, f.s2), (3, f.s3)] →
        tget (fun _ => []) t.alp.inBlock (4 * lane.val + k) = mailPost (tget (fun _ => []) s.alp.inBlock (4 * lane.val + k)) s.siteNs
        { state := r.state.toNat, path := r.path.toNat, availP := (r.availP.toNat : Nat), outI := r.outI.toInt, outV := r.outV.toInt, temp := r.temp.toInt })) ∧
  (∀ (lane : Fin 12) (fseq : BitVec 16) (f : PhaseStatus) (s : State),
      s.mainUp = true →
      s.laneActive lane.val = true →
        ∃ u : State, exec (.phaseStatusReceive lane fseq f) s = .next (if u.pressLane lane.val then u.selectorRestart lane.val f.flags.toNat f.cycleApplied.toNat else u) ∧
        u.lane lane.val = { s.lane lane.val with fseqRx := some fseq.toNat, rxAt := s.now, follow := (f.follow.toNat, s.siteNs, f.flags.toNat) :: (s.lane lane.val).follow.take 15, miss := some (f.miss.toNat % 65536) } ∧
        u.alp = s.alp ∧ u.stu = s.stu ∧ (bit f.flags.toNat 1 = true → (s.lane lane.val).follow = [] → u.newest 0x0407 (entLane lane.val) (low 32 (f.cycleApplied.toNat + 1)) 0)) ∧
  (∀ (slot : Fin 16) (code : BitVec 16) (follow seqApplied : BitVec 32) (s : State),
      s.up = true →
      s.slowHears slot.val = true →
        ∃ u : State, exec (.slowNodeStatusReceive slot code follow seqApplied) s = .next ((u.higherSlow slot.val follow.toNat).demoteCheck).twinWatch ∧
        u.link.slowFollow = tput s.link.slowFollow slot.val (some (follow.toNat, s.siteNs)) ∧
        tget (fun _ => []) u.alp.inSlow slot.val = mailPost (tget (fun _ => []) s.alp.inSlow slot.val) s.siteNs code.toNat ∧
        u.rdBit LCH_FOLLOW_SLOW.SLOTS slot.val = (follow.toNat != 0 && follow.toNat == s.claim) ∧ u.log = s.log) ∧
  (∀ (s : State),
      s.up = true →
        ∃ t, exec .lchClrCounts s = .next t ∧ t.rd LCH_CNT_LATE.CNT = 0 ∧ t.rd LCH_CNT_EPMISS.CNT = 0 ∧
        s.onlyRegs t [LCH_CNT_LATE.CNT.off, LCH_CNT_EPMISS.CNT.off])

/-- LANE_DETECT_TEST in DETECT that finds the far end for the second time in a row, with the serial PLL locked: the test is made when its interval (10 ms, or 1 s in back-off) is over, and the lane goes to TRAIN. LANE_TRAIN_COMPLETE in TRAIN, of a pair that is not inverted or may be corrected: after TP1 and the TRAIN blocks, the lane sends its last 16 TRAIN blocks with STEP 0x02, shows polarity and equaliser, enters CAPS and sends its CAPS frame. LANE_BRINGUP_TIMEOUT in TRAIN, CAPS or DELAY, before the eighth in a row: the lane goes back to DETECT after its limit (100, 10 or 20 ms), RETRIES counts, and the timeout is logged with the state and the count. CAPS_RESEND in CAPS: 1 ms after the last one, the CAPS frame goes out again. CAPS_FRAME_RECEIVE in CAPS on a cabinet lane, of a frame that passes checks 1 to 5: the frame's fields are shown in the lane's registers, a missing slot of an enabled block is logged, and the lane enters DELAY with the far end's asymmetry. DELAY_MEASUREMENT_START on a cabinet lane in ACTIVE without a measurement: one second after the last one a new measurement starts, with no exchange yet. DLY_REQ_SEND of a measurement with fewer than 8 exchanges on a cabinet lane in DELAY or ACTIVE: 125 µs after the exchange before, the request with the next number leaves, and its departure is kept as t1. -/
def Obligations.LaneBringUp : Prop :=
  (∀ (lane : Fin 14) (w : State) (s : State),
      s.mainUp = true →
      s.laneState lane.val = 2 →
      s.serialLocked lane.val = true →
      1 ≤ (s.lane lane.val).found →
      (w = s.waitTill ((s.lane lane.val).testAt + (if s.flag (LN.BACKOFF lane.val) then 1000000000 else 10000000))) →
        exec (.laneDetectTest lane true) s = .next ((((w.modLane lane.val (fun x => { x with testAt := w.now, found := (s.lane lane.val).found + 1 })).startTrain lane.val).modLane lane.val (fun x => { x with exitAt := w.now, found := 0 })).twinWatch.scanReports)) ∧
  (∀ (lane : Fin 14) (inverted : Bool) (ctle : BitVec 8) (dfe : BitVec 40) (w : State) (s : State),
      s.mainUp = true →
      s.laneState lane.val = 3 →
      (inverted = true → s.flag (LN.INV_AUTO lane.val) = true) →
      (w = (s.waitTill ((s.lane lane.val).since + trainNs lane.val)).emit (.pattern lane.val (.train 2 (if lane.val < 12 then 0 else 3) (if lane.val < 12 then lane.val else lane.val - 12) (some 16)))) →
        exec (.laneTrainComplete lane inverted ctle dfe) s = .next ((((((((w.wr (LN.POL_INV lane.val) (b2n inverted)).wr (LN.CTLE lane.val) ctle.toNat).wr (LN.DFE lane.val) dfe.toNat).enterLane lane.val 4).modLane lane.val (fun x => { x with dfe := dfe.toNat % 2 ^ 40 })).sendCaps lane.val).twinWatch).scanReports)) ∧
  (∀ (lane : Fin 14) (st : Nat) (w : State) (s : State),
      s.mainUp = true →
      (st = 3 ∨ st = 4 ∨ st = 5) →
      s.laneState lane.val = st →
      w = ((s.waitTill ((s.lane lane.val).since + bringupLimit st)).toDetect lane.val).bump (LN.RETRIES lane.val) →
      w.rd (LN.RETRIES lane.val) < 8 →
        exec (.laneBringupTimeout lane) s = .next ((w.ev (laneEv lane.val 3) (entLane lane.val) st (w.rd (LN.RETRIES lane.val))).twinWatch.scanReports)) ∧
  (∀ (lane : Fin 14) (s : State),
      s.mainUp = true →
      s.laneState lane.val = 4 →
        exec (.capsResend lane) s = .next (((s.waitTill ((s.lane lane.val).capsAt + 1000000)).sendCaps lane.val).twinWatch.scanReports)) ∧
  (∀ (lane : Fin 14) (fseq : BitVec 16) (f : CapsFrame) (u v : State) (s : State),
      s.mainUp = true →
      lane.val < 12 →
      s.laneState lane.val = 4 →
      u = (((s.laneRx lane.val fseq.toNat).setReg (laneBase lane.val + 0x14) ((capsFar f).role % 256 + (capsFar f).slots % 256 * 2 ^ 8 + (capsFar f).features % 256 * 2 ^ 16 + (capsFar f).portId % 256 * 2 ^ 24)).setReg (laneBase lane.val + 0x18) ((capsFar f).maker % 65536 + (capsFar f).maxPayload % 65536 * 65536)).setReg (laneBase lane.val + 0x1C) (capsFar f).serial →
      u.capsCheck lane.val (capsFar f) = none →
      (v = (if lane.val < 12 && (capsFar f).role = 1 && (List.range 4).any (fun k => (s.laneRx lane.val fseq.toNat).blockOn (4 * lane.val + k) && !bit (capsFar f).slots k) then u.ev (laneEv lane.val 4) (entLane lane.val) 6 (capsFar f).slots else u)) →
        exec (.capsFrameReceive lane fseq f) s = .next (((v.enterLane lane.val 5).modLane lane.val (fun x => { x with asym := f.asym.toInt, answered := 0, last8 := [], meas := none })).twinWatch.scanReports)) ∧
  (∀ (lane : Fin 12) (w : State) (s : State),
      s.mainUp = true →
      s.laneState lane.val = 6 →
      (s.lane lane.val).meas = none →
      (s.lane lane.val).stuck = false →
      w = s.waitTill ((s.lane lane.val).measStart + 1000000000) →
        exec (.delayMeasurementStart lane) s = .next ((w.modLane lane.val (fun x => { x with measStart := w.now, meas := some (Meas.start0 w.now) })).twinWatch.scanReports)) ∧
  (∀ (lane : Fin 14) (m : Meas) (s : State),
      s.mainUp = true →
      lane.val < 12 →
      (s.laneState lane.val = 5 ∨ s.laneState lane.val = 6) →
      (s.lane lane.val).meas = some m →
      m.sent < 8 →
        exec (.dlyReqSend lane) s = .next (((s.waitTill (m.start + 125000 * m.sent)).reqOut lane.val { m with sent := m.sent + 1, xid := m.sent }).twinWatch.scanReports))

/-- DLY_REQ_RECEIVE on a Dreak lane in DELAY or ACTIVE: the frame is taken, and the response leaves with the times of arrival and departure. DLY_RESP_RECEIVE on a cabinet lane in DELAY or ACTIVE of the open exchange: its round trip joins the measurement, and the exchange is closed. DELAY_MEASUREMENT_COMPLETE on a cabinet lane in DELAY with 8 valid exchanges and the trimmed mean in range: LCH_DELAY takes the mean with AGE 0, a TIME frame leaves, the deadline is checked, and the lane enters ACTIVE. TIME_FRAME_SEND on an ACTIVE cabinet lane: 1 ms after the last one a TIME frame leaves. ALIVE_SEND on an ACTIVE lane: 50 µs after the last frame an ALIVE frame leaves. ALIVE_RECEIVE in CAPS, DELAY or ACTIVE: the frame's FSEQ and time of arrival are kept, and frames missing before it are counted. -/
def Obligations.LaneBringUpPart2 : Prop :=
  (∀ (lane : Fin 2) (fseq xid : BitVec 16) (wait : Nat) (s : State),
      s.mainUp = true →
      (s.laneState (12 + lane.val) = 5 ∨ s.laneState (12 + lane.val) = 6) →
        exec (.dlyReqReceive lane fseq xid wait) s = .next (((s.laneRx (12 + lane.val) fseq.toNat).answerReq (12 + lane.val) xid.toNat wait).twinWatch.scanReports)) ∧
  (∀ (lane : Fin 14) (fseq xid : BitVec 16) (t2Ns : BitVec 32) (t2Frac : BitVec 16) (t3Ns : BitVec 32) (t3Frac : BitVec 16) (m : Meas) (d o : Int) (u : State) (s : State),
      s.mainUp = true →
      lane.val < 12 →
      (s.laneState lane.val = 5 ∨ s.laneState lane.val = 6) →
      u = s.laneRx lane.val fseq.toNat →
      (u.lane lane.val).meas = some m →
      u.exchange lane.val m xid.toNat t2Ns.toNat t2Frac.toNat t3Ns.toNat t3Frac.toNat = some (d, o) →
        exec (.dlyRespReceive lane fseq xid t2Ns t2Frac t3Ns t3Frac) s = .next ((u.modLane lane.val (fun x => { x with meas := some { m with t1 := none, ds := d :: m.ds } })).twinWatch.scanReports)) ∧
  (∀ (lane : Fin 14) (m : Meas) (res : Int) (s : State),
      s.mainUp = true →
      lane.val < 12 →
      s.laneState lane.val = 5 →
      (s.lane lane.val).meas = some m →
      (s.lane lane.val).measAt = none →
      (8 ≤ m.sent ∧ 8 ≤ m.ds.length) →
      res = divNear (sumI (((sortI m.ds).drop 2).take 4)) (8 * 65536) →
      (0 ≤ res ∧ res ≤ 16777215) →
        exec (.delayMeasurementComplete lane) s = .next ((((((((s.wr (LCH_DELAY.DELAY lane.val) res.toNat).wr (LCH_DELAY.AGE lane.val) 0).modLane lane.val (fun x => { x with meas := none, measAt := some s.now, measBad := false })).sendTime lane.val).deadlineCheck lane.val).laneUp lane.val).twinWatch).scanReports)) ∧
  (∀ (lane : Fin 12) (s : State),
      s.mainUp = true →
      s.laneActive lane.val = true →
        exec (.timeFrameSend lane) s = .next (((s.waitTill ((s.lane lane.val).timeAt + 1000000)).sendTime lane.val).twinWatch.scanReports)) ∧
  (∀ (lane : Fin 14) (s : State),
      s.mainUp = true →
      s.laneActive lane.val = true →
        exec (.aliveSend lane) s = .next (((s.waitTill ((s.lane lane.val).txAt + 50000)).laneTx lane.val 0 ([0x15, 1] ++ List.replicate 6 0)).twinWatch.scanReports)) ∧
  (∀ (lane : Fin 14) (fseq : BitVec 16) (s : State),
      s.mainUp = true →
      s.laneHears lane.val = true →
        exec (.aliveReceive lane fseq) s = .next ((s.laneRx lane.val fseq.toNat).twinWatch.scanReports) ∧ ((s.laneRx lane.val fseq.toNat).lane lane.val) = { s.lane lane.val with fseqRx := some fseq.toNat, rxAt := s.now })

/-- LANE_FRAME_INVALID in CAPS, DELAY or ACTIVE, of blocks that hold a frame which fails its CRC, its LEN or its block count, or which is void: CRC_CNT counts, and the discard is remembered for 1 ms. LANE_FRAME_INVALID of a frame that passes its CRC but has a TYPE unknown on the lane: its FSEQ and arrival are kept, UNK_CNT counts, and the discard is remembered. LANE_ERROR_LIMIT on an ACTIVE lane with ERR_LIMIT or more discards within 1 ms: the lane leaves ACTIVE for TRAIN with cause 2, logged. LANE_BLOCK_LOCK_LOSS in CAPS, DELAY or ACTIVE: LOCK_CNT counts; an ACTIVE lane leaves for TRAIN with cause 1, logged. LANE_FRAME_TIMEOUT on an ACTIVE lane: LOSS_TIME after the last valid frame it leaves ACTIVE for TRAIN with cause 3, logged. LANE_SIGNAL_LOSS on an ACTIVE lane: after 1 µs it leaves ACTIVE with cause 6, logged, and is in DETECT. LANE_SIGNAL_DETECT in DEEP or IDLE: the lane wakes (IDLE of at most 1 s to ACTIVE, longer to DELAY, DEEP to DETECT). LANE_SIGNAL_DETECT in IDLE of at most 1 s: TP1 and 256 TRAIN blocks leave, the move is logged, and the lane enters ACTIVE. -/
def Obligations.LaneLossAndPower : Prop :=
  (∀ (lane : Fin 14) (blocks : List LaneBlock) (s : State),
      s.mainUp = true →
      s.laneHears lane.val = true →
      rxFrame (maxPayload lane.val) blocks = .void →
        exec (.laneFrameInvalid lane blocks) s = .next (((s.bump (LN.CRC_CNT lane.val)).discard lane.val).twinWatch.scanReports)) ∧
  (∀ (lane : Fin 14) (blocks : List LaneBlock) (q y : Nat) (p : List Nat) (s : State),
      s.mainUp = true →
      s.laneHears lane.val = true →
      rxFrame (maxPayload lane.val) blocks = .frame q y p →
      knownType lane.val (nth p 0 0) = false →
        exec (.laneFrameInvalid lane blocks) s = .next ((((s.laneRx lane.val q).bump (LN.UNK_CNT lane.val)).discard lane.val).twinWatch.scanReports)) ∧
  (∀ (lane : Fin 14) (s : State),
      s.mainUp = true →
      s.laneActive lane.val = true →
      s.rd (LN.ERR_LIMIT lane.val) ≤ ((s.lane lane.val).discards.filter (fun t => decide (s.now < t + 1000000))).length →
        exec (.laneErrorLimit lane) s = .next ((s.laneDown lane.val 2 3).twinWatch.scanReports)) ∧
  (∀ (lane : Fin 14) (s : State),
      s.mainUp = true →
      s.laneHears lane.val = true →
        exec (.laneBlockLockLoss lane) s = .next (((s.bump (LN.LOCK_CNT lane.val)).laneDown lane.val 1 3).twinWatch.scanReports)) ∧
  (∀ (lane : Fin 14) (s : State),
      s.mainUp = true →
      s.laneActive lane.val = true →
        exec (.laneFrameTimeout lane) s = .next (((s.waitTill ((s.lane lane.val).rxAt + 1000 * s.rd (LN.LOSS_TIME lane.val))).laneDown lane.val 3 3).twinWatch.scanReports)) ∧
  (∀ (lane : Fin 14) (s : State),
      s.mainUp = true →
      s.laneActive lane.val = true →
        exec (.laneSignalLoss lane) s = .next ((((s.cycles 100).laneDown lane.val 6 2).toDetect lane.val).twinWatch.scanReports) ∧ (((s.cycles 100).laneDown lane.val 6 2).toDetect lane.val).laneState lane.val = 2) ∧
  (∀ (lane : Fin 14) (s : State),
      s.mainUp = true →
      (s.laneState lane.val = 7 ∨ s.laneState lane.val = 1) →
        exec (.laneSignalDetect lane) s = .next ((s.lpWake lane.val).twinWatch.scanReports)) ∧
  (∀ (lane : Fin 14) (s : State),
      s.mainUp = true →
      s.laneState lane.val = 7 →
      s.now - (s.lane lane.val).since ≤ 1000000000 →
        exec (.laneSignalDetect lane) s = .next ((((s.wakePattern lane.val).ev 0x0506 (entLane lane.val) 7 6).laneUp lane.val).twinWatch.scanReports))

/-- LANE_SIGNAL_DETECT in DEEP: the serial PLL channel is relocked where its whole group was off, the move is logged, and the lane is in DETECT. LANE_RETRAIN of an ACTIVE lane of the grade: it leaves ACTIVE for TRAIN with cause 5, logged. LANE_LP_UP of a lane that is not held: LP reads 0, an LP_REQ without answer is dropped, and a lane in low power or OFF wakes. LANE_LP_IDLE of an ACTIVE lane that is not held, in DORMANT or COMMISSION: LP reads 1 and an LP_REQ with that target leaves. LANE_LP_DEEP of an ACTIVE lane that is not held, in DORMANT or COMMISSION: LP reads 2 and an LP_REQ with that target leaves. LANE_LP_IDLE and LANE_LP_DEEP of a lane that carries frames, in ACTIVE, SHADOW, LIMP or HALT: refused and logged with the target and the mode; LP stays. LANE_LP_OFF of a lane that is neither held, ACTIVE nor OFF: LP reads 3, and the lane is OFF, logged with the states. LANE_LP_OFF of an ACTIVE lane that is not held: LP reads 3, the move is logged, and the lane leaves ACTIVE for OFF with cause 7. -/
def Obligations.LaneLossAndPowerPart2 : Prop :=
  (∀ (lane : Fin 14) (s : State),
      s.mainUp = true →
      s.laneState lane.val = 1 →
        exec (.laneSignalDetect lane) s = .next ((((if s.groupOff lane.val then s.emit (.pattern lane.val .relock) else s).ev 0x0506 (entLane lane.val) 1 2).toDetect lane.val).twinWatch.scanReports)) ∧
  (∀ (lane : Fin 14) (s : State),
      s.up = true →
      (s.grade = .ph4812 → lane.val < 12) →
      s.laneActive lane.val = true →
        exec (.laneRetrain lane) s = .next ((s.laneDown lane.val 5 3).twinWatch)) ∧
  (∀ (lane : Fin 14) (s : State),
      s.up = true →
      (s.grade = .ph4812 → lane.val < 12) →
      s.lpHeld lane.val = false →
        exec (.laneLpUp lane) s = .next ((((s.wr (LN.LP lane.val) 0).modLane lane.val (fun x => { x with lpReq := none })).lpWake lane.val).twinWatch)) ∧
  (∀ (lane : Fin 14) (s : State),
      s.up = true →
      (s.grade = .ph4812 → lane.val < 12) →
      s.lpHeld lane.val = false →
      (s.glb.mode = .dormant ∨ s.glb.mode = .commission) →
      s.laneActive lane.val = true →
        exec (.laneLpIdle lane) s = .next (((((s.wr (LN.LP lane.val) 1).modLane lane.val (fun x => { x with lpReq := some 1 })).laneTx lane.val 0 (lpFrame 0x14 1))).twinWatch)) ∧
  (∀ (lane : Fin 14) (s : State),
      s.up = true →
      (s.grade = .ph4812 → lane.val < 12) →
      s.lpHeld lane.val = false →
      (s.glb.mode = .dormant ∨ s.glb.mode = .commission) →
      s.laneActive lane.val = true →
        exec (.laneLpDeep lane) s = .next (((((s.wr (LN.LP lane.val) 2).modLane lane.val (fun x => { x with lpReq := some 2 })).laneTx lane.val 0 (lpFrame 0x14 2))).twinWatch)) ∧
  (∀ (lane : Fin 14) (s : State),
      s.up = true →
      (s.grade = .ph4812 → lane.val < 12) →
      s.lpHeld lane.val = false →
      (s.glb.mode ≠ .dormant ∧ s.glb.mode ≠ .commission) →
      (12 ≤ lane.val ∨ s.carriesFrames lane.val = true) →
        exec (.laneLpIdle lane) s = .next ((s.ev 0x0507 (entLane lane.val) 1 s.glb.mode.code).twinWatch) ∧ exec (.laneLpDeep lane) s = .next ((s.ev 0x0507 (entLane lane.val) 2 s.glb.mode.code).twinWatch)) ∧
  (∀ (lane : Fin 14) (s : State),
      s.up = true →
      (s.grade = .ph4812 → lane.val < 12) →
      s.lpHeld lane.val = false →
      s.laneActive lane.val = false →
      s.laneState lane.val ≠ 0 →
        exec (.laneLpOff lane) s = .next (((s.wr (LN.LP lane.val) 3).lpMove lane.val 0).twinWatch)) ∧
  (∀ (lane : Fin 14) (s : State),
      s.up = true →
      (s.grade = .ph4812 → lane.val < 12) →
      s.lpHeld lane.val = false →
      s.laneActive lane.val = true →
        exec (.laneLpOff lane) s = .next ((((s.wr (LN.LP lane.val) 3).ev 0x0506 (entLane lane.val) 6 0).laneDown lane.val 7 0).twinWatch))

/-- LP_REQ_RECEIVE on an ACTIVE Dreak lane with target 1 or 2: the frame is taken, LP_ACK with the target leaves, and the lane enters IDLE or DEEP; with any other target LP_ACK with 0 leaves and the lane stays. LP_ACK_RECEIVE in ACTIVE or IDLE that answers the lane's LP_REQ with its target: the frame is taken and the lane enters IDLE or DEEP. CLC_CLR_COUNTS: the counters of the 12 cabinet lanes read zero, and nothing else changed. DLC_CLR_COUNTS on a PH4800: the counters of both Dreak lanes and YSEQ_GAP read zero, and nothing else changed. EYE_SCAN of an ACTIVE cabinet lane with valid arguments and a buffer long enough, fewer than two scans running and none on that lane: the scan starts. EYE_SCAN_COMPLETE of the running scan of a lane: after its dwell its header and counts go to host memory, its descriptor completes with PROGRESS 1000 and the number of points, and the waiting scans take their turn. -/
def Obligations.LaneLossAndPowerPart3 : Prop :=
  (∀ (lane : Fin 2) (fseq : BitVec 16) (target : BitVec 8) (u : State) (s : State),
      s.mainUp = true →
      s.laneActive (12 + lane.val) = true →
      u = s.laneRx (12 + lane.val) fseq.toNat →
        exec (.lpReqReceive lane fseq target) s = .next ((if target.toNat = 1 ∨ target.toNat = 2 then (u.laneTx (12 + lane.val) 0 (lpFrame 0x16 target.toNat)).lpEnter (12 + lane.val) target.toNat else u.laneTx (12 + lane.val) 0 (lpFrame 0x16 0)).twinWatch.scanReports)) ∧
  (∀ (lane : Fin 14) (fseq : BitVec 16) (target : BitVec 8) (s : State),
      s.mainUp = true →
      (s.laneState lane.val = 6 ∨ s.laneState lane.val = 7) →
      (s.lane lane.val).lpReq = some target.toNat →
        exec (.lpAckReceive lane fseq target) s = .next (((s.laneRx lane.val fseq.toNat).lpEnter lane.val target.toNat).twinWatch.scanReports)) ∧
  (∀ (s : State),
      s.up = true →
        ∃ t, exec .clcClrCounts s = .next t ∧ { t with regs := s.regs } = s ∧
        (∀ l, l < 12 → t.reg (laneBase l + 0xC) = 0 ∧ t.reg (laneBase l + 0x10) = 0) ∧
        (∀ o, (∀ l, l < 12 → o ≠ laneBase l + 0xC ∧ o ≠ laneBase l + 0x10) → t.reg o = s.reg o)) ∧
  (∀ (s : State),
      s.up = true →
      s.grade = .ph4800 →
        ∃ t, exec .dlcClrCounts s = .next t ∧ t.rd DLC_YOKE_STAT.YSEQ_GAP = 0 ∧
        (∀ l, l = 12 ∨ l = 13 → t.reg (laneBase l + 0xC) = 0 ∧ t.reg (laneBase l + 0x10) = 0) ∧
        s.onlyRegs t [laneBase 12 + 0xC, laneBase 12 + 0x10, laneBase 13 + 0xC, laneBase 13 + 0x10, DLC_YOKE_STAT.YSEQ_GAP.off]) ∧
  (∀ (d : DescRef) (a : ScanArg) (s : State),
      s.ready d 0x0501 = true →
      (a.lane.toNat / 2048 = 3 ∧ a.lane.toNat % 2048 < 12) →
      ((scanOf a d).argsOk = true ∧ a.reservedZero = true) →
      32 + 4 * (scanOf a d).points ≤ a.len.toNat →
      (s.link.scans.length < 2 ∧ s.link.scans.any (fun x => x.lane = (scanOf a d).lane) = false) →
      s.laneActive (a.lane.toNat % 2048) = true →
        exec (.eyeScan d a) s = .next ((s.start d).startScan (scanOf a d)) ∧ ((s.start d).startScan (scanOf a d)).link.scans = s.link.scans ++ [{ scanOf a d with start := s.now, site := s.siteNs, ctle := s.rd (LN.CTLE (scanOf a d).lane), dfe := (s.lane (scanOf a d).lane).dfe }]) ∧
  (∀ (lane : Fin 14) (counts : List (BitVec 32)) (c : Scan) (w : State) (s : State),
      s.mainUp = true →
      s.link.scans.find? (fun (x : Scan) => x.lane = lane.val) = some c →
      (w = s.waitTill (c.start + divUp (c.points * 2 ^ c.dwell * 10000) (if c.lane < 12 then 62500 else 103125))) →
        exec (.eyeScanComplete lane counts) s = .next ((((({ w with link := { w.link with scans := w.link.scans.erase c } } : State).emit (.host c.addr (c.header c.points w.now ++ (List.range c.points).flatMap (fun i => leBytes 4 (nth (counts.map (fun (v : BitVec 32) => v.toNat)) i 0))))).complete c.ring c.idx false false 1000 0 (leBytes 4 c.points)).nextScan).twinWatch.scanReports))

/-- PRESS_CYCLE_START: at its instant the next cycle is the present one, and the curd in force is the one whose launch instant it has reached. PHASE_SEND while the Press runs on its lane, the lane ACTIVE, in a mode that sends frames: the PHASE frame of the next cycle, worked out on a copy of the state, leaves at once with the next FSEQ; no register and no event changed. PRESS_CONTROL_SAMPLE of an enabled converter in cycle c: BAT_V, BUS_V and the sample of BAT_I are kept, the peaks follow, the load-step detector has judged it; then a converter in soft start or running computes its loop. ILIM_ASSERT of a phase of a converter not yet limited in this cycle: the cycle is current-limited and CCE_CBC_CNT counts it. SS_RETRY_DELAY_EXPIRE: when the retry delay is over one more retry is used (at most 15), and a converter that is off may soft-start with the next curd. RUNNING_RETRY_CLEAR of a running converter: 10 s after it entered running, its retries are 0 again. -/
def Obligations.Press : Prop :=
  (∀ (s : State),
      s.up = true →
        ∃ t u : State, exec .pressCycleStart s = .next t ∧ u = s.waitSite (s.cycleAt s.nextCycle) ∧ t = u.enterCycle s.nextCycle ∧ t.cce.cycle = some s.nextCycle ∧
        t.cce.launch = (u.curdFor (u.cycleAt s.nextCycle)).map (·.launch)) ∧
  (∀ (c : Nat) (s : State),
      s.up = true →
      s.pressOn = true →
      s.flag GLB_SITE_CFG.PRESS_OUT = true →
      s.sendsFrames = true →
      s.cce.cycle = some c →
      s.laneActive (s.rd GLB_SITE_CFG.PRESS_LANE) = true →
        ∃ t, exec .phaseSend s = .next t ∧ t.regs = s.regs ∧ t.log = s.log ∧ t.cce = s.cce ∧
        t = s.laneOut (s.rd GLB_SITE_CFG.PRESS_LANE) 0 0 (({ s with out := [] } : State).enterCycle (c + 1) |>.phasePayload (c + 1))) ∧
  (∀ (conv : Fin 4) (batI busV batV : BitVec 32) (c : Nat) (s : State),
      s.up = true →
      s.flag (CCE_CONV.EN conv.val) = true →
      s.cce.cycle = some c →
      s.rd (CCE_IN.IN_BAT conv.val) ≠ 0x3F →
        ∃ u : State, exec (.pressControlSample conv batI busV batV) s = .next (if (u.cv conv.val).state == .soft then (u.loop conv.val c (s.waitSite (s.cycleAt c + s.rd CCE_CFG.PERIOD * 5 / 64)).siteNs batI.toInt busV.toInt batV.toInt).ssMonitor conv.val (s.waitSite (s.cycleAt c + s.rd CCE_CFG.PERIOD * 5 / 64)).siteNs busV.toInt
        else if (u.cv conv.val).state == .running then (u.loop conv.val c (s.waitSite (s.cycleAt c + s.rd CCE_CFG.PERIOD * 5 / 64)).siteNs batI.toInt busV.toInt batV.toInt).zeroWatch conv.val batI.toInt else u) ∧
        (u.cv conv.val).busV = busV.toInt ∧ (u.cv conv.val).batV = batV.toInt ∧ (u.cv conv.val).lastI = (c, batI.toInt) :: (s.cv conv.val).lastI.take 1 ∧
        u.rd (CCE_PEAK_I.PEAK_I conv.val) = max (s.rd (CCE_PEAK_I.PEAK_I conv.val)) batI.toInt.natAbs % 2 ^ (CCE_PEAK_I.PEAK_I conv.val).w) ∧
  (∀ (phase : Fin 32) (k : Nat) (s : State),
      s.up = true →
      s.convOfPhase phase.val = some k →
      (s.cv k).limNow = false →
        ∃ t, exec (.ilimAssert phase) s = .next t ∧ (t.cv k).limNow = true ∧ (t.cv k).state = (s.cv k).state ∧
        t.rd (CCE_CBC_CNT.CNT k) = satAdd 32 (s.rd (CCE_CBC_CNT.CNT k)) 1 ∧ t.log = s.log) ∧
  (∀ (conv : Fin 4) (t0 : Nat) (s : State),
      s.up = true →
      (s.cv conv.val).retryAt = some t0 →
        exec (.ssRetryDelayExpire conv) s = .next (((s.waitTill t0).modCv conv.val (fun x => { x with retryAt := none, retries := min 15 (x.retries + 1) })).armCv conv.val)) ∧
  (∀ (conv : Fin 4) (s : State),
      s.up = true →
      (s.cv conv.val).state = .running →
        ∃ t, exec (.runningRetryClear conv) s = .next t ∧ t.cv conv.val = { s.cv conv.val with retries := 0 } ∧ t.regs = s.regs ∧ t.log = s.log ∧
        (s.cv conv.val).runAt + 10000000000 ≤ t.now)

/-- ZERO_CURD_SWITCH_OFF: 10 ms after the converter began to regulate to 0 A it is off, held with reason 5, and CONNECT reads 0. CCE_CONNECT outside SHADOW: CONNECT of the converter reads 1, and nothing else changed; in SHADOW it changes nothing. CCE_DISCONNECT of a running converter outside SHADOW: CONNECT reads 0, and the converter regulates to 0 A from now on. CCE_UNLATCH of a latched converter outside SHADOW: it is off with no retries used, may soft-start with the next curd, and the unlatching is logged with the retries it had. CCE_CLR_PEAK: the peak registers of every converter start again, and nothing else changed. CCE_CLR_COUNTS: the current-limit and skim counters of every converter read zero, and nothing else changed. -/
def Obligations.PressPart2 : Prop :=
  (∀ (conv : Fin 4) (t0 : Nat) (s : State),
      s.up = true →
      (s.cv conv.val).zeroAt = some t0 →
        ∃ t, exec (.zeroCurdSwitchOff conv) s = .next t ∧ (t.cv conv.val).state = .off ∧ (t.cv conv.val).act = [] ∧ (t.cv conv.val).zeroHold = true ∧
        t.rd (CCE_CTL.CONNECT conv.val) = 0 ∧ t.log = s.log ∧ t0 + 10000000 ≤ t.now) ∧
  (∀ (conv : Fin 4) (s : State),
      s.up = true →
        ∃ t, exec (.cceConnect conv) s = .next t ∧ (s.glb.mode ≠ .shadow → t.rd (CCE_CTL.CONNECT conv.val) = 1 ∧ s.onlyRegs t [(CCE_CTL.CONNECT conv.val).off]) ∧
        (s.glb.mode = .shadow → t = s)) ∧
  (∀ (conv : Fin 4) (s : State),
      s.up = true →
      s.glb.mode ≠ .shadow →
      ((s.cv conv.val).state = .running ∧ (s.cv conv.val).zeroAt = none) →
        ∃ t, exec (.cceDisconnect conv) s = .next t ∧ t.rd (CCE_CTL.CONNECT conv.val) = 0 ∧ t.cv conv.val = { s.cv conv.val with zeroAt := some s.now, zeroRun := 0 } ∧
        t.log = s.log ∧ ∀ j, j ≠ conv.val → t.cv j = s.cv j) ∧
  (∀ (conv : Fin 4) (s : State),
      s.up = true →
      s.glb.mode ≠ .shadow →
      (s.cv conv.val).state = .latched →
        exec (.cceUnlatch conv) s = .next (((s.setCv conv.val { s.cv conv.val with retries := 0, state := .off }).ev 0x070C (entConv conv.val) (s.cv conv.val).retries 0).armCv conv.val)) ∧
  (∀ (s : State),
      s.up = true →
        ∃ t, exec .cceClrPeak s = .next t ∧ (∀ k, k < 4 → t.rd (CCE_PEAK_I.PEAK_I k) = 0 ∧ t.rd (CCE_PEAK_BUS.MAX k) = 0 ∧ t.rd (CCE_PEAK_BUS.MIN k) = 0xFFFF) ∧
        s.onlyRegs t ((List.range 4).flatMap (fun k => [(CCE_PEAK_I.PEAK_I k).off, (CCE_PEAK_BUS.MAX k).off]))) ∧
  (∀ (s : State),
      s.up = true →
        ∃ t, exec .cceClrCounts s = .next t ∧ (∀ k, k < 4 → t.rd (CCE_CBC_CNT.CNT k) = 0 ∧ t.rd (CCE_SKIM_CNT.DONE k) = 0 ∧ t.rd (CCE_SKIM_CNT.ABORT k) = 0) ∧
        s.onlyRegs t ((List.range 4).flatMap (fun k => [(CCE_CBC_CNT.CNT k).off, (CCE_SKIM_CNT.DONE k).off])))

/-- METERING_SAMPLE of an enabled port with its modulator clock running and no 16 kS/s sample missing: both channels show their new samples, the product is accumulated and counted in the spans, running captures take the samples, and the port's voltage and current are posted with the stamp of the window. METERING_SAMPLE of an enabled port with its modulator clock running, a 16 kS/s sample of one of its channels missing: the window is counted as missing in the spans, and nothing is accumulated. METERING_SAMPLE of a pair of auxiliary channels with its modulator clock running: the enabled ones of the two show their samples, unless one is missing. AC_SAMPLE of an enabled AC point with its modulator clock running and no sample missing: its channels take the window, the three-phase product is accumulated, and G_P over the last PAVG products is posted with its stamp. AC_SAMPLE of an enabled AC point with its modulator clock running, a sample of one of its channels missing: the window is counted as missing, and nothing is accumulated. AC_WINDOW_END of an enabled AC point with its modulator clock running and no channel of it in fault, its first window: the words of the window are kept, WIN counts, and the detectors judge it. AC_FREQ10_WINDOW of an enabled AC point: at the next whole multiple of 10 s the 10-s frequency is held among the words of the point, and no register changed. MTE_CHECKPOINT outside a brown-out: at the next whole second that is PERIOD seconds after the last checkpoint, the accumulators go with the next sequence number to the copy that does not win, and nothing else changed. MODULATOR_STUCK of an enabled channel whose modulator clock runs, cause 1 not yet in force: the cause is in force from now, four samples are skipped, a running capture that names the channel is marked, and the fault is logged. -/
def Obligations.MetrologySamplesAndReadings : Prop :=
  (∀ (port : Fin 28) (lead : Nat) (codesV codesI : List (BitVec 24)) (w u : State) (v i : Int) (s : State),
      s.up = true →
      (s.mclk (port.val / 4 + if port.val < 24 then 0 else 1) = true) →
      port.val < 24 →
      s.portOn port.val = true →
      (s.windowEnd port.val 62500).2 = false →
      w = (s.windowEnd port.val 62500).1 →
      v = w.window (2 * port.val) lead 0 false codesV →
      i = w.window (2 * port.val + 1) lead 0 true codesI →
      u = (((((w.chanOut (2 * port.val) v).chanOut (2 * port.val + 1) i).addProduct port.val (v * i)).feedChan (2 * port.val) v (w.rawWindow (2 * port.val) lead 0 false codesV)).feedChan (2 * port.val + 1) i (w.rawWindow (2 * port.val + 1) lead 0 true codesI)).feedEnergy (2 * port.val) (v * i) (w.rawWindow (2 * port.val) lead 0 false codesV * w.rawWindow (2 * port.val + 1) lead 0 true codesI) →
        exec (.meteringSample port lead codesV codesI) s = .next { u with alp := { u.alp with inPort := tput u.alp.inPort port.val (mailPost (tget (fun _ => []) u.alp.inPort port.val) u.siteNs { v := divZ v 256, i := divZ i 256 }) } }) ∧
  (∀ (port : Fin 28) (lead : Nat) (codesV codesI : List (BitVec 24)) (w : State) (s : State),
      s.up = true →
      (s.mclk (port.val / 4 + if port.val < 24 then 0 else 1) = true) →
      port.val < 24 →
      s.portOn port.val = true →
      (s.windowEnd port.val 62500).2 = true →
      w = (s.windowEnd port.val 62500).1 →
        exec (.meteringSample port lead codesV codesI) s = .next (w.missWindow port.val)) ∧
  (∀ (port : Fin 28) (lead : Nat) (codesV codesI : List (BitVec 24)) (w : State) (m : Bool) (s : State),
      s.up = true →
      (s.mclk (port.val / 4 + if port.val < 24 then 0 else 1) = true) →
      24 ≤ port.val →
      s.windowEnd (26 + (port.val - 24)) 62500 = (w, m) →
        exec (.meteringSample port lead codesV codesI) s = .next (if m then w else (w.auxChan (56 + 2 * (port.val - 24)) lead codesV).auxChan (57 + 2 * (port.val - 24)) lead codesI)) ∧
  (∀ (point : Fin 2) (lead : Nat) (codesV codesI : List (List (BitVec 24))) (w u : State) (p : Int) (h : List Int) (s : State),
      s.up = true →
      s.mclk 6 = true →
      s.acOn point.val = true →
      (s.windowEnd (24 + point.val) 125000).2 = false →
      w = (s.windowEnd (24 + point.val) 125000).1 →
      (u = (w.acProduct point.val lead codesV codesI).1 ∧ p = (w.acProduct point.val lead codesV codesI).2) →
      h = (p :: ((u.addProduct (24 + point.val) p).meter (24 + point.val)).hist).take (max 1 (s.rd (MTE_AC_CFG.PAVG point.val))) →
        ∃ t, exec (.acSample point lead codesV codesI) s = .next t ∧ ∃ v, v = (u.addProduct (24 + point.val) p).setMeter (24 + point.val) { (u.addProduct (24 + point.val) p).meter (24 + point.val) with hist := h } ∧
        t = { v with alp := { v.alp with inAc := tput v.alp.inAc point.val (mailPost (tget (fun _ => []) v.alp.inAc point.val) v.siteNs (divZ (sumI h) (h.length * 65536 * 1000000))) } }) ∧
  (∀ (point : Fin 2) (lead : Nat) (codesV codesI : List (List (BitVec 24))) (w : State) (s : State),
      s.up = true →
      s.mclk 6 = true →
      s.acOn point.val = true →
      (s.windowEnd (24 + point.val) 125000).2 = true →
      w = (s.windowEnd (24 + point.val) 125000).1 →
        exec (.acSample point lead codesV codesI) s = .next (w.missWindow (24 + point.val))) ∧
  (∀ (point : Fin 2) (x : AcWindow) (s : State),
      s.up = true →
      s.mclk 6 = true →
      s.acOn point.val = true →
      (s.acp point.val).winAt = none →
      (s.needs (24 + point.val)).any (fun c => !s.flag (MTE_CH_CFG.EN c) || (s.mch c).cause != 0 || (s.mch c).skip != 0) = false →
        exec (.acWindowEnd point x) s = .next (((s.setAcp point.val { s.acp point.val with winAt := some s.now, words := acWords x (nth (s.acp point.val).words 16 0), freq := some x.f.toNat }).bumpWrap (MTE_AC_STAT.WIN point.val)).acDetect point.val x)) ∧
  (∀ (point : Fin 2) (f : BitVec 24) (w : State) (s : State),
      s.up = true →
      s.acOn point.val = true →
      w = s.waitSite (10000000000 * divUp s.siteNs 10000000000) →
        exec (.acFreq10Window point f) s = .next (w.setAcp point.val { w.acp point.val with words := (((w.acp point.val).words ++ List.replicate 20 0).take 20).set 16 f.toNat }) ∧ w.regs = s.regs ∧ w.log = s.log) ∧
  (∀ (w : State) (s : State),
      s.up = true →
      s.glb.brownAt = none →
      w = s.waitSite (max ((match s.ckpt with | none => 0 | some c => 1000000000 * (c.t / 1000000000)) + 1000000000 * max 1 (s.rd MTE_CKPT.PERIOD)) (1000000000 * divUp s.siteNs 1000000000)) →
        ∃ t, exec .mteCheckpoint s = .next t ∧ t = w.writeCkpt ∧ { t with mte := w.mte } = w ∧ t.mte.chans = w.mte.chans ∧ t.mte.meters = w.mte.meters) ∧
  (∀ (chan : Fin 72) (s : State),
      s.up = true →
      s.mclk (clockOf chan.val) = true →
      s.flag (MTE_CH_CFG.EN chan.val) = true →
      (s.mch chan.val).cause.testBit 0 = false →
        exec (.modulatorStuck chan) s = .next ((State.setMch { s with mte := { s.mte with caps := s.mte.caps.map (fun (j : MCap) => if (mcapChans j.kind j.a j.b).contains chan.val then { j with hit := true } else j) } } chan.val { s.mch chan.val with cause := (s.mch chan.val).cause + causeBit 1, since := s.now, skip := 4, lost := if (s.mch chan.val).cause = 0 && (s.mch chan.val).skip = 0 then 0 else (s.mch chan.val).lost }).ev 0x0801 (chanEnt chan.val) (chanArg chan.val) 1))

/-- SINC3_OVERFLOW of an enabled channel whose modulator clock runs, cause 2 not yet in force: the cause is in force from now, four samples are skipped, a running capture that names the channel is marked, and the fault is logged. MODULATOR_RESTORED of a channel with only causes 1 and 2 in force: 1 ms after the last detection no cause is left, four samples are skipped, and the return is logged with the windows missed. MTE_OVERRANGE of an enabled channel that leaves full scale: the run ends and is logged once, with its length. MTE_OVERRANGE of an enabled channel that has come to full scale: its MTE_OVR bit reads 1, the open spans of its entity show the overrange, and the run starts; nothing is logged. MTE_CAPTURE outside DORMANT with arguments in range, a buffer long enough and fewer than 8 jobs running: the job starts (and ends at once where a named channel is disabled or in fault). MTE_CAPTURE_COMPLETE of a running job with all its samples taken: it leaves the list, its result goes to host memory, its descriptor completes with the samples taken, and waiting jobs start. INTERVAL_BOUNDARY: the next boundary that has not been taken is reached, and every boundary passed gets its readings, in ascending entity index. ROLL_LATCH_READ of an entity whose accumulators wrapped less than twice since the last read: the seven registers of its group take the accumulators of one instant, the wrap counts start again, and nothing is logged. AC_STAT_LATCH_READ of an AC point: the registers of its window values take the words of the last window, one after the other, and nothing else changed. -/
def Obligations.MetrologySamplesAndReadingsPart2 : Prop :=
  (∀ (chan : Fin 72) (s : State),
      s.up = true →
      s.mclk (clockOf chan.val) = true →
      s.flag (MTE_CH_CFG.EN chan.val) = true →
      (s.mch chan.val).cause.testBit 1 = false →
        exec (.sinc3Overflow chan) s = .next ((State.setMch { s with mte := { s.mte with caps := s.mte.caps.map (fun (j : MCap) => if (mcapChans j.kind j.a j.b).contains chan.val then { j with hit := true } else j) } } chan.val { s.mch chan.val with cause := (s.mch chan.val).cause + causeBit 2, since := s.now, skip := 4, lost := if (s.mch chan.val).cause = 0 && (s.mch chan.val).skip = 0 then 0 else (s.mch chan.val).lost }).ev 0x0801 (chanEnt chan.val) (chanArg chan.val) 2)) ∧
  (∀ (chan : Fin 72) (w : State) (s : State),
      s.up = true →
      (s.mch chan.val).cause % 4 ≠ 0 →
      (s.mch chan.val).cause &&& 3 ≠ 0 →
      clearBits (s.mch chan.val).cause 3 = 0 →
      w = s.waitTill ((s.mch chan.val).since + 1000000) →
        exec (.modulatorRestored chan) s = .next ((w.setMch chan.val { s.mch chan.val with cause := 0, skip := 4, back := w.now }).ev 0x0802 (chanEnt chan.val) (chanArg chan.val) (s.mch chan.val).lost)) ∧
  (∀ (chan : Fin 72) (t0 : Nat) (s : State),
      s.up = true →
      s.flag (MTE_CH_CFG.EN chan.val) = true →
      (s.mch chan.val).fullAt = some t0 →
        exec (.mteOverrange chan false) s = .next ((s.setMch chan.val { s.mch chan.val with fullAt := none }).ev 0x0803 (chanEnt chan.val) (chanArg chan.val) ((s.now - t0) / 1000))) ∧
  (∀ (chan : Fin 72) (s : State),
      s.up = true →
      s.flag (MTE_CH_CFG.EN chan.val) = true →
      (s.mch chan.val).fullAt = none →
        exec (.mteOverrange chan true) s = .next (s.overOn chan.val)) ∧
  (∀ (d : DescRef) (a : McapArg) (s : State),
      s.ready d 0x0801 = true →
      s.glb.mode ≠ .dormant →
      mcapArgOk a = true →
      mcapSize a.kind.toNat a.count.toNat ≤ a.len.toNat →
      s.mte.caps.length < 8 →
        exec (.mteCapture d a) s = .next ((s.start d).startMcap { ring := d.ring.val, idx := d.idx.toNat, a := a.a.toNat, b := a.b.toNat, kind := a.kind.toNat, count := a.count.toNat, addr := a.addr.toNat, corrected := a.flags.toNat = 1, freq := a.freq.toNat, hit := false, n := 0, data := [], sum := 0, sq := 0, lo := 0, hi := 0, imp := 0, exp := 0, zero := 0 })) ∧
  (∀ (d : DescRef) (shift amps : BitVec 64) (j : MCap) (s : State),
      s.up = true →
      s.mte.caps.find? (fun j => j.ring = d.ring.val && j.idx = d.idx.toNat) = some j →
      j.count ≤ j.n →
      j.hit = false →
        exec (.mteCaptureComplete d shift amps) s = .next (((State.emit { s with mte := { s.mte with caps := s.mte.caps.filter (fun x => x.ring ≠ j.ring || x.idx ≠ j.idx) } } (.host j.addr (j.result (leBytes 8 shift.toNat ++ leBytes 8 amps.toNat)))).complete j.ring j.idx false false j.progress 0 (leBytes 4 j.n)).nextMcap)) ∧
  (∀ (w : State) (s : State),
      s.up = true →
      w = s.mark.waitSite s.nextBoundary →
        exec .intervalBoundary s = .next (w.closeTo w.siteNs) ∧ w.regs = s.mark.regs ∧ w.log = s.mark.log) ∧
  (∀ (entity : Fin 26) (m : Meter) (b : Nat) (s : State),
      s.up = true →
      m = s.meter entity.val →
      b = rollBase entity.val →
      (m.imp.wraps < 2 ∧ m.exp.wraps < 2) →
        exec (.rollLatchRead entity) s = .next ((((((((s.setReg b (m.imp.roll / 2 ^ 32 + m.exp.roll / 2 ^ 32 * 256)).setReg (b + 4) (m.imp.roll % 2 ^ 32)).setReg (b + 8) (m.exp.roll % 2 ^ 32)).setReg (b + 12) (m.imp.acc % 2 ^ 32)).setReg (b + 16) (m.imp.acc / 2 ^ 32)).setReg (b + 20) (m.exp.acc % 2 ^ 32)).setReg (b + 24) (m.exp.acc / 2 ^ 32)).setMeter entity.val { m with imp := { m.imp with wraps := 0 }, exp := { m.exp with wraps := 0 } })) ∧
  (∀ (point : Fin 2) (s : State),
      s.up = true →
        ∃ t, exec (.acStatLatchRead point) s = .next t ∧ t.log = s.log ∧ t.mte = s.mte ∧ t = (List.range (s.acp point.val).words.length).foldl (fun u i => u.setReg (0x38414 + 0x100 * point.val + 4 * i) (nth (s.acp point.val).words i 0)) s)

/-- RECORD_BUILD of an interval reading, with a key, a chain, no key roll under way, no waiting session end, no takeover, no UNLINKED debt and the reserve free: an INTERVAL record closed by the reading takes the next journal position, continues its chain in SEQ and PREV_HASH, and becomes the chain head. MRAM_REFRESH outside a brown-out: 365 days of the calendar after the last one (at once when overdue), the copies that fail their check do not count, each area with two copies keeps its contents and a failing copy takes those of the other, and the refresh is logged with the areas and whether a copy was repaired. EXPORT with a buffer of whole records: the records after RSL_JPOS_EXP that fit go to host memory, the position moves past them, and the descriptor completes with their number and first position. ACK at or before RSL_JPOS_EXP and after RSL_JPOS_ACK with no SESSION record waiting, outside a brown-out: the position is acknowledged, the copy of the journal header that does not win takes it, and the descriptor completes. READ of records the journal still holds with room for them: their bytes go to host memory, and the descriptor completes. HEADS with room for the head entries: the 26 entries go to host memory, and the descriptor completes. -/
def Obligations.RecordsAndKeys : Prop :=
  (∀ (r : Reading) (session key : Nat) (l : List Work) (h : ChainHead) (s : State),
      (s.up = true ∧ s.sealing = true ∧ s.glb.brownAt = none ∧ s.rsl.cut = false) →
      (s.kvt.key = some key ∧ s.kvt.rolls = [] ∧ s.rsl.waiting = [] ∧ s.rsl.work = .interval r session :: l) →
      (s.head r.e = some h ∧ tget (fun _ => none) s.rsl.takeover r.e = none ∧ s.rsl.unlinked.contains r.e = false) →
      s.rd RSL_JRNL_CFG.RESERVE / 2 ≤ s.jFree →
        ∃ (x : Rec) (t : State), exec (.recordBuild none) s = .next t ∧ t = State.intervalRecord { s with rsl := { s.rsl with work := l } } h r session key ∧ t.rsl.work = l ∧ t.rsl.next = s.rsl.next + 1 ∧ t.rsl.journal = ((s.rsl.next, x) :: s.rsl.journal).take 61440 ∧
        x.type = 0x0101 ∧ x.e = r.e ∧ x.seq = h.seq + 1 ∧ x.prevHash = h.hash ∧ x.gen = s.keyGen ∧ x.tStart = h.tEnd ∧ x.tEnd = r.tBound ∧ x.closeImp = r.imp ∧ x.closeExp = r.exp ∧ x.tSeal = s.siteNs ∧
        t.head r.e = some { seq := h.seq + 1, j := s.rsl.next, hash := x.hash, calId := r.calId, tEnd := r.tBound, imp := r.imp, exp := r.exp }) ∧
  (∀ (bad : List MramPart) (w u : State) (p : Twins KeySlot) (s : State),
      s.up = true →
      s.glb.brownAt = none →
      w = s.waitCalendar (s.rsl.refreshAt + 31536000000000000) →
      u = bad.foldl State.spoil w →
      p = u.slotPair.refresh →
        exec (.mramRefresh bad) s = .next (State.ev { u with rsl := { u.rsl with hdr := u.rsl.hdr.refresh, refreshAt := u.calendarNs }, kvt := { u.kvt with helpers := u.kvt.helpers.refresh, slotA := p.a.map (fun (c : Copy KeySlot) => c.val), slotB := p.b.map (fun (c : Copy KeySlot) => c.val) }, glb := { u.glb with images := u.glb.images.refresh } } 0x0908 0 (maskOf ((List.range 4).filter (fun i => (nth u.mramAreas i (false, false)).1))) (b2n (u.mramAreas.any (·.2))))) ∧
  (∀ (d : DescRef) (addr : BitVec 64) (len : BitVec 32) (n : Nat) (s : State),
      s.ready d 0x0901 = true →
      len.toNat % 256 = 0 →
      (n = min (len.toNat / 256) (s.rsl.next - s.rsl.exported) ∧ n ≠ 0) →
        exec (.exportRecords d true addr len) s = .next ((State.showJrnl { (s.start d).emit (.host addr.toNat (s.recBytes s.rsl.exported n)) with rsl := { s.rsl with exported := s.rsl.exported + n } }).done d (leBytes 4 n ++ leBytes 8 s.rsl.exported))) ∧
  (∀ (d : DescRef) (pos : BitVec 64) (s : State),
      s.ready d 0x0901 = true →
      s.glb.brownAt = none →
      (s.rsl.ack < pos.toNat ∧ pos.toNat ≤ s.rsl.exported) →
      s.rsl.waiting = [] →
        exec (.ack d true pos) s = .next ((State.showJrnl { s.start d with rsl := { s.rsl with ack := pos.toNat, hdr := s.rsl.hdr.put pos.toNat } }).done d)) ∧
  (∀ (d : DescRef) (addr : BitVec 64) (len : BitVec 32) (first : BitVec 64) (count : BitVec 32) (s : State),
      s.ready d 0x0901 = true →
      256 * count.toNat ≤ len.toNat →
      s.rsl.next ≤ first.toNat + 61440 →
      first.toNat + count.toNat ≤ s.rsl.next →
        exec (.read d true addr len first count) s = .next (((s.start d).emit (.host addr.toNat (s.recBytes first.toNat count.toNat))).done d)) ∧
  (∀ (d : DescRef) (addr : BitVec 64) (len : BitVec 32) (s : State),
      s.ready d 0x0901 = true →
      1248 ≤ len.toNat →
        exec (.heads d true addr len) s = .next (((s.start d).emit (.host addr.toNat ((List.range 26).flatMap (fun e => match s.head e with | none => leBytes 2 (meterEnt e) ++ zeros 46 | some h => leBytes 2 (meterEnt e) ++ [0, 0] ++ leBytes 4 h.seq ++ leBytes 8 h.j ++ fixBytes 32 h.hash)))).done d))

/-- ATTEST with a root, a meter key and room: the attestation statement over the nonce and a signature of it by the identity key go to host memory, and the descriptor completes. The random number of the signature is a free value (log entry 4). KEY_ROLL with a root, a key and none pending, outside a brown-out: if the new key does not verify its test signature, the failure is logged and the descriptor completes with KEY_TEST; else the new key is pending and the chains' KEY_ROLL records and the pointer follow. The signature has a free random number (log entry 4), and the test message is not stated (log entry 31). ROLL_ABORT outside a brown-out: no key is pending any more, no KEY_ROLL record is due, a waiting KEY_ROLL descriptor completes, and the descriptor completes. ENROL in COMMISSION outside a brown-out for the first time: the root is that of a new enrolment, the helper data goes to the copy that does not win, no key is pending, the enrolment is logged, the key pointer is read again, and the descriptor completes. REBIND in COMMISSION outside a brown-out of an unbound vault with a root: the meter key is that of the next generation under the present measurement, and every chain owes an UNLINKED KEY_ROLL record, written at once where it can be; the descriptor completes. PUBKEY with room: the identity, meter and pending public keys, zeros for an absent one, go to host memory, and the descriptor completes. -/
def Obligations.RecordsAndKeysPart2 : Prop :=
  (∀ (d : DescRef) (addr : BitVec 64) (len : BitVec 32) (nonce : BitVec 128) (b : List Nat) (s : State),
      s.ready d 0x0901 = true →
      384 ≤ len.toNat →
      (s.kvt.rootOk = true ∧ s.kvt.key.isSome = true) →
      b = s.statement (leBytes 16 nonce.toNat) →
        exec (.attest d true addr len nonce) s = .next ((State.emit { s.start d with free := s.free + 1 } (.host addr.toNat (b ++ fixBytes 64 (ecSign s.idKey b (Config.freeNat s.free))))).done d)) ∧
  (∀ (d : DescRef) (len : BitVec 32) (target : BitVec 384) (old : Nat) (tgt : List Nat) (gen new : Nat) (s : State),
      s.ready d 0x0901 = true →
      s.glb.brownAt = none →
      (s.kvt.rootOk = true ∧ s.kvt.key = some old ∧ s.kvt.pend = none) →
      (len.toNat = 0 ∨ len.toNat = 48) →
      (tgt = if len.toNat = 0 then fixBytes 48 s.kvt.meas else fixBytes 48 (leBytes 48 target.toNat)) →
      (gen = (s.keyGen + 1) % 2 ^ 16 ∧ new = s.meterKey gen tgt) →
        exec (.keyRoll d true len target none) s = .next (if !ecVerify (pub64 new) testMessage (fixBytes 64 (ecSign new testMessage (Config.freeNat s.free))) then (State.ev { s.start d with free := s.free + 1 } 0x0A05 0 gen 0).fail d 0x0077
        else State.rollOn ((State.setKvt { s.start d with free := s.free + 1 } { s.kvt with pend := some { gen := gen, target := tgt, pub := pub64 new }, rolls := s.chains, rollDesc := some d }).ev 0x0A03 0 gen (measTag tgt)) none)) ∧
  (∀ (d : DescRef) (s : State),
      s.ready d 0x0901 = true →
      s.glb.brownAt = none →
        exec (.rollAbort d true) s = .next ((((s.start d).setKvt { s.kvt with pend := none, rolls := [] }).rollDone).done d)) ∧
  (∀ (d : DescRef) (force : Bool) (s : State),
      s.ready d 0x0901 = true →
      s.glb.brownAt = none →
      s.glb.mode = .commission →
      s.kvt.helper = none →
        exec (.enrol d true force) s = .next (((((s.start d).rollDone.setKvt { (s.start d).rollDone.kvt with helper := some s.kvt.enrols, helpers := s.kvt.helpers.put s.kvt.enrols, enrols := s.kvt.enrols + 1, rootOk := true, key := none, pend := none, rolls := [] }).ev 0x0A02 0 (b2n force) 0).loadPointer).done d)) ∧
  (∀ (d : DescRef) (u : State) (s : State),
      s.ready d 0x0901 = true →
      s.glb.brownAt = none →
      s.glb.mode = .commission →
      (s.kvt.unbound = true ∧ s.kvt.rootOk = true) →
      u = (s.start d).flipKey ((s.keyGen + 1) % 2 ^ 16) s.kvt.meas →
        exec (.rebind d true) s = .next ((State.payAll { u with rsl := { u.rsl with unlinked := u.chains } } (u.meterKey ((s.keyGen + 1) % 2 ^ 16) s.kvt.meas)).done d)) ∧
  (∀ (d : DescRef) (addr : BitVec 64) (len : BitVec 32) (s : State),
      s.ready d 0x0901 = true →
      192 ≤ len.toNat →
        exec (.pubkey d true addr len) s = .next (((s.start d).emit (.host addr.toNat ((if s.kvt.rootOk then pub64 s.idKey else zeros 64) ++ (match s.kvt.key with | none => zeros 64 | some m => pub64 m) ++ (match s.kvt.pend with | none => zeros 64 | some p => fixBytes 64 p.pub)))).done d))

/-- COULOMB_SAMPLE of an enabled string with its modulator clock running and a sound input, outside SHADOW: at the filter's next output the current enters the snapshot's mean of its window, its charge enters Q_C and the throughputs, Q_C is held between 0 and C_EFF, the uncertainty, the reference timers and end of discharge are judged, and the registers follow. COULOMB_SAMPLE of an enabled string with its modulator clock running and a sound input in SHADOW: the current enters the snapshot's mean of its window, and the output is held until the tick shows whether a delta arrives. REST_REFERENCE outside SHADOW, the rest timer running and no end-of-charge timer, with a fresh frame whose OCV is set: at its end Q_C is the frame's SOC of C_EFF, U_Q is U_REF_REST of it, the flags of uncertainty clear, and the reference is logged with the SOC before and after. EOC_REFERENCE outside SHADOW, the end-of-charge timer running: at its end Q_C is C_EFF, U_Q is U_REF_EOC of it, EOC_HOLD is set, the flags of uncertainty clear, and the reference is logged with the SOC before and after. EOD_CLEAR, 10 s after V_S recovered: end of discharge clears, and it is logged with V_S. COULOMB_INPUT_FAULT of a sound input: it is in fault from now, with the cause told (1 stuck, 2 filter), and it is logged. COULOMB_INPUT_RESTORED, 1 ms after the last detection: the fault clears and is logged, and the string becomes untrusted with U_Q at least U_MAX. BMU_STATUS_RECEIVE of an enabled string on its bus, from a unit that was not stale and whose serial number is unchanged: the frame is stored with its stamp, the time of the voltage's recovery follows V_EOD, and end of discharge is judged. BMU_STALE of a string whose unit has been heard, BMU_AGE after its last frame: the unit is stale, and the event tells the frame's age in ms. -/
def Obligations.StorageEstimator : Prop :=
  (∀ (string : Fin 16) (code : BitVec 24) (c : Int) (w : State) (s : State),
      s.seeOn string.val = true →
      s.mclk 7 = true →
      (s.str string.val).qFault = 0 →
      s.glb.mode ≠ .shadow →
      c = s.strCurrent string.val code.toInt →
      w = (match (s.str string.val).lastAt with | none => s | some t => s.waitTill (t + 6250)) →
        exec (.coulombSample string code) s = .next ((((((((w.modStr string.val (fun y => { y.addWin w.tickFrom c with lastAt := some w.now })).integrate string.val c).clipQ string.val).uncertain string.val).refTimers string.val w.now c).eodCheck string.val).seeShow string.val))) ∧
  (∀ (string : Fin 16) (code : BitVec 24) (c : Int) (w : State) (s : State),
      s.seeOn string.val = true →
      s.mclk 7 = true →
      (s.str string.val).qFault = 0 →
      s.glb.mode = .shadow →
      c = s.strCurrent string.val code.toInt →
      w = (match (s.str string.val).lastAt with | none => s | some t => s.waitTill (t + 6250)) →
        exec (.coulombSample string code) s = .next ((w.modStr string.val (fun y => { y.addWin w.tickFrom c with lastAt := some w.now })).modStr string.val (fun y => { y with held := y.held ++ [(w.now, c)] }))) ∧
  (∀ (string : Fin 16) (t : Nat) (f : BmuFrame) (w v : State) (s : State),
      s.seeOn string.val = true →
      s.glb.mode ≠ .shadow →
      (s.str string.val).restAt = some t →
      w = s.waitTill (t + 1000000000 * s.rd SEE_REST_CFG.T_REST) →
      w.eocEnd string.val = none →
      (w.freshFrame string.val = some f ∧ f.ocv = true) →
      v = w.modStr string.val (fun y => { y with q := ((f.soc * w.cEff string.val / 10000 : Nat) : Int), qRes := 0, u := w.rd SEE_REF_CFG.U_REF_REST * w.cEff string.val / 10000, uRes := 0, needRef := false, untrusted := false, atMax := false, clip := false, eocHold := y.eocHold || decide (0 = 1), tRef := w.siteNs, refKind := 0, restAt := none, eocAt := none }) →
        exec (.restReference string) s = .next ((v.ev 0x0B04 (entString string.val) 0 (clampU 16 (w.soc string.val) + 2 ^ 16 * clampU 16 (v.soc string.val))).seeShow string.val)) ∧
  (∀ (string : Fin 16) (t : Nat) (w v : State) (s : State),
      s.seeOn string.val = true →
      s.glb.mode ≠ .shadow →
      s.eocEnd string.val = some t →
      w = s.waitTill t →
      v = w.modStr string.val (fun y => { y with q := ((w.cEff string.val : Nat) : Int), qRes := 0, u := w.rd SEE_REF_CFG.U_REF_EOC * w.cEff string.val / 10000, uRes := 0, needRef := false, untrusted := false, atMax := false, clip := false, eocHold := y.eocHold || decide (1 = 1), tRef := w.siteNs, refKind := 1, restAt := none, eocAt := none }) →
        exec (.eocReference string) s = .next ((v.ev 0x0B04 (entString string.val) 1 (clampU 16 (w.soc string.val) + 2 ^ 16 * clampU 16 (v.soc string.val))).seeShow string.val)) ∧
  (∀ (string : Fin 16) (t : Nat) (f : BmuFrame) (w : State) (s : State),
      s.seeOn string.val = true →
      (s.str string.val).eod = true →
      ((s.str string.val).eodOkAt = some t ∧ (s.str string.val).frame = some f) →
      w = s.waitTill (t + 10000000000) →
        exec (.eodClear string) s = .next (((w.modStr string.val (fun y => { y with eod := false })).ev 0x0B09 (entString string.val) f.vs 0).seeShow string.val)) ∧
  (∀ (string : Fin 16) (overflow : Bool) (k : Nat) (s : State),
      s.seeOn string.val = true →
      (s.str string.val).qFault = 0 →
      (k = (if overflow then 2 else 1)) →
        exec (.coulombInputFault string overflow) s = .next (((s.modStr string.val (fun y => { y with qFault := k, faultAt := s.now })).ev 0x0B0B (ent 10 string.val) k 1).seeShow string.val)) ∧
  (∀ (string : Fin 16) (w : State) (s : State),
      s.seeOn string.val = true →
      (s.str string.val).qFault ≠ 0 →
      w = s.waitTill ((s.str string.val).faultAt + 1000000) →
        exec (.coulombInputRestored string) s = .next (((w.modStr string.val (fun y => { y with qFault := 0 })).ev 0x0B0B (ent 10 string.val) (w.str string.val).qFault 0).distrust string.val)) ∧
  (∀ (ctrl : Fin 6) (id : BitVec 29) (ide : Bool) (frame : List (BitVec 8)) (b : List Nat) (i : Nat) (v : State) (s : State),
      b = frame.map (·.toNat) →
      i = nth b 1 0 →
      (b.length = 32 && nth b 0 0 = 0x10 && i < 16 && s.seeOn i && ctrl.val = bmuCan i && s.canOnBus ctrl.val && !s.canSuspect ctrl.val id.toNat ide) = true →
      ((s.str i).stale = false ∧ (s.str i).frame.map (fun (g : BmuFrame) => g.serial) = some (field b 24 8)) →
      (v = s.modStr i (fun y => { y with frame := some (bmuParse b s.siteNs), stale := false, eodOkAt := if !decide (s.rd (SEE_VEOD.V_EOD i) * 102 ≤ (bmuParse b s.siteNs).vs * 100) then none else match y.eodOkAt with | none => some s.now | some t => some t })) →
      (v.str i).coldWait = false →
        exec (.bmuStatusReceive ctrl id ide frame) s = .next ((v.eodCheck i).seeShow i)) ∧
  (∀ (string : Fin 16) (f : BmuFrame) (w : State) (s : State),
      s.seeOn string.val = true →
      ((s.str string.val).stale = false ∧ (s.str string.val).frame = some f) →
      w = s.waitSite (f.stamp + 1000000 * s.rd SEE_BMU_CFG.BMU_AGE) →
      (w.str string.val).frame = some f →
        exec (.bmuStale string) s = .next (((w.modStr string.val (fun y => { y with stale := true })).ev 0x0B08 (entString string.val) ((w.siteNs - f.stamp) / 1000000) 1).seeShow string.val))

/-- AUTH_CHALLENGE in the sending unit outside SHADOW with no exchange running and one due: at its time the next SEQ and a new nonce of 16 bytes are taken, the time limit runs from the challenge, and the challenge frame is requested on the string's bus. AUTH_RESPONSE_RECEIVE of the two frames of the running exchange in time: a signature that does not verify under the string's key is a failure with cause 2, frames or a last status frame that do not show one serial number one with cause 3, and else the string is authenticated. AUTH_TIMEOUT at the limit of the running exchange: it fails with cause 1. SEE_COMMIT with the key "SEE" in DORMANT or COMMISSION before the first entry to ACTIVE or SHADOW, outside a brown-out: the read of the buffer named begins, and ADOPT reads 4; nothing else changes. SEE_BUFFER_READ_COMPLETE outside a brown-out of the first buffer with a block that passes its checks: ADOPT is 1, GEN is the block's, the estimator has begun, every enabled string takes its entry, and the adoption is logged. SAVE into buffer A or B after the estimator has begun, outside a brown-out: the state block of the next generation goes to the buffer's address in host memory, GEN is that generation, and the descriptor completes with GEN and the site time. AUTH_KEY in COMMISSION with a point of P-256 for an enabled string: the string's key is stored, and the descriptor completes. AUTH_NOW of an enabled string: an exchange with it is due at once with its attempts counted anew, and the descriptor completes. A read of SEE_QC_LO latches SEE_QC_HI: bits 63 to 32 of Q_C; nothing else changes. -/
def Obligations.StorageEstimatorPart2 : Prop :=
  (∀ (obj : Fin 128) (i t seq : Nat) (w u v : State) (nonce : List Nat) (s : State),
      (s.up = true ∧ s.see.exch = none ∧ s.glb.mode ≠ .shadow ∧ s.sends = true) →
      s.nextAuth = some (i, t) →
      w = s.waitTill t →
      seq = low 32 (w.see.seq + 1) →
      (u, nonce) = w.freshBytes 16 →
      v = u.modStr i (fun y => { y with authDue := none, attempts := y.attempts + 1 }) →
        exec (.authChallenge obj) s = .next (State.canRequest { v with see := { v.see with seq := seq, exch := some { str := i, seq := seq, nonce := nonce, limit := w.now + 10000000 * w.rd SEE_AUTH_CFG.AUTH_TMO } } } (bmuCan i) obj.val ([0x11, i, 0, 0] ++ leBytes 4 seq ++ nonce) none .hkc)) ∧
  (∀ (ctrl : Fin 6) (id1 id2 : BitVec 29) (ide : Bool) (frame1 frame2 : List (BitVec 8)) (e : Exchange) (f1 f2 : List Nat) (s : State),
      (f1 = frame1.map (·.toNat) ∧ f2 = frame2.map (·.toNat) ∧ s.see.exch = some e) →
      (s.up && s.now ≤ e.limit && ctrl.val = bmuCan e.str && s.canOnBus ctrl.val && f1.length = 48 && f2.length = 48 && nth f1 0 0 = 0x12 && nth f2 0 0 = 0x13 && nth f1 1 0 = e.str && nth f2 1 0 = e.str && field f1 4 4 = e.seq && field f2 4 4 = e.seq && !s.canSuspect ctrl.val id1.toNat ide && !s.canSuspect ctrl.val id2.toNat ide) = true →
        exec (.authResponseReceive ctrl id1 id2 ide frame1 frame2) s = .next (if !ecVerify (tget (fun _ => []) s.see.keys e.str) (e.nonce ++ leBytes 4 e.seq ++ [e.str, 0, 0, 0] ++ leBytes 8 (field f1 8 8)) ((f1.drop 16).take 32 ++ (f2.drop 16).take 32) then s.authFail e.str 2
        else if field f2 8 8 ≠ field f1 8 8 || (s.str e.str).frame.map (fun (f : BmuFrame) => f.serial) ≠ some (field f1 8 8) then s.authFail e.str 3
        else s.authPass e.str (field f1 8 8) e.seq)) ∧
  (∀ (e : Exchange) (w : State) (s : State),
      s.up = true →
      s.see.exch = some e →
      w = s.waitTill e.limit →
        exec .authTimeout s = .next (w.authFail e.str 1)) ∧
  (∀ (v : BitVec 32) (s : State),
      s.up = true →
      v.toNat / 256 % 2 ^ 24 = 0x534545 →
      (s.see.entered = false ∧ s.glb.brownAt = none) →
      (s.glb.mode = .dormant ∨ s.glb.mode = .commission) →
        exec (.seeCommit v) s = .next (State.wr { s with see := { s.see with reading := some (v.toNat % 2, false, none) } } SEE_STAT.ADOPT 4)) ∧
  (∀ (block : List (BitVec 8)) (b : List Nat) (k : Nat) (g : Option Nat) (v u : State) (s : State),
      s.up = true →
      s.see.reading = some (k, false, g) →
      b = block.map (·.toNat) →
      s.glb.brownAt = none →
      s.blockGood b = true →
      v = (s.wr SEE_STAT.ADOPT 1).wr SEE_GEN.GEN (field b 4 4) →
      u = { v with see := { v.see with reading := none, begun := true } } →
        exec (.seeBufferReadComplete true block) s = .next ((((List.range 16).filter s.stringOn).foldl (fun (a : State) i => a.adoptStr b 1 i) u).ev 0x0B01 0 (field b 4 4) 1)) ∧
  (∀ (d : DescRef) (buffer : BitVec 8) (gen : Nat) (s : State),
      s.ready d 0x0B01 = true →
      s.glb.brownAt = none →
      (buffer.toNat ≤ 1 ∧ s.see.begun = true) →
      gen = low 32 (s.rd SEE_GEN.GEN + 1) →
        exec (.save d true buffer) s = .next ((((s.start d).emit (.host (if buffer.toNat = 0 then s.rd64 SEE_BUF_A_LO.ADDR SEE_BUF_A_HI.ADDR else s.rd64 SEE_BUF_B_LO.ADDR SEE_BUF_B_HI.ADDR) (s.stateBlock gen))).wr SEE_GEN.GEN gen).done d (leBytes 4 gen ++ leBytes 8 s.siteNs))) ∧
  (∀ (d : DescRef) (string : BitVec 8) (key : List (BitVec 8)) (k : List Nat) (s : State),
      s.ready d 0x0B01 = true →
      s.glb.mode = .commission →
      (string.toNat < 16 ∧ string.toNat < s.nStrings ∧ s.stringOn string.toNat = true) →
      k = fixBytes 64 (key.map (·.toNat)) →
      onP256 (ofBe (k.take 32)) (ofBe (k.drop 32)) = true →
        exec (.authKey d true string key) s = .next (State.done { s.start d with see := { s.see with keys := tset (fun _ => []) s.see.keys string.toNat k } } d)) ∧
  (∀ (d : DescRef) (string : BitVec 8) (s : State),
      s.ready d 0x0B01 = true →
      (string.toNat < 16 ∧ string.toNat < s.nStrings ∧ s.stringOn string.toNat = true) →
        exec (.authNow d true string) s = .next (((s.start d).wantAuth string.toNat).done d)) ∧
  (∀ (string : Fin 16) (s : State),
      s.up = true →
      string.val < s.nStrings →
        exec (.qcLatchRead string) s = .next (s.wr (SEE_QC_HI.Q_C string.val) (enc 64 (s.str string.val).q / 2 ^ 32)))

/-- PILOT_PERIOD of an enabled port with a steady level: HIGH is the mean of the level over the period's samples, the class counts toward CP_DEB, the next period takes DUTY and F and ends at the next whole ms, and STATE takes the class once CP_DEB periods gave it. PILOT_CONTROL_WRITE of a port the guard does not hold: DUTY takes bits 9:0 when they are at most 1,000, F takes bit 10, and SLAC arms or disarms by the new setting. BEACON_SEND of a CCS-type port outside SHADOW, at the port's next beacon instant: a beacon with the port's NID leaves at the level of the port, CCO reads 1, and the instant is kept. VEHICLE_FRAME_RECEIVE on a CCS-type port outside SHADOW, not a PLC management frame, with a posted buffer: the frame goes to the buffer, whose descriptor completes with kind 0, the length and the time of the start of frame; the vehicle's address is kept. UNICAST_FRAME_FAIL: ERR counts one; on a CCS-type port RETX too, and the time is kept; the third failure within 200 ms in standard mode brings MODE 1, counts FALLBACK and is logged. ROBO_RESTORE of a port in standard-robust mode, 2 s after its last failed frame: MODE reads 0, the failures are forgotten, and the return is logged with the ms in that mode. IMPULSE_EVENT of a CCS-type port: IMP counts one, and nothing else changes. SLAC_PARM_REQ of a new round heard on an armed CCS-type port: the lowest free row takes the RunID with no sounding yet, and the port answers. -/
def Obligations.PilotSlacAndFrames : Prop :=
  (∀ (port : Fin 24) (high low : List (BitVec 16)) (l : Int × Int) (w v y : State) (c n : Nat) (s : State),
      s.pluOn port.val = true →
      s.pilotSteady port.val = true →
      l = s.pilotLevels port.val (high.map (·.toInt)) (low.map (·.toInt)) →
      w = s.waitSite (s.periodEnd port.val) →
      v = w.wrS (PLU_CP_LVL.HIGH port.val) l.1 →
      v.pilotClass port.val l.1 l.2 false = (c, false) →
      (n = (if c = (s.port port.val).cand then (s.port port.val).candN + 1 else 1)) →
      y = v.modPort port.val (fun x => { x with cand := c, candN := min n 15, periodAt := some (1000000 * (w.siteNs / 1000000 + 1)), dutyNow := s.rd (PLU_CP_CTL.DUTY port.val), fNow := s.flag (PLU_CP_CTL.F port.val) }) →
        exec (.pilotPeriod port high low) s = .next (if s.rd PLU_GCFG.CP_DEB ≤ n && c ≠ s.pilot port.val then y.pilotChange port.val c else y)) ∧
  (∀ (port : Fin 24) (v : BitVec 32) (s : State),
      (s.up = true ∧ port.val < s.nPorts ∧ (s.port port.val).held = false) →
        exec (.pilotControlWrite port v) s = .next (((if v.toNat % 1024 ≤ 1000 then s.wr (PLU_CP_CTL.DUTY port.val) (v.toNat % 1024) else s).wr (PLU_CP_CTL.F port.val) (v.toNat / 1024 % 2)).slacArm port.val)) ∧
  (∀ (port : Fin 24) (t : Nat) (w : State) (s : State),
      s.pluOn port.val = true →
      (s.ccs port.val = true ∧ s.guards = true) →
      t = s.nextBeacon port.val →
      w = s.waitSite t →
        exec (.beaconSend port) s = .next (((w.modPort port.val (fun x => { x with beaconAt := some t })).wr (PLU_PLC_STAT.CCO port.val) 1).toVehicle port.val 3 true (w.port port.val).nid)) ∧
  (∀ (port : Fin 24) (frame : List (BitVec 8)) (lead : Nat) (s : State) (f : List Nat) (d : DescRef) (addr : Nat) (l : List (Nat × Nat × Nat)),
      (s.pluOn port.val = true ∧ s.ccs port.val = true ∧ s.guards = true) →
      (frame.map (·.toNat) = f ∧ (nth f 12 0 = 0x88 && nth f 13 0 = 0xE1) = false) →
      ((s.port port.val).rx = (d.ring.val, d.idx.toNat, addr) :: l ∧ s.served d = true) →
        ∃ t, exec (.vehicleFrameReceive port frame lead) s = .next t ∧ t.regs = s.regs ∧ t.log = s.log ∧ (t.port port.val).lastSrc = field f 6 6 ∧ (t.port port.val).rx = l ∧
        Out.host addr f ∈ t.out ∧ t.answered d false false 0 0 ([0, 0] ++ leBytes 2 f.length ++ leBytes 8 (s.siteNs - lead))) ∧
  (∀ (port : Fin 24) (s : State) (p : Nat) (l : List Nat),
      (s.pluOn port.val = true ∧ port.val = p ∧ l = s.now :: (s.port p).fails.take 2) →
        (s.ccs p = false → exec (.unicastFrameFail port) s = .next (s.bump (PLU_LINK_CNT.ERR p))) ∧
        (s.ccs p = true → ∃ u, u = ((s.bump (PLU_LINK_CNT.ERR p)).bump (PLU_LINK_CNT.RETX p)).modPort p (fun x => { x with fails := l, failAt := s.now }) ∧
        exec (.unicastFrameFail port) s = .next (if s.rd (PLU_PLC_STAT.MODE p) = 0 ∧ l.length = 3 ∧ s.now ≤ nth l 2 0 + 200000000 then
        (((u.wr (PLU_PLC_STAT.MODE p) 1).bump (PLU_IMP_CNT.FALLBACK p)).modPort p (fun x => { x with stdAt := s.now })).ev 0x0C05 (entPort p) 3 (s.port p).lastSrc else u))) ∧
  (∀ (port : Fin 24) (s w : State),
      (s.pluOn port.val = true ∧ s.rd (PLU_PLC_STAT.MODE port.val) = 1) →
      w = s.waitTill ((s.port port.val).failAt + 2000000000) →
        exec (.roboRestore port) s = .next (((w.wr (PLU_PLC_STAT.MODE port.val) 0).modPort port.val (fun x => { x with fails := [] })).ev 0x0C06 (entPort port.val) ((w.now - (s.port port.val).stdAt) / 1000000) (s.port port.val).lastSrc)) ∧
  (∀ (port : Fin 24) (s : State),
      (s.pluOn port.val = true ∧ s.ccs port.val = true) →
        exec (.impulseEvent port) s = .next (s.bump (PLU_IMP_CNT.IMP port.val))) ∧
  (∀ (port : Fin 24) (runId : BitVec 64) (r : Nat) (u : State) (s : State),
      s.pluOn port.val = true →
      (s.ccs port.val = true ∧ s.guards = true) →
      s.rowOf runId.toNat = none →
      (List.range 24).find? (fun r => (s.row r).isNone) = some r →
      u = s.setRow r (some { runId := runId.toNat, total := 0, sums := List.replicate 24 (0, 0), closedAt := none }) →
      (u.flag (PLU_CP_STAT.ARMED port.val) = true ∧ (u.port port.val).mute = false) →
        exec (.slacParmReq port runId) s = .next (u.toVehicle port.val 1 false (leBytes 8 runId.toNat)))

/-- SLAC_SOUND of an open round: its total counts one, and each enabled CCS-type port that measured it adds the attenuation to its sum and one to its number. SLAC_WINDOW_CLOSE of a round whose nearest port is armed, with the margin reached: the row keeps its closing time, the match goes to the vehicle, the port associates with fresh keys, the match is logged, and a SLAC record with result 0 is posted. SLAC_ROW_FREE, 100 ms after the window closed: the row is free, and nothing else but the clock changes. FRAME outside SHADOW of 60 to 1,514 bytes, not a PLC management frame: the descriptor waits with the frame behind those the port is to send. FRAME_SENT: the oldest frame of the port has left with its FCS; its descriptor completes with the time of its start of frame, and a unicast frame ends the row of failures. FRAME_TX_TIMEOUT, 200 ms after the oldest frame of the port was taken: its descriptor completes with error code 0x009F, and the frame is dropped. PORT_RX with room for 1,536 bytes and nothing waiting: the descriptor waits, on an outside event, with its buffer behind those of the port. PLU_CLR_COUNTS of a port of the grade: every counter of the port is written 0, and nothing else changes. -/
def Obligations.PilotSlacAndFramesPart2 : Prop :=
  (∀ (runId : BitVec 64) (atten : List (BitVec 16)) (s : State) (r : Nat) (x : Round),
      (s.up = true ∧ s.rowOf runId.toNat = some r ∧ s.row r = some x ∧ x.closedAt = none) →
        exec (.slacSound runId atten) s = .next (s.setRow r (some { x with total := x.total + 1, sums := (List.range 24).map (fun p => if (nth atten p (BitVec.ofNat 16 0xFFFF)).toNat = 0xFFFF || !s.portOn p || !s.ccs p then nth x.sums p (0, 0) else ((nth x.sums p (0, 0)).1 + (nth atten p (BitVec.ofNat 16 0xFFFF)).toNat, (nth x.sums p (0, 0)).2 + 1)) }))) ∧
  (∀ (runId : BitVec 64) (r p : Nat) (x : Round) (u : State) (s : State),
      s.up = true →
      s.rowOf runId.toNat = some r →
      (s.row r = some x ∧ x.closedAt = none) →
      p = s.nearest r →
      (s.flag (PLU_CP_STAT.ARMED p) = true ∧ (s.port p).mute = false) →
      (s.rd PLU_GCFG.SLAC_MARGIN : Int) ≤ s.slacMargin r p →
      u = ((((s.setRow r (some { x with closedAt := some s.now })).toVehicle p 2 false (leBytes 8 x.runId)).associate p).ev 0x0C02 (entPort p) x.runId (enc 64 (s.slacMargin r p))) →
        exec (.slacWindowClose runId) s = .next (u.postItem p 1 (u.slacRecord r p 0 (s.rd (PLU_CP_STAT.ROUNDS p)) (s.slacMargin r p) x.runId s.siteNs))) ∧
  (∀ (runId : BitVec 64) (s : State) (r t : Nat),
      (s.up = true ∧ s.rowOf runId.toNat = some r ∧ (s.row r).bind (fun (x : Round) => x.closedAt) = some t) →
        exec (.slacRowFree runId) s = .next ((s.waitTill (t + 100000000)).setRow r none)) ∧
  (∀ (d : DescRef) (len : BitVec 32) (data : List (BitVec 8)) (s : State) (b : List Nat),
      (s.ready d 0x0C01 = true ∧ s.guards = true) →
      (fitData len.toNat (data.map (·.toNat)) = b ∧ 60 ≤ len.toNat ∧ len.toNat ≤ 1514 ∧ (nth b 12 0 = 0x88 && nth b 13 0 = 0xE1) = false) →
        exec (.frame d true len data) s = .next ((s.start d).modPort d.ring.val (fun x => { x with tx := x.tx ++ [(d.ring.val, d.idx.toNat, s.now, b)] }))) ∧
  (∀ (port : Fin 24) (lead : Nat) (r i t : Nat) (b : List Nat) (l : List (Nat × Nat × Nat × List Nat)) (s : State),
      s.pluOn port.val = true →
      (s.port port.val).tx = (r, i, t, b) :: l →
        exec (.frameSent port lead) s = .next (((s.modPort port.val (fun x => { x with tx := l, fails := if (nth b 0 0).testBit 0 then x.fails else [] })).toVehicle port.val 0 ((nth b 0 0).testBit 0) (b ++ leBytes 4 (crc32 b))).complete r i false false 0 0 (zeros 4 ++ leBytes 8 (s.siteNs - lead)))) ∧
  (∀ (port : Fin 24) (s : State) (d : DescRef) (t : Nat) (b : List Nat) (l : List (Nat × Nat × Nat × List Nat)),
      (s.pluOn port.val = true ∧ (s.port port.val).tx = (d.ring.val, d.idx.toNat, t, b) :: l ∧ s.served d = true) →
        ∃ u, exec (.frameTxTimeout port) s = .next u ∧ u.regs = s.regs ∧ u.log = s.log ∧ t + 200000000 ≤ u.now ∧ u.port port.val = { s.port port.val with tx := l } ∧
        u.answered d false true 0 0x009F []) ∧
  (∀ (d : DescRef) (len : BitVec 32) (addr : BitVec 64) (s : State),
      (s.ready d 0x0C02 = true ∧ 1536 ≤ len.toNat ∧ (s.port (d.ring.val - 24)).items = []) →
        exec (.portRx d true len addr) s = .next (((s.start d).waitOutside d).modPort (d.ring.val - 24) (fun x => { x with rx := x.rx ++ [(d.ring.val, d.idx.toNat, addr.toNat)] }))) ∧
  (∀ (port : Fin 24) (s : State),
      (s.up = true ∧ port.val < s.nPorts) →
        exec (.pluClrCounts port) s = .next ((((((((((s.wr (PLU_CP_STAT.INV_CNT port.val) 0).wr (PLU_VIOL.A_CNT port.val) 0).wr (PLU_VIOL.C_CNT port.val) 0).wr (PLU_LINK_CNT.ERR port.val) 0).wr (PLU_LINK_CNT.RETX port.val) 0).wr (PLU_IMP_CNT.IMP port.val) 0).wr (PLU_IMP_CNT.FALLBACK port.val) 0).wr (PLU_RX_DROP.FRAMES port.val) 0).wr (PLU_RX_DROP.NOTICES port.val) 0)))

/-- SESSION_START in ACTIVE with every maximum given, on a connected port with its link up, no session, no trip and room in the journal: the port's session counter counts, the session reading opens, SESSION is 1 with the new identity, the guard takes the maxima and restarts its timer, no earlier request stays, the start is logged, and the descriptor completes with the identity and the site time. REQUEST in a session, in time, with values within the port's limits and the vehicle's maxima, restating no maximum, and with a plausible voltage: the guard's timer restarts, the request is posted with its time, and the descriptor completes with the values asked for and code 0; no violation counts. SESSION_END with reason 0 or 5 in a session, outside SHADOW: the exit is to be decided at the next boundary, and the descriptor waits for the end of the session, its start reported. REPORT of a class A violation: A_CNT counts, the violation is logged with its class and cause and the partner's identity, and the descriptor completes. SESSION_TIMEOUT, SESSION_TMO after the last request of a session: a class C violation of cause 4 counts, and the session is to end for reason 1 at the next boundary. COOLOFF_END at the end of the port's cool-off: SESSION and COOL_LEFT read 0, the guard holds DUTY no longer, the end is logged, and a notice of type 3 is posted. -/
def Obligations.SessionGuard : Prop :=
  (∀ (d : DescRef) (evcc : BitVec 48) (maxV maxI maxP : BitVec 32) (contract : List (BitVec 8)) (p id : Nat) (v u : State) (s : State),
      s.ready d 0x0C01 = true →
      s.glb.mode = .active →
      p = d.ring.val →
      (maxV.toNat ≠ 0 ∧ maxI.toNat ≠ 0 ∧ maxP.toNat ≠ 0) →
      (s.session p = 0 ∧ s.capTripped p = false ∧ s.connected p = true ∧ s.flag RSL_JRNL_STAT.LOW = false) →
      ((if s.ccs p then s.flag (PLU_CP_STAT.ASSOC p) else s.flag (PLU_CP_STAT.LINK p)) = true) →
      id = s.nextSession p →
      v = State.openSession { s.start d with plu := { s.plu with counters := tset (fun _ => 0) s.plu.counters p ((tget (fun _ => 0) s.plu.counters p + 1) % 2 ^ 27) } } p id (leBytes 6 evcc.toNat) (contract.map (·.toNat)) →
      u = ((v.setSession p 1).wr (PLU_SESS_ID.ID p) id).modPort p (fun x => { x with evcc := evcc.toNat, maxI := maxI.toNat, maxV := maxV.toNat, maxP := maxP.toNat, reqAt := s.now, lastI := 0, lastP := 0, classC := none, exits := [] }) →
        ∃ t, exec (.sessionStart d true evcc maxV maxI maxP contract) s = .next (t.done d (leBytes 4 id ++ leBytes 8 s.siteNs)) ∧ t = State.ev { u with alp := { u.alp with inReq := tdel u.alp.inReq p } } 0x0C07 (entPort p) id evcc.toNat) ∧
  (∀ (d : DescRef) (reqI reqV reqP presentV : BitVec 32) (s : State) (p : Nat) (x : Plu),
      (s.ready d 0x0C01 = true ∧ s.guards = true ∧ d.ring.val = p ∧ s.session p = 1 ∧ s.port p = x) →
      (0 ≤ reqI.toInt ∧ reqI.toInt ≤ (s.rd (PLU_LIM_I.LIM_I p) : Nat) ∧ reqI.toInt ≤ (x.maxI : Nat)) →
      (0 ≤ reqV.toInt ∧ reqV.toInt ≤ (s.rd (PLU_LIM_V.LIM_V p) : Nat) ∧ reqV.toInt ≤ (x.maxV : Nat)) →
      (0 ≤ reqP.toInt ∧ reqP.toInt ≤ (s.rd (PLU_LIM_P.LIM_P p) : Nat) ∧ reqP.toInt ≤ (x.maxP : Nat)) →
      (s.farV p presentV = false ∧ s.now - x.reqAt ≤ 1000000 * s.rd (PLU_GUARD.PERIOD p) + 1000000 * s.rd (PLU_GUARD.TOL p)) →
        ∃ t, exec (.request d true reqI reqV reqP presentV 0 0 0) s = .next t ∧ t.regs = s.regs ∧ t.log = s.log ∧
        t.port p = { x with reqAt := s.now, lastI := reqI.toInt, lastP := reqP.toInt } ∧
        t.alp = { s.alp with inReq := tput s.alp.inReq p (mailPost (tget (fun _ => []) s.alp.inReq p) s.siteNs { i := reqI.toInt, v := reqV.toInt, p := reqP.toInt }) } ∧
        t.answered d false false 0 0 (sBytes 4 reqI.toInt ++ sBytes 4 reqV.toInt ++ sBytes 4 reqP.toInt)) ∧
  (∀ (d : DescRef) (reason : BitVec 8) (p : Nat) (s : State),
      s.ready d 0x0C01 = true →
      s.guards = true →
      p = d.ring.val →
      s.session p = 1 →
      (reason.toNat = 0 ∨ reason.toNat = 5) →
        exec (.sessionEnd d true reason) s = .next ((((s.start d).guardExit p reason.toNat).modPort p (fun x => { x with ending := x.ending ++ [(p, d.idx.toNat)] })).reportStart p d.idx.toNat)) ∧
  (∀ (d : DescRef) (cause : BitVec 8) (s : State) (p : Nat),
      (s.ready d 0x0C01 = true ∧ s.guards = true ∧ d.ring.val = p ∧ 1 ≤ cause.toNat ∧ cause.toNat ≤ 3) →
        ∃ t, exec (.report d true 1 cause) s = .next t ∧ t.regs = (s.bump (PLU_VIOL.A_CNT p)).regs ∧ t.plu = s.plu ∧
        t.answered d false false 0 0 []) ∧
  (∀ (port : Fin 24) (s : State) (p : Nat),
      (s.pluOn p = true ∧ port.val = p ∧ s.guards = true ∧ s.session p = 1 ∧ (s.port p).classC = none) →
        ∃ t, exec (.sessionTimeout port) s = .next t ∧ t.regs = (s.bump (PLU_VIOL.C_CNT p)).regs ∧ (s.port p).reqAt + 1000000 * s.rd (PLU_TMO.SESSION_TMO p) ≤ t.now ∧
        t.port p = { s.port p with classC := some 4, exits := (if (s.port p).exits.contains 1 then (s.port p).exits else 1 :: (s.port p).exits) }) ∧
  (∀ (port : Fin 24) (p t : Nat) (w v : State) (s : State),
      s.up = true →
      p = port.val →
      (s.session p = 3 ∧ (s.port p).coolEnd = some t) →
      w = s.waitTill t →
      v = (((w.setSession p 0).wr (PLU_SESS.COOL_LEFT p) 0).modPort p (fun x => { x with coolEnd := none, held := false, dutyAt := none })) →
        exec (.cooloffEnd port) s = .next ((v.ev 0x0C0A (entPort p) (w.rd (PLU_SESS_ID.ID p)) 0).notice p 3 0 w.siteNs))

/-- CAN_FRAME_RECEIVE on the bus, not the reference message, REC at most 127: REC counts down by one and the error state follows; a frame no object takes counts NOMATCH; one for the HKC alone is stored in the object with the lowest index, whose CNT counts and whose NEW is set. CAN_FRAME_SENT with start set while no frame is in transmission: after the deadlines were checked, the buffer next in turn goes into transmission with the site time latched. CAN_FRAME_SENT of the frame in transmission, one the HKC asked for: it leaves the bus, its buffer empties, CNT of its object counts, TEC counts down by one, the error state follows, and the buffers fill. CAN_TX_DEADLINE at the earliest deadline of the requests not in transmission: every request whose deadline has passed is withdrawn with cause 1, and the buffers fill. CAN_BUS_ERROR, not a bit error in the data field, with TEC staying at most 255: ERRFRAME counts, TEC and REC rise by the increments of the kind up to 255, a transmitter's frame leaves transmission, the error state follows, and the buffers fill. CAN_BUS_ERROR of a transmitter that takes TEC beyond 255: the controller is bus-off (ESTATE 3 with AUTO_REC, else 2), nothing is in transmission, the time is kept, and bus-off is logged. CAN_SUSPECT_EXPIRE, one second after the oldest suspect's contention: the identifier is no longer suspect, and SUSPECT of its objects clears. CAN_BUS_ON, 1,408 bit times after recovery began: the controller is error-active with both counters 0, BUSOFF counts, the recovery is logged with its ms and who began it, deadlines that passed withdraw their requests, and the strings of the bus authenticate again. -/
def Obligations.CanControllers : Prop :=
  (∀ (ctrl : Fin 6) (id : BitVec 29) (ide brs : Bool) (data : List (BitVec 8)) (lead : Nat) (s v : State) (n i : Nat) (l : List Nat),
      (s.canOnBus ctrl.val = true ∧ ctrl.val = n ∧ i = (if ide then id.toNat else id.toNat % 2048)) →
      (l = (data.map (·.toNat)).take 64 ∧ s.isRef n i ide l = false ∧ s.rd (CAN_STAT.REC n) ≤ 127) →
      v = (s.wr (CAN_STAT.REC n) (s.rd (CAN_STAT.REC n) - 1)).canErrState n (s.rd (CAN_STAT.TEC n)) (s.rd (CAN_STAT.REC n)) →
        ((∀ o < 128, (s.flag (CAN_OBJ_CFG.EN n o) && !s.flag (CAN_OBJ_CFG.DIR n o) && (s.flag (CAN_OBJ_CFG.IDE n o) == ide) && (Nat.xor i (s.rd (CAN_OBJ_ID.ID n o)) &&& s.rd (CAN_OBJ_MASK.MASK n o)) == 0) = false) →
        exec (.canFrameReceive ctrl id ide false brs data lead false) s = .next (v.bump (CAN_DROP.NOMATCH n))) ∧
        (∀ o, (List.range 128).find? (fun o => s.flag (CAN_OBJ_CFG.EN n o) && !s.flag (CAN_OBJ_CFG.DIR n o) && (s.flag (CAN_OBJ_CFG.IDE n o) == ide) && (Nat.xor i (s.rd (CAN_OBJ_ID.ID n o)) &&& s.rd (CAN_OBJ_MASK.MASK n o)) == 0) = some o →
        v.flag (CAN_OBJ_STAT.NEW n o) = false → v.rd (CAN_OBJ_CFG.DEST n o) = 0 →
        exec (.canFrameReceive ctrl id ide false brs data lead false) s = .next (((v.modCan n (fun c => { c with held := tset (fun _ => none) c.held o (some { id := i, ide := ide, fdf := false, brs := brs, suspect := s.canSuspect n i ide, data := l, stamp := s.siteNs }), ovrRun := c.ovrRun.filter (· ≠ o) })).bumpWrap (CAN_OBJ_STAT.CNT n o)).wr (CAN_OBJ_STAT.NEW n o) 1))) ∧
  (∀ (ctrl : Fin 6) (s : State) (n b : Nat),
      (s.canOnBus ctrl.val = true ∧ ctrl.val = n ∧ s.canMaySend n = true ∧ (s.can n).tx = none) →
      (s.canExpire n).canPick n = some b →
        exec (.canFrameSent ctrl true) s = .next (((s.canExpire n).modCan n (fun c => { c with tx := some (b, s.siteNs) })).canShow n)) ∧
  (∀ (ctrl : Fin 6) (s : State) (n b sof : Nat) (q : CanReq),
      (s.canOnBus ctrl.val = true ∧ ctrl.val = n ∧ (s.can n).tx = some (b, sof)) →
      (s.canBuf n b = some q ∧ q.src = .hkc) →
        exec (.canFrameSent ctrl false) s = .next ((((((((s.modCan n (fun c => { c with tx := none })).setBuf n b none).emit (.can n q.id q.ide q.fdf q.data)).bumpWrap (CAN_OBJ_STAT.CNT n q.obj)).wr (CAN_STAT.TEC n) (s.rd (CAN_STAT.TEC n) - 1)).canErrState n (s.rd (CAN_STAT.TEC n)) (s.rd (CAN_STAT.REC n))).canFill n))) ∧
  (∀ (ctrl : Fin 6) (s w : State) (t : Nat),
      (s.canAlive ctrl.val = true ∧ s.canNextDeadline ctrl.val = some t) →
      w = s.waitSite t →
        exec (.canTxDeadline ctrl) s = .next ((w.canWithdrawAll ctrl.val 1 (fun q => match q.deadline with | none => false | some t => decide (t ≤ w.siteNs))).canFill ctrl.val)) ∧
  (∀ (ctrl : Fin 6) (kind : Fin 5) (s : State) (n : Nat),
      (s.canOnBus ctrl.val = true ∧ ctrl.val = n ∧ kind.val ≠ 3) →
      (kind.val < 2 ∨ (s.can n).tx.isSome = true) →
      s.rd (CAN_STAT.TEC n) + (canErrInc kind.val).1 ≤ 255 →
        exec (.canBusError ctrl kind) s = .next (((((((s.bump (CAN_CNT.ERRFRAME n)).wr (CAN_STAT.TEC n) (min (s.rd (CAN_STAT.TEC n) + (canErrInc kind.val).1) 255)).wr (CAN_STAT.REC n) (min (s.rd (CAN_STAT.REC n) + (canErrInc kind.val).2) 255)).modCan n (fun c => { c with tx := if 2 ≤ kind.val then none else c.tx })).canErrState n (s.rd (CAN_STAT.TEC n)) (s.rd (CAN_STAT.REC n))).canFill n))) ∧
  (∀ (ctrl : Fin 6) (s : State) (n : Nat),
      (s.canOnBus ctrl.val = true ∧ ctrl.val = n ∧ (s.can n).tx.isSome = true) →
      255 < s.rd (CAN_STAT.TEC n) + 8 →
        ∃ u : State, exec (.canBusError ctrl 2) s = .next (u.canFill n) ∧ (u.can n).tx = none ∧ (u.can n).offAt = s.now ∧
        (u.can n).recAt = (if s.flag (CAN_CTL.AUTO_REC n) then some (s.now, false) else none) ∧ u.rd (CAN_STAT.ESTATE n) = (if s.flag (CAN_CTL.AUTO_REC n) then 3 else 2)) ∧
  (∀ (ctrl : Fin 6) (s : State) (x : Nat × Bool × Nat),
      (s.can ctrl.val).suspects.getLast? = some x →
        exec (.canSuspectExpire ctrl) s = .next (((s.waitTill (x.2.2 + 1000000000)).modCan ctrl.val (fun c => { c with suspects := c.suspects.erase x })).canMarkSuspect ctrl.val x.1 x.2.1 false)) ∧
  (∀ (ctrl : Fin 6) (s w : State) (n t : Nat) (host : Bool),
      (s.canRuns ctrl.val = true ∧ ctrl.val = n ∧ s.rd (CAN_STAT.ESTATE n) = 3 ∧ (s.can n).recAt = some (t, host)) →
      w = s.waitTill (t + s.canBits n 1408) →
        exec (.canBusOn ctrl) s = .next (((((((((w.modCan n (fun c => { c with recAt := none })).wr (CAN_STAT.ESTATE n) 0).wr (CAN_STAT.TEC n) 0).wr (CAN_STAT.REC n) 0).bump (CAN_CNT.BUSOFF n)).ev 0x0D04 (entCan n) ((w.now - (s.can n).offAt) / 1000000) (b2n host)).canExpire n).authBus n)))

/-- CAN_RECOVERY_REQUEST of a controller of the host that is bus-off: ESTATE is 3, and the recovery count begins for the host. CAN_SLEEP of a controller of the host that is awake with no frame in transmission: SLEEP of CAN_CTL and of CAN_STAT read 1, and nothing else changes. CAN_SLEEP_EXIT outside DORMANT of a controller that sleeps: SLEEP of CAN_CTL clears, 11 bit times later that of CAN_STAT too, and requests whose deadline passed are withdrawn. CAN_REF_MESSAGE of the time master: at the next multiple t of REF_PERIOD after the last one, the reference message of the next CYCLE is requested with the deadline t plus half a period. CAN_UNBLOCK of an object of a controller of the host: its BLOCKED clears, and nothing else changes. CAN_CLR_COUNTS of a controller of the host: its five counters are written 0, and nothing else changes. SEND through an enabled transmit object that the host owns and that is not blocked, in the sending unit: the frame of the given length is requested from the object, for the descriptor. RX_POST with room for a record of 96 bytes: the descriptor waits on an outside event, its buffer behind those posted. -/
def Obligations.CanControllersPart2 : Prop :=
  (∀ (ctrl : Fin 6) (s : State),
      (s.up = true ∧ ctrl.val < 5 ∧ s.rd (CAN_STAT.ESTATE ctrl.val) = 2) →
        exec (.canRecoveryRequest ctrl) s = .next ((s.wr (CAN_STAT.ESTATE ctrl.val) 3).modCan ctrl.val (fun c => { c with recAt := some (s.now, true) }))) ∧
  (∀ (ctrl : Fin 6) (s : State) (n : Nat),
      (s.up = true ∧ ctrl.val = n ∧ n < 5 ∧ s.flag (CAN_STAT.SLEEP n) = false ∧ (s.can n).tx = none) →
        exec (.canSleep ctrl) s = .next ((s.wr (CAN_CTL.SLEEP n) 1).wr (CAN_STAT.SLEEP n) 1)) ∧
  (∀ (ctrl : Fin 6) (s v : State) (n : Nat),
      (s.up = true ∧ ctrl.val = n ∧ n < 5 ∧ s.glb.mode ≠ .dormant ∧ s.flag (CAN_STAT.SLEEP n) = true) →
      v = s.wr (CAN_CTL.SLEEP n) 0 →
        exec (.canSleepExit ctrl) s = .next (((v.waitTill (v.now + v.canBits n 11)).wr (CAN_STAT.SLEEP n) 0).canExpire n)) ∧
  (∀ (ctrl : Fin 6) (s v : State) (n p t : Nat),
      (s.up = true ∧ ctrl.val = n ∧ s.flag (CAN_STAT.MASTER n) = true ∧ s.canMaySend n = true) →
      (p = 1000000 * s.rd (CAN_REF.REF_PERIOD n) ∧ p ≠ 0 ∧ (s.can n).refAt = none ∧ t = divUp s.siteNs p * p) →
      (v = (s.waitSite t).modCan n (fun c => { c with refAt := some t }) ∧ (s.can n).ref = none) →
        exec (.canRefMessage ctrl) s = .next (v.canRequest n (s.rd (CAN_REF.REF_OBJ n)) (v.refData n 0) (some (t + p / 2)) (.ref 0))) ∧
  (∀ (ctrl : Fin 6) (obj : Fin 128) (s : State),
      (s.up = true ∧ ctrl.val < 5) →
        exec (.canUnblock ctrl obj) s = .next (s.wr (CAN_OBJ_STAT.BLOCKED ctrl.val obj.val) 0)) ∧
  (∀ (ctrl : Fin 6) (s : State),
      (s.up = true ∧ ctrl.val < 5) →
        exec (.canClrCounts ctrl) s = .next (((((s.wr (CAN_CNT.BUSOFF ctrl.val) 0).wr (CAN_CNT.ERRFRAME ctrl.val) 0).wr (CAN_DROP.NOMATCH ctrl.val) 0).wr (CAN_DROP.HOSTDROP ctrl.val) 0).wr (CAN_TXDROP.CNT ctrl.val) 0)) ∧
  (∀ (d : DescRef) (ctrl : BitVec 8) (obj : BitVec 16) (len : BitVec 8) (data : List (BitVec 8)) (deadline : BitVec 64) (s : State) (n o : Nat),
      (s.ready d 0x0D01 = true ∧ ctrl.toNat = n ∧ obj.toNat = o ∧ n < 5 ∧ o < 128) →
      (canLenOk len.toNat = true ∧ (len.toNat ≤ 8 ∨ s.canFdf n o = true)) →
      (s.canTxObj n o = true ∧ s.flag (CAN_OBJ_CFG.OWNER n o) = true ∧ s.flag (CAN_OBJ_STAT.BLOCKED n o) = false ∧ s.canMaySend n = true) →
        exec (.send d true ctrl obj len data deadline) s = .next ((s.start d).canRequest n o (fitData len.toNat (data.map (·.toNat))) (if deadline.toNat = 0 then none else some deadline.toNat) (.host d.ring.val d.idx.toNat))) ∧
  (∀ (d : DescRef) (len : BitVec 32) (addr : BitVec 64) (s : State),
      (s.ready d 0x0D01 = true ∧ 96 ≤ len.toNat) →
        exec (.rxPost d true len addr) s = .next { (s.start d).waitOutside d with cans := { s.cans with rx := s.cans.rx ++ [(d.ring.val, d.idx.toNat, addr.toNat)] } })

/-- RIND_CYCLE while the Rind runs and reports no internal fault: the cycle begins 0.5 ms after the last, the safe inputs take their samples, the safety functions are judged, the outputs are read back, the reactions follow, and then their effects on the rest of the device. HEARTBEAT_RECEIVE of the oldest heartbeat on its way, showing a mode other than ACTIVE, SHADOW, LIMP and HALT: it ends a ramp-down request, and as an orderly stop it de-energises the outputs and releases the relay hold at once. HEARTBEAT_RECEIVE of the oldest heartbeat on its way, showing ACTIVE, SHADOW or LIMP: it ends a ramp-down request, and the outputs are as they were. HEARTBEAT_LOSS, 5 ms after the last heartbeat of a unit that sent one: heartbeats count as stopped, and the mirror follows. SAFE_GRACE_EXPIRE, SAFE_GRACE after the last heartbeat of a loss not yet judged: the loss is logged with whether the switch-off is withheld, a site-wide trip latches unless it is, and the outputs, the caps and the rest of the device follow. SAFETY_FUNCTION_TIME_EXPIRE of a function whose condition holds but not yet for its time: at the end of the cycle that completes it the count is the time's, the trip is decided, and the outputs, the caps and the rest of the device follow. SAFETY_FUNCTION_TIME_EXPIRE of OFF_CONFIRM for a port whose current is below OPEN_I but not yet for that time: at the end of the cycle that completes it the port counts as without current, and the reactions follow. -/
def Obligations.SafetyIsland : Prop :=
  (∀ (x : RindIn) (w : State) (a : State × List Nat) (c : State × Bool) (s : State),
      s.rindRuns = true →
      x.fault = none →
      w = s.rindBegin x →
      a = w.rindPairs x →
      c = (a.1.rindWatch x).readbackOff x.soRead false →
        exec (.rindCycle x) s = .next ((c.1.rindDecide x (a.2.any (fun i => s.pairFunc i == 4)) c.2).rindEffects)) ∧
  (∀ (w : Nat) (l : List Nat) (u : State) (s : State),
      s.rindRuns = true →
      s.alp.heartbeats = w :: l →
      (2 ≤ w / 2 ^ 24 % 8 && w / 2 ^ 24 % 8 ≤ 5) = false →
      u = { s with alp := { s.alp with heartbeats := l }, sfi := { s.sfi with hb := some w, hbAt := s.now, hbStop := false, grace := false, lossLogged := false, haltAt := none, haltOpen := false } } →
        exec .heartbeatReceive s = .next ((u.driveSo.setHold false).mirror)) ∧
  (∀ (w : Nat) (l : List Nat) (s : State),
      s.rindRuns = true →
      s.alp.heartbeats = w :: l →
      (2 ≤ w / 2 ^ 24 % 8 ∧ w / 2 ^ 24 % 8 ≤ 4) →
        exec .heartbeatReceive s = .next { s with alp := { s.alp with heartbeats := l }, sfi := { s.sfi with hb := some w, hbAt := s.now, hbStop := false, grace := false, lossLogged := false, haltAt := none, haltOpen := false } }) ∧
  (∀ (w : State) (s : State),
      s.rindRuns = true →
      s.sfi.hb ≠ none →
      s.sfi.hbStop = false →
      w = s.waitTill (s.sfi.hbAt + 5000000) →
        exec .heartbeatLoss s = .next (State.mirror { w with sfi := { w.sfi with hbStop := true } })) ∧
  (∀ (w v : State) (s : State),
      s.rindRuns = true →
      (s.hbLoss = true ∧ s.sfi.grace = false) →
      w = s.waitTill (s.sfi.hbAt + 1000000 * s.par 0x004 2) →
      (w.hbLoss = true ∧ w.sfi.hbAt + 1000000 * w.par 0x004 2 ≤ w.now ∧ w.sfi.lossLogged = false ∧ w.withheld = false) →
      v = (State.evS { w.cause 9 0 with sfi := { (w.cause 9 0).sfi with grace := true, lossLogged := true } } 0x0E08 0 (w.sfi.hb.getD 0 % 2 ^ 16) (b2n false)) →
        exec .safeGraceExpire s = .next ((v.trip 0 9 0 0 0).rindActs)) ∧
  (∀ (which : Fin 5) (idx : Fin 32) (key need n : Nat) (act : State → State) (w : State) (s : State),
      s.rindRuns = true →
      which.val ≠ 0 →
      s.functionOf which.val idx.val = some (key, need, act) →
      n = tget (fun _ => 0) s.sfi.counts key →
      (0 < n ∧ n < need) →
      w = s.waitTill (s.now + 500000 * (need - n)) →
        exec (.safetyFunctionTimeExpire which idx) s = .next ((act { w with sfi := { w.sfi with counts := tset (fun _ => 0) w.sfi.counts key need } }).rindActs)) ∧
  (∀ (idx : Fin 32) (need n : Nat) (w : State) (s : State),
      s.rindRuns = true →
      idx.val < s.nPorts →
      need = cyc (s.par 0x00C 2 * 10) →
      n = tget (fun _ => 0) s.sfi.low idx.val →
      (0 < n ∧ n < need) →
      w = s.waitTill (s.now + 500000 * (need - n)) →
        exec (.safetyFunctionTimeExpire 0 idx) s = .next (State.rindActs { w with sfi := { w.sfi with low := tset (fun _ => 0) w.sfi.low idx.val need } }))

/-- C1_GRACE_EXPIRE, C1_GRACE after the oldest trip that waits: it acts, with every other whose delay has ended, and the outputs, the caps and the rest of the device follow. DISCREPANCY_TIMEOUT of a pair in discrepancy without a fault: at the end of its discrepancy time the fault latches and is logged, the pair is in demand, its demand trips what its function names, and the reactions follow. TEST_PULSE of TPS1 while the Rind runs: one TP_PERIOD after its last pulse it begins; each terminal on the source is in test-pulse fault when the source is stuck or it does not follow, logged at its onset; the stuck source requests LIMP while it is stuck; and the reactions follow. TEST_PULSE of TPS0 while the Rind runs and no energised output reads on in its gap: one TP_PERIOD after its last pulse it begins; the terminals on the source are judged, the stuck source requests LIMP while it is stuck, the outputs are read back, and the reactions follow. EDM_TIMEOUT of an output whose feedback has not followed: at the end of EDM_TIME the output is in fault, logged with what was commanded, its scope is tripped, and the reactions follow. RELAY_HOLD_TAKE while the heartbeat lets the unit hold: with a peer connection, 20 ms after the peer last held, VLR_HOLD is high, and the mirror follows. RELAY_HOLD_TAKE while the heartbeat lets the unit hold and the image has no peer connection: VLR_HOLD is high at once, and the mirror follows. -/
def Obligations.SafetyIslandPart2 : Prop :=
  (∀ (t : Trip) (w : State) (s : State),
      s.rindRuns = true →
      s.sfi.trips.find? (fun (t : Trip) => !t.acting) = some t →
      w = s.waitTill (t.since + 1000000 * s.par 0x006 2) →
        exec .c1GraceExpire s = .next (w.actLate.rindOut.rindEffects)) ∧
  (∀ (pair : Fin 8) (t : Nat) (w v u : State) (s : State),
      s.rindRuns = true →
      ((s.pair pair.val).discAt = some t ∧ (s.pair pair.val).fault = false) →
      w = s.waitTill (t + 10000000 * s.par (0x243 + 8 * pair.val) 1) →
      v = (w.setPair pair.val { w.pair pair.val with fault := true }).evS 0x0E05 (ent 14 (2 * pair.val)) 1 pair.val →
      u = v.setPair pair.val { v.pair pair.val with last := 1, ack := ((w.pair pair.val).ack.step 1 w.now).1 } →
        exec (.discrepancyTimeout pair) s = .next ((u.pairTrips pair.val).rindActs)) ∧
  (∀ (follows : BitVec 16) (soRead : BitVec 8) (stuck : Bool) (w v : State) (s : State),
      s.rindRuns = true →
      w = s.pulseAt 1 →
      (v = ((List.range 16).filter (fun ch => w.tpSource ch == 1 + 1)).foldl (fun (a : State) ch => if (stuck || !follows.getLsbD ch) && !(a.term ch).tpf then (a.setTerm ch { a.term ch with tpf := (stuck || !follows.getLsbD ch) }).evS 0x0E05 (ent 14 ch) 2 (ch / 2) else a.setTerm ch { a.term ch with tpf := (stuck || !follows.getLsbD ch) }) w) →
        exec (.testPulse true follows soRead stuck) s = .next ((State.limpCause { v with sfi := { v.sfi with tpsStuck := setBit v.sfi.tpsStuck 1 stuck } } 2001 0 8 stuck).rindActs)) ∧
  (∀ (follows : BitVec 16) (soRead : BitVec 8) (stuck : Bool) (w v r : State) (s : State),
      s.rindRuns = true →
      w = s.pulseAt 0 →
      (v = ((List.range 16).filter (fun ch => w.tpSource ch == 0 + 1)).foldl (fun (a : State) ch => if (stuck || !follows.getLsbD ch) && !(a.term ch).tpf then (a.setTerm ch { a.term ch with tpf := (stuck || !follows.getLsbD ch) }).evS 0x0E05 (ent 14 ch) 2 (ch / 2) else a.setTerm ch { a.term ch with tpf := (stuck || !follows.getLsbD ch) }) w) →
      (State.limpCause { v with sfi := { v.sfi with tpsStuck := setBit v.sfi.tpsStuck 0 stuck } } 2000 0 8 stuck).readbackOff soRead true = (r, false) →
        exec (.testPulse false follows soRead stuck) s = .next r.rindActs) ∧
  (∀ (out : Fin 8) (t : Nat) (w : State) (s : State),
      s.rindRuns = true →
      ((s.so out.val).edmAt = some t ∧ s.edmOk out.val = false) →
      w = s.waitTill (t + 10000000 * s.par (0x287 + 8 * out.val) 1) →
      (w.so out.val).fault = false →
        exec (.edmTimeout out) s = .next ((((w.setSo out.val { w.so out.val with fault := true, edmAt := none }).evS 0x0E04 (entSafeOut out.val) 2 (b2n (w.so out.val).on)).tripOut out.val).rindActs)) ∧
  (∀ (t : Nat) (w : State) (s : State),
      s.rindRuns = true →
      s.mayHold = true →
      (s.peerConn.isNone = false ∧ s.sfi.noHoldAt = some t) →
      w = s.waitTill (t + 20000000) →
        exec .relayHoldTake s = .next ((w.setHold true).mirror)) ∧
  (∀ (s : State),
      s.rindRuns = true →
      s.mayHold = true →
      s.peerConn.isNone = true →
        exec .relayHoldTake s = .next ((s.setHold true).mirror))

/-- TWIN_ALIVE_CHANGE to low while the Rind runs: it counts at once, and the mirror and the twin watch follow. TWIN_ALIVE_CHANGE to high while the Rind runs and the pin was low: the level is noted with its time, and counts once it has stood for 10 ms. SOELAONE_SEND of a peer connection in RUN that owes no answer: one PERIOD after the last frame a data frame with the next SEQ, the peer payload and a fresh stamp leaves on CAN5 and its mirror. SOELAONE_RECEIVE of a frame whose identity no connection of the image has: nothing changes. SOELAONE_RECEIVE of a frame of a connection in use whose length or CRC is wrong: the connection is in SAFE with check 1, logged, its scope is tripped where the image says so, and the reactions follow. SOELAONE_TIMEOUT of a connection in use that opens or runs: TEXP after the last frame accepted it is in fault with check 4, and the reactions follow. RIND_STORE_REFRESH while the Rind runs: 365 days of VAON after the last one the stores are refreshed, and the time counts anew. -/
def Obligations.SafetyIslandPart3 : Prop :=
  (∀ (s : State),
      s.rindRuns = true →
        exec (.twinAliveChange false) s = .next ((State.mirror { s with sfi := { s.sfi with aliveIn := false, aliveInAt := s.now, aliveOk := false } }).twinWatch)) ∧
  (∀ (s : State),
      s.rindRuns = true →
      s.sfi.aliveIn = false →
        exec (.twinAliveChange true) s = .next { s with sfi := { s.sfi with aliveIn := true, aliveInAt := s.now } }) ∧
  (∀ (conn : Fin 8) (t q : Nat) (w : State) (s : State),
      s.rindRuns = true →
      (s.connRole conn.val = 2 ∧ (s.conn conn.val).sentAt = some t) →
      w = s.waitTill (t + 1000000 * s.par (0x404 + 16 * conn.val) 2) →
      (w.connRole conn.val = 2 ∧ (w.conn conn.val).state = 2 ∧ (w.conn conn.val).answer = false ∧ q = low 32 ((w.conn conn.val).tx.getD 0 + 1)) →
        ∃ u, u = w.setConn conn.val { w.conn conn.val with tx := some q, sentAt := some w.now, answer := false } ∧ exec (.soelaoneSend conn) s = .next (u.connCan conn.val (soelaone (w.par (0x400 + 16 * conn.val) 2) 0 q (w.siteNs % 2 ^ 32) (w.connPayload conn.val)))) ∧
  (∀ (frame : List (BitVec 8)) (s : State),
      s.connById (field (frame.map (fun (x : BitVec 8) => x.toNat)) 0 2) = none →
        exec (.soelaoneReceive frame) s = .next s) ∧
  (∀ (frame : List (BitVec 8)) (b : List Nat) (c n : Nat) (s : State),
      s.rindRuns = true →
      b = frame.map (fun (x : BitVec 8) => x.toNat) →
      s.connById (field b 0 2) = some c →
      n = s.par (0x403 + 16 * c) 1 →
      (nth b 3 0 ≠ n ∨ b.length ≠ 16 + n ∨ field b (12 + n) 4 ≠ crcS (b.take (12 + n))) →
        exec (.soelaoneReceive frame) s = .next ((s.connFault c 1).rindActs)) ∧
  (∀ (conn : Fin 8) (w : State) (s : State),
      s.rindRuns = true →
      s.connRole conn.val ≠ 0 →
      ((s.conn conn.val).state = 1 ∨ (s.conn conn.val).state = 2) →
      w = s.waitTill ((s.conn conn.val).lastAt + 1000000 * s.par (0x406 + 16 * conn.val) 2) →
        exec (.soelaoneTimeout conn) s = .next ((w.connFault conn.val 4).rindActs)) ∧
  (∀ (w : State) (s : State),
      s.rindRuns = true →
      w = s.waitTill (s.sfi.refreshAt + 31536000000000000) →
        exec .rindStoreRefresh s = .next { w with sfi := { w.sfi with refreshAt := w.now } })

/-- SFI_PDATA_WRITE in COMMISSION of another value than the staged word, at an ADDR below 0x500 and with no confirmation under way: the staged word takes it, and ADDR advances. SFI_PDATA_WRITE outside COMMISSION of another value than the staged word, at an ADDR below 0x500: the image is as it was, ADDR advances, and GLB_SEALED_WRITE is logged with the register and the value. SFI_PDATA_WRITE at ADDR 0x500 or above, or of the staged word itself: only ADDR advances. SFI_PDATA_READ: DATA is the staged word at ADDR, 0 at 0x500 and above, and ADDR advances. SFI_CV_REQ with its key in COMMISSION: the confirmation begins, with no refusal shown and STATE 1. SFI_CV_REQ with its key outside COMMISSION: the confirmation is refused with code 5. -/
def Obligations.SafetyParameters : Prop :=
  (∀ (v : BitVec 32) (a : Nat) (u : State) (s : State),
      s.up = true →
      s.glb.mode = .commission →
      (a < 0x500 ∧ a = s.rd SFI_PADDR.ADDR / 4 * 4) →
      v.toNat ≠ s.pdata →
      u = s.wr SFI_PADDR.ADDR ((a + 4) % 2048) →
      s.confirming = false →
        exec (.sfiPdataWrite v) s = .next { u with sfi := { u.sfi with staged := tset defImage u.sfi.staged a v.toNat } }) ∧
  (∀ (v : BitVec 32) (a : Nat) (s : State),
      s.up = true →
      s.glb.mode ≠ .commission →
      (a < 0x500 ∧ a = s.rd SFI_PADDR.ADDR / 4 * 4) →
      v.toNat ≠ s.pdata →
        exec (.sfiPdataWrite v) s = .next ((s.wr SFI_PADDR.ADDR ((a + 4) % 2048)).ev 0x0141 0 SFI_PDATA.DATA.off v.toNat)) ∧
  (∀ (v : BitVec 32) (a : Nat) (s : State),
      s.up = true →
      a = s.rd SFI_PADDR.ADDR / 4 * 4 →
      (0x500 ≤ a ∨ v.toNat = s.pdata) →
        exec (.sfiPdataWrite v) s = .next (s.wr SFI_PADDR.ADDR ((a + 4) % 2048))) ∧
  (∀ (a : Nat) (s : State),
      s.up = true →
      a = s.rd SFI_PADDR.ADDR / 4 * 4 →
        exec .sfiPdataRead s = .next ((s.wr SFI_PDATA.DATA s.pdata).wr SFI_PADDR.ADDR ((a + 4) % 2048))) ∧
  (∀ (v : BitVec 32) (s : State),
      s.up = true →
      v.toNat = 0x4356 →
      s.glb.mode = .commission →
        exec (.sfiCvReq v) s = .next ((((State.wr { s with sfi := { s.sfi with reqAt := some s.now } } SFI_CONFIRM_STAT.REFUSE 0).wr SFI_CONFIRM_STAT.BAD_OFS 0)).wr SFI_CONFIRM_STAT.STATE 1)) ∧
  (∀ (v : BitVec 32) (s : State),
      s.up = true →
      v.toNat = 0x4356 →
      s.glb.mode ≠ .commission →
        exec (.sfiCvReq v) s = .next (s.paramRefuse 5 0))

/-- CV_COMPUTE_COMPLETE of a confirmation in step 2: a field of the staged image out of its range refuses it with code 1 and its offset; else CV_STAGED shows the check value of the staged image, and STATE is 5. SFI_CONFIRM in COMMISSION with the computed check value, the staged image naming an acknowledge pair: STATE is 2, and the acknowledgement is awaited from now. SFI_CONFIRM in COMMISSION with another value than the computed check value: the confirmation is refused with code 2. CONFIRM_TIMEOUT, 60 s after the wait for the acknowledgement began: the confirmation is refused with code 4. SFI_PWD_CMD with its key in COMMISSION: a random salt of 16 bytes is taken (a free value), the hash over salt and password is stored with it, SET reads 1, and the change log takes an entry of kind 3. PASSWORD_LOCKOUT_END at the end of a lockout: the lockout is over, and LOCKED reads 0. -/
def Obligations.SafetyParametersPart2 : Prop :=
  (∀ (s : State),
      s.rindRuns = true →
      s.rd SFI_CONFIRM_STAT.STATE = 1 →
        exec .cvComputeComplete s = .next (match badField s.sfi.staged with
        | some o => s.paramRefuse 1 o
        | none => (s.wr SFI_CV_STAGED.CV (checkValue s.sfi.staged)).wr SFI_CONFIRM_STAT.STATE 5)) ∧
  (∀ (v : BitVec 32) (i : Nat) (s : State),
      s.up = true →
      (s.glb.mode = .commission ∧ s.rd SFI_CONFIRM_STAT.STATE = 5) →
      v.toNat = s.rd SFI_CV_STAGED.CV →
      i = img s.sfi.staged 0x01F 1 →
      (i < 8 ∧ img s.sfi.staged (0x240 + 8 * i) 1 = 4) →
        exec (.sfiConfirm v) s = .next (State.wr { s with sfi := { s.sfi with reqAt := some s.now, cfm := .idle } } SFI_CONFIRM_STAT.STATE 2)) ∧
  (∀ (v : BitVec 32) (s : State),
      s.up = true →
      (s.glb.mode = .commission ∧ s.rd SFI_CONFIRM_STAT.STATE = 5) →
      v.toNat ≠ s.rd SFI_CV_STAGED.CV →
        exec (.sfiConfirm v) s = .next (s.paramRefuse 2 0)) ∧
  (∀ (t : Nat) (w : State) (s : State),
      s.sfi.reqAt = some t →
      s.rd SFI_CONFIRM_STAT.STATE = 2 →
      w = s.waitTill (t + 60000000000) →
        exec .confirmTimeout s = .next (w.paramRefuse 4 0)) ∧
  (∀ (v : BitVec 32) (u : State) (salt : List Nat) (s : State),
      s.up = true →
      v.toNat = 0x5057 →
      s.glb.mode = .commission →
      (u, salt) = s.freshBytes 16 →
        exec (.sfiPwdCmd v) s = .next ((State.wr { u with sfi := { u.sfi with pwdHash := some (sha256 (salt ++ u.pwdBytes), salt) } } SFI_PWD_STAT.SET 1).changeLog 3)) ∧
  (∀ (t : Nat) (w : State) (s : State),
      s.sfi.lockEnd = some t →
      w = s.waitTill t →
        exec .passwordLockoutEnd s = .next (State.wr { w with sfi := { w.sfi with lockEnd := none } } SFI_PWD_STAT.LOCKED 0))

/-- HKA_SLOT_CONVERSION of slots 16 to 19, or of a slot with no promoted channel, in the slow round at a temperature channel that is not the last conversion: at the end of the slot the channel takes the temperature its conversion gives, and the round goes on. HKA_SLOT_CONVERSION of a slot whose promoted channel is c: at the end of the slot the channel takes the temperature its conversion gives. HKA_SLOT_CONVERSION in the slow round at an auxiliary input: at the end of the slot its register takes the value, and the round goes on. SLOW_ROUND_START with site time valid: at the next whole multiple of 200 ms the slow round starts at its first conversion. SLOW_ROUND_START without valid site time: at the next whole multiple of 200 ms of the free-running clock the slow round starts at its first conversion. DIE_SENSOR_READ with no die hold, below the trip limit: every sensor's value, peak and warning follow its reading. DIE_SENSOR_READ with no die hold, a sensor at or above the trip limit: after the readings the unit goes down with cause 4, the main domains reset, DIE_TRIP reads 1, and the hold begins at the hottest sensor. DIE_SENSOR_READ in a die hold: the readings are kept, the hold's peak and its sensor follow the hottest, and the time below the release limit counts from its first cool reading. DIE_TRIP_RELEASE in a die hold with every sensor cool: 10 ms after the first cool reading the trip is logged with the hottest sensor, its peak and the length of the hold, and the hold ends. -/
def Obligations.ThermalAndLoadSwitches : Prop :=
  (∀ (value : BitVec 32) (pin : BitVec 16) (k : Nat) (w v : State) (s : State),
      s.up = true →
      w = s.slotWait →
      ((if s.hkaTime / 100000 % 20 < 16 then w.thm.fast[s.hkaTime / 100000 % 20]? else none) = none) →
      w.thm.slow = some k →
      k < 96 →
      v = w.chanReading k (w.hkaTemp k value.toNat) pin.toNat →
        exec (.hkaSlotConversion value pin) s = .next { v with thm := { v.thm with slow := some (k + 1) } }) ∧
  (∀ (value : BitVec 32) (pin : BitVec 16) (c : Nat) (w : State) (s : State),
      s.up = true →
      w = s.slotWait →
      s.hkaTime / 100000 % 20 < 16 →
      w.thm.fast[s.hkaTime / 100000 % 20]? = some c →
        exec (.hkaSlotConversion value pin) s = .next (w.chanReading c (w.hkaTemp c value.toNat) pin.toNat)) ∧
  (∀ (value : BitVec 32) (pin : BitVec 16) (k : Nat) (w v : State) (s : State),
      s.up = true →
      w = s.slotWait →
      ((if s.hkaTime / 100000 % 20 < 16 then w.thm.fast[s.hkaTime / 100000 % 20]? else none) = none) →
      w.thm.slow = some k →
      (96 ≤ k ∧ k < 112) →
      v = w.wr (HKA_AUX.V (k - 96)) value.toNat →
        exec (.hkaSlotConversion value pin) s = .next { v with thm := { v.thm with slow := some (k + 1) } }) ∧
  (∀ (w : State) (s : State),
      s.up = true →
      s.flag STU_DISC_STAT.VALID = true →
      w = s.waitSite (200000000 * divUp s.hkaTime 200000000) →
        exec .slowRoundStart s = .next { w with thm := { w.thm with slow := some 0 } }) ∧
  (∀ (w : State) (s : State),
      s.up = true →
      s.flag STU_DISC_STAT.VALID = false →
      w = s.waitTill (200000000 * divUp s.hkaTime 200000000) →
        exec .slowRoundStart s = .next { w with thm := { w.thm with slow := some 0 } }) ∧
  (∀ (temps : List (BitVec 16)) (l : List Int) (s : State),
      l = (temps.take 12).map (fun (t : BitVec 16) => t.toInt) →
      l.length = 12 →
      s.thm.dieHold = none →
      s.mainUp = true →
      (hottest l).2 < (s.rd THM_DIE_CFG.TRIP : Nat) →
        exec (.dieSensorRead temps) s = .next (((List.range 12).zip l).foldl (fun (a : State) x => a.dieReading x.1 x.2) { s with thm := { s.thm with dieT := l } })) ∧
  (∀ (temps : List (BitVec 16)) (l : List Int) (u : State) (s : State),
      l = (temps.take 12).map (fun (t : BitVec 16) => t.toInt) →
      l.length = 12 →
      s.thm.dieHold = none →
      s.mainUp = true →
      (s.rd THM_DIE_CFG.TRIP : Nat) ≤ (hottest l).2 →
      u = ((List.range 12).zip l).foldl (fun (a : State) x => a.dieReading x.1 x.2) { s with thm := { s.thm with dieT := l } } →
        exec (.dieSensorRead temps) s = .next (u.dieTripped (hottest l).1 (hottest l).2)) ∧
  (∀ (temps : List (BitVec 16)) (l : List Int) (t0 i : Nat) (peak top : Int) (s : State),
      l = (temps.take 12).map (fun (t : BitVec 16) => t.toInt) →
      l.length = 12 →
      s.thm.dieHold = some (t0, peak) →
      hottest l = (i, top) →
        exec (.dieSensorRead temps) s = .next { s with thm := { s.thm with dieT := l, dieHold := some (t0, max peak top), dieSensor := if peak < top then i else s.thm.dieSensor, dieCool := if !decide (top ≤ (s.thm.dieTrip : Int) - 150) then none else match s.thm.dieCool with | none => some s.now | some t => some t } }) ∧
  (∀ (t0 t : Nat) (peak : Int) (w v : State) (s : State),
      s.thm.dieHold = some (t0, peak) →
      s.thm.dieCool = some t →
      w = s.waitTill (t + 10000000) →
      v = w.ev 0x0F08 (entDie w.thm.dieSensor) (enc 64 peak) ((w.now - t0) / 1000000) →
        exec .dieTripRelease s = .next { v with glb := { v.glb with holds := { v.glb.holds with die := false } }, thm := { v.thm with dieHold := none, dieCool := none } })

/-- THM_CLR_PEAK: the peak of every on-die sensor reads its reset value. LSB_ON_WRITE outside SHADOW: LSB_ON takes the written bits, a retry timer of a switch whose bit is 0 stops, and every switch follows. LSB_ON_SET outside SHADOW: LSB_ON takes its bits with the written ones set, a retry timer of a switch whose bit is 0 stops, and every switch follows. LSB_ON_CLR outside SHADOW: LSB_ON takes its bits with the written ones clear, a retry timer of a switch whose bit is 0 stops, and every switch follows. LSB_UNLOCK: each switch named is unlocked, its retry count and sequence clear, it is logged with the count, and it follows LSB_ON. LSB_CLR_COUNTS: the trip and short counts of every switch read 0. LSB_SHORT of a conducting switch with retries left: it is off with LAST_TRIP 1, the trip and the short count, the retry timer runs for RETRY_DELAY, and the trip is logged with the retries used. LSB_SHORT of a conducting switch with every retry used: it is off and LOCKED with LAST_TRIP 1, the trip and the short count, and the trip and the lock are logged. LSB_OVERLOAD of a conducting switch with retries left, VSW not low: it is off with LAST_TRIP 2, the trip counts, the retry timer runs for RETRY_DELAY, and the trip is logged with the retries used. -/
def Obligations.ThermalAndLoadSwitchesPart2 : Prop :=
  (∀ (s : State),
      s.up = true →
        exec .thmClrPeak s = .next ((List.range 12).foldl (fun (u : State) i => u.wr (THM_DIE.PEAK i) 0x8000) s)) ∧
  (∀ (v : BitVec 32) (m : Nat) (s : State),
      s.up = true →
      s.glb.mode ≠ .shadow →
      m = v.toNat % 2 ^ 24 →
        exec (.lsbOnWrite v) s = .next ((List.range 24).foldl (fun (u : State) n => (if m.testBit n then u else u.setLsw n { u.lsw n with retryAt := none, retryLeft := none }).driveLsw n) (s.wr LSB_ON.ON m))) ∧
  (∀ (v : BitVec 32) (m : Nat) (s : State),
      s.up = true →
      s.glb.mode ≠ .shadow →
      m = s.rd LSB_ON.ON ||| v.toNat % 2 ^ 24 →
        exec (.lsbOnSet v) s = .next ((List.range 24).foldl (fun (u : State) n => (if m.testBit n then u else u.setLsw n { u.lsw n with retryAt := none, retryLeft := none }).driveLsw n) (s.wr LSB_ON.ON m))) ∧
  (∀ (v : BitVec 32) (m : Nat) (s : State),
      s.up = true →
      s.glb.mode ≠ .shadow →
      m = clearBits (s.rd LSB_ON.ON) (v.toNat % 2 ^ 24) →
        exec (.lsbOnClr v) s = .next ((List.range 24).foldl (fun (u : State) n => (if m.testBit n then u else u.setLsw n { u.lsw n with retryAt := none, retryLeft := none }).driveLsw n) (s.wr LSB_ON.ON m))) ∧
  (∀ (v : BitVec 32) (s : State),
      s.up = true →
        exec (.lsbUnlock v) s = .next ((bitsOf v.toNat 24).foldl (fun (u : State) n => ((u.setLsw n { u.lsw n with locked := false, used := 0, retryAt := none, retryLeft := none }).ev 0x1106 (entSwitch n) (u.lsw n).used 0).driveLsw n) s)) ∧
  (∀ (s : State),
      s.up = true →
        exec .lsbClrCounts s = .next ((List.range 24).foldl (fun (u : State) n => (u.wr (LSB_CH_CNT.TRIPS n) 0).wr (LSB_CH_CNT.SHORTS n) 0) s)) ∧
  (∀ (sw : Fin 24) (s : State),
      (s.lsw sw.val).on = true →
      (s.lsw sw.val).used < s.rd (LSB_CH_CFG.RETRIES sw.val) →
        exec (.lsbShort sw) s = .next ((((s.bump (LSB_CH_CNT.TRIPS sw.val)).bump (LSB_CH_CNT.SHORTS sw.val)).setLsw sw.val { s.lsw sw.val with on := false, lastTrip := 1, inrushAt := none, inrushLeft := none, locked := false, retryAt := some (s.now + 1000000 * s.rd (LSB_CH_RETRY.RETRY_DELAY sw.val)), retryLeft := none }).ev 0x1101 (entSwitch sw.val) 1 (s.lsw sw.val).used)) ∧
  (∀ (sw : Fin 24) (s : State),
      (s.lsw sw.val).on = true →
      s.rd (LSB_CH_CFG.RETRIES sw.val) ≤ (s.lsw sw.val).used →
        exec (.lsbShort sw) s = .next (((((s.bump (LSB_CH_CNT.TRIPS sw.val)).bump (LSB_CH_CNT.SHORTS sw.val)).setLsw sw.val { s.lsw sw.val with on := false, lastTrip := 1, inrushAt := none, inrushLeft := none, locked := true, retryAt := none, retryLeft := none }).ev 0x1101 (entSwitch sw.val) 1 (s.lsw sw.val).used).ev 0x1103 (entSwitch sw.val) 1 (s.rd (LSB_CH_CFG.RETRIES sw.val)))) ∧
  (∀ (sw : Fin 24) (s : State),
      (s.lsw sw.val).on = true →
      s.lsb.uvAt = none →
      (s.lsw sw.val).used < s.rd (LSB_CH_CFG.RETRIES sw.val) →
        exec (.lsbOverload sw) s = .next (((s.bump (LSB_CH_CNT.TRIPS sw.val)).setLsw sw.val { s.lsw sw.val with on := false, lastTrip := 2, inrushAt := none, inrushLeft := none, locked := false, retryAt := some (s.now + 1000000 * s.rd (LSB_CH_RETRY.RETRY_DELAY sw.val)), retryLeft := none }).ev 0x1101 (entSwitch sw.val) 2 (s.lsw sw.val).used))

/-- LSB_THERMAL_TRIP of a switch without THERM: THERM is set with what is left of its retry timer held, a conducting switch trips with its timer held, and it is logged with the time left. LSB_THERMAL_RELEASE of a switch with THERM: THERM is clear, a held retry timer resumes, it is logged with the time left, and the switch follows. LSB_RETRY of a switch whose retry timer runs, VSW not low: at its end one retry is used, the retry is logged, and the switch follows LSB_ON. LSB_RETRY_CLEAR of a conducting switch: RETRY_CLEAR after it began to conduct its retries used read 0. LSB_INRUSH_END of a switch in its inrush time: at its end the inrush time is over. VSW_UNDERVOLTAGE with VSW good before: the hold begins with its voltage, UV reads 1, the inrush timers of all switches pause, and it is logged. VSW_HOLD_EXPIRE of a hold whose channels are not yet off: 10 ms after VSW fell UV_OFF reads 1, every switch is driven off, and it is logged with the voltage. VSW_RESTORED in a hold: the hold ends with the voltage, UV and UV_OFF read 0, every inrush timer goes on and every switch returns to LSB_ON, and it is logged. -/
def Obligations.ThermalAndLoadSwitchesPart3 : Prop :=
  (∀ (sw : Fin 24) (u v : State) (s : State),
      (s.lsw sw.val).therm = false →
      (u = s.setLsw sw.val { s.lsw sw.val with therm := true, retryAt := none, retryLeft := if (s.lsw sw.val).retryAt.isSome || (s.lsw sw.val).retryLeft.isSome then some (s.retryLeftOf sw.val) else none }) →
      (v = (if (s.lsw sw.val).on then u.tripLsw sw.val 3 true else u)) →
        exec (.lsbThermalTrip sw) s = .next (v.ev 0x1104 (entSwitch sw.val) 1 (v.retryLeftOf sw.val / 1000000))) ∧
  (∀ (sw : Fin 24) (u : State) (s : State),
      (s.lsw sw.val).therm = true →
      u = s.setLsw sw.val { s.lsw sw.val with therm := false, retryAt := (s.lsw sw.val).retryLeft.map (fun r => s.now + r), retryLeft := none } →
        exec (.lsbThermalRelease sw) s = .next ((u.ev 0x1104 (entSwitch sw.val) 0 (u.retryLeftOf sw.val / 1000000)).driveLsw sw.val)) ∧
  (∀ (sw : Fin 24) (t : Nat) (w : State) (s : State),
      (s.lsw sw.val).retryAt = some t →
      s.lsb.uvAt = none →
      w = s.waitTill t →
        exec (.lsbRetry sw) s = .next (((w.setLsw sw.val { w.lsw sw.val with used := min 15 ((w.lsw sw.val).used + 1), retryAt := none }).ev 0x1102 (entSwitch sw.val) ((w.lsw sw.val).used + 1) 0).driveLsw sw.val)) ∧
  (∀ (sw : Fin 24) (w : State) (s : State),
      (s.lsw sw.val).on = true →
      w = s.waitTill ((s.lsw sw.val).since + 1000000000 * s.rd LSB_CFG.RETRY_CLEAR) →
        exec (.lsbRetryClear sw) s = .next (w.setLsw sw.val { w.lsw sw.val with used := 0 })) ∧
  (∀ (sw : Fin 24) (t : Nat) (w : State) (s : State),
      (s.lsw sw.val).inrushAt = some t →
      w = s.waitTill t →
        exec (.lsbInrushEnd sw) s = .next (w.setLsw sw.val { w.lsw sw.val with inrushAt := none })) ∧
  (∀ (vsw : BitVec 16) (u : State) (s : State),
      s.lsb.uvAt = none →
      u = State.wr { s with lsb := { s.lsb with uvAt := some s.now, vsw := vsw.toNat } } LSB_STAT.UV 1 →
        exec (.vswUndervoltage vsw) s = .next (((List.range 24).foldl (fun (a : State) n => a.setLsw n { a.lsw n with inrushLeft := (a.lsw n).inrushAt.map (fun t => t - s.now), inrushAt := none }) u).ev 0x1105 0 vsw.toNat 1)) ∧
  (∀ (t : Nat) (w : State) (s : State),
      s.lsb.uvAt = some t →
      s.flag LSB_STAT.UV_OFF = false →
      w = (s.waitTill (t + 10000000)).wr LSB_STAT.UV_OFF 1 →
        exec .vswHoldExpire s = .next (w.driveAll.ev 0x1105 0 w.lsb.vsw 2)) ∧
  (∀ (vsw : BitVec 16) (t : Nat) (u : State) (s : State),
      s.lsb.uvAt = some t →
      u = ((State.wr { s with lsb := { s.lsb with uvAt := none, vsw := vsw.toNat } } LSB_STAT.UV 0).wr LSB_STAT.UV_OFF 0) →
        exec (.vswRestored vsw) s = .next (((List.range 24).foldl (fun (a : State) n => (a.setLsw n { a.lsw n with inrushAt := (a.lsw n).inrushLeft.map (fun r => s.now + r), inrushLeft := none }).driveLsw n) u).ev 0x1105 0 vsw.toNat 0))

/-- DELTA_SEND of the oldest delta that waits, while twin frames go out: it leaves the queue, and its parts go to the peer in order, the last one marked, with the tick, the claim, the epoch and the mode. SNAP_RECEIVE of a part in SHADOW that does not complete the snapshot of its tick: the part is held with those of its tick, and the standby's conditions are judged. SNAP_RECEIVE of the part that completes the snapshot of tick N in SHADOW, the unit READY and contiguous through N − 1: the parts are dropped, the standby's own stages run on the snapshot, and the agreement of their CURD_CMP with the frame's is counted. DELTA_RECEIVE of a part in SHADOW for a tick after the next one, or the next one: it is held, a missing delta or part ends the contiguous run, complete deltas apply in order, and the standby's conditions are judged. DELTA_TIMEOUT in SHADOW while contiguous, 20 µs after the second boundary from the last delta's tick: the run ends, CONTIG reads 0, and it is logged with the tick missed and the last applied. EPOCH_CHUNK_RECEIVE in SHADOW with no copy held: a copy opens with the chunk. EPOCH_COMMIT_RECEIVE in SHADOW for the copy held, with every chunk, the length and the digest right: the copy is adopted, and the standby's conditions are judged. EPOCH_COMMIT_RECEIVE in SHADOW for the copy held, with a length other than that of a copy: the copy is dropped with reason 2, and the standby's conditions are judged. EPOCH_COMMIT_TIMEOUT of the copy held, 50 ms after its boundary: it is dropped with reason 1, counted and logged. -/
def Obligations.TwinUnits : Prop :=
  (∀ (n : Nat) (late : Bool) (l : List RepItem) (q : List (Nat × Bool × List RepItem)) (u : State) (parts : List (List Nat)) (s : State),
      s.up = true →
      s.twin.deltas = (n, late, l) :: q →
      u = { s with twin := { s.twin with deltas := q } } →
      u.twinSends = true →
      parts = packParts (l.map RepItem.record) →
        exec .deltaSend s = .next (((List.range parts.length).zip parts).foldl (fun (a : State) (x : Nat × List Nat) => a.yokeSend ([0x21, 1, x.1, b2n (x.1 + 1 == parts.length) + 2 * b2n late] ++ leBytes 4 n ++ leBytes 4 a.claim ++ leBytes 4 (a.rd GLB_TWIN_ESEQ.ESEQ) ++ [a.glb.mode.code] ++ zeros 15 ++ x.2)) u)) ∧
  (∀ (h : TwinHead) (part : BitVec 8) (tick cmp : BitVec 32) (data : List (BitVec 8)) (u : State) (l : List (Nat × Nat × Nat × List Nat)) (s : State),
      s.up = true →
      (s.twinRx h = (u, true) ∧ u.twin.admitted = true) →
      u.glb.mode = .shadow →
      l = (tick.toNat, part.toNat, cmp.toNat, fitData 2048 (data.map (fun (b : BitVec 8) => b.toNat))) :: u.twin.snaps.filter (fun x => x.1 = tick.toNat && x.2.1 ≠ part.toNat) →
      l.find? (fun x => x.2.1 = 1) = none →
        exec (.snapReceive h part tick cmp data) s = .next (State.twinWatch { u with twin := { u.twin with snaps := l } })) ∧
  (∀ (h : TwinHead) (part : BitVec 8) (tick cmp : BitVec 32) (data : List (BitVec 8)) (u v : State) (l : List (Nat × Nat × Nat × List Nat)) (a b : Nat × Nat × Nat × List Nat) (s : State),
      s.up = true →
      (s.twinRx h = (u, true) ∧ u.twin.admitted = true) →
      u.glb.mode = .shadow →
      l = (tick.toNat, part.toNat, cmp.toNat, fitData 2048 (data.map (fun (b : BitVec 8) => b.toNat))) :: u.twin.snaps.filter (fun x => x.1 = tick.toNat && x.2.1 ≠ part.toNat) →
      (l.find? (fun x => x.2.1 = 0) = some a ∧ l.find? (fun x => x.2.1 = 1) = some b) →
      (u.flag GLB_TWIN_STAT.CONTIG = true ∧ low 32 (u.rd GLB_TWIN_DTICK.TICK + 1) = tick.toNat ∧ u.rd GLB_TWIN_STAT.SUB = 3) →
      v = { u with twin := { u.twin with snaps := [] } } →
        exec (.snapReceive h part tick cmp data) s = .next ((v.replayed (v.replayCmp (snapOf (a.2.2.2 ++ b.2.2.2)) == cmp.toNat)).twinWatch)) ∧
  (∀ (h : TwinHead) (f : DeltaFrame) (u v : State) (p : DPart) (next : Nat) (s : State),
      s.up = true →
      (s.twinRx h = (u, true) ∧ u.twin.admitted = true) →
      u.glb.mode = .shadow →
      p = { tick := f.tick.toNat, part := f.part.toNat, last := f.flags.toNat.testBit 0, items := f.items } →
      v = { u with twin := { u.twin with parts := u.twin.parts.filter (fun (q : DPart) => decide (diff32 p.tick q.tick < 256) && !(q.tick == p.tick && q.part == p.part)) ++ [p], peerMode := some f.mode.toNat }, alp := { u.alp with leadHalt := f.mode = 5 } } →
      next = low 32 (u.rd GLB_TWIN_DTICK.TICK + 1) →
        exec (.deltaReceive h f) s = .next ((State.applyDeltas (if decide (0 < diff32 p.tick next) && (v.deltaOf next).isNone || p.tick == next && p.last && (v.deltaOf next).isNone then v.breakRun else v) 257).twinWatch)) ∧
  (∀ (w : State) (s : State),
      s.up = true →
      (s.glb.mode = .shadow ∧ s.flag GLB_TWIN_STAT.CONTIG = true) →
      w = s.waitSite (s.tickAt (s.fullTick (s.rd GLB_TWIN_DTICK.TICK) + 2) + 20000) →
      w.flag GLB_TWIN_STAT.CONTIG = true →
        exec .deltaTimeout s = .next ((w.wr GLB_TWIN_STAT.CONTIG 0).ev 0x0612 0 (low 32 (w.rd GLB_TWIN_DTICK.TICK + 1)) (w.rd GLB_TWIN_DTICK.TICK))) ∧
  (∀ (h : TwinHead) (f : ChunkFrame) (u : State) (s : State),
      s.up = true →
      (s.twinRx h = (u, true) ∧ u.twin.admitted = true) →
      (u.glb.mode = .shadow ∧ u.twin.copy = none) →
        exec (.epochChunkReceive h f) s = .next { u with twin := { u.twin with copy := some { eseq := f.eseq.toNat, tick := f.tick.toNat, chunks := f.chunks.toNat, got := [(f.chunk.toNat, f.items)] } } }) ∧
  (∀ (h : TwinHead) (f : CommitFrame) (u : State) (c : ECopy) (s : State),
      s.up = true →
      (s.twinRx h = (u, true) ∧ u.twin.admitted = true) →
      (u.glb.mode = .shadow ∧ u.twin.copy = some c ∧ c.eseq = f.eseq.toNat) →
      (List.range f.chunks.toNat).all (fun i => c.got.any (fun (g : Nat × List RepItem) => g.1 = i)) = true →
      (f.total.toNat = 89600 ∧ c.chunks = f.chunks.toNat) →
      (copyDigest (c.got.flatMap (fun (g : Nat × List RepItem) => g.2))).take 32 = f.digest.map (fun (b : BitVec 8) => b.toNat) →
        exec (.epochCommitReceive h f) s = .next ((u.adoptCopy c).twinWatch)) ∧
  (∀ (h : TwinHead) (f : CommitFrame) (u : State) (c : ECopy) (s : State),
      s.up = true →
      (s.twinRx h = (u, true) ∧ u.twin.admitted = true) →
      (u.glb.mode = .shadow ∧ u.twin.copy = some c ∧ c.eseq = f.eseq.toNat) →
      f.total.toNat ≠ 89600 →
        exec (.epochCommitReceive h f) s = .next (((State.bump { u with twin := { u.twin with copy := none } } GLB_TWIN_CNT.DISCARD).ev 0x0611 0 c.eseq 2).twinWatch)) ∧
  (∀ (c : ECopy) (w : State) (s : State),
      s.up = true →
      s.twin.copy = some c →
      w = s.waitSite (s.tickAt (s.fullTick c.tick) + 50000000) →
      w.twin.copy = some c →
        exec .epochCommitTimeout s = .next ((State.bump { w with twin := { w.twin with copy := none } } GLB_TWIN_CNT.DISCARD).ev 0x0611 0 c.eseq 1))

/-- HEALTH_SEND on a twin site: at the next whole 100 ms plus 50 ms that has sent none, the health report of that period goes to the peer. HEALTH_RECEIVE of a report that is taken: its 16 words are shown, its fitness, mode and time are kept, a change of its fitness is logged, and the standby's conditions are judged. HEALTH_TIMEOUT, 300 ms after the last report: no report is awaited, and the loss is logged with the peer's claim. GOING_DOWN_RECEIVE from an admitted peer that does not lead, or without the Rind's peer connection in RUN: it is logged with the claim and the cause. GOING_DOWN_RECEIVE from an admitted peer that leads, with the Rind's peer connection in RUN: it is logged with the claim and the cause, and trigger 1 of a promotion stands. PROMOTE in SHADOW of a fit unit: the unit promotes with trigger 5, and the descriptor completes. PROMOTE in SHADOW of a unit that is not fit: the refusal of trigger 5 is logged, and the descriptor completes with its code. GLB_TWIN_RESYNC with its bit set in SHADOW: the staged edits and migrations of the leader go, the unit is in SYNC again with no latched cause, and the standby's conditions are judged. MEMORY_MARCH_STEP of a running twin unit: 100 ms after the last step the next MiB is tested, a pass ends after 256, corrected errors count, an uncorrectable one latches cause 2 in SHADOW, and the standby's conditions are judged. -/
def Obligations.TwinUnitsPart2 : Prop :=
  (∀ (k : Nat) (w u : State) (s : State),
      s.up = true →
      s.twinSite = true →
      k = s.nextHealth →
      w = s.waitSite (100000000 * k + 50000000) →
      u = { w with twin := { w.twin with healthSent := some k } } →
        exec .healthSend s = .next (u.yokeSend u.healthPayload)) ∧
  (∀ (h : TwinHead) (words : List (BitVec 32)) (u v : State) (l : List Nat) (s : State),
      s.up = true →
      s.twinRx h = (u, true) →
      l = fitData 16 (words.map (fun (x : BitVec 32) => x.toNat)) →
      v = ((List.range 16).zip l).foldl (fun (a : State) (x : Nat × Nat) => a.wr (GLB_PEER_HEALTH.WORD x.1) x.2) u →
        ∃ t, t = { v with twin := { v.twin with healthAt := some u.now, peerFit := (nth l 0 0).testBit 28, peerMode := some (nth l 0 0 / 65536 % 256) } } ∧ exec (.healthReceive h words) s = .next ((if (nth l 0 0).testBit 28 != u.twin.peerFit then t.ev 0x0613 0 (nth l 1 0) (nth l 3 0 % 65536) else t).twinWatch)) ∧
  (∀ (t : Nat) (w : State) (s : State),
      s.up = true →
      s.twin.healthAt = some t →
      w = s.waitTill (t + 300000000) →
        exec .healthTimeout s = .next (State.ev { w with twin := { w.twin with healthAt := none } } 0x0613 0 (w.rd GLB_TWIN_PEER_CLAIM.CLAIM) 0xFFFF)) ∧
  (∀ (h : TwinHead) (cause : BitVec 8) (tick : BitVec 32) (u v : State) (s : State),
      s.up = true →
      (s.twinRx h = (u, true) ∧ u.twin.admitted = true) →
      v = u.ev 0x0614 0 h.claim.toNat cause.toNat →
      (v.peerRuns && v.peerLeads) = false →
        exec (.goingDownReceive h cause tick) s = .next v) ∧
  (∀ (h : TwinHead) (cause : BitVec 8) (tick : BitVec 32) (u v : State) (s : State),
      s.up = true →
      (s.twinRx h = (u, true) ∧ u.twin.admitted = true) →
      v = u.ev 0x0614 0 h.claim.toNat cause.toNat →
      (v.peerRuns = true ∧ v.peerLeads = true) →
        exec (.goingDownReceive h cause tick) s = .next (v.tryPromote 1)) ∧
  (∀ (d : DescRef) (s : State),
      s.ready d 0x0601 = true →
      s.glb.mode = .shadow →
      s.flag GLB_TWIN_STAT.FIT = true →
        exec (.promote d true) s = .next (((s.start d).promote 5).done d)) ∧
  (∀ (d : DescRef) (z : Bool) (s : State),
      s.ready d 0x0601 = true →
      s.glb.mode = .shadow →
      s.flag GLB_TWIN_STAT.FIT = false →
        exec (.promote d z) s = .next (((s.start d).tryPromote 5).fail d 0x00B0)) ∧
  (∀ (v : BitVec 32) (u : State) (s : State),
      s.up = true →
      v.toNat % 2 = 1 →
      s.glb.mode = .shadow →
      u = (s.takeCopy [.staged [], .migs []]).enterSync →
        exec (.glbTwinResync v) s = .next ((State.wr { u with twin := { u.twin with latched := 0 } } GLB_TWIN_STAT.SUB (b2n s.twinSite * 2)).twinWatch)) ∧
  (∀ (corrected : BitVec 16) (uncorrectable : Bool) (w : State) (m : Nat) (s : State),
      s.up = true →
      (s.twinSite = true ∧ s.glb.mode.running = true) →
      w = s.waitTill (s.twin.marchAt + 100000000) →
      m = w.twin.marchMib + 1 →
        exec (.memoryMarchStep corrected uncorrectable) s = .next (State.twinWatch { w with twin := { w.twin with marchAt := w.now, marchMib := if m = 256 then 0 else m, passes := if m = 256 then (w.twin.passes + 1) % 65536 else w.twin.passes, corrected := min 65535 (w.twin.corrected + corrected.toNat), latched := if uncorrectable && w.glb.mode == .shadow then w.twin.latched ||| 2 else w.twin.latched } }))

/-- DOORBELL, an aligned 32-bit write, of an enabled ring with a tail not behind the head and within the ring's depth: the tail takes the value, and the ring's shadow is written. DOORBELL of a ring that is not enabled, or with a tail behind the head: the ring's count of ignored doorbells and the total count, and nothing else changes. DOORBELL of an enabled ring with a tail beyond its depth: the ring halts with cause 1. DOORBELL that is no aligned 32-bit write of a doorbell: nothing changes. DESCRIPTOR_FETCH with a ring to serve: the next one in the arbiter's order fetches up to 8 descriptors, stalls are marked, and its shadow is written. DESCRIPTOR_FETCH with no ring to serve: only the stalls are marked. RING_ENABLE of a disabled ring with nothing in flight: its set-up fields take the values in range, EN reads 1, it runs from head and tail 0, not halted, and its shadow is written. RING_DISABLE of an enabled ring: EN reads 0, fetching stops, what waits is flushed, and its shadow is written. HOST_ACCESS_FAILURE of the input data or the result of a descriptor: it completes with its code, and the job it ran ends. HOST_ACCESS_FAILURE of a descriptor fetch (kind 2) or of a status, result or shadow write (kind 3) of a running ring: the ring halts with cause 3 or 4, naming the descriptor and the tag of what runs. -/
def Obligations.RingsAndFetch : Prop :=
  (∀ (off : BitVec 12) (size : Nat) (v : BitVec 32) (r : Nat) (s : State),
      s.up = true →
      (size = 4 ∧ off.toNat = 0x40 * r ∧ r < 64) →
      s.flag (HIF_RING_CFG.EN r) = true →
      0 ≤ diff32 v.toNat (s.ring r).head →
      low 32 (v.toNat + 2 ^ 32 - (s.ring r).oldest) ≤ s.depth r →
        exec (.doorbell off size v) s = .next ((s.setRing r { s.ring r with tail := v.toNat }).shadow r)) ∧
  (∀ (off : BitVec 12) (size : Nat) (v : BitVec 32) (r : Nat) (s : State),
      s.up = true →
      (size = 4 ∧ off.toNat = 0x40 * r ∧ r < 64) →
      (s.flag (HIF_RING_CFG.EN r) = false ∨ diff32 v.toNat (s.ring r).head < 0) →
        exec (.doorbell off size v) s = .next ((s.setRing r { s.ring r with dbIgn := low 32 ((s.ring r).dbIgn + 1) }).bump HIF_DB_IGN_CNT.CNT)) ∧
  (∀ (off : BitVec 12) (size : Nat) (v : BitVec 32) (r : Nat) (s : State),
      s.up = true →
      (size = 4 ∧ off.toNat = 0x40 * r ∧ r < 64) →
      s.flag (HIF_RING_CFG.EN r) = true →
      0 ≤ diff32 v.toNat (s.ring r).head →
      s.depth r < low 32 (v.toNat + 2 ^ 32 - (s.ring r).oldest) →
        exec (.doorbell off size v) s = .next (s.haltRing r 1 0 0)) ∧
  (∀ (off : BitVec 12) (size : Nat) (v : BitVec 32) (s : State),
      (size ≠ 4 ∨ off.toNat % 0x40 ≠ 0) →
        exec (.doorbell off size v) s = .next s) ∧
  (∀ (fetched : List FetchDesc) (r : Nat) (s : State),
      s.up = true →
      s.fetchOrder.find? (fun r => s.wantsFetch r && s.poolFor r != 0) = some r →
        exec (.descriptorFetch fetched) s = .next (((State.fetchRing { s with hif := { s.hif with lastRing := r } } r 8 fetched).markStalls).shadow r)) ∧
  (∀ (fetched : List FetchDesc) (s : State),
      s.up = true →
      s.fetchOrder.find? (fun r => s.wantsFetch r && s.poolFor r != 0) = none →
        exec (.descriptorFetch fetched) s = .next s.markStalls) ∧
  (∀ (ring : Fin 64) (v : BitVec 32) (u : State) (s : State),
      s.up = true →
      s.flag (HIF_RING_CFG.EN ring.val) = false →
      u = s.ringFields ring.val v.toNat →
      (u.ring ring.val).flights = [] →
        exec (.ringEnable ring v) s = .next (((u.wr (HIF_RING_CFG.EN ring.val) 1).setRing ring.val { u.ring ring.val with head := 0, tail := 0, halted := false, cause := 0, run := true, stall := false, wait := false, atCap := false }).shadow ring.val)) ∧
  (∀ (ring : Fin 64) (v : BitVec 32) (u : State) (s : State),
      s.up = true →
      s.flag (HIF_RING_CFG.EN ring.val) = true →
      u = s.wr (HIF_RING_CFG.EN ring.val) 0 →
        exec (.ringDisable ring v) s = .next (((u.setRing ring.val { u.ring ring.val with run := false, stall := false, wait := false, atCap := false }).flushRing ring.val).shadow ring.val)) ∧
  (∀ (d : DescRef) (kind : Fin 4) (s : State),
      s.up = true →
      kind.val ≤ 1 →
        exec (.hostAccessFailure d kind) s = .next ((s.fail d 0x0003).dropJob d.ring.val d.idx.toNat)) ∧
  (∀ (d : DescRef) (kind : Fin 4) (f : Flight) (s : State),
      s.up = true →
      2 ≤ kind.val →
      (s.ring d.ring.val).run = true →
      s.flight d.ring.val d.idx.toNat = some f →
        exec (.hostAccessFailure d kind) s = .next (s.haltRing d.ring.val (kind.val + 1) d.idx.toNat f.tag))

/-- PCIE_LINK_DOWN with the link up: every running ring halts with cause 5 and the event is counted and logged, a storage buffer being read counts as failing, and the link is down from now. PCIE_LINK_UP with the link down: SPEED and WIDTH are shown, the link is up, and it is logged with them and how long the link was down. PCIE_HOT_RESET: every running ring halts with cause 5 and the event is counted and logged, the host interface is reset but for its count of downs, a storage buffer being read counts as failing, and the link is down from now. FUNCTION_LEVEL_RESET: every running ring halts with cause 5, the event is counted and logged, and the host interface is reset but for its count of downs. BUS_MASTER_DISABLE while it is enabled: every running ring halts with cause 5, the event is counted and logged, and bus mastering is off. BUS_MASTER_ENABLE: bus mastering is on, and nothing else changes. D3HOT_ENTRY from D0: every running ring halts with cause 5, the event is counted and logged, and the function is in D3hot. D3HOT_EXIT: the function is in D0, and nothing is reset. -/
def Obligations.LinkAndAttention : Prop :=
  (∀ (u : State) (s : State),
      s.mainUp = true →
      s.hif.linkUp = true →
      u = (s.linkEvent 1).seeReadFail none →
        exec .pcieLinkDown s = .next { u with hif := { u.hif with linkUp := false, linkDownAt := s.now } }) ∧
  (∀ (speed : Fin 4) (width : Fin 16) (u : State) (s : State),
      s.mainUp = true →
      s.hif.linkUp = false →
      u = (s.wr HIF_LINK_STAT.SPEED speed.val).wr HIF_LINK_STAT.WIDTH width.val →
        exec (.pcieLinkUp speed width) s = .next (State.ev { u with hif := { u.hif with linkUp := true } } 0x1204 0 (speed.val + 4 * width.val) ((s.now - s.hif.linkDownAt) / 1000000))) ∧
  (∀ (u : State) (s : State),
      s.mainUp = true →
      u = (s.linkEvent 2).resetHif.seeReadFail none →
        exec .pcieHotReset s = .next { u with hif := { u.hif with linkUp := false, linkDownAt := s.now } }) ∧
  (∀ (s : State),
      s.mainUp = true →
        exec .functionLevelReset s = .next (s.linkEvent 3).resetHif) ∧
  (∀ (u : State) (s : State),
      s.mainUp = true →
      s.hif.busMaster = true →
      u = s.linkEvent 4 →
        exec .busMasterDisable s = .next { u with hif := { u.hif with busMaster := false } }) ∧
  (∀ (s : State),
      s.mainUp = true →
        exec .busMasterEnable s = .next { s with hif := { s.hif with busMaster := true } }) ∧
  (∀ (u : State) (s : State),
      s.mainUp = true →
      s.hif.d3hot = false →
      u = s.linkEvent 5 →
        exec .d3hotEntry s = .next { u with hif := { u.hif with d3hot := true } }) ∧
  (∀ (s : State),
      s.mainUp = true →
        exec .d3hotExit s = .next { s with hif := { s.hif with d3hot := false } })

/-- HIF_ATTN_CAUSE_WRITE: the causes written one clear, and the message goes again while an enabled cause remains. MSIX_ENABLE while it is off: MSI-X is on, and the message goes while an enabled cause stands. MSIX_DISABLE: MSI-X is off, and nothing else changes. MSIX_UNMASK of the function: its mask is clear, and a message that is pending goes when MSI-X is on and nothing masks it. MSIX_UNMASK of the vector: its mask is clear, and a message that is pending goes when MSI-X is on and nothing masks it. MSIX_MASK of the function or of the vector: its mask is set, and nothing else changes. HIF_CLR_COUNTS: the counts of lost completions and of ignored doorbells read 0, and the pool's low mark starts again from what is free. -/
def Obligations.LinkAndAttentionPart2 : Prop :=
  (∀ (v : BitVec 32) (u : State) (s : State),
      s.up = true →
      u = s.wr HIF_ATTN_CAUSE.CAUSE (clearBits (s.rd HIF_ATTN_CAUSE.CAUSE) (low 6 v.toNat)) →
        exec (.hifAttnCauseWrite v) s = .next (if u.attnActive != 0 then u.message else u)) ∧
  (∀ (u : State) (s : State),
      s.mainUp = true →
      s.hif.msixEn = false →
      (u = { s with hif := { s.hif with msixEn := true } }) →
        exec .msixEnable s = .next (if u.attnActive != 0 then u.message else u)) ∧
  (∀ (s : State),
      s.mainUp = true →
        exec .msixDisable s = .next { s with hif := { s.hif with msixEn := false } }) ∧
  (∀ (u : State) (s : State),
      s.mainUp = true →
      (u = { s with hif := { s.hif with fnMask := false } }) →
        exec (.msixUnmask true) s = .next (if u.hif.msixPend && u.hif.msixEn && !u.hif.fnMask && !u.hif.vecMask then u.message else u)) ∧
  (∀ (u : State) (s : State),
      s.mainUp = true →
      (u = { s with hif := { s.hif with vecMask := false } }) →
        exec (.msixUnmask false) s = .next (if u.hif.msixPend && u.hif.msixEn && !u.hif.fnMask && !u.hif.vecMask then u.message else u)) ∧
  (∀ (function : Bool) (s : State),
      s.mainUp = true →
        exec (.msixMask function) s = .next (if function then { s with hif := { s.hif with fnMask := true } } else { s with hif := { s.hif with vecMask := true } })) ∧
  (∀ (u : State) (s : State),
      s.up = true →
      u = (s.wr HIF_LOST_CNT.CNT 0).wr HIF_DB_IGN_CNT.CNT 0 →
        exec .hifClrCounts s = .next { u with hif := { u.hif with poolLow := 1024 - s.inFlight } })

/-- NOP with its reserved bytes 0: the descriptor completes, and nothing else changes. NOP with reserved bytes not 0: the descriptor completes with HIF_RESERVED. EVENT_READ of events the log still holds, not waiting for a new one: those from the sequence on that fit go to host memory, and the descriptor completes with their number. EVENT_READ of events the log no longer holds: the oldest ones held go to host memory, and the descriptor completes with the code for a gap. EVENT_READ at the head of the log with waiting asked for: the descriptor waits for the next event. EVENT_READ_WAKE with a waiting read that has an event: it waits no longer, its events go to host memory, and its descriptor completes. EVT_HEAD_LATCH_READ: both halves of GLB_EVT_HEAD show the sequence of the next event. -/
def Obligations.EventsAndSelfTest : Prop :=
  (∀ (d : DescRef) (s : State),
      s.ready d 0x1200 = true →
        exec (.nop d true) s = .next ((s.start d).done d)) ∧
  (∀ (d : DescRef) (s : State),
      s.ready d 0x1200 = true →
        exec (.nop d false) s = .next ((s.start d).fail d 0x0005)) ∧
  (∀ (d : DescRef) (first addr : BitVec 64) (len : BitVec 32) (wait : Bool) (s : State),
      s.ready d 0x0101 = true →
      first.toNat ≤ s.log.head →
      (len.toNat % 32 = 0 ∧ 32 ≤ len.toNat ∧ len.toNat ≤ 1048576) →
      s.evOldest ≤ first.toNat →
      (first.toNat ≠ s.log.head ∨ wait = false) →
        exec (.eventRead d first addr len wait true) s = .next ((s.start d).deliverEvents d.ring.val d.idx.toNat first.toNat addr.toNat len.toNat 0)) ∧
  (∀ (d : DescRef) (first addr : BitVec 64) (len : BitVec 32) (wait : Bool) (s : State),
      s.ready d 0x0101 = true →
      first.toNat ≤ s.log.head →
      (len.toNat % 32 = 0 ∧ 32 ≤ len.toNat ∧ len.toNat ≤ 1048576) →
      first.toNat < s.evOldest →
        exec (.eventRead d first addr len wait true) s = .next ((s.start d).deliverEvents d.ring.val d.idx.toNat s.evOldest addr.toNat len.toNat 0x00C2)) ∧
  (∀ (d : DescRef) (first addr : BitVec 64) (len : BitVec 32) (wait : Bool) (s : State),
      s.ready d 0x0101 = true →
      first.toNat ≤ s.log.head →
      (len.toNat % 32 = 0 ∧ 32 ≤ len.toNat ∧ len.toNat ≤ 1048576) →
      (first.toNat = s.log.head ∧ wait = true) →
      s.evOldest ≤ s.log.head →
        ∃ u, u = (s.start d).waitOutside d ∧ exec (.eventRead d first addr len wait true) s = .next { u with hif := { u.hif with evWaits := u.hif.evWaits ++ [{ ring := d.ring.val, idx := d.idx.toNat, first := first.toNat, addr := addr.toNat, len := len.toNat }] } }) ∧
  (∀ (w : EvWait) (s : State),
      s.up = true →
      s.hif.evWaits.find? (fun w => w.first < s.log.head) = some w →
      s.evOldest ≤ w.first →
        exec .eventReadWake s = .next (State.deliverEvents { s with hif := { s.hif with evWaits := s.hif.evWaits.erase w } } w.ring w.idx w.first w.addr w.len 0)) ∧
  (∀ (s : State),
      s.up = true →
        exec .evtHeadLatchRead s = .next (s.wr64 GLB_EVT_HEAD_LO.SEQ GLB_EVT_HEAD_HI.SEQ s.log.head))

/-- EVT_OLDEST_LATCH_READ: both halves of GLB_EVT_OLDEST show the sequence of the oldest event held. SELF_TEST of the lane delays with no test running: it starts, with its time limit. SELF_TEST of the MRAM's CRCs with no test running: it starts, with its time limit. SELF_TEST of the memory with no test running: it starts, with its time limit, and its start is reported. SELF_TEST of any kind while one runs: the descriptor waits for it. SELF_TEST_COMPLETE of a lane-delay test without a failure and with none waiting: at its limit or when the result is there its descriptor completes with the counts, and no test runs. -/
def Obligations.EventsAndSelfTestPart2 : Prop :=
  (∀ (s : State),
      s.up = true →
        exec .evtOldestLatchRead s = .next (s.wr64 GLB_EVT_OLDEST_LO.SEQ GLB_EVT_OLDEST_HI.SEQ (s.log.head - s.log.events.length))) ∧
  (∀ (d : DescRef) (u : State) (s : State),
      s.ready d 0x0102 = true →
      s.hif.selfTest = none →
      u = (s.start d).mapFlight d.ring.val d.idx.toNat (fun f => { f with started := true }) →
        exec (.selfTestLaneDelay d true) s = .next { u with hif := { u.hif with selfTest := some (d.ring.val, d.idx.toNat, 1, s.now + 2000000) } }) ∧
  (∀ (d : DescRef) (u : State) (s : State),
      s.ready d 0x0102 = true →
      s.hif.selfTest = none →
      u = (s.start d).mapFlight d.ring.val d.idx.toNat (fun f => { f with started := true }) →
        exec (.selfTestMramCrc d true) s = .next { u with hif := { u.hif with selfTest := some (d.ring.val, d.idx.toNat, 2, s.now + 2000000000) } }) ∧
  (∀ (d : DescRef) (u : State) (s : State),
      s.ready d 0x0102 = true →
      s.hif.selfTest = none →
      u = (s.start d).mapFlight d.ring.val d.idx.toNat (fun f => { f with started := true }) →
        exec (.selfTestMarch d true) s = .next (State.reportStart { u with hif := { u.hif with selfTest := some (d.ring.val, d.idx.toNat, 0, s.now + 1700000000) } } d.ring.val d.idx.toNat)) ∧
  (∀ (d : DescRef) (x : Nat × Nat × Nat × Nat) (u : State) (s : State),
      s.ready d 0x0102 = true →
      s.hif.selfTest = some x →
      u = (s.start d).waitShared d →
        exec (.selfTestMarch d true) s = .next { u with hif := { u.hif with selfWait := u.hif.selfWait ++ [(d.ring.val, d.idx.toNat, 0)] } } ∧ exec (.selfTestLaneDelay d true) s = .next { u with hif := { u.hif with selfWait := u.hif.selfWait ++ [(d.ring.val, d.idx.toNat, 1)] } } ∧ exec (.selfTestMramCrc d true) s = .next { u with hif := { u.hif with selfWait := u.hif.selfWait ++ [(d.ring.val, d.idx.toNat, 2)] } }) ∧
  (∀ (a b : BitVec 32) (r idx lim : Nat) (w u : State) (s : State),
      s.up = true →
      s.hif.selfTest = some (r, idx, 1, lim) →
      a.toNat = 0 →
      w = s.waitTill (min lim (s.now + 10)) →
      u = w.complete r idx false false 0 0 (leBytes 4 0 ++ leBytes 4 0) →
      u.hif.selfWait = [] →
        exec (.selfTestComplete a b) s = .next { u with hif := { u.hif with selfTest := none } })

/-- For every command and every state, exec answers a next state: no command of the block faults or is refused; a command that the present state gives no effect leaves it as it is. -/
def Obligations.EveryCommandCompletes : Prop :=
  ∀ (c : Instr) (s : State), ∃ t, exec c s = .next t

/-- For every command and state, the queue of waiting commands after exec is the queue before it: only a step takes a command from it. -/
def Obligations.CommandsLeaveTheQueue : Prop :=
  ∀ (c : Instr) (s t : State), exec c s = .next t → t.pending = s.pending

/-- From every state a step answers a state whose clock is not behind. -/
def Obligations.ClockNeverGoesBack : Prop :=
  ∀ s t : State, step s = .next t → s.now ≤ t.now

/-- In every state whose register file lists strictly rising offsets and no register at its reset value, every step answers a state of which the same holds. -/
def Obligations.StepKeepsRegistersCanonical : Prop :=
  ∀ s t : State, s.regsOk = true → step s = .next t → t.regsOk = true

/-- From every state in which a PH4812 is not in SHADOW, every step answers a state in which it is not; and the grade stays. -/
def Obligations.StepKeepsPh4812OutOfShadow : Prop :=
  ∀ s t : State, s.gradeOk = true → step s = .next t → t.gradeOk = true ∧ t.grade = s.grade

/-- In every state whose log holds at most 65,536 events with consecutive sequence numbers that end just before GLB_EVT_HEAD, every step answers a state of which the same holds. -/
def Obligations.StepKeepsEventsNumbered : Prop :=
  ∀ s t : State, s.logOk = true → step s = .next t → t.logOk = true
end

