-- ==== Sys2Proof/Laws/Table.lean ====
section
/-!
SUPPORT. What reading and writing a sparse table does: a read gives the value last written at its index, a write leaves every
other index alone, and every write keeps the canonical form.
-/
namespace Sys2Proof.Laws

open Sys2Proof.Machine

variable {α : Type}

theorem tget_tput_same (d : Nat → α) (t : Tab α) (k : Nat) (v : α) : tget d (tput t k v) k = v := by
  induction t with
  | nil => simp [tput, tget]
  | cons x r ih =>
    obtain ⟨i, u⟩ := x
    simp only [tput]
    split
    · simp [tget]
    · split
      · simp [tget]
      · next h => simp [tget, h, ih]

theorem tget_tput_other (d : Nat → α) (t : Tab α) {k j : Nat} (v : α) (h : k ≠ j) : tget d (tput t k v) j = tget d t j := by
  induction t with
  | nil => simp [tput, tget, h]
  | cons x r ih =>
    obtain ⟨i, u⟩ := x
    simp only [tput]
    split
    · simp [tget, h]
    · split
      · next h2 => subst h2; simp [tget, h]
      · simp [tget, ih]

theorem tget_tdel_same (d : Nat → α) (t : Tab α) (k : Nat) : tget d (tdel t k) k = d k := by
  induction t with
  | nil => simp [tdel, tget]
  | cons x r ih =>
    obtain ⟨i, u⟩ := x
    simp only [tdel]
    split
    · exact ih
    · next h => simpa [tget, h] using ih

theorem tget_tdel_other (d : Nat → α) (t : Tab α) {k j : Nat} (h : k ≠ j) : tget d (tdel t k) j = tget d t j := by
  induction t with
  | nil => simp [tdel]
  | cons x r ih =>
    obtain ⟨i, u⟩ := x
    simp only [tdel]
    split
    · next h2 =>
      subst h2
      simpa [tget, h] using ih
    · simp [tget, ih]

/-- A read gives what was last written at its index. -/
@[simp] theorem tget_tset_same [DecidableEq α] (d : Nat → α) (t : Tab α) (k : Nat) (v : α) : tget d (tset d t k v) k = v := by
  unfold tset
  split
  · next h => rw [tget_tdel_same, h]
  · exact tget_tput_same d t k v

/-- A write leaves every other index alone. -/
theorem tget_tset_other [DecidableEq α] (d : Nat → α) (t : Tab α) {k j : Nat} (v : α) (h : k ≠ j) :
    tget d (tset d t k v) j = tget d t j := by
  unfold tset
  split
  · exact tget_tdel_other d t h
  · exact tget_tput_other d t v h

theorem tabWfFrom_mono [DecidableEq α] {d : Nat → α} {b c : Nat} {t : Tab α} (hb : c ≤ b) (h : tabWfFrom d b t = true) :
    tabWfFrom d c t = true := by
  cases t with
  | nil => rfl
  | cons x r =>
    obtain ⟨i, v⟩ := x
    simp only [tabWfFrom, Bool.and_eq_true, decide_eq_true_eq] at *
    exact ⟨⟨by omega, h.1.2⟩, h.2⟩

theorem tabWfFrom_tput [DecidableEq α] {d : Nat → α} {b : Nat} {t : Tab α} {k : Nat} {v : α} (hk : b ≤ k) (hv : v ≠ d k)
    (h : tabWfFrom d b t = true) : tabWfFrom d b (tput t k v) = true := by
  induction t generalizing b with
  | nil => simp [tput, tabWfFrom, hk, hv]
  | cons x r ih =>
    obtain ⟨i, u⟩ := x
    simp only [tabWfFrom, Bool.and_eq_true, decide_eq_true_eq] at h
    simp only [tput]
    split
    · next hi =>
      simp only [tabWfFrom, Bool.and_eq_true, decide_eq_true_eq]
      exact ⟨⟨hk, hv⟩, ⟨by omega, h.1.2⟩, h.2⟩
    · split
      · next hi => subst hi; simp only [tabWfFrom, Bool.and_eq_true, decide_eq_true_eq]; exact ⟨⟨hk, hv⟩, h.2⟩
      · next h1 h2 =>
        simp only [tabWfFrom, Bool.and_eq_true, decide_eq_true_eq]
        exact ⟨h.1, ih (by omega) h.2⟩

theorem tabWfFrom_tdel [DecidableEq α] {d : Nat → α} {b : Nat} {t : Tab α} {k : Nat} (h : tabWfFrom d b t = true) :
    tabWfFrom d b (tdel t k) = true := by
  induction t generalizing b with
  | nil => simp [tdel, tabWfFrom]
  | cons x r ih =>
    obtain ⟨i, u⟩ := x
    simp only [tabWfFrom, Bool.and_eq_true, decide_eq_true_eq] at h
    simp only [tdel]
    split
    · exact tabWfFrom_mono (c := b) (b := i + 1) (by omega) (ih h.2)
    · simp only [tabWfFrom, Bool.and_eq_true, decide_eq_true_eq]
      exact ⟨h.1, ih h.2⟩

/-- Entries taken off the list leave the canonical form. -/
theorem tabWfFrom_filter [DecidableEq α] {d : Nat → α} {b : Nat} {t : Tab α} (p : Nat × α → Bool) (h : tabWfFrom d b t = true) :
    tabWfFrom d b (t.filter p) = true := by
  induction t generalizing b with
  | nil => rfl
  | cons x r ih =>
    obtain ⟨i, v⟩ := x
    simp only [tabWfFrom, Bool.and_eq_true, decide_eq_true_eq] at h
    simp only [List.filter]
    split
    · simp only [tabWfFrom, Bool.and_eq_true, decide_eq_true_eq]
      exact ⟨h.1, ih h.2⟩
    · exact tabWfFrom_mono (b := i + 1) (by omega) (ih h.2)

/-- A write keeps the canonical form. -/
theorem tabWf_tset [DecidableEq α] {d : Nat → α} {t : Tab α} (k : Nat) (v : α) (h : tabWf d t = true) :
    tabWf d (tset d t k v) = true := by
  unfold tset tabWf at *
  split
  · exact tabWfFrom_tdel h
  · next hv => exact tabWfFrom_tput (Nat.zero_le k) hv h

end Sys2Proof.Laws
end

