-- ==== Sys2Proof/Laws/Regs.lean ====
section
/-!
SUPPORT. What reading and writing register fields does: a field reads what was last written to it, and a write leaves every
other register, and every other field of its own register, alone.
-/
namespace Sys2Proof.Laws

open Sys2Proof.Machine

theorem reg_lt (s : State) (off : Nat) : s.reg off < 2 ^ 32 := (tget regReset s.regs off).isLt

theorem reg_setReg_same (s : State) (off v : Nat) : (s.setReg off v).reg off = v % 2 ^ 32 := by
  simp [State.setReg, State.reg]

theorem reg_setReg_other (s : State) {off o : Nat} (v : Nat) (h : off ≠ o) : (s.setReg off v).reg o = s.reg o := by
  simp [State.setReg, State.reg, tget_tset_other _ _ _ h]

theorem putBits_eq (x lo w v : Nat) :
    putBits x lo w v = x % 2 ^ lo + v % 2 ^ w * 2 ^ lo + x / 2 ^ (lo + w) * 2 ^ (lo + w) := by
  unfold putBits; rw [Nat.mul_comm (2 ^ lo), Nat.mul_comm (2 ^ (lo + w))]

theorem putBits_lt {x lo w v n : Nat} (hx : x < 2 ^ n) (hw : lo + w ≤ n) : putBits x lo w v < 2 ^ n := by
  obtain ⟨k, rfl⟩ := Nat.exists_eq_add_of_le hw
  have h1 : x % 2 ^ lo < 2 ^ lo := Nat.mod_lt _ (by positivity)
  have h2 : v % 2 ^ w < 2 ^ w := Nat.mod_lt _ (by positivity)
  have h3 : x / 2 ^ (lo + w) < 2 ^ k := by
    rw [Nat.div_lt_iff_lt_mul (by positivity), ← pow_add]; rwa [Nat.add_comm k]
  have h4 : x % 2 ^ lo + v % 2 ^ w * 2 ^ lo < 2 ^ (lo + w) := by
    have h5 := Nat.mul_le_mul_right (2 ^ lo) (Nat.succ_le_of_lt h2)
    rw [pow_add, Nat.mul_comm (2 ^ lo)]; rw [Nat.succ_mul] at h5; omega
  rw [putBits_eq]
  calc _ < 2 ^ (lo + w) + x / 2 ^ (lo + w) * 2 ^ (lo + w) := by omega
    _ = (x / 2 ^ (lo + w) + 1) * 2 ^ (lo + w) := by ring
    _ ≤ 2 ^ k * 2 ^ (lo + w) := Nat.mul_le_mul_right _ h3
    _ = 2 ^ (lo + w + k) := by rw [← pow_add]; congr 1; omega

theorem putBits_div_mod (x lo w v : Nat) : putBits x lo w v / 2 ^ lo % 2 ^ w = v % 2 ^ w := by
  have h1 : x % 2 ^ lo < 2 ^ lo := Nat.mod_lt _ (by positivity)
  have : putBits x lo w v = x % 2 ^ lo + 2 ^ lo * (v % 2 ^ w + 2 ^ w * (x / 2 ^ (lo + w))) := by
    rw [putBits_eq]; rw [pow_add]; ring
  rw [this, Nat.add_mul_div_left _ _ (by positivity), Nat.div_eq_of_lt h1]
  simp

theorem putBits_div_mod_above {x lo w v l u : Nat} (h : lo + w ≤ l) : putBits x lo w v / 2 ^ l % 2 ^ u = x / 2 ^ l % 2 ^ u := by
  obtain ⟨k, rfl⟩ := Nat.exists_eq_add_of_le h
  congr 1
  have h1 : x % 2 ^ lo < 2 ^ lo := Nat.mod_lt _ (by positivity)
  have h2 : v % 2 ^ w < 2 ^ w := Nat.mod_lt _ (by positivity)
  have h4 : x % 2 ^ lo + v % 2 ^ w * 2 ^ lo < 2 ^ (lo + w) := by
    have h5 := Nat.mul_le_mul_right (2 ^ lo) (Nat.succ_le_of_lt h2)
    rw [pow_add, Nat.mul_comm (2 ^ lo)]; rw [Nat.succ_mul] at h5; omega
  have : putBits x lo w v / 2 ^ (lo + w) = x / 2 ^ (lo + w) := by
    rw [putBits_eq]
    rw [Nat.add_mul_div_right _ _ (by positivity), Nat.div_eq_of_lt h4, Nat.zero_add]
  rw [pow_add 2 (lo + w) k, ← Nat.div_div_eq_div_mul, this, Nat.div_div_eq_div_mul]

theorem putBits_div_mod_below {x lo w v l u : Nat} (h : l + u ≤ lo) : putBits x lo w v / 2 ^ l % 2 ^ u = x / 2 ^ l % 2 ^ u := by
  obtain ⟨k, rfl⟩ := Nat.exists_eq_add_of_le h
  have e1 : ∀ y : Nat, y / 2 ^ l % 2 ^ u = y % 2 ^ (l + u) / 2 ^ l := fun y => by
    rw [pow_add, Nat.mod_mul_right_div_self]
  rw [e1, e1]
  congr 1
  rw [putBits_eq]
  rw [show l + u + k + w = l + u + (k + w) by omega, pow_add 2 (l + u) (k + w), pow_add 2 (l + u) k]
  rw [show x % (2 ^ (l + u) * 2 ^ k) + v % 2 ^ w * (2 ^ (l + u) * 2 ^ k) + x / (2 ^ (l + u) * 2 ^ (k + w)) *
      (2 ^ (l + u) * 2 ^ (k + w)) = x % (2 ^ (l + u) * 2 ^ k) + 2 ^ (l + u) * (v % 2 ^ w * 2 ^ k + x /
      (2 ^ (l + u) * 2 ^ (k + w)) * 2 ^ (k + w)) by ring]
  rw [Nat.add_mul_mod_self_left, Nat.mod_mul_right_mod]

/-- A field reads what was last written to it, in its width. -/
theorem rd_wr_same (s : State) {f : Fld} (v : Nat) (h : f.lo + f.w ≤ 32) : (s.wr f v).rd f = v % 2 ^ f.w := by
  unfold State.rd State.wr
  rw [reg_setReg_same, Nat.mod_eq_of_lt (putBits_lt (reg_lt _ _) h), putBits_div_mod]

/-- A write leaves the fields of every other register alone. -/
theorem rd_wr_other (s : State) {f g : Fld} (v : Nat) (h : f.off ≠ g.off) : (s.wr f v).rd g = s.rd g := by
  unfold State.rd State.wr
  rw [reg_setReg_other _ _ h]

/-- A write leaves the other fields of its own register alone. -/
theorem rd_wr_disjoint (s : State) {f g : Fld} (v : Nat) (ho : f.off = g.off) (hf : f.lo + f.w ≤ 32)
    (h : f.lo + f.w ≤ g.lo ∨ g.lo + g.w ≤ f.lo) : (s.wr f v).rd g = s.rd g := by
  unfold State.rd State.wr
  rw [← ho, reg_setReg_same, Nat.mod_eq_of_lt (putBits_lt (reg_lt _ _) hf)]
  rcases h with h | h
  · exact putBits_div_mod_above h
  · exact putBits_div_mod_below h

/-- A field reads less than two to its width. -/
theorem rd_lt (s : State) (f : Fld) : s.rd f < 2 ^ f.w := Nat.mod_lt _ (by positivity)

/-- A saturating count goes up by its step or stays at the top. -/
theorem rd_bump_same (s : State) {f : Fld} (k : Nat) (h : f.lo + f.w ≤ 32) :
    (s.bump f k).rd f = min (s.rd f + k) (2 ^ f.w - 1) := by
  have hp : 0 < 2 ^ f.w := by positivity
  unfold State.bump
  rw [rd_wr_same _ _ h, Nat.mod_eq_of_lt]
  · rfl
  · unfold satAdd; omega

/-- The bit set reads as set. -/
@[simp] theorem setBit_testBit (n i : Nat) (b : Bool) : (setBit n i b).testBit i = b := by
  unfold setBit
  cases b with
  | true => simp [Nat.one_shiftLeft, Nat.testBit_or, Nat.testBit_two_pow_self]
  | false =>
    by_cases h : n.testBit i = true
    · have hd : n / 2 ^ i % 2 = 1 := by simpa [Nat.testBit_eq_decide_div_mod_eq] using h
      have e : (n - 2 ^ i * 1) / 2 ^ i = n / 2 ^ i - 1 := Nat.sub_mul_div n (2 ^ i) 1
      simp only [Nat.mul_one] at e
      simp [h, Nat.one_shiftLeft, Nat.testBit_eq_decide_div_mod_eq, e]
      omega
    · simp [h]

/-- A bit of a field reads what was last written to it. -/
theorem rdBit_wrBit_same (s : State) {f : Fld} {i : Nat} (b : Bool) (h : f.lo + f.w ≤ 32) (hi : i < f.w) :
    (s.wrBit f i b).rdBit f i = b := by
  unfold State.rdBit State.wrBit
  rw [rd_wr_same _ _ h, Nat.testBit_mod_two_pow]
  simp [hi]

/-- A one-bit field written 1 reads as set, written 0 as clear. -/
theorem flag_wr_one (s : State) {f : Fld} (h : f.lo + f.w ≤ 32) (hw : 1 ≤ f.w) : (s.wr f 1).flag f = true := by
  unfold State.flag
  rw [rd_wr_same _ _ h]
  obtain ⟨k, hk⟩ := Nat.exists_eq_add_of_le hw
  rw [hk, Nat.add_comm, Nat.pow_succ, Nat.mod_eq_of_lt]
  · rfl
  · have : 0 < 2 ^ k := by positivity
    omega

theorem flag_wr_zero (s : State) {f : Fld} (h : f.lo + f.w ≤ 32) : (s.wr f 0).flag f = false := by
  unfold State.flag
  rw [rd_wr_same _ _ h]
  simp

end Sys2Proof.Laws
end

