-- ==== Sys2Proof/Laws/State.lean ====
section
/-!
SUPPORT. What each update of State changes and what it leaves: one lemma per field that an operation does not touch.
-/
namespace Sys2Proof.Laws

open Sys2Proof.Machine

variable (s : State)

/-! ### A register field written -/

@[simp] theorem wr_pending (f : Fld) (v : Nat) : (s.wr f v).pending = s.pending := rfl
@[simp] theorem wr_grade (f : Fld) (v : Nat) : (s.wr f v).grade = s.grade := rfl
@[simp] theorem wr_now (f : Fld) (v : Nat) : (s.wr f v).now = s.now := rfl
@[simp] theorem wr_free (f : Fld) (v : Nat) : (s.wr f v).free = s.free := rfl
@[simp] theorem wr_out (f : Fld) (v : Nat) : (s.wr f v).out = s.out := rfl
@[simp] theorem wr_glb (f : Fld) (v : Nat) : (s.wr f v).glb = s.glb := rfl
@[simp] theorem wr_stu (f : Fld) (v : Nat) : (s.wr f v).stu = s.stu := rfl
@[simp] theorem wr_log (f : Fld) (v : Nat) : (s.wr f v).log = s.log := rfl
@[simp] theorem wr_hif (f : Fld) (v : Nat) : (s.wr f v).hif = s.hif := rfl
@[simp] theorem wr_alp (f : Fld) (v : Nat) : (s.wr f v).alp = s.alp := rfl
@[simp] theorem wr_con (f : Fld) (v : Nat) : (s.wr f v).con = s.con := rfl
@[simp] theorem wr_link (f : Fld) (v : Nat) : (s.wr f v).link = s.link := rfl
@[simp] theorem wr_cce (f : Fld) (v : Nat) : (s.wr f v).cce = s.cce := rfl
@[simp] theorem wr_thm (f : Fld) (v : Nat) : (s.wr f v).thm = s.thm := rfl
@[simp] theorem wr_lsb (f : Fld) (v : Nat) : (s.wr f v).lsb = s.lsb := rfl
@[simp] theorem wr_mte (f : Fld) (v : Nat) : (s.wr f v).mte = s.mte := rfl
@[simp] theorem wr_rsl (f : Fld) (v : Nat) : (s.wr f v).rsl = s.rsl := rfl
@[simp] theorem wr_kvt (f : Fld) (v : Nat) : (s.wr f v).kvt = s.kvt := rfl
@[simp] theorem wr_see (f : Fld) (v : Nat) : (s.wr f v).see = s.see := rfl
@[simp] theorem wr_cans (f : Fld) (v : Nat) : (s.wr f v).cans = s.cans := rfl
@[simp] theorem wr_plu (f : Fld) (v : Nat) : (s.wr f v).plu = s.plu := rfl
@[simp] theorem wr_sfi (f : Fld) (v : Nat) : (s.wr f v).sfi = s.sfi := rfl
@[simp] theorem wr_twin (f : Fld) (v : Nat) : (s.wr f v).twin = s.twin := rfl

/-! ### A field counted up -/

@[simp] theorem bump_pending (f : Fld) (k : Nat) : (s.bump f k).pending = s.pending := rfl
@[simp] theorem bump_grade (f : Fld) (k : Nat) : (s.bump f k).grade = s.grade := rfl
@[simp] theorem bump_now (f : Fld) (k : Nat) : (s.bump f k).now = s.now := rfl
@[simp] theorem bump_free (f : Fld) (k : Nat) : (s.bump f k).free = s.free := rfl
@[simp] theorem bump_out (f : Fld) (k : Nat) : (s.bump f k).out = s.out := rfl
@[simp] theorem bump_glb (f : Fld) (k : Nat) : (s.bump f k).glb = s.glb := rfl
@[simp] theorem bump_stu (f : Fld) (k : Nat) : (s.bump f k).stu = s.stu := rfl
@[simp] theorem bump_log (f : Fld) (k : Nat) : (s.bump f k).log = s.log := rfl
@[simp] theorem bump_hif (f : Fld) (k : Nat) : (s.bump f k).hif = s.hif := rfl
@[simp] theorem bump_alp (f : Fld) (k : Nat) : (s.bump f k).alp = s.alp := rfl
@[simp] theorem bump_con (f : Fld) (k : Nat) : (s.bump f k).con = s.con := rfl
@[simp] theorem bump_link (f : Fld) (k : Nat) : (s.bump f k).link = s.link := rfl
@[simp] theorem bump_cce (f : Fld) (k : Nat) : (s.bump f k).cce = s.cce := rfl
@[simp] theorem bump_thm (f : Fld) (k : Nat) : (s.bump f k).thm = s.thm := rfl
@[simp] theorem bump_lsb (f : Fld) (k : Nat) : (s.bump f k).lsb = s.lsb := rfl
@[simp] theorem bump_mte (f : Fld) (k : Nat) : (s.bump f k).mte = s.mte := rfl
@[simp] theorem bump_rsl (f : Fld) (k : Nat) : (s.bump f k).rsl = s.rsl := rfl
@[simp] theorem bump_kvt (f : Fld) (k : Nat) : (s.bump f k).kvt = s.kvt := rfl
@[simp] theorem bump_see (f : Fld) (k : Nat) : (s.bump f k).see = s.see := rfl
@[simp] theorem bump_cans (f : Fld) (k : Nat) : (s.bump f k).cans = s.cans := rfl
@[simp] theorem bump_plu (f : Fld) (k : Nat) : (s.bump f k).plu = s.plu := rfl
@[simp] theorem bump_sfi (f : Fld) (k : Nat) : (s.bump f k).sfi = s.sfi := rfl
@[simp] theorem bump_twin (f : Fld) (k : Nat) : (s.bump f k).twin = s.twin := rfl

/-! ### Something put on a bus or pin -/

@[simp] theorem emit_pending (x : Out) : (s.emit x).pending = s.pending := rfl
@[simp] theorem emit_grade (x : Out) : (s.emit x).grade = s.grade := rfl
@[simp] theorem emit_now (x : Out) : (s.emit x).now = s.now := rfl
@[simp] theorem emit_free (x : Out) : (s.emit x).free = s.free := rfl
@[simp] theorem emit_regs (x : Out) : (s.emit x).regs = s.regs := rfl
@[simp] theorem emit_glb (x : Out) : (s.emit x).glb = s.glb := rfl
@[simp] theorem emit_stu (x : Out) : (s.emit x).stu = s.stu := rfl
@[simp] theorem emit_log (x : Out) : (s.emit x).log = s.log := rfl
@[simp] theorem emit_hif (x : Out) : (s.emit x).hif = s.hif := rfl
@[simp] theorem emit_alp (x : Out) : (s.emit x).alp = s.alp := rfl
@[simp] theorem emit_con (x : Out) : (s.emit x).con = s.con := rfl
@[simp] theorem emit_link (x : Out) : (s.emit x).link = s.link := rfl
@[simp] theorem emit_cce (x : Out) : (s.emit x).cce = s.cce := rfl
@[simp] theorem emit_thm (x : Out) : (s.emit x).thm = s.thm := rfl
@[simp] theorem emit_lsb (x : Out) : (s.emit x).lsb = s.lsb := rfl
@[simp] theorem emit_mte (x : Out) : (s.emit x).mte = s.mte := rfl
@[simp] theorem emit_rsl (x : Out) : (s.emit x).rsl = s.rsl := rfl
@[simp] theorem emit_kvt (x : Out) : (s.emit x).kvt = s.kvt := rfl
@[simp] theorem emit_see (x : Out) : (s.emit x).see = s.see := rfl
@[simp] theorem emit_cans (x : Out) : (s.emit x).cans = s.cans := rfl
@[simp] theorem emit_plu (x : Out) : (s.emit x).plu = s.plu := rfl
@[simp] theorem emit_sfi (x : Out) : (s.emit x).sfi = s.sfi := rfl
@[simp] theorem emit_twin (x : Out) : (s.emit x).twin = s.twin := rfl

/-! ### An event logged -/

@[simp] theorem ev_pending (c e a b : Nat) : (s.ev c e a b).pending = s.pending := by
  unfold State.ev State.logFrom; dsimp only; (repeat' split) <;> rfl
@[simp] theorem ev_grade (c e a b : Nat) : (s.ev c e a b).grade = s.grade := by
  unfold State.ev State.logFrom; dsimp only; (repeat' split) <;> rfl
@[simp] theorem ev_now (c e a b : Nat) : (s.ev c e a b).now = s.now := by
  unfold State.ev State.logFrom; dsimp only; (repeat' split) <;> rfl
@[simp] theorem ev_free (c e a b : Nat) : (s.ev c e a b).free = s.free := by
  unfold State.ev State.logFrom; dsimp only; (repeat' split) <;> rfl
@[simp] theorem ev_regs (c e a b : Nat) : (s.ev c e a b).regs = s.regs := by
  unfold State.ev State.logFrom; dsimp only; (repeat' split) <;> rfl
@[simp] theorem ev_out (c e a b : Nat) : (s.ev c e a b).out = s.out := by
  unfold State.ev State.logFrom; dsimp only; (repeat' split) <;> rfl
@[simp] theorem ev_glb (c e a b : Nat) : (s.ev c e a b).glb = s.glb := by
  unfold State.ev State.logFrom; dsimp only; (repeat' split) <;> rfl
@[simp] theorem ev_stu (c e a b : Nat) : (s.ev c e a b).stu = s.stu := by
  unfold State.ev State.logFrom; dsimp only; (repeat' split) <;> rfl
@[simp] theorem ev_hif (c e a b : Nat) : (s.ev c e a b).hif = s.hif := by
  unfold State.ev State.logFrom; dsimp only; (repeat' split) <;> rfl
@[simp] theorem ev_alp (c e a b : Nat) : (s.ev c e a b).alp = s.alp := by
  unfold State.ev State.logFrom; dsimp only; (repeat' split) <;> rfl
@[simp] theorem ev_con (c e a b : Nat) : (s.ev c e a b).con = s.con := by
  unfold State.ev State.logFrom; dsimp only; (repeat' split) <;> rfl
@[simp] theorem ev_link (c e a b : Nat) : (s.ev c e a b).link = s.link := by
  unfold State.ev State.logFrom; dsimp only; (repeat' split) <;> rfl
@[simp] theorem ev_cce (c e a b : Nat) : (s.ev c e a b).cce = s.cce := by
  unfold State.ev State.logFrom; dsimp only; (repeat' split) <;> rfl
@[simp] theorem ev_thm (c e a b : Nat) : (s.ev c e a b).thm = s.thm := by
  unfold State.ev State.logFrom; dsimp only; (repeat' split) <;> rfl
@[simp] theorem ev_lsb (c e a b : Nat) : (s.ev c e a b).lsb = s.lsb := by
  unfold State.ev State.logFrom; dsimp only; (repeat' split) <;> rfl
@[simp] theorem ev_mte (c e a b : Nat) : (s.ev c e a b).mte = s.mte := by
  unfold State.ev State.logFrom; dsimp only; (repeat' split) <;> rfl
@[simp] theorem ev_rsl (c e a b : Nat) : (s.ev c e a b).rsl = s.rsl := by
  unfold State.ev State.logFrom; dsimp only; (repeat' split) <;> rfl
@[simp] theorem ev_kvt (c e a b : Nat) : (s.ev c e a b).kvt = s.kvt := by
  unfold State.ev State.logFrom; dsimp only; (repeat' split) <;> rfl
@[simp] theorem ev_see (c e a b : Nat) : (s.ev c e a b).see = s.see := by
  unfold State.ev State.logFrom; dsimp only; (repeat' split) <;> rfl
@[simp] theorem ev_cans (c e a b : Nat) : (s.ev c e a b).cans = s.cans := by
  unfold State.ev State.logFrom; dsimp only; (repeat' split) <;> rfl
@[simp] theorem ev_plu (c e a b : Nat) : (s.ev c e a b).plu = s.plu := by
  unfold State.ev State.logFrom; dsimp only; (repeat' split) <;> rfl
@[simp] theorem ev_sfi (c e a b : Nat) : (s.ev c e a b).sfi = s.sfi := by
  unfold State.ev State.logFrom; dsimp only; (repeat' split) <;> rfl
@[simp] theorem ev_twin (c e a b : Nat) : (s.ev c e a b).twin = s.twin := by
  unfold State.ev State.logFrom; dsimp only; (repeat' split) <;> rfl

/-! ### A ring replaced -/

@[simp] theorem setRing_pending (r : Nat) (x : Ring) : (s.setRing r x).pending = s.pending := rfl
@[simp] theorem setRing_grade (r : Nat) (x : Ring) : (s.setRing r x).grade = s.grade := rfl
@[simp] theorem setRing_now (r : Nat) (x : Ring) : (s.setRing r x).now = s.now := rfl
@[simp] theorem setRing_free (r : Nat) (x : Ring) : (s.setRing r x).free = s.free := rfl
@[simp] theorem setRing_regs (r : Nat) (x : Ring) : (s.setRing r x).regs = s.regs := rfl
@[simp] theorem setRing_out (r : Nat) (x : Ring) : (s.setRing r x).out = s.out := rfl
@[simp] theorem setRing_glb (r : Nat) (x : Ring) : (s.setRing r x).glb = s.glb := rfl
@[simp] theorem setRing_stu (r : Nat) (x : Ring) : (s.setRing r x).stu = s.stu := rfl
@[simp] theorem setRing_log (r : Nat) (x : Ring) : (s.setRing r x).log = s.log := rfl
@[simp] theorem setRing_alp (r : Nat) (x : Ring) : (s.setRing r x).alp = s.alp := rfl
@[simp] theorem setRing_con (r : Nat) (x : Ring) : (s.setRing r x).con = s.con := rfl
@[simp] theorem setRing_link (r : Nat) (x : Ring) : (s.setRing r x).link = s.link := rfl
@[simp] theorem setRing_cce (r : Nat) (x : Ring) : (s.setRing r x).cce = s.cce := rfl
@[simp] theorem setRing_thm (r : Nat) (x : Ring) : (s.setRing r x).thm = s.thm := rfl
@[simp] theorem setRing_lsb (r : Nat) (x : Ring) : (s.setRing r x).lsb = s.lsb := rfl
@[simp] theorem setRing_mte (r : Nat) (x : Ring) : (s.setRing r x).mte = s.mte := rfl
@[simp] theorem setRing_rsl (r : Nat) (x : Ring) : (s.setRing r x).rsl = s.rsl := rfl
@[simp] theorem setRing_kvt (r : Nat) (x : Ring) : (s.setRing r x).kvt = s.kvt := rfl
@[simp] theorem setRing_see (r : Nat) (x : Ring) : (s.setRing r x).see = s.see := rfl
@[simp] theorem setRing_cans (r : Nat) (x : Ring) : (s.setRing r x).cans = s.cans := rfl
@[simp] theorem setRing_plu (r : Nat) (x : Ring) : (s.setRing r x).plu = s.plu := rfl
@[simp] theorem setRing_sfi (r : Nat) (x : Ring) : (s.setRing r x).sfi = s.sfi := rfl
@[simp] theorem setRing_twin (r : Nat) (x : Ring) : (s.setRing r x).twin = s.twin := rfl

/-! ### A descriptor started -/

@[simp] theorem start_pending (d : DescRef) : (s.start d).pending = s.pending := rfl
@[simp] theorem start_grade (d : DescRef) : (s.start d).grade = s.grade := rfl
@[simp] theorem start_now (d : DescRef) : (s.start d).now = s.now := rfl
@[simp] theorem start_free (d : DescRef) : (s.start d).free = s.free := rfl
@[simp] theorem start_regs (d : DescRef) : (s.start d).regs = s.regs := rfl
@[simp] theorem start_out (d : DescRef) : (s.start d).out = s.out := rfl
@[simp] theorem start_glb (d : DescRef) : (s.start d).glb = s.glb := rfl
@[simp] theorem start_stu (d : DescRef) : (s.start d).stu = s.stu := rfl
@[simp] theorem start_log (d : DescRef) : (s.start d).log = s.log := rfl
@[simp] theorem start_alp (d : DescRef) : (s.start d).alp = s.alp := rfl
@[simp] theorem start_con (d : DescRef) : (s.start d).con = s.con := rfl
@[simp] theorem start_link (d : DescRef) : (s.start d).link = s.link := rfl
@[simp] theorem start_cce (d : DescRef) : (s.start d).cce = s.cce := rfl
@[simp] theorem start_thm (d : DescRef) : (s.start d).thm = s.thm := rfl
@[simp] theorem start_lsb (d : DescRef) : (s.start d).lsb = s.lsb := rfl
@[simp] theorem start_mte (d : DescRef) : (s.start d).mte = s.mte := rfl
@[simp] theorem start_rsl (d : DescRef) : (s.start d).rsl = s.rsl := rfl
@[simp] theorem start_kvt (d : DescRef) : (s.start d).kvt = s.kvt := rfl
@[simp] theorem start_see (d : DescRef) : (s.start d).see = s.see := rfl
@[simp] theorem start_cans (d : DescRef) : (s.start d).cans = s.cans := rfl
@[simp] theorem start_plu (d : DescRef) : (s.start d).plu = s.plu := rfl
@[simp] theorem start_sfi (d : DescRef) : (s.start d).sfi = s.sfi := rfl
@[simp] theorem start_twin (d : DescRef) : (s.start d).twin = s.twin := rfl

/-! ### The clock moved on -/

@[simp] theorem cycles_pending (k : Nat) : (s.cycles k).pending = s.pending := by
  unfold State.cycles; dsimp only; split <;> rfl
@[simp] theorem cycles_grade (k : Nat) : (s.cycles k).grade = s.grade := by
  unfold State.cycles; dsimp only; split <;> rfl
@[simp] theorem cycles_free (k : Nat) : (s.cycles k).free = s.free := by
  unfold State.cycles; dsimp only; split <;> rfl
@[simp] theorem cycles_regs (k : Nat) : (s.cycles k).regs = s.regs := by
  unfold State.cycles; dsimp only; split <;> rfl
@[simp] theorem cycles_out (k : Nat) : (s.cycles k).out = s.out := by
  unfold State.cycles; dsimp only; split <;> rfl
@[simp] theorem cycles_glb (k : Nat) : (s.cycles k).glb = s.glb := by
  unfold State.cycles; dsimp only; split <;> rfl
@[simp] theorem cycles_log (k : Nat) : (s.cycles k).log = s.log := by
  unfold State.cycles; dsimp only; split <;> rfl
@[simp] theorem cycles_hif (k : Nat) : (s.cycles k).hif = s.hif := by
  unfold State.cycles; dsimp only; split <;> rfl
@[simp] theorem cycles_alp (k : Nat) : (s.cycles k).alp = s.alp := by
  unfold State.cycles; dsimp only; split <;> rfl
@[simp] theorem cycles_con (k : Nat) : (s.cycles k).con = s.con := by
  unfold State.cycles; dsimp only; split <;> rfl
@[simp] theorem cycles_link (k : Nat) : (s.cycles k).link = s.link := by
  unfold State.cycles; dsimp only; split <;> rfl
@[simp] theorem cycles_cce (k : Nat) : (s.cycles k).cce = s.cce := by
  unfold State.cycles; dsimp only; split <;> rfl
@[simp] theorem cycles_thm (k : Nat) : (s.cycles k).thm = s.thm := by
  unfold State.cycles; dsimp only; split <;> rfl
@[simp] theorem cycles_lsb (k : Nat) : (s.cycles k).lsb = s.lsb := by
  unfold State.cycles; dsimp only; split <;> rfl
@[simp] theorem cycles_mte (k : Nat) : (s.cycles k).mte = s.mte := by
  unfold State.cycles; dsimp only; split <;> rfl
@[simp] theorem cycles_rsl (k : Nat) : (s.cycles k).rsl = s.rsl := by
  unfold State.cycles; dsimp only; split <;> rfl
@[simp] theorem cycles_kvt (k : Nat) : (s.cycles k).kvt = s.kvt := by
  unfold State.cycles; dsimp only; split <;> rfl
@[simp] theorem cycles_see (k : Nat) : (s.cycles k).see = s.see := by
  unfold State.cycles; dsimp only; split <;> rfl
@[simp] theorem cycles_cans (k : Nat) : (s.cycles k).cans = s.cans := by
  unfold State.cycles; dsimp only; split <;> rfl
@[simp] theorem cycles_plu (k : Nat) : (s.cycles k).plu = s.plu := by
  unfold State.cycles; dsimp only; split <;> rfl
@[simp] theorem cycles_sfi (k : Nat) : (s.cycles k).sfi = s.sfi := by
  unfold State.cycles; dsimp only; split <;> rfl
@[simp] theorem cycles_twin (k : Nat) : (s.cycles k).twin = s.twin := by
  unfold State.cycles; dsimp only; split <;> rfl

/-! ### The clock moved on to an uptime -/

@[simp] theorem waitTill_pending (t : Nat) : (s.waitTill t).pending = s.pending := by
  unfold State.waitTill; simp
@[simp] theorem waitTill_grade (t : Nat) : (s.waitTill t).grade = s.grade := by
  unfold State.waitTill; simp
@[simp] theorem waitTill_free (t : Nat) : (s.waitTill t).free = s.free := by
  unfold State.waitTill; simp
@[simp] theorem waitTill_regs (t : Nat) : (s.waitTill t).regs = s.regs := by
  unfold State.waitTill; simp
@[simp] theorem waitTill_out (t : Nat) : (s.waitTill t).out = s.out := by
  unfold State.waitTill; simp
@[simp] theorem waitTill_glb (t : Nat) : (s.waitTill t).glb = s.glb := by
  unfold State.waitTill; simp
@[simp] theorem waitTill_log (t : Nat) : (s.waitTill t).log = s.log := by
  unfold State.waitTill; simp
@[simp] theorem waitTill_hif (t : Nat) : (s.waitTill t).hif = s.hif := by
  unfold State.waitTill; simp
@[simp] theorem waitTill_alp (t : Nat) : (s.waitTill t).alp = s.alp := by
  unfold State.waitTill; simp
@[simp] theorem waitTill_con (t : Nat) : (s.waitTill t).con = s.con := by
  unfold State.waitTill; simp
@[simp] theorem waitTill_link (t : Nat) : (s.waitTill t).link = s.link := by
  unfold State.waitTill; simp
@[simp] theorem waitTill_cce (t : Nat) : (s.waitTill t).cce = s.cce := by
  unfold State.waitTill; simp
@[simp] theorem waitTill_thm (t : Nat) : (s.waitTill t).thm = s.thm := by
  unfold State.waitTill; simp
@[simp] theorem waitTill_lsb (t : Nat) : (s.waitTill t).lsb = s.lsb := by
  unfold State.waitTill; simp
@[simp] theorem waitTill_mte (t : Nat) : (s.waitTill t).mte = s.mte := by
  unfold State.waitTill; simp
@[simp] theorem waitTill_rsl (t : Nat) : (s.waitTill t).rsl = s.rsl := by
  unfold State.waitTill; simp
@[simp] theorem waitTill_kvt (t : Nat) : (s.waitTill t).kvt = s.kvt := by
  unfold State.waitTill; simp
@[simp] theorem waitTill_see (t : Nat) : (s.waitTill t).see = s.see := by
  unfold State.waitTill; simp
@[simp] theorem waitTill_cans (t : Nat) : (s.waitTill t).cans = s.cans := by
  unfold State.waitTill; simp
@[simp] theorem waitTill_plu (t : Nat) : (s.waitTill t).plu = s.plu := by
  unfold State.waitTill; simp
@[simp] theorem waitTill_sfi (t : Nat) : (s.waitTill t).sfi = s.sfi := by
  unfold State.waitTill; simp
@[simp] theorem waitTill_twin (t : Nat) : (s.waitTill t).twin = s.twin := by
  unfold State.waitTill; simp

/-! ### The clock moved on to a site time -/

@[simp] theorem waitSite_pending (t : Nat) : (s.waitSite t).pending = s.pending := by
  unfold State.waitSite; split <;> simp
@[simp] theorem waitSite_grade (t : Nat) : (s.waitSite t).grade = s.grade := by
  unfold State.waitSite; split <;> simp
@[simp] theorem waitSite_free (t : Nat) : (s.waitSite t).free = s.free := by
  unfold State.waitSite; split <;> simp
@[simp] theorem waitSite_regs (t : Nat) : (s.waitSite t).regs = s.regs := by
  unfold State.waitSite; split <;> simp
@[simp] theorem waitSite_out (t : Nat) : (s.waitSite t).out = s.out := by
  unfold State.waitSite; split <;> simp
@[simp] theorem waitSite_glb (t : Nat) : (s.waitSite t).glb = s.glb := by
  unfold State.waitSite; split <;> simp
@[simp] theorem waitSite_log (t : Nat) : (s.waitSite t).log = s.log := by
  unfold State.waitSite; split <;> simp
@[simp] theorem waitSite_hif (t : Nat) : (s.waitSite t).hif = s.hif := by
  unfold State.waitSite; split <;> simp
@[simp] theorem waitSite_alp (t : Nat) : (s.waitSite t).alp = s.alp := by
  unfold State.waitSite; split <;> simp
@[simp] theorem waitSite_con (t : Nat) : (s.waitSite t).con = s.con := by
  unfold State.waitSite; split <;> simp
@[simp] theorem waitSite_link (t : Nat) : (s.waitSite t).link = s.link := by
  unfold State.waitSite; split <;> simp
@[simp] theorem waitSite_cce (t : Nat) : (s.waitSite t).cce = s.cce := by
  unfold State.waitSite; split <;> simp
@[simp] theorem waitSite_thm (t : Nat) : (s.waitSite t).thm = s.thm := by
  unfold State.waitSite; split <;> simp
@[simp] theorem waitSite_lsb (t : Nat) : (s.waitSite t).lsb = s.lsb := by
  unfold State.waitSite; split <;> simp
@[simp] theorem waitSite_mte (t : Nat) : (s.waitSite t).mte = s.mte := by
  unfold State.waitSite; split <;> simp
@[simp] theorem waitSite_rsl (t : Nat) : (s.waitSite t).rsl = s.rsl := by
  unfold State.waitSite; split <;> simp
@[simp] theorem waitSite_kvt (t : Nat) : (s.waitSite t).kvt = s.kvt := by
  unfold State.waitSite; split <;> simp
@[simp] theorem waitSite_see (t : Nat) : (s.waitSite t).see = s.see := by
  unfold State.waitSite; split <;> simp
@[simp] theorem waitSite_cans (t : Nat) : (s.waitSite t).cans = s.cans := by
  unfold State.waitSite; split <;> simp
@[simp] theorem waitSite_plu (t : Nat) : (s.waitSite t).plu = s.plu := by
  unfold State.waitSite; split <;> simp
@[simp] theorem waitSite_sfi (t : Nat) : (s.waitSite t).sfi = s.sfi := by
  unfold State.waitSite; split <;> simp
@[simp] theorem waitSite_twin (t : Nat) : (s.waitSite t).twin = s.twin := by
  unfold State.waitSite; split <;> simp

/-! ### Reads of a state whose other fields were replaced -/

@[simp] theorem rd_upd {x_pending} {x_grade} {x_now} {x_free} {x_out} {x_glb} {x_stu} {x_log} {x_hif} {x_alp} {x_con} {x_link} {x_cce} {x_thm} {x_lsb} {x_mte} {x_rsl} {x_kvt} {x_see} {x_cans} {x_plu} {x_sfi} {x_twin} (f : Fld) :
    State.rd (State.mk x_pending x_grade x_now x_free s.regs x_out x_glb x_stu x_log x_hif x_alp x_con x_link x_cce x_thm x_lsb x_mte x_rsl x_kvt x_see x_cans x_plu x_sfi x_twin) f = s.rd f := rfl
@[simp] theorem rdS_upd {x_pending} {x_grade} {x_now} {x_free} {x_out} {x_glb} {x_stu} {x_log} {x_hif} {x_alp} {x_con} {x_link} {x_cce} {x_thm} {x_lsb} {x_mte} {x_rsl} {x_kvt} {x_see} {x_cans} {x_plu} {x_sfi} {x_twin} (f : Fld) :
    State.rdS (State.mk x_pending x_grade x_now x_free s.regs x_out x_glb x_stu x_log x_hif x_alp x_con x_link x_cce x_thm x_lsb x_mte x_rsl x_kvt x_see x_cans x_plu x_sfi x_twin) f = s.rdS f := rfl
@[simp] theorem rdBit_upd {x_pending} {x_grade} {x_now} {x_free} {x_out} {x_glb} {x_stu} {x_log} {x_hif} {x_alp} {x_con} {x_link} {x_cce} {x_thm} {x_lsb} {x_mte} {x_rsl} {x_kvt} {x_see} {x_cans} {x_plu} {x_sfi} {x_twin} (f : Fld) (i : Nat) :
    State.rdBit (State.mk x_pending x_grade x_now x_free s.regs x_out x_glb x_stu x_log x_hif x_alp x_con x_link x_cce x_thm x_lsb x_mte x_rsl x_kvt x_see x_cans x_plu x_sfi x_twin) f i = s.rdBit f i := rfl
@[simp] theorem flag_upd {x_pending} {x_grade} {x_now} {x_free} {x_out} {x_glb} {x_stu} {x_log} {x_hif} {x_alp} {x_con} {x_link} {x_cce} {x_thm} {x_lsb} {x_mte} {x_rsl} {x_kvt} {x_see} {x_cans} {x_plu} {x_sfi} {x_twin} (f : Fld) :
    State.flag (State.mk x_pending x_grade x_now x_free s.regs x_out x_glb x_stu x_log x_hif x_alp x_con x_link x_cce x_thm x_lsb x_mte x_rsl x_kvt x_see x_cans x_plu x_sfi x_twin) f = s.flag f := rfl
@[simp] theorem reg_upd {x_pending} {x_grade} {x_now} {x_free} {x_out} {x_glb} {x_stu} {x_log} {x_hif} {x_alp} {x_con} {x_link} {x_cce} {x_thm} {x_lsb} {x_mte} {x_rsl} {x_kvt} {x_see} {x_cans} {x_plu} {x_sfi} {x_twin} (o : Nat) :
    State.reg (State.mk x_pending x_grade x_now x_free s.regs x_out x_glb x_stu x_log x_hif x_alp x_con x_link x_cce x_thm x_lsb x_mte x_rsl x_kvt x_see x_cans x_plu x_sfi x_twin) o = s.reg o := rfl
@[simp] theorem mainUp_upd {x_pending} {x_grade} {x_now} {x_free} {x_out} {x_stu} {x_log} {x_hif} {x_alp} {x_con} {x_link} {x_cce} {x_thm} {x_lsb} {x_mte} {x_rsl} {x_kvt} {x_see} {x_cans} {x_plu} {x_sfi} {x_twin} :
    State.mainUp (State.mk x_pending x_grade x_now x_free s.regs x_out s.glb x_stu x_log x_hif x_alp x_con x_link x_cce x_thm x_lsb x_mte x_rsl x_kvt x_see x_cans x_plu x_sfi x_twin) = s.mainUp := rfl
@[simp] theorem up_upd {x_pending} {x_grade} {x_now} {x_free} {x_out} {x_stu} {x_log} {x_hif} {x_alp} {x_con} {x_link} {x_cce} {x_thm} {x_lsb} {x_mte} {x_rsl} {x_kvt} {x_see} {x_cans} {x_plu} {x_sfi} {x_twin} :
    State.up (State.mk x_pending x_grade x_now x_free s.regs x_out s.glb x_stu x_log x_hif x_alp x_con x_link x_cce x_thm x_lsb x_mte x_rsl x_kvt x_see x_cans x_plu x_sfi x_twin) = s.up := rfl
@[simp] theorem ring_upd {x_pending} {x_grade} {x_now} {x_free} {x_regs} {x_out} {x_glb} {x_stu} {x_log} {x_alp} {x_con} {x_link} {x_cce} {x_thm} {x_lsb} {x_mte} {x_rsl} {x_kvt} {x_see} {x_cans} {x_plu} {x_sfi} {x_twin} (r : Nat) :
    State.ring (State.mk x_pending x_grade x_now x_free x_regs x_out x_glb x_stu x_log s.hif x_alp x_con x_link x_cce x_thm x_lsb x_mte x_rsl x_kvt x_see x_cans x_plu x_sfi x_twin) r = s.ring r := rfl
@[simp] theorem flight_upd {x_pending} {x_grade} {x_now} {x_free} {x_regs} {x_out} {x_glb} {x_stu} {x_log} {x_alp} {x_con} {x_link} {x_cce} {x_thm} {x_lsb} {x_mte} {x_rsl} {x_kvt} {x_see} {x_cans} {x_plu} {x_sfi} {x_twin} (r i : Nat) :
    State.flight (State.mk x_pending x_grade x_now x_free x_regs x_out x_glb x_stu x_log s.hif x_alp x_con x_link x_cce x_thm x_lsb x_mte x_rsl x_kvt x_see x_cans x_plu x_sfi x_twin) r i = s.flight r i := rfl
@[simp] theorem served_upd {x_pending} {x_grade} {x_now} {x_free} {x_regs} {x_out} {x_glb} {x_stu} {x_log} {x_alp} {x_con} {x_link} {x_cce} {x_thm} {x_lsb} {x_mte} {x_rsl} {x_kvt} {x_see} {x_cans} {x_plu} {x_sfi} {x_twin} (d : DescRef) :
    State.served (State.mk x_pending x_grade x_now x_free x_regs x_out x_glb x_stu x_log s.hif x_alp x_con x_link x_cce x_thm x_lsb x_mte x_rsl x_kvt x_see x_cans x_plu x_sfi x_twin) d = s.served d := rfl
@[simp] theorem siteNs_upd {x_pending} {x_grade} {x_now} {x_free} {x_regs} {x_out} {x_glb} {x_log} {x_hif} {x_alp} {x_con} {x_link} {x_cce} {x_thm} {x_lsb} {x_mte} {x_rsl} {x_kvt} {x_see} {x_cans} {x_plu} {x_sfi} {x_twin} :
    State.siteNs (State.mk x_pending x_grade x_now x_free x_regs x_out x_glb s.stu x_log x_hif x_alp x_con x_link x_cce x_thm x_lsb x_mte x_rsl x_kvt x_see x_cans x_plu x_sfi x_twin) = s.siteNs := rfl

/-! ### Reads after an update that leaves the registers -/

theorem rd_regs {s t : State} (h : t.regs = s.regs) (f : Fld) : t.rd f = s.rd f := by
  unfold State.rd State.reg; rw [h]

theorem reg_regs {s t : State} (h : t.regs = s.regs) (o : Nat) : t.reg o = s.reg o := by
  unfold State.reg; rw [h]

@[simp] theorem rd_emit (x : Out) (f : Fld) : (s.emit x).rd f = s.rd f := rd_regs (by simp) f
@[simp] theorem rd_ev (c e a b : Nat) (f : Fld) : (s.ev c e a b).rd f = s.rd f := rd_regs (by simp) f
@[simp] theorem rd_setRing (r : Nat) (x : Ring) (f : Fld) : (s.setRing r x).rd f = s.rd f := rd_regs (by simp) f
@[simp] theorem rd_start (d : DescRef) (f : Fld) : (s.start d).rd f = s.rd f := rd_regs (by simp) f
@[simp] theorem rd_cycles (k : Nat) (f : Fld) : (s.cycles k).rd f = s.rd f := rd_regs (by simp) f
@[simp] theorem rd_waitTill (t : Nat) (f : Fld) : (s.waitTill t).rd f = s.rd f := rd_regs (by simp) f
@[simp] theorem rd_waitSite (t : Nat) (f : Fld) : (s.waitSite t).rd f = s.rd f := rd_regs (by simp) f

/-! ### What decides whether the main domains run -/

theorem mainUp_congr {s t : State} (h : t.glb = s.glb) (r : t.rd GLB_PWR_STAT.PGOOD = s.rd GLB_PWR_STAT.PGOOD) :
    t.mainUp = s.mainUp := by
  unfold State.mainUp State.rdBit; rw [h, r]

theorem up_congr {s t : State} (h : t.glb = s.glb) (r : t.rd GLB_PWR_STAT.PGOOD = s.rd GLB_PWR_STAT.PGOOD) :
    t.up = s.up := by
  unfold State.up; rw [h, mainUp_congr h r]

theorem mainUp_of_up {s : State} (h : s.up = true) : s.mainUp = true := by
  unfold State.up at h
  simp only [Bool.and_eq_true] at h
  exact h.1

/-- A register write elsewhere leaves the main domains as they were. -/
theorem mainUp_wr {f : Fld} (v : Nat) (h : f.off ≠ GLB_PWR_STAT.PGOOD.off) : (s.wr f v).mainUp = s.mainUp :=
  mainUp_congr rfl (rd_wr_other s v h)

theorem up_wr {f : Fld} (v : Nat) (h : f.off ≠ GLB_PWR_STAT.PGOOD.off) : (s.wr f v).up = s.up :=
  up_congr rfl (rd_wr_other s v h)

@[simp] theorem mainUp_emit (x : Out) : (s.emit x).mainUp = s.mainUp := mainUp_congr (by simp) (by simp)
@[simp] theorem up_emit (x : Out) : (s.emit x).up = s.up := up_congr (by simp) (by simp)
@[simp] theorem mainUp_ev (c e a b : Nat) : (s.ev c e a b).mainUp = s.mainUp := mainUp_congr (by simp) (by simp)
@[simp] theorem up_ev (c e a b : Nat) : (s.ev c e a b).up = s.up := up_congr (by simp) (by simp)
@[simp] theorem mainUp_setRing (r : Nat) (x : Ring) : (s.setRing r x).mainUp = s.mainUp := mainUp_congr (by simp) (by simp)
@[simp] theorem up_setRing (r : Nat) (x : Ring) : (s.setRing r x).up = s.up := up_congr (by simp) (by simp)
@[simp] theorem mainUp_start (d : DescRef) : (s.start d).mainUp = s.mainUp := mainUp_congr (by simp) (by simp)
@[simp] theorem up_start (d : DescRef) : (s.start d).up = s.up := up_congr (by simp) (by simp)
@[simp] theorem mainUp_cycles (k : Nat) : (s.cycles k).mainUp = s.mainUp := mainUp_congr (by simp) (by simp)
@[simp] theorem up_cycles (k : Nat) : (s.cycles k).up = s.up := up_congr (by simp) (by simp)
@[simp] theorem mainUp_waitTill (t : Nat) : (s.waitTill t).mainUp = s.mainUp := mainUp_congr (by simp) (by simp)
@[simp] theorem up_waitTill (t : Nat) : (s.waitTill t).up = s.up := up_congr (by simp) (by simp)
@[simp] theorem mainUp_waitSite (t : Nat) : (s.waitSite t).mainUp = s.mainUp := mainUp_congr (by simp) (by simp)
@[simp] theorem up_waitSite (t : Nat) : (s.waitSite t).up = s.up := up_congr (by simp) (by simp)

/-! ### Only registers change -/

theorem onlyRegs_refl : s.onlyRegs s [] := ⟨rfl, fun _ _ => rfl⟩

theorem onlyRegs_wr (f : Fld) (v : Nat) : s.onlyRegs (s.wr f v) [f.off] := by
  refine ⟨by simp, fun o ho => ?_⟩
  unfold State.wr
  exact reg_setReg_other _ _ (by simpa using Ne.symm (by simpa using ho))

theorem onlyRegs_trans {s t u : State} {l m : List Nat} (h : s.onlyRegs t l) (k : t.onlyRegs u m) : s.onlyRegs u (l ++ m) := by
  obtain ⟨h1, h2⟩ := h
  obtain ⟨k1, k2⟩ := k
  refine ⟨?_, fun o ho => ?_⟩
  · obtain ⟨a0, a1, a2, a3, a4, a5, a6, a7, a8, a9, a10, a11, a12, a13, a14, a15, a16, a17, a18, a19, a20, a21, a22⟩ := s
    obtain ⟨b0, b1, b2, b3, b4, b5, b6, b7, b8, b9, b10, b11, b12, b13, b14, b15, b16, b17, b18, b19, b20, b21, b22⟩ := t
    obtain ⟨c0, c1, c2, c3, c4, c5, c6, c7, c8, c9, c10, c11, c12, c13, c14, c15, c16, c17, c18, c19, c20, c21, c22⟩ := u
    simp only [State.mk.injEq, true_and] at h1 k1 ⊢
    simp_all
  · simp only [List.mem_append, not_or] at ho
    rw [k2 o ho.2, h2 o ho.1]

/-- A write after writes. -/
theorem onlyRegs_step {s t : State} {l : List Nat} (h : s.onlyRegs t l) (f : Fld) (v : Nat) : s.onlyRegs (t.wr f v) (l ++ [f.off]) :=
  onlyRegs_trans h (onlyRegs_wr t f v)

theorem onlyRegs_mono {s t : State} {l m : List Nat} (h : s.onlyRegs t l) (hm : ∀ o, o ∈ l → o ∈ m) : s.onlyRegs t m :=
  ⟨h.1, fun o ho => h.2 o fun hl => ho (hm o hl)⟩

/-- Writes of many fields, one after the other. -/
theorem onlyRegs_foldl {α : Type} (l : List α) (f : α → Fld) (v : State → α → Nat) (m : List Nat) (hm : ∀ x ∈ l, (f x).off ∈ m) :
    s.onlyRegs (l.foldl (fun u x => u.wr (f x) (v u x)) s) m := by
  induction l generalizing s with
  | nil => exact onlyRegs_mono (onlyRegs_refl s) (by simp)
  | cons x r ih =>
    have h1 := onlyRegs_wr s (f x) (v s x)
    have h2 := ih (s.wr (f x) (v s x)) fun y hy => hm y (List.mem_cons_of_mem _ hy)
    refine onlyRegs_mono (onlyRegs_trans h1 h2) fun o ho => ?_
    rcases List.mem_append.mp ho with h | h
    · rw [List.mem_singleton.mp h]; exact hm x (List.mem_cons_self ..)
    · exact h

/-! ### The ticks begin anew -/

theorem retick_eq : s.retick = { s with stu := { s.stu with nextTick := s.tickFrom } } := rfl

@[simp] theorem retick_regs : s.retick.regs = s.regs := by unfold State.retick; generalize s.tickFrom = n; rfl
@[simp] theorem retick_glb : s.retick.glb = s.glb := by unfold State.retick; generalize s.tickFrom = n; rfl
@[simp] theorem retick_log : s.retick.log = s.log := by unfold State.retick; generalize s.tickFrom = n; rfl
@[simp] theorem retick_now : s.retick.now = s.now := by unfold State.retick; generalize s.tickFrom = n; rfl

theorem stu_replaced (x : Stu) : ({ s with stu := x }).stu = x := rfl

theorem nextTick_site (x : Stu) (n : Nat) : ({ x with nextTick := n }).site = x.site := rfl

theorem retick_stu : s.retick.stu = { s.stu with nextTick := s.tickFrom } := stu_replaced s _

@[simp] theorem retick_site : s.retick.stu.site = s.stu.site := (congrArg Stu.site (retick_stu s)).trans (nextTick_site _ _)

/-! ### The clock -/

@[simp] theorem now_cycles (k : Nat) : (s.cycles k).now = s.now + 10 * k := by
  unfold State.cycles; dsimp only; split <;> rfl

/-- The clock reaches the uptime waited for, in whole TIM cycles. -/
theorem le_now_waitTill (t : Nat) : t ≤ (s.waitTill t).now := by
  unfold State.waitTill divUp; simp; omega

theorem now_le_waitTill (t : Nat) : s.now ≤ (s.waitTill t).now := by
  unfold State.waitTill; simp

/-! ### The newest event -/

/-- An event of a class without enable bits is never muted. -/
theorem muted_class (c e : Nat) (h : e / 2048 ≠ 1 ∧ e / 2048 ≠ 2 ∧ e / 2048 ≠ 5 ∧ e / 2048 ≠ 6) : s.muted c e = false := by
  unfold State.muted State.enabled
  obtain ⟨h1, h2, h5, h6⟩ := h
  split <;> simp_all

@[simp] theorem muted_site (c : Nat) : s.muted c 0 = false := muted_class s c 0 (by decide)

@[simp] theorem muted_lane (c l : Nat) (h : l < 14) : s.muted c (entLane l) = false := by
  apply muted_class; unfold entLane ent; split <;> omega

/-- An event logged while the main domains run is the newest, with the next number. -/
theorem ev_logOne (c e a b : Nat) (h : s.mainUp = true) (hm : s.muted c e = false := by first | exact muted_site _ _ | assumption) :
    s.logOne (s.ev c e a b) c e (a % 2 ^ 64) (b % 2 ^ 64) := by
  unfold State.ev State.logFrom State.pushEvent State.logOne State.newest
  simp [h, hm]

/-! ### Rings and descriptors -/

theorem served_congr {s t : State} (d : DescRef) (h : t.hif.rings = s.hif.rings) : t.served d = s.served d := by
  unfold State.served State.flight State.ring; rw [h]

theorem find?_map_keep {α : Type} {p : α → Bool} {g : α → α} (hg : ∀ x, p (g x) = p x) (l : List α) :
    (l.map g).find? p = (l.find? p).map g := by
  induction l with
  | nil => rfl
  | cons x r ih => simp only [List.map_cons, List.find?_cons, hg]; cases p x <;> simp [ih]

theorem ring_setRing_same (r : Nat) (x : Ring) : (s.setRing r x).ring r = x := by
  unfold State.ring State.setRing; simp

theorem ring_setRing_other {r q : Nat} (x : Ring) (h : r ≠ q) : (s.setRing r x).ring q = s.ring q := by
  unfold State.ring State.setRing; simp [tget_tset_other _ _ _ h]

/-- Changing one flight, its index kept, changes what is found there. -/
theorem flight_mapFlight (r idx : Nat) (g : Flight → Flight) (hg : ∀ f, (g f).idx = f.idx) :
    (s.mapFlight r idx g).flight r idx = (s.flight r idx).map g := by
  unfold State.mapFlight State.flight
  dsimp only
  rw [ring_setRing_same]
  induction (s.ring r).flights with
  | nil => rfl
  | cons x l ih =>
    by_cases h : x.idx = idx
    · simp [h, hg]
    · simp [h, ih]

@[simp] theorem served_start (d e : DescRef) : (s.start d).served d = s.served d := by
  have h := flight_mapFlight s d.ring.val d.idx.toNat (fun f => { f with started := true }) (fun _ => rfl)
  unfold State.served State.start
  rw [h]
  cases s.flight d.ring.val d.idx.toNat <;> rfl

/-- A served descriptor that completes is answered: it is no longer in flight, and RESULT and STATUS are written. -/
theorem complete_answered {d : DescRef} (h : s.served d = true) (partly err : Bool) (progress code : Nat) (result : List Nat) :
    (s.complete d.ring.val d.idx.toNat partly err progress code result).answered d partly err progress code result := by
  unfold State.served at h
  unfold State.complete
  cases hf : s.flight d.ring.val d.idx.toNat with
  | none => simp [hf] at h
  | some f =>
    simp only [hf, Bool.not_eq_true'] at h
    simp only [h, Bool.false_eq_true, if_false]
    have e1 : ∀ u : State, (u.shadow d.ring.val).hif = u.hif := fun u => by
      unfold State.shadow; dsimp only; split <;> rfl
    have e2 : ∀ u : State, ∀ x, x ∈ u.out → x ∈ (u.shadow d.ring.val).out := fun u x hx => by
      unfold State.shadow; dsimp only; split
      · exact hx
      · exact List.mem_cons_of_mem _ hx
    constructor
    · unfold State.flight State.ring
      rw [e1]
      simp only [emit_hif]
      unfold State.setRing
      dsimp only
      rw [tget_tset_same]
      simp
    · exact e2 _ _ (by simp [State.emit])

theorem done_answered {d : DescRef} (h : s.served d = true) (result : List Nat) (code progress : Nat) :
    (s.done d result code progress).answered d false false progress code result :=
  complete_answered s h _ _ _ _ _

end Sys2Proof.Laws
end

