-- ==== Sys2Proof/Laws/Desc.lean ====
section
/-!
SUPPORT. What a descriptor that can start does: it runs its block's work after its start, and answers.
-/
namespace Sys2Proof.Laws

open Sys2Proof.Machine

variable {s : State} {d : DescRef} {op : Nat}

theorem ready_up (h : s.ready d op = true) : s.up = true := by
  unfold State.ready at h
  simp only [Bool.and_eq_true] at h
  exact h.1.1

theorem ready_served (h : s.ready d op = true) : s.served d = true := by
  unfold State.ready at h
  simp only [Bool.and_eq_true] at h
  exact h.2

/-- A descriptor that is ready runs its work. -/
theorem run_ready (h : s.ready d op = true) (k : State → State) : s.run d op k = k (s.start d) := by
  unfold State.ready at h
  simp only [Bool.and_eq_true] at h
  unfold State.run
  rw [if_pos (by simp [h.1])]

theorem mainUp_ready (h : s.ready d op = true) : s.mainUp = true := mainUp_of_up (ready_up h)

/-- Work that leaves the rings alone, then the completion. -/
theorem done_ready {u : State} (h : s.ready d op = true) (hu : u.hif.rings = (s.start d).hif.rings) (result : List Nat) (code progress : Nat) :
    (u.done d result code progress).answered d false false progress code result :=
  done_answered u (by rw [served_congr (s := s.start d) d hu, served_start s d d]; exact ready_served h) result code progress

theorem fail_ready {u : State} (h : s.ready d op = true) (hu : u.hif.rings = (s.start d).hif.rings) (result : List Nat) (code : Nat)
    (partly : Bool) :
    (u.fail d code result partly).answered d partly true (u.progressOf d.ring.val d.idx.toNat) code result :=
  complete_answered u (by rw [served_congr (s := s.start d) d hu, served_start s d d]; exact ready_served h) partly true _ code result

/-- Work that leaves the rings alone leaves the descriptor to be answered. -/
theorem still_served {u : State} (h : s.ready d op = true) (hu : u.hif.rings = (s.start d).hif.rings) : u.served d = true := by
  rw [served_congr (s := s.start d) d hu, served_start s d d]; exact ready_served h

/-! ### Fields that a completion, a wait or a grade check leaves -/

theorem rdBit_regs {t : State} (h : t.regs = s.regs) (f : Fld) (i : Nat) : t.rdBit f i = s.rdBit f i := by
  unfold State.rdBit; rw [rd_regs h]

theorem flag_regs {t : State} (h : t.regs = s.regs) (f : Fld) : t.flag f = s.flag f := by
  unfold State.flag; rw [rd_regs h]

theorem absent_congr {t : State} (h : t.grade = s.grade) (c i : Nat) : t.absent c i = s.absent c i := by
  unfold State.absent State.nPorts State.nBlocks State.nStrings; rw [h]

theorem portOn_congr {t : State} (h : t.grade = s.grade) (r : t.regs = s.regs) (p : Nat) : t.portOn p = s.portOn p := by
  unfold State.portOn State.nPorts; rw [h, rdBit_regs r]

theorem stringOn_congr {t : State} (h : t.grade = s.grade) (r : t.regs = s.regs) (i : Nat) : t.stringOn i = s.stringOn i := by
  unfold State.stringOn State.nStrings; rw [h, rdBit_regs r]

theorem blockOn_congr {t : State} (h : t.grade = s.grade) (r : t.regs = s.regs) (b : Nat) : t.blockOn b = s.blockOn b := by
  have hp : t.pressLane (b / 4) = s.pressLane (b / 4) := by unfold State.pressLane; rw [flag_regs r, rd_regs r]
  unfold State.blockOn State.nBlocks; rw [h, hp]; simp only [rdBit_regs r]

theorem acOn_congr {t : State} (r : t.regs = s.regs) (g : Nat) : t.acOn g = s.acOn g := by
  unfold State.acOn; simp only [flag_regs r]

theorem enabled_congr {t : State} (h : t.grade = s.grade) (r : t.regs = s.regs) (c i : Nat) : t.enabled c i = s.enabled c i := by
  unfold State.enabled; rw [portOn_congr h r, blockOn_congr h r, stringOn_congr h r, acOn_congr r]

@[simp] theorem absent_start (c i : Nat) : (s.start d).absent c i = s.absent c i := absent_congr rfl c i
@[simp] theorem enabled_start (c i : Nat) : (s.start d).enabled c i = s.enabled c i := enabled_congr rfl rfl c i
@[simp] theorem portOn_start (p : Nat) : (s.start d).portOn p = s.portOn p := portOn_congr rfl rfl p
@[simp] theorem stringOn_start (p : Nat) : (s.start d).stringOn p = s.stringOn p := stringOn_congr rfl rfl p
@[simp] theorem blockOn_start (p : Nat) : (s.start d).blockOn p = s.blockOn p := blockOn_congr rfl rfl p
@[simp] theorem flag_start (f : Fld) : (s.start d).flag f = s.flag f := rfl
@[simp] theorem rdBit_start (f : Fld) (i : Nat) : (s.start d).rdBit f i = s.rdBit f i := rfl

/-- An entity that is valid, present and enabled passes its check. -/
theorem checkEntity_ok {e : Nat} (h1 : e % 2048 < classSize (e / 2048)) (h2 : s.absent (e / 2048) (e % 2048) = false)
    (h3 : s.enabled (e / 2048) (e % 2048) = true) (k : State → State) : s.checkEntity d e k = k s := by
  unfold State.checkEntity
  simp [Nat.not_le.mpr h1, h2, h3]

@[simp] theorem shadow_pending (r : Nat) : (s.shadow r).pending = s.pending := by
  unfold State.shadow; dsimp only; split <;> rfl
@[simp] theorem complete_pending (r i : Nat) (a b : Bool) (p c : Nat) (l : List Nat) : (s.complete r i a b p c l).pending = s.pending := by
  unfold State.complete; split
  · rfl
  · dsimp only; split <;> simp
@[simp] theorem done_pending (l : List Nat) (c p : Nat) : (s.done d l c p).pending = s.pending := by unfold State.done; simp
@[simp] theorem fail_pending (c : Nat) (l : List Nat) (p : Bool) : (s.fail d c l p).pending = s.pending := by unfold State.fail; simp
@[simp] theorem shadow_grade (r : Nat) : (s.shadow r).grade = s.grade := by
  unfold State.shadow; dsimp only; split <;> rfl
@[simp] theorem complete_grade (r i : Nat) (a b : Bool) (p c : Nat) (l : List Nat) : (s.complete r i a b p c l).grade = s.grade := by
  unfold State.complete; split
  · rfl
  · dsimp only; split <;> simp
@[simp] theorem done_grade (l : List Nat) (c p : Nat) : (s.done d l c p).grade = s.grade := by unfold State.done; simp
@[simp] theorem fail_grade (c : Nat) (l : List Nat) (p : Bool) : (s.fail d c l p).grade = s.grade := by unfold State.fail; simp
@[simp] theorem shadow_now (r : Nat) : (s.shadow r).now = s.now := by
  unfold State.shadow; dsimp only; split <;> rfl
@[simp] theorem complete_now (r i : Nat) (a b : Bool) (p c : Nat) (l : List Nat) : (s.complete r i a b p c l).now = s.now := by
  unfold State.complete; split
  · rfl
  · dsimp only; split <;> simp
@[simp] theorem done_now (l : List Nat) (c p : Nat) : (s.done d l c p).now = s.now := by unfold State.done; simp
@[simp] theorem fail_now (c : Nat) (l : List Nat) (p : Bool) : (s.fail d c l p).now = s.now := by unfold State.fail; simp
@[simp] theorem shadow_free (r : Nat) : (s.shadow r).free = s.free := by
  unfold State.shadow; dsimp only; split <;> rfl
@[simp] theorem complete_free (r i : Nat) (a b : Bool) (p c : Nat) (l : List Nat) : (s.complete r i a b p c l).free = s.free := by
  unfold State.complete; split
  · rfl
  · dsimp only; split <;> simp
@[simp] theorem done_free (l : List Nat) (c p : Nat) : (s.done d l c p).free = s.free := by unfold State.done; simp
@[simp] theorem fail_free (c : Nat) (l : List Nat) (p : Bool) : (s.fail d c l p).free = s.free := by unfold State.fail; simp
@[simp] theorem shadow_glb (r : Nat) : (s.shadow r).glb = s.glb := by
  unfold State.shadow; dsimp only; split <;> rfl
@[simp] theorem complete_glb (r i : Nat) (a b : Bool) (p c : Nat) (l : List Nat) : (s.complete r i a b p c l).glb = s.glb := by
  unfold State.complete; split
  · rfl
  · dsimp only; split <;> simp
@[simp] theorem done_glb (l : List Nat) (c p : Nat) : (s.done d l c p).glb = s.glb := by unfold State.done; simp
@[simp] theorem fail_glb (c : Nat) (l : List Nat) (p : Bool) : (s.fail d c l p).glb = s.glb := by unfold State.fail; simp
@[simp] theorem shadow_stu (r : Nat) : (s.shadow r).stu = s.stu := by
  unfold State.shadow; dsimp only; split <;> rfl
@[simp] theorem complete_stu (r i : Nat) (a b : Bool) (p c : Nat) (l : List Nat) : (s.complete r i a b p c l).stu = s.stu := by
  unfold State.complete; split
  · rfl
  · dsimp only; split <;> simp
@[simp] theorem done_stu (l : List Nat) (c p : Nat) : (s.done d l c p).stu = s.stu := by unfold State.done; simp
@[simp] theorem fail_stu (c : Nat) (l : List Nat) (p : Bool) : (s.fail d c l p).stu = s.stu := by unfold State.fail; simp
@[simp] theorem shadow_alp (r : Nat) : (s.shadow r).alp = s.alp := by
  unfold State.shadow; dsimp only; split <;> rfl
@[simp] theorem complete_alp (r i : Nat) (a b : Bool) (p c : Nat) (l : List Nat) : (s.complete r i a b p c l).alp = s.alp := by
  unfold State.complete; split
  · rfl
  · dsimp only; split <;> simp
@[simp] theorem done_alp (l : List Nat) (c p : Nat) : (s.done d l c p).alp = s.alp := by unfold State.done; simp
@[simp] theorem fail_alp (c : Nat) (l : List Nat) (p : Bool) : (s.fail d c l p).alp = s.alp := by unfold State.fail; simp
@[simp] theorem shadow_con (r : Nat) : (s.shadow r).con = s.con := by
  unfold State.shadow; dsimp only; split <;> rfl
@[simp] theorem complete_con (r i : Nat) (a b : Bool) (p c : Nat) (l : List Nat) : (s.complete r i a b p c l).con = s.con := by
  unfold State.complete; split
  · rfl
  · dsimp only; split <;> simp
@[simp] theorem done_con (l : List Nat) (c p : Nat) : (s.done d l c p).con = s.con := by unfold State.done; simp
@[simp] theorem fail_con (c : Nat) (l : List Nat) (p : Bool) : (s.fail d c l p).con = s.con := by unfold State.fail; simp
@[simp] theorem shadow_link (r : Nat) : (s.shadow r).link = s.link := by
  unfold State.shadow; dsimp only; split <;> rfl
@[simp] theorem complete_link (r i : Nat) (a b : Bool) (p c : Nat) (l : List Nat) : (s.complete r i a b p c l).link = s.link := by
  unfold State.complete; split
  · rfl
  · dsimp only; split <;> simp
@[simp] theorem done_link (l : List Nat) (c p : Nat) : (s.done d l c p).link = s.link := by unfold State.done; simp
@[simp] theorem fail_link (c : Nat) (l : List Nat) (p : Bool) : (s.fail d c l p).link = s.link := by unfold State.fail; simp
@[simp] theorem shadow_cce (r : Nat) : (s.shadow r).cce = s.cce := by
  unfold State.shadow; dsimp only; split <;> rfl
@[simp] theorem complete_cce (r i : Nat) (a b : Bool) (p c : Nat) (l : List Nat) : (s.complete r i a b p c l).cce = s.cce := by
  unfold State.complete; split
  · rfl
  · dsimp only; split <;> simp
@[simp] theorem done_cce (l : List Nat) (c p : Nat) : (s.done d l c p).cce = s.cce := by unfold State.done; simp
@[simp] theorem fail_cce (c : Nat) (l : List Nat) (p : Bool) : (s.fail d c l p).cce = s.cce := by unfold State.fail; simp
@[simp] theorem shadow_thm (r : Nat) : (s.shadow r).thm = s.thm := by
  unfold State.shadow; dsimp only; split <;> rfl
@[simp] theorem complete_thm (r i : Nat) (a b : Bool) (p c : Nat) (l : List Nat) : (s.complete r i a b p c l).thm = s.thm := by
  unfold State.complete; split
  · rfl
  · dsimp only; split <;> simp
@[simp] theorem done_thm (l : List Nat) (c p : Nat) : (s.done d l c p).thm = s.thm := by unfold State.done; simp
@[simp] theorem fail_thm (c : Nat) (l : List Nat) (p : Bool) : (s.fail d c l p).thm = s.thm := by unfold State.fail; simp
@[simp] theorem shadow_lsb (r : Nat) : (s.shadow r).lsb = s.lsb := by
  unfold State.shadow; dsimp only; split <;> rfl
@[simp] theorem complete_lsb (r i : Nat) (a b : Bool) (p c : Nat) (l : List Nat) : (s.complete r i a b p c l).lsb = s.lsb := by
  unfold State.complete; split
  · rfl
  · dsimp only; split <;> simp
@[simp] theorem done_lsb (l : List Nat) (c p : Nat) : (s.done d l c p).lsb = s.lsb := by unfold State.done; simp
@[simp] theorem fail_lsb (c : Nat) (l : List Nat) (p : Bool) : (s.fail d c l p).lsb = s.lsb := by unfold State.fail; simp
@[simp] theorem shadow_mte (r : Nat) : (s.shadow r).mte = s.mte := by
  unfold State.shadow; dsimp only; split <;> rfl
@[simp] theorem complete_mte (r i : Nat) (a b : Bool) (p c : Nat) (l : List Nat) : (s.complete r i a b p c l).mte = s.mte := by
  unfold State.complete; split
  · rfl
  · dsimp only; split <;> simp
@[simp] theorem done_mte (l : List Nat) (c p : Nat) : (s.done d l c p).mte = s.mte := by unfold State.done; simp
@[simp] theorem fail_mte (c : Nat) (l : List Nat) (p : Bool) : (s.fail d c l p).mte = s.mte := by unfold State.fail; simp
@[simp] theorem shadow_rsl (r : Nat) : (s.shadow r).rsl = s.rsl := by
  unfold State.shadow; dsimp only; split <;> rfl
@[simp] theorem complete_rsl (r i : Nat) (a b : Bool) (p c : Nat) (l : List Nat) : (s.complete r i a b p c l).rsl = s.rsl := by
  unfold State.complete; split
  · rfl
  · dsimp only; split <;> simp
@[simp] theorem done_rsl (l : List Nat) (c p : Nat) : (s.done d l c p).rsl = s.rsl := by unfold State.done; simp
@[simp] theorem fail_rsl (c : Nat) (l : List Nat) (p : Bool) : (s.fail d c l p).rsl = s.rsl := by unfold State.fail; simp
@[simp] theorem shadow_kvt (r : Nat) : (s.shadow r).kvt = s.kvt := by
  unfold State.shadow; dsimp only; split <;> rfl
@[simp] theorem complete_kvt (r i : Nat) (a b : Bool) (p c : Nat) (l : List Nat) : (s.complete r i a b p c l).kvt = s.kvt := by
  unfold State.complete; split
  · rfl
  · dsimp only; split <;> simp
@[simp] theorem done_kvt (l : List Nat) (c p : Nat) : (s.done d l c p).kvt = s.kvt := by unfold State.done; simp
@[simp] theorem fail_kvt (c : Nat) (l : List Nat) (p : Bool) : (s.fail d c l p).kvt = s.kvt := by unfold State.fail; simp
@[simp] theorem shadow_see (r : Nat) : (s.shadow r).see = s.see := by
  unfold State.shadow; dsimp only; split <;> rfl
@[simp] theorem complete_see (r i : Nat) (a b : Bool) (p c : Nat) (l : List Nat) : (s.complete r i a b p c l).see = s.see := by
  unfold State.complete; split
  · rfl
  · dsimp only; split <;> simp
@[simp] theorem done_see (l : List Nat) (c p : Nat) : (s.done d l c p).see = s.see := by unfold State.done; simp
@[simp] theorem fail_see (c : Nat) (l : List Nat) (p : Bool) : (s.fail d c l p).see = s.see := by unfold State.fail; simp
@[simp] theorem shadow_cans (r : Nat) : (s.shadow r).cans = s.cans := by
  unfold State.shadow; dsimp only; split <;> rfl
@[simp] theorem complete_cans (r i : Nat) (a b : Bool) (p c : Nat) (l : List Nat) : (s.complete r i a b p c l).cans = s.cans := by
  unfold State.complete; split
  · rfl
  · dsimp only; split <;> simp
@[simp] theorem done_cans (l : List Nat) (c p : Nat) : (s.done d l c p).cans = s.cans := by unfold State.done; simp
@[simp] theorem fail_cans (c : Nat) (l : List Nat) (p : Bool) : (s.fail d c l p).cans = s.cans := by unfold State.fail; simp
@[simp] theorem shadow_plu (r : Nat) : (s.shadow r).plu = s.plu := by
  unfold State.shadow; dsimp only; split <;> rfl
@[simp] theorem complete_plu (r i : Nat) (a b : Bool) (p c : Nat) (l : List Nat) : (s.complete r i a b p c l).plu = s.plu := by
  unfold State.complete; split
  · rfl
  · dsimp only; split <;> simp
@[simp] theorem done_plu (l : List Nat) (c p : Nat) : (s.done d l c p).plu = s.plu := by unfold State.done; simp
@[simp] theorem fail_plu (c : Nat) (l : List Nat) (p : Bool) : (s.fail d c l p).plu = s.plu := by unfold State.fail; simp
@[simp] theorem shadow_sfi (r : Nat) : (s.shadow r).sfi = s.sfi := by
  unfold State.shadow; dsimp only; split <;> rfl
@[simp] theorem complete_sfi (r i : Nat) (a b : Bool) (p c : Nat) (l : List Nat) : (s.complete r i a b p c l).sfi = s.sfi := by
  unfold State.complete; split
  · rfl
  · dsimp only; split <;> simp
@[simp] theorem done_sfi (l : List Nat) (c p : Nat) : (s.done d l c p).sfi = s.sfi := by unfold State.done; simp
@[simp] theorem fail_sfi (c : Nat) (l : List Nat) (p : Bool) : (s.fail d c l p).sfi = s.sfi := by unfold State.fail; simp
@[simp] theorem shadow_twin (r : Nat) : (s.shadow r).twin = s.twin := by
  unfold State.shadow; dsimp only; split <;> rfl
@[simp] theorem complete_twin (r i : Nat) (a b : Bool) (p c : Nat) (l : List Nat) : (s.complete r i a b p c l).twin = s.twin := by
  unfold State.complete; split
  · rfl
  · dsimp only; split <;> simp
@[simp] theorem done_twin (l : List Nat) (c p : Nat) : (s.done d l c p).twin = s.twin := by unfold State.done; simp
@[simp] theorem fail_twin (c : Nat) (l : List Nat) (p : Bool) : (s.fail d c l p).twin = s.twin := by unfold State.fail; simp
@[simp] theorem shadow_regs (r : Nat) : (s.shadow r).regs = s.regs := by
  unfold State.shadow; dsimp only; split <;> rfl
theorem complete_regs {u : State} (h : u.served d = true) (a b : Bool) (p c : Nat) (l : List Nat) : (u.complete d.ring.val d.idx.toNat a b p c l).regs = u.regs := by
  unfold State.served at h; unfold State.complete
  cases hf : u.flight d.ring.val d.idx.toNat with
  | none => rfl
  | some f =>
    simp only [hf, Bool.not_eq_true'] at h
    simp [h]
theorem done_regs {u : State} (h : u.served d = true) (l : List Nat) (c p : Nat) : (u.done d l c p).regs = u.regs := complete_regs h ..
theorem fail_regs {u : State} (h : u.served d = true) (c : Nat) (l : List Nat) (p : Bool) : (u.fail d c l p).regs = u.regs := complete_regs h ..
@[simp] theorem shadow_log (r : Nat) : (s.shadow r).log = s.log := by
  unfold State.shadow; dsimp only; split <;> rfl
theorem complete_log {u : State} (h : u.served d = true) (a b : Bool) (p c : Nat) (l : List Nat) : (u.complete d.ring.val d.idx.toNat a b p c l).log = u.log := by
  unfold State.served at h; unfold State.complete
  cases hf : u.flight d.ring.val d.idx.toNat with
  | none => rfl
  | some f =>
    simp only [hf, Bool.not_eq_true'] at h
    simp [h]
theorem done_log {u : State} (h : u.served d = true) (l : List Nat) (c p : Nat) : (u.done d l c p).log = u.log := complete_log h ..
theorem fail_log {u : State} (h : u.served d = true) (c : Nat) (l : List Nat) (p : Bool) : (u.fail d c l p).log = u.log := complete_log h ..
theorem complete_out {u : State} {x : Out} (h : u.served d = true) {a b : Bool} {p c : Nat} (l : List Nat) (hx : x ∈ u.out) :
    x ∈ (u.complete d.ring.val d.idx.toNat a b p c l).out := by
  have e2 : ∀ v : State, ∀ y, y ∈ v.out → y ∈ (v.shadow d.ring.val).out := fun v y hy => by
    unfold State.shadow; dsimp only; split
    · exact hy
    · exact List.mem_cons_of_mem _ hy
  unfold State.served at h; unfold State.complete
  cases hf : u.flight d.ring.val d.idx.toNat with
  | none => exact hx
  | some f =>
    simp only [hf, Bool.not_eq_true'] at h
    simp only [h, Bool.false_eq_true, if_false]
    exact e2 _ _ (List.mem_cons_of_mem _ hx)
@[simp] theorem mapFlight_pending (r i : Nat) (g : Flight → Flight) : (s.mapFlight r i g).pending = s.pending := rfl
@[simp] theorem mapFlight_grade (r i : Nat) (g : Flight → Flight) : (s.mapFlight r i g).grade = s.grade := rfl
@[simp] theorem mapFlight_now (r i : Nat) (g : Flight → Flight) : (s.mapFlight r i g).now = s.now := rfl
@[simp] theorem mapFlight_free (r i : Nat) (g : Flight → Flight) : (s.mapFlight r i g).free = s.free := rfl
@[simp] theorem mapFlight_regs (r i : Nat) (g : Flight → Flight) : (s.mapFlight r i g).regs = s.regs := rfl
@[simp] theorem mapFlight_out (r i : Nat) (g : Flight → Flight) : (s.mapFlight r i g).out = s.out := rfl
@[simp] theorem mapFlight_glb (r i : Nat) (g : Flight → Flight) : (s.mapFlight r i g).glb = s.glb := rfl
@[simp] theorem mapFlight_stu (r i : Nat) (g : Flight → Flight) : (s.mapFlight r i g).stu = s.stu := rfl
@[simp] theorem mapFlight_log (r i : Nat) (g : Flight → Flight) : (s.mapFlight r i g).log = s.log := rfl
@[simp] theorem mapFlight_alp (r i : Nat) (g : Flight → Flight) : (s.mapFlight r i g).alp = s.alp := rfl
@[simp] theorem mapFlight_con (r i : Nat) (g : Flight → Flight) : (s.mapFlight r i g).con = s.con := rfl
@[simp] theorem mapFlight_link (r i : Nat) (g : Flight → Flight) : (s.mapFlight r i g).link = s.link := rfl
@[simp] theorem mapFlight_cce (r i : Nat) (g : Flight → Flight) : (s.mapFlight r i g).cce = s.cce := rfl
@[simp] theorem mapFlight_thm (r i : Nat) (g : Flight → Flight) : (s.mapFlight r i g).thm = s.thm := rfl
@[simp] theorem mapFlight_lsb (r i : Nat) (g : Flight → Flight) : (s.mapFlight r i g).lsb = s.lsb := rfl
@[simp] theorem mapFlight_mte (r i : Nat) (g : Flight → Flight) : (s.mapFlight r i g).mte = s.mte := rfl
@[simp] theorem mapFlight_rsl (r i : Nat) (g : Flight → Flight) : (s.mapFlight r i g).rsl = s.rsl := rfl
@[simp] theorem mapFlight_kvt (r i : Nat) (g : Flight → Flight) : (s.mapFlight r i g).kvt = s.kvt := rfl
@[simp] theorem mapFlight_see (r i : Nat) (g : Flight → Flight) : (s.mapFlight r i g).see = s.see := rfl
@[simp] theorem mapFlight_cans (r i : Nat) (g : Flight → Flight) : (s.mapFlight r i g).cans = s.cans := rfl
@[simp] theorem mapFlight_plu (r i : Nat) (g : Flight → Flight) : (s.mapFlight r i g).plu = s.plu := rfl
@[simp] theorem mapFlight_sfi (r i : Nat) (g : Flight → Flight) : (s.mapFlight r i g).sfi = s.sfi := rfl
@[simp] theorem mapFlight_twin (r i : Nat) (g : Flight → Flight) : (s.mapFlight r i g).twin = s.twin := rfl
@[simp] theorem setWait_pending (r : Nat) (w : Bool) : (s.setWait r w).pending = s.pending := rfl
@[simp] theorem setWait_grade (r : Nat) (w : Bool) : (s.setWait r w).grade = s.grade := rfl
@[simp] theorem setWait_now (r : Nat) (w : Bool) : (s.setWait r w).now = s.now := rfl
@[simp] theorem setWait_free (r : Nat) (w : Bool) : (s.setWait r w).free = s.free := rfl
@[simp] theorem setWait_regs (r : Nat) (w : Bool) : (s.setWait r w).regs = s.regs := rfl
@[simp] theorem setWait_out (r : Nat) (w : Bool) : (s.setWait r w).out = s.out := rfl
@[simp] theorem setWait_glb (r : Nat) (w : Bool) : (s.setWait r w).glb = s.glb := rfl
@[simp] theorem setWait_stu (r : Nat) (w : Bool) : (s.setWait r w).stu = s.stu := rfl
@[simp] theorem setWait_log (r : Nat) (w : Bool) : (s.setWait r w).log = s.log := rfl
@[simp] theorem setWait_alp (r : Nat) (w : Bool) : (s.setWait r w).alp = s.alp := rfl
@[simp] theorem setWait_con (r : Nat) (w : Bool) : (s.setWait r w).con = s.con := rfl
@[simp] theorem setWait_link (r : Nat) (w : Bool) : (s.setWait r w).link = s.link := rfl
@[simp] theorem setWait_cce (r : Nat) (w : Bool) : (s.setWait r w).cce = s.cce := rfl
@[simp] theorem setWait_thm (r : Nat) (w : Bool) : (s.setWait r w).thm = s.thm := rfl
@[simp] theorem setWait_lsb (r : Nat) (w : Bool) : (s.setWait r w).lsb = s.lsb := rfl
@[simp] theorem setWait_mte (r : Nat) (w : Bool) : (s.setWait r w).mte = s.mte := rfl
@[simp] theorem setWait_rsl (r : Nat) (w : Bool) : (s.setWait r w).rsl = s.rsl := rfl
@[simp] theorem setWait_kvt (r : Nat) (w : Bool) : (s.setWait r w).kvt = s.kvt := rfl
@[simp] theorem setWait_see (r : Nat) (w : Bool) : (s.setWait r w).see = s.see := rfl
@[simp] theorem setWait_cans (r : Nat) (w : Bool) : (s.setWait r w).cans = s.cans := rfl
@[simp] theorem setWait_plu (r : Nat) (w : Bool) : (s.setWait r w).plu = s.plu := rfl
@[simp] theorem setWait_sfi (r : Nat) (w : Bool) : (s.setWait r w).sfi = s.sfi := rfl
@[simp] theorem setWait_twin (r : Nat) (w : Bool) : (s.setWait r w).twin = s.twin := rfl
@[simp] theorem waitOutside_pending (d : DescRef) : (s.waitOutside d).pending = s.pending := rfl
@[simp] theorem waitOutside_grade (d : DescRef) : (s.waitOutside d).grade = s.grade := rfl
@[simp] theorem waitOutside_now (d : DescRef) : (s.waitOutside d).now = s.now := rfl
@[simp] theorem waitOutside_free (d : DescRef) : (s.waitOutside d).free = s.free := rfl
@[simp] theorem waitOutside_regs (d : DescRef) : (s.waitOutside d).regs = s.regs := rfl
@[simp] theorem waitOutside_out (d : DescRef) : (s.waitOutside d).out = s.out := rfl
@[simp] theorem waitOutside_glb (d : DescRef) : (s.waitOutside d).glb = s.glb := rfl
@[simp] theorem waitOutside_stu (d : DescRef) : (s.waitOutside d).stu = s.stu := rfl
@[simp] theorem waitOutside_log (d : DescRef) : (s.waitOutside d).log = s.log := rfl
@[simp] theorem waitOutside_alp (d : DescRef) : (s.waitOutside d).alp = s.alp := rfl
@[simp] theorem waitOutside_con (d : DescRef) : (s.waitOutside d).con = s.con := rfl
@[simp] theorem waitOutside_link (d : DescRef) : (s.waitOutside d).link = s.link := rfl
@[simp] theorem waitOutside_cce (d : DescRef) : (s.waitOutside d).cce = s.cce := rfl
@[simp] theorem waitOutside_thm (d : DescRef) : (s.waitOutside d).thm = s.thm := rfl
@[simp] theorem waitOutside_lsb (d : DescRef) : (s.waitOutside d).lsb = s.lsb := rfl
@[simp] theorem waitOutside_mte (d : DescRef) : (s.waitOutside d).mte = s.mte := rfl
@[simp] theorem waitOutside_rsl (d : DescRef) : (s.waitOutside d).rsl = s.rsl := rfl
@[simp] theorem waitOutside_kvt (d : DescRef) : (s.waitOutside d).kvt = s.kvt := rfl
@[simp] theorem waitOutside_see (d : DescRef) : (s.waitOutside d).see = s.see := rfl
@[simp] theorem waitOutside_cans (d : DescRef) : (s.waitOutside d).cans = s.cans := rfl
@[simp] theorem waitOutside_plu (d : DescRef) : (s.waitOutside d).plu = s.plu := rfl
@[simp] theorem waitOutside_sfi (d : DescRef) : (s.waitOutside d).sfi = s.sfi := rfl
@[simp] theorem waitOutside_twin (d : DescRef) : (s.waitOutside d).twin = s.twin := rfl
@[simp] theorem waitShared_pending (d : DescRef) : (s.waitShared d).pending = s.pending := rfl
@[simp] theorem waitShared_grade (d : DescRef) : (s.waitShared d).grade = s.grade := rfl
@[simp] theorem waitShared_now (d : DescRef) : (s.waitShared d).now = s.now := rfl
@[simp] theorem waitShared_free (d : DescRef) : (s.waitShared d).free = s.free := rfl
@[simp] theorem waitShared_regs (d : DescRef) : (s.waitShared d).regs = s.regs := rfl
@[simp] theorem waitShared_out (d : DescRef) : (s.waitShared d).out = s.out := rfl
@[simp] theorem waitShared_glb (d : DescRef) : (s.waitShared d).glb = s.glb := rfl
@[simp] theorem waitShared_stu (d : DescRef) : (s.waitShared d).stu = s.stu := rfl
@[simp] theorem waitShared_log (d : DescRef) : (s.waitShared d).log = s.log := rfl
@[simp] theorem waitShared_alp (d : DescRef) : (s.waitShared d).alp = s.alp := rfl
@[simp] theorem waitShared_con (d : DescRef) : (s.waitShared d).con = s.con := rfl
@[simp] theorem waitShared_link (d : DescRef) : (s.waitShared d).link = s.link := rfl
@[simp] theorem waitShared_cce (d : DescRef) : (s.waitShared d).cce = s.cce := rfl
@[simp] theorem waitShared_thm (d : DescRef) : (s.waitShared d).thm = s.thm := rfl
@[simp] theorem waitShared_lsb (d : DescRef) : (s.waitShared d).lsb = s.lsb := rfl
@[simp] theorem waitShared_mte (d : DescRef) : (s.waitShared d).mte = s.mte := rfl
@[simp] theorem waitShared_rsl (d : DescRef) : (s.waitShared d).rsl = s.rsl := rfl
@[simp] theorem waitShared_kvt (d : DescRef) : (s.waitShared d).kvt = s.kvt := rfl
@[simp] theorem waitShared_see (d : DescRef) : (s.waitShared d).see = s.see := rfl
@[simp] theorem waitShared_cans (d : DescRef) : (s.waitShared d).cans = s.cans := rfl
@[simp] theorem waitShared_plu (d : DescRef) : (s.waitShared d).plu = s.plu := rfl
@[simp] theorem waitShared_sfi (d : DescRef) : (s.waitShared d).sfi = s.sfi := rfl
@[simp] theorem waitShared_twin (d : DescRef) : (s.waitShared d).twin = s.twin := rfl

/-- A descriptor whose command ends in its completion, the registers and the log as they were. -/
theorem desc_done {x : Host.Outcome State Fault Refusal} {l : List Nat} {c p : Nat} (h : s.ready d op = true) (u : State)
    (hx : x = .next (u.done d l c p)) (hh : u.hif.rings = (s.start d).hif.rings) (hr : u.regs = s.regs) (hl : u.log = s.log) :
    ∃ t, x = .next t ∧ t = u.done d l c p ∧ t.regs = s.regs ∧ t.log = s.log ∧ t.answered d false false p c l :=
  ⟨_, hx, rfl, (done_regs (still_served h hh) l c p).trans hr, (done_log (still_served h hh) l c p).trans hl,
    done_answered u (still_served h hh) l c p⟩

theorem foldl_keep {β γ : Type} (g : State → γ) {f : State → β → State} (hf : ∀ u x, g (f u x) = g u) (l : List β) (s : State) :
    g (l.foldl f s) = g s := by
  induction l generalizing s with
  | nil => rfl
  | cons x l ih => rw [List.foldl_cons, ih, hf]

end Sys2Proof.Laws
end

