-- ==== Sys2Proof/Laws/FOps.lean ====
section
/-!
SUPPORT. What the operations of Machine/Ops.lean leave as it was.
-/
namespace Sys2Proof.Laws

open Sys2Proof.Machine

@[simp] theorem setReg_frame (s : State) (off : Nat) (v : Nat) :
    (State.setReg s off v).pending = s.pending ∧ (State.setReg s off v).grade = s.grade ∧ (State.setReg s off v).now = s.now ∧
    (State.setReg s off v).free = s.free ∧ (State.setReg s off v).out = s.out ∧ (State.setReg s off v).glb = s.glb ∧
    (State.setReg s off v).stu = s.stu ∧ (State.setReg s off v).log = s.log ∧ (State.setReg s off v).hif = s.hif ∧
    (State.setReg s off v).alp = s.alp ∧ (State.setReg s off v).con = s.con ∧ (State.setReg s off v).link = s.link ∧
    (State.setReg s off v).cce = s.cce ∧ (State.setReg s off v).thm = s.thm ∧ (State.setReg s off v).lsb = s.lsb ∧
    (State.setReg s off v).mte = s.mte ∧ (State.setReg s off v).rsl = s.rsl ∧ (State.setReg s off v).kvt = s.kvt ∧
    (State.setReg s off v).see = s.see ∧ (State.setReg s off v).cans = s.cans ∧ (State.setReg s off v).plu = s.plu ∧
    (State.setReg s off v).sfi = s.sfi ∧ (State.setReg s off v).twin = s.twin := by
  unfold State.setReg
  refine ⟨?_, ?_, ?_, ?_, ?_, ?_, ?_, ?_, ?_, ?_, ?_, ?_, ?_, ?_, ?_, ?_, ?_, ?_, ?_, ?_, ?_, ?_, ?_⟩ <;>
  (first
      | rfl
      | (simp; done)
      | (dsimp only; done)
      | (split <;> (first | rfl | (simp; done)))
      | (dsimp only; split <;> (first | rfl | (simp; done)))
      | ((repeat' split) <;> (first | rfl | (simp; done)))
      | (dsimp only; (repeat' split) <;> (first | rfl | (simp; done))))

@[simp] theorem wrS_frame (s : State) (f : Fld) (v : Int) :
    (State.wrS s f v).pending = s.pending ∧ (State.wrS s f v).grade = s.grade ∧ (State.wrS s f v).now = s.now ∧
    (State.wrS s f v).free = s.free ∧ (State.wrS s f v).out = s.out ∧ (State.wrS s f v).glb = s.glb ∧
    (State.wrS s f v).stu = s.stu ∧ (State.wrS s f v).log = s.log ∧ (State.wrS s f v).hif = s.hif ∧
    (State.wrS s f v).alp = s.alp ∧ (State.wrS s f v).con = s.con ∧ (State.wrS s f v).link = s.link ∧
    (State.wrS s f v).cce = s.cce ∧ (State.wrS s f v).thm = s.thm ∧ (State.wrS s f v).lsb = s.lsb ∧
    (State.wrS s f v).mte = s.mte ∧ (State.wrS s f v).rsl = s.rsl ∧ (State.wrS s f v).kvt = s.kvt ∧
    (State.wrS s f v).see = s.see ∧ (State.wrS s f v).cans = s.cans ∧ (State.wrS s f v).plu = s.plu ∧
    (State.wrS s f v).sfi = s.sfi ∧ (State.wrS s f v).twin = s.twin := by
  unfold State.wrS
  refine ⟨?_, ?_, ?_, ?_, ?_, ?_, ?_, ?_, ?_, ?_, ?_, ?_, ?_, ?_, ?_, ?_, ?_, ?_, ?_, ?_, ?_, ?_, ?_⟩ <;>
  (first
      | rfl
      | (simp; done)
      | (dsimp only; done)
      | (split <;> (first | rfl | (simp; done)))
      | (dsimp only; split <;> (first | rfl | (simp; done)))
      | ((repeat' split) <;> (first | rfl | (simp; done)))
      | (dsimp only; (repeat' split) <;> (first | rfl | (simp; done))))

@[simp] theorem wrBit_frame (s : State) (f : Fld) (i : Nat) (b : Bool) :
    (State.wrBit s f i b).pending = s.pending ∧ (State.wrBit s f i b).grade = s.grade ∧ (State.wrBit s f i b).now = s.now ∧
    (State.wrBit s f i b).free = s.free ∧ (State.wrBit s f i b).out = s.out ∧ (State.wrBit s f i b).glb = s.glb ∧
    (State.wrBit s f i b).stu = s.stu ∧ (State.wrBit s f i b).log = s.log ∧ (State.wrBit s f i b).hif = s.hif ∧
    (State.wrBit s f i b).alp = s.alp ∧ (State.wrBit s f i b).con = s.con ∧ (State.wrBit s f i b).link = s.link ∧
    (State.wrBit s f i b).cce = s.cce ∧ (State.wrBit s f i b).thm = s.thm ∧ (State.wrBit s f i b).lsb = s.lsb ∧
    (State.wrBit s f i b).mte = s.mte ∧ (State.wrBit s f i b).rsl = s.rsl ∧ (State.wrBit s f i b).kvt = s.kvt ∧
    (State.wrBit s f i b).see = s.see ∧ (State.wrBit s f i b).cans = s.cans ∧ (State.wrBit s f i b).plu = s.plu ∧
    (State.wrBit s f i b).sfi = s.sfi ∧ (State.wrBit s f i b).twin = s.twin := by
  unfold State.wrBit
  refine ⟨?_, ?_, ?_, ?_, ?_, ?_, ?_, ?_, ?_, ?_, ?_, ?_, ?_, ?_, ?_, ?_, ?_, ?_, ?_, ?_, ?_, ?_, ?_⟩ <;>
  (first
      | rfl
      | (simp; done)
      | (dsimp only; done)
      | (split <;> (first | rfl | (simp; done)))
      | (dsimp only; split <;> (first | rfl | (simp; done)))
      | ((repeat' split) <;> (first | rfl | (simp; done)))
      | (dsimp only; (repeat' split) <;> (first | rfl | (simp; done))))

@[simp] theorem bumpWrap_frame (s : State) (f : Fld) (k : Nat) :
    (State.bumpWrap s f k).pending = s.pending ∧ (State.bumpWrap s f k).grade = s.grade ∧ (State.bumpWrap s f k).now = s.now ∧
    (State.bumpWrap s f k).free = s.free ∧ (State.bumpWrap s f k).out = s.out ∧ (State.bumpWrap s f k).glb = s.glb ∧
    (State.bumpWrap s f k).stu = s.stu ∧ (State.bumpWrap s f k).log = s.log ∧ (State.bumpWrap s f k).hif = s.hif ∧
    (State.bumpWrap s f k).alp = s.alp ∧ (State.bumpWrap s f k).con = s.con ∧ (State.bumpWrap s f k).link = s.link ∧
    (State.bumpWrap s f k).cce = s.cce ∧ (State.bumpWrap s f k).thm = s.thm ∧ (State.bumpWrap s f k).lsb = s.lsb ∧
    (State.bumpWrap s f k).mte = s.mte ∧ (State.bumpWrap s f k).rsl = s.rsl ∧ (State.bumpWrap s f k).kvt = s.kvt ∧
    (State.bumpWrap s f k).see = s.see ∧ (State.bumpWrap s f k).cans = s.cans ∧ (State.bumpWrap s f k).plu = s.plu ∧
    (State.bumpWrap s f k).sfi = s.sfi ∧ (State.bumpWrap s f k).twin = s.twin := by
  unfold State.bumpWrap
  refine ⟨?_, ?_, ?_, ?_, ?_, ?_, ?_, ?_, ?_, ?_, ?_, ?_, ?_, ?_, ?_, ?_, ?_, ?_, ?_, ?_, ?_, ?_, ?_⟩ <;>
  (first
      | rfl
      | (simp; done)
      | (dsimp only; done)
      | (split <;> (first | rfl | (simp; done)))
      | (dsimp only; split <;> (first | rfl | (simp; done)))
      | ((repeat' split) <;> (first | rfl | (simp; done)))
      | (dsimp only; (repeat' split) <;> (first | rfl | (simp; done))))

@[simp] theorem wr64_frame (s : State) (lo : Fld) (hi : Fld) (v : Nat) :
    (State.wr64 s lo hi v).pending = s.pending ∧ (State.wr64 s lo hi v).grade = s.grade ∧ (State.wr64 s lo hi v).now = s.now ∧
    (State.wr64 s lo hi v).free = s.free ∧ (State.wr64 s lo hi v).out = s.out ∧ (State.wr64 s lo hi v).glb = s.glb ∧
    (State.wr64 s lo hi v).stu = s.stu ∧ (State.wr64 s lo hi v).log = s.log ∧ (State.wr64 s lo hi v).hif = s.hif ∧
    (State.wr64 s lo hi v).alp = s.alp ∧ (State.wr64 s lo hi v).con = s.con ∧ (State.wr64 s lo hi v).link = s.link ∧
    (State.wr64 s lo hi v).cce = s.cce ∧ (State.wr64 s lo hi v).thm = s.thm ∧ (State.wr64 s lo hi v).lsb = s.lsb ∧
    (State.wr64 s lo hi v).mte = s.mte ∧ (State.wr64 s lo hi v).rsl = s.rsl ∧ (State.wr64 s lo hi v).kvt = s.kvt ∧
    (State.wr64 s lo hi v).see = s.see ∧ (State.wr64 s lo hi v).cans = s.cans ∧ (State.wr64 s lo hi v).plu = s.plu ∧
    (State.wr64 s lo hi v).sfi = s.sfi ∧ (State.wr64 s lo hi v).twin = s.twin := by
  unfold State.wr64
  refine ⟨?_, ?_, ?_, ?_, ?_, ?_, ?_, ?_, ?_, ?_, ?_, ?_, ?_, ?_, ?_, ?_, ?_, ?_, ?_, ?_, ?_, ?_, ?_⟩ <;>
  (first
      | rfl
      | (simp; done)
      | (dsimp only; done)
      | (split <;> (first | rfl | (simp; done)))
      | (dsimp only; split <;> (first | rfl | (simp; done)))
      | ((repeat' split) <;> (first | rfl | (simp; done)))
      | (dsimp only; (repeat' split) <;> (first | rfl | (simp; done))))

@[simp] theorem fresh_frame (s : State)  :
    (State.fresh s).2.pending = s.pending ∧ (State.fresh s).2.grade = s.grade ∧ (State.fresh s).2.now = s.now ∧
    (State.fresh s).2.regs = s.regs ∧ (State.fresh s).2.out = s.out ∧ (State.fresh s).2.glb = s.glb ∧
    (State.fresh s).2.stu = s.stu ∧ (State.fresh s).2.log = s.log ∧ (State.fresh s).2.hif = s.hif ∧
    (State.fresh s).2.alp = s.alp ∧ (State.fresh s).2.con = s.con ∧ (State.fresh s).2.link = s.link ∧
    (State.fresh s).2.cce = s.cce ∧ (State.fresh s).2.thm = s.thm ∧ (State.fresh s).2.lsb = s.lsb ∧
    (State.fresh s).2.mte = s.mte ∧ (State.fresh s).2.rsl = s.rsl ∧ (State.fresh s).2.kvt = s.kvt ∧
    (State.fresh s).2.see = s.see ∧ (State.fresh s).2.cans = s.cans ∧ (State.fresh s).2.plu = s.plu ∧
    (State.fresh s).2.sfi = s.sfi ∧ (State.fresh s).2.twin = s.twin := by
  unfold State.fresh
  refine ⟨?_, ?_, ?_, ?_, ?_, ?_, ?_, ?_, ?_, ?_, ?_, ?_, ?_, ?_, ?_, ?_, ?_, ?_, ?_, ?_, ?_, ?_, ?_⟩ <;>
  (first
      | rfl
      | (simp; done)
      | (dsimp only; done)
      | (split <;> (first | rfl | (simp; done)))
      | (dsimp only; split <;> (first | rfl | (simp; done)))
      | ((repeat' split) <;> (first | rfl | (simp; done)))
      | (dsimp only; (repeat' split) <;> (first | rfl | (simp; done))))
@[simp] theorem rd_fresh (s : State)  (f : Fld) : (State.fresh s).2.rd f = s.rd f := rd_regs (by simp) f

@[simp] theorem pushEvent_frame (s : State) (e : Event) :
    (State.pushEvent s e).pending = s.pending ∧ (State.pushEvent s e).grade = s.grade ∧ (State.pushEvent s e).now = s.now ∧
    (State.pushEvent s e).free = s.free ∧ (State.pushEvent s e).regs = s.regs ∧ (State.pushEvent s e).out = s.out ∧
    (State.pushEvent s e).glb = s.glb ∧ (State.pushEvent s e).stu = s.stu ∧ (State.pushEvent s e).hif = s.hif ∧
    (State.pushEvent s e).alp = s.alp ∧ (State.pushEvent s e).con = s.con ∧ (State.pushEvent s e).link = s.link ∧
    (State.pushEvent s e).cce = s.cce ∧ (State.pushEvent s e).thm = s.thm ∧ (State.pushEvent s e).lsb = s.lsb ∧
    (State.pushEvent s e).mte = s.mte ∧ (State.pushEvent s e).rsl = s.rsl ∧ (State.pushEvent s e).kvt = s.kvt ∧
    (State.pushEvent s e).see = s.see ∧ (State.pushEvent s e).cans = s.cans ∧ (State.pushEvent s e).plu = s.plu ∧
    (State.pushEvent s e).sfi = s.sfi ∧ (State.pushEvent s e).twin = s.twin := by
  unfold State.pushEvent
  refine ⟨?_, ?_, ?_, ?_, ?_, ?_, ?_, ?_, ?_, ?_, ?_, ?_, ?_, ?_, ?_, ?_, ?_, ?_, ?_, ?_, ?_, ?_, ?_⟩ <;>
  (first
      | rfl
      | (simp; done)
      | (dsimp only; done)
      | (split <;> (first | rfl | (simp; done)))
      | (dsimp only; split <;> (first | rfl | (simp; done)))
      | ((repeat' split) <;> (first | rfl | (simp; done)))
      | (dsimp only; (repeat' split) <;> (first | rfl | (simp; done))))
@[simp] theorem rd_pushEvent (s : State) (e : Event) (f : Fld) : (State.pushEvent s e).rd f = s.rd f := rd_regs (by simp) f

@[simp] theorem logFrom_frame (s : State) (source : Nat) (code : Nat) (entity : Nat) (a1 : Nat) (a2 : Nat) :
    (State.logFrom s source code entity a1 a2).pending = s.pending ∧ (State.logFrom s source code entity a1 a2).grade = s.grade ∧ (State.logFrom s source code entity a1 a2).now = s.now ∧
    (State.logFrom s source code entity a1 a2).free = s.free ∧ (State.logFrom s source code entity a1 a2).regs = s.regs ∧ (State.logFrom s source code entity a1 a2).out = s.out ∧
    (State.logFrom s source code entity a1 a2).glb = s.glb ∧ (State.logFrom s source code entity a1 a2).stu = s.stu ∧ (State.logFrom s source code entity a1 a2).hif = s.hif ∧
    (State.logFrom s source code entity a1 a2).alp = s.alp ∧ (State.logFrom s source code entity a1 a2).con = s.con ∧ (State.logFrom s source code entity a1 a2).link = s.link ∧
    (State.logFrom s source code entity a1 a2).cce = s.cce ∧ (State.logFrom s source code entity a1 a2).thm = s.thm ∧ (State.logFrom s source code entity a1 a2).lsb = s.lsb ∧
    (State.logFrom s source code entity a1 a2).mte = s.mte ∧ (State.logFrom s source code entity a1 a2).rsl = s.rsl ∧ (State.logFrom s source code entity a1 a2).kvt = s.kvt ∧
    (State.logFrom s source code entity a1 a2).see = s.see ∧ (State.logFrom s source code entity a1 a2).cans = s.cans ∧ (State.logFrom s source code entity a1 a2).plu = s.plu ∧
    (State.logFrom s source code entity a1 a2).sfi = s.sfi ∧ (State.logFrom s source code entity a1 a2).twin = s.twin := by
  unfold State.logFrom
  refine ⟨?_, ?_, ?_, ?_, ?_, ?_, ?_, ?_, ?_, ?_, ?_, ?_, ?_, ?_, ?_, ?_, ?_, ?_, ?_, ?_, ?_, ?_, ?_⟩ <;>
  (first
      | rfl
      | (simp; done)
      | (dsimp only; done)
      | (split <;> (first | rfl | (simp; done)))
      | (dsimp only; split <;> (first | rfl | (simp; done)))
      | ((repeat' split) <;> (first | rfl | (simp; done)))
      | (dsimp only; (repeat' split) <;> (first | rfl | (simp; done))))
@[simp] theorem rd_logFrom (s : State) (source : Nat) (code : Nat) (entity : Nat) (a1 : Nat) (a2 : Nat) (f : Fld) : (State.logFrom s source code entity a1 a2).rd f = s.rd f := rd_regs (by simp) f

@[simp] theorem refuseMode_frame (s : State) (target : Nat) (code : Nat) :
    (State.refuseMode s target code).pending = s.pending ∧ (State.refuseMode s target code).grade = s.grade ∧ (State.refuseMode s target code).now = s.now ∧
    (State.refuseMode s target code).free = s.free ∧ (State.refuseMode s target code).out = s.out ∧ (State.refuseMode s target code).glb = s.glb ∧
    (State.refuseMode s target code).stu = s.stu ∧ (State.refuseMode s target code).hif = s.hif ∧ (State.refuseMode s target code).alp = s.alp ∧
    (State.refuseMode s target code).con = s.con ∧ (State.refuseMode s target code).link = s.link ∧ (State.refuseMode s target code).cce = s.cce ∧
    (State.refuseMode s target code).thm = s.thm ∧ (State.refuseMode s target code).lsb = s.lsb ∧ (State.refuseMode s target code).mte = s.mte ∧
    (State.refuseMode s target code).rsl = s.rsl ∧ (State.refuseMode s target code).kvt = s.kvt ∧ (State.refuseMode s target code).see = s.see ∧
    (State.refuseMode s target code).cans = s.cans ∧ (State.refuseMode s target code).plu = s.plu ∧ (State.refuseMode s target code).sfi = s.sfi ∧
    (State.refuseMode s target code).twin = s.twin := by
  unfold State.refuseMode
  refine ⟨?_, ?_, ?_, ?_, ?_, ?_, ?_, ?_, ?_, ?_, ?_, ?_, ?_, ?_, ?_, ?_, ?_, ?_, ?_, ?_, ?_, ?_⟩ <;>
  (first
      | rfl
      | (simp; done)
      | (dsimp only; done)
      | (split <;> (first | rfl | (simp; done)))
      | (dsimp only; split <;> (first | rfl | (simp; done)))
      | ((repeat' split) <;> (first | rfl | (simp; done)))
      | (dsimp only; (repeat' split) <;> (first | rfl | (simp; done))))

@[simp] theorem preempt_frame (s : State)  :
    (State.preempt s).pending = s.pending ∧ (State.preempt s).grade = s.grade ∧ (State.preempt s).now = s.now ∧
    (State.preempt s).free = s.free ∧ (State.preempt s).out = s.out ∧ (State.preempt s).stu = s.stu ∧
    (State.preempt s).hif = s.hif ∧ (State.preempt s).alp = s.alp ∧ (State.preempt s).con = s.con ∧
    (State.preempt s).link = s.link ∧ (State.preempt s).cce = s.cce ∧ (State.preempt s).thm = s.thm ∧
    (State.preempt s).lsb = s.lsb ∧ (State.preempt s).mte = s.mte ∧ (State.preempt s).rsl = s.rsl ∧
    (State.preempt s).kvt = s.kvt ∧ (State.preempt s).see = s.see ∧ (State.preempt s).cans = s.cans ∧
    (State.preempt s).plu = s.plu ∧ (State.preempt s).sfi = s.sfi ∧ (State.preempt s).twin = s.twin := by
  unfold State.preempt
  refine ⟨?_, ?_, ?_, ?_, ?_, ?_, ?_, ?_, ?_, ?_, ?_, ?_, ?_, ?_, ?_, ?_, ?_, ?_, ?_, ?_, ?_⟩ <;>
  (first
      | rfl
      | (simp; done)
      | (dsimp only; done)
      | (split <;> (first | rfl | (simp; done)))
      | (dsimp only; split <;> (first | rfl | (simp; done)))
      | ((repeat' split) <;> (first | rfl | (simp; done)))
      | (dsimp only; (repeat' split) <;> (first | rfl | (simp; done))))

@[simp] theorem limpTrigger_frame (s : State) (cause : Nat) :
    (State.limpTrigger s cause).pending = s.pending ∧ (State.limpTrigger s cause).grade = s.grade ∧ (State.limpTrigger s cause).now = s.now ∧
    (State.limpTrigger s cause).free = s.free ∧ (State.limpTrigger s cause).out = s.out ∧ (State.limpTrigger s cause).stu = s.stu ∧
    (State.limpTrigger s cause).hif = s.hif ∧ (State.limpTrigger s cause).alp = s.alp ∧ (State.limpTrigger s cause).con = s.con ∧
    (State.limpTrigger s cause).link = s.link ∧ (State.limpTrigger s cause).cce = s.cce ∧ (State.limpTrigger s cause).thm = s.thm ∧
    (State.limpTrigger s cause).lsb = s.lsb ∧ (State.limpTrigger s cause).mte = s.mte ∧ (State.limpTrigger s cause).rsl = s.rsl ∧
    (State.limpTrigger s cause).kvt = s.kvt ∧ (State.limpTrigger s cause).see = s.see ∧ (State.limpTrigger s cause).cans = s.cans ∧
    (State.limpTrigger s cause).plu = s.plu ∧ (State.limpTrigger s cause).sfi = s.sfi ∧ (State.limpTrigger s cause).twin = s.twin := by
  unfold State.limpTrigger
  refine ⟨?_, ?_, ?_, ?_, ?_, ?_, ?_, ?_, ?_, ?_, ?_, ?_, ?_, ?_, ?_, ?_, ?_, ?_, ?_, ?_, ?_⟩ <;>
  (first
      | rfl
      | (simp; done)
      | (dsimp only; done)
      | (split <;> (first | rfl | (simp; done)))
      | (dsimp only; split <;> (first | rfl | (simp; done)))
      | ((repeat' split) <;> (first | rfl | (simp; done)))
      | (dsimp only; (repeat' split) <;> (first | rfl | (simp; done))))

@[simp] theorem gradeLimit_frame (s : State) (entity : Nat) (off : Nat) :
    (State.gradeLimit s entity off).pending = s.pending ∧ (State.gradeLimit s entity off).grade = s.grade ∧ (State.gradeLimit s entity off).now = s.now ∧
    (State.gradeLimit s entity off).free = s.free ∧ (State.gradeLimit s entity off).regs = s.regs ∧ (State.gradeLimit s entity off).out = s.out ∧
    (State.gradeLimit s entity off).glb = s.glb ∧ (State.gradeLimit s entity off).stu = s.stu ∧ (State.gradeLimit s entity off).hif = s.hif ∧
    (State.gradeLimit s entity off).alp = s.alp ∧ (State.gradeLimit s entity off).con = s.con ∧ (State.gradeLimit s entity off).link = s.link ∧
    (State.gradeLimit s entity off).cce = s.cce ∧ (State.gradeLimit s entity off).thm = s.thm ∧ (State.gradeLimit s entity off).lsb = s.lsb ∧
    (State.gradeLimit s entity off).mte = s.mte ∧ (State.gradeLimit s entity off).rsl = s.rsl ∧ (State.gradeLimit s entity off).kvt = s.kvt ∧
    (State.gradeLimit s entity off).see = s.see ∧ (State.gradeLimit s entity off).cans = s.cans ∧ (State.gradeLimit s entity off).plu = s.plu ∧
    (State.gradeLimit s entity off).sfi = s.sfi ∧ (State.gradeLimit s entity off).twin = s.twin := by
  unfold State.gradeLimit
  refine ⟨?_, ?_, ?_, ?_, ?_, ?_, ?_, ?_, ?_, ?_, ?_, ?_, ?_, ?_, ?_, ?_, ?_, ?_, ?_, ?_, ?_, ?_, ?_⟩ <;>
  (first
      | rfl
      | (simp; done)
      | (dsimp only; done)
      | (split <;> (first | rfl | (simp; done)))
      | (dsimp only; split <;> (first | rfl | (simp; done)))
      | ((repeat' split) <;> (first | rfl | (simp; done)))
      | (dsimp only; (repeat' split) <;> (first | rfl | (simp; done))))
@[simp] theorem rd_gradeLimit (s : State) (entity : Nat) (off : Nat) (f : Fld) : (State.gradeLimit s entity off).rd f = s.rd f := rd_regs (by simp) f

@[simp] theorem gradeCut_frame (s : State) (off : Nat) (v : Nat) :
    (State.gradeCut s off v).1.pending = s.pending ∧ (State.gradeCut s off v).1.grade = s.grade ∧ (State.gradeCut s off v).1.now = s.now ∧
    (State.gradeCut s off v).1.free = s.free ∧ (State.gradeCut s off v).1.regs = s.regs ∧ (State.gradeCut s off v).1.out = s.out ∧
    (State.gradeCut s off v).1.glb = s.glb ∧ (State.gradeCut s off v).1.stu = s.stu ∧ (State.gradeCut s off v).1.hif = s.hif ∧
    (State.gradeCut s off v).1.alp = s.alp ∧ (State.gradeCut s off v).1.con = s.con ∧ (State.gradeCut s off v).1.link = s.link ∧
    (State.gradeCut s off v).1.cce = s.cce ∧ (State.gradeCut s off v).1.thm = s.thm ∧ (State.gradeCut s off v).1.lsb = s.lsb ∧
    (State.gradeCut s off v).1.mte = s.mte ∧ (State.gradeCut s off v).1.rsl = s.rsl ∧ (State.gradeCut s off v).1.kvt = s.kvt ∧
    (State.gradeCut s off v).1.see = s.see ∧ (State.gradeCut s off v).1.cans = s.cans ∧ (State.gradeCut s off v).1.plu = s.plu ∧
    (State.gradeCut s off v).1.sfi = s.sfi ∧ (State.gradeCut s off v).1.twin = s.twin := by
  unfold State.gradeCut
  refine ⟨?_, ?_, ?_, ?_, ?_, ?_, ?_, ?_, ?_, ?_, ?_, ?_, ?_, ?_, ?_, ?_, ?_, ?_, ?_, ?_, ?_, ?_, ?_⟩ <;>
  (first
      | rfl
      | (simp; done)
      | (dsimp only; done)
      | (split <;> (first | rfl | (simp; done)))
      | (dsimp only; split <;> (first | rfl | (simp; done)))
      | ((repeat' split) <;> (first | rfl | (simp; done)))
      | (dsimp only; (repeat' split) <;> (first | rfl | (simp; done))))
@[simp] theorem rd_gradeCut (s : State) (off : Nat) (v : Nat) (f : Fld) : (State.gradeCut s off v).1.rd f = s.rd f := rd_regs (by simp) f

@[simp] theorem message_frame (s : State)  :
    (State.message s).pending = s.pending ∧ (State.message s).grade = s.grade ∧ (State.message s).now = s.now ∧
    (State.message s).free = s.free ∧ (State.message s).regs = s.regs ∧ (State.message s).glb = s.glb ∧
    (State.message s).stu = s.stu ∧ (State.message s).log = s.log ∧ (State.message s).alp = s.alp ∧
    (State.message s).con = s.con ∧ (State.message s).link = s.link ∧ (State.message s).cce = s.cce ∧
    (State.message s).thm = s.thm ∧ (State.message s).lsb = s.lsb ∧ (State.message s).mte = s.mte ∧
    (State.message s).rsl = s.rsl ∧ (State.message s).kvt = s.kvt ∧ (State.message s).see = s.see ∧
    (State.message s).cans = s.cans ∧ (State.message s).plu = s.plu ∧ (State.message s).sfi = s.sfi ∧
    (State.message s).twin = s.twin := by
  unfold State.message
  refine ⟨?_, ?_, ?_, ?_, ?_, ?_, ?_, ?_, ?_, ?_, ?_, ?_, ?_, ?_, ?_, ?_, ?_, ?_, ?_, ?_, ?_, ?_⟩ <;>
  (first
      | rfl
      | (simp; done)
      | (dsimp only; done)
      | (split <;> (first | rfl | (simp; done)))
      | (dsimp only; split <;> (first | rfl | (simp; done)))
      | ((repeat' split) <;> (first | rfl | (simp; done)))
      | (dsimp only; (repeat' split) <;> (first | rfl | (simp; done))))
@[simp] theorem rd_message (s : State)  (f : Fld) : (State.message s).rd f = s.rd f := rd_regs (by simp) f

@[simp] theorem attn_frame (s : State) (b : Nat) :
    (State.attn s b).pending = s.pending ∧ (State.attn s b).grade = s.grade ∧ (State.attn s b).now = s.now ∧
    (State.attn s b).free = s.free ∧ (State.attn s b).glb = s.glb ∧ (State.attn s b).stu = s.stu ∧
    (State.attn s b).log = s.log ∧ (State.attn s b).alp = s.alp ∧ (State.attn s b).con = s.con ∧
    (State.attn s b).link = s.link ∧ (State.attn s b).cce = s.cce ∧ (State.attn s b).thm = s.thm ∧
    (State.attn s b).lsb = s.lsb ∧ (State.attn s b).mte = s.mte ∧ (State.attn s b).rsl = s.rsl ∧
    (State.attn s b).kvt = s.kvt ∧ (State.attn s b).see = s.see ∧ (State.attn s b).cans = s.cans ∧
    (State.attn s b).plu = s.plu ∧ (State.attn s b).sfi = s.sfi ∧ (State.attn s b).twin = s.twin := by
  unfold State.attn
  refine ⟨?_, ?_, ?_, ?_, ?_, ?_, ?_, ?_, ?_, ?_, ?_, ?_, ?_, ?_, ?_, ?_, ?_, ?_, ?_, ?_, ?_⟩ <;>
  (first
      | rfl
      | (simp; done)
      | (dsimp only; done)
      | (split <;> (first | rfl | (simp; done)))
      | (dsimp only; split <;> (first | rfl | (simp; done)))
      | ((repeat' split) <;> (first | rfl | (simp; done)))
      | (dsimp only; (repeat' split) <;> (first | rfl | (simp; done))))

@[simp] theorem report_frame (s : State) (r : Nat) (idx : Nat) (progress : Nat) (result : List Nat) :
    (State.report s r idx progress result).pending = s.pending ∧ (State.report s r idx progress result).grade = s.grade ∧ (State.report s r idx progress result).now = s.now ∧
    (State.report s r idx progress result).free = s.free ∧ (State.report s r idx progress result).regs = s.regs ∧ (State.report s r idx progress result).glb = s.glb ∧
    (State.report s r idx progress result).stu = s.stu ∧ (State.report s r idx progress result).log = s.log ∧ (State.report s r idx progress result).alp = s.alp ∧
    (State.report s r idx progress result).con = s.con ∧ (State.report s r idx progress result).link = s.link ∧ (State.report s r idx progress result).cce = s.cce ∧
    (State.report s r idx progress result).thm = s.thm ∧ (State.report s r idx progress result).lsb = s.lsb ∧ (State.report s r idx progress result).mte = s.mte ∧
    (State.report s r idx progress result).rsl = s.rsl ∧ (State.report s r idx progress result).kvt = s.kvt ∧ (State.report s r idx progress result).see = s.see ∧
    (State.report s r idx progress result).cans = s.cans ∧ (State.report s r idx progress result).plu = s.plu ∧ (State.report s r idx progress result).sfi = s.sfi ∧
    (State.report s r idx progress result).twin = s.twin := by
  unfold State.report
  refine ⟨?_, ?_, ?_, ?_, ?_, ?_, ?_, ?_, ?_, ?_, ?_, ?_, ?_, ?_, ?_, ?_, ?_, ?_, ?_, ?_, ?_, ?_⟩ <;>
  (first
      | rfl
      | (simp; done)
      | (dsimp only; done)
      | (split <;> (first | rfl | (simp; done)))
      | (dsimp only; split <;> (first | rfl | (simp; done)))
      | ((repeat' split) <;> (first | rfl | (simp; done)))
      | (dsimp only; (repeat' split) <;> (first | rfl | (simp; done))))
@[simp] theorem rd_report (s : State) (r : Nat) (idx : Nat) (progress : Nat) (result : List Nat) (f : Fld) : (State.report s r idx progress result).rd f = s.rd f := rd_regs (by simp) f

@[simp] theorem failAbsent_frame (s : State) (d : DescRef) (entity : Nat) (code : Nat) :
    (State.failAbsent s d entity code).pending = s.pending ∧ (State.failAbsent s d entity code).grade = s.grade ∧ (State.failAbsent s d entity code).now = s.now ∧
    (State.failAbsent s d entity code).free = s.free ∧ (State.failAbsent s d entity code).glb = s.glb ∧ (State.failAbsent s d entity code).stu = s.stu ∧
    (State.failAbsent s d entity code).alp = s.alp ∧ (State.failAbsent s d entity code).con = s.con ∧ (State.failAbsent s d entity code).link = s.link ∧
    (State.failAbsent s d entity code).cce = s.cce ∧ (State.failAbsent s d entity code).thm = s.thm ∧ (State.failAbsent s d entity code).lsb = s.lsb ∧
    (State.failAbsent s d entity code).mte = s.mte ∧ (State.failAbsent s d entity code).rsl = s.rsl ∧ (State.failAbsent s d entity code).kvt = s.kvt ∧
    (State.failAbsent s d entity code).see = s.see ∧ (State.failAbsent s d entity code).cans = s.cans ∧ (State.failAbsent s d entity code).plu = s.plu ∧
    (State.failAbsent s d entity code).sfi = s.sfi ∧ (State.failAbsent s d entity code).twin = s.twin := by
  unfold State.failAbsent
  refine ⟨?_, ?_, ?_, ?_, ?_, ?_, ?_, ?_, ?_, ?_, ?_, ?_, ?_, ?_, ?_, ?_, ?_, ?_, ?_, ?_⟩ <;>
  (first
      | rfl
      | (simp; done)
      | (dsimp only; done)
      | (split <;> (first | rfl | (simp; done)))
      | (dsimp only; split <;> (first | rfl | (simp; done)))
      | ((repeat' split) <;> (first | rfl | (simp; done)))
      | (dsimp only; (repeat' split) <;> (first | rfl | (simp; done))))

end Sys2Proof.Laws
end

