-- ==== Sys2Proof/Laws/Lane.lean ====
section
/-!
SUPPORT. Serial lanes: what entering a state, leaving ACTIVE and the other steps of a lane do to it.
-/
namespace Sys2Proof.Laws

open Sys2Proof.Machine
open Host (Outcome)

variable (s : State) (l : Nat)

theorem lane_link {s t : State} (h : t.link = s.link) (l : Nat) : t.lane l = s.lane l := by unfold State.lane; rw [h]

theorem laneState_regs {s t : State} (h : t.regs = s.regs) (l : Nat) : t.laneState l = s.laneState l := by
  unfold State.laneState; rw [rd_regs h]

@[simp] theorem lane_modLane (f : Lane → Lane) : (s.modLane l f).lane l = f (s.lane l) := by
  unfold State.modLane
  unfold State.lane
  exact tget_tset_same _ _ _ _

@[simp] theorem laneState_modLane (f : Lane → Lane) (k : Nat) : (s.modLane l f).laneState k = s.laneState k := rfl

@[simp] theorem lane_wr (f : Fld) (v k : Nat) : (s.wr f v).lane k = s.lane k := rfl
@[simp] theorem lane_bump (f : Fld) (v k : Nat) : (s.bump f v).lane k = s.lane k := rfl
@[simp] theorem lane_emit (x : Out) (k : Nat) : (s.emit x).lane k = s.lane k := rfl
@[simp] theorem lane_ev (c e a b k : Nat) : (s.ev c e a b).lane k = s.lane k := lane_link (by simp) k
@[simp] theorem laneState_ev (c e a b k : Nat) : (s.ev c e a b).laneState k = s.laneState k := laneState_regs (by simp) k
@[simp] theorem lane_waitTill (t k : Nat) : (s.waitTill t).lane k = s.lane k := lane_link (by simp) k
@[simp] theorem laneState_waitTill (t k : Nat) : (s.waitTill t).laneState k = s.laneState k := laneState_regs (by simp) k
@[simp] theorem lane_cycles (t k : Nat) : (s.cycles t).lane k = s.lane k := lane_link (by simp) k
@[simp] theorem laneState_cycles (t k : Nat) : (s.cycles t).laneState k = s.laneState k := laneState_regs (by simp) k

/-! ### The registers of a lane -/

/-- A register of a lane's group lies below its configuration registers. -/
theorem laneOff_lt (h : l < 14) (k : Nat) (hk : k < 0x40) :
    (0x20000 ≤ laneBase l + k ∧ laneBase l + k < 0x20300) ∨ (0x28000 ≤ laneBase l + k ∧ laneBase l + k < 0x28080) := by
  unfold laneBase; split <;> omega

theorem wrBit_other {f g : Fld} (i : Nat) (b : Bool) (h : f.off ≠ g.off) : (s.wrBit f i b).rd g = s.rd g := rd_wr_other _ _ h

theorem rd_noteUp {f : Fld} (h1 : f.off ≠ CLC_UP.ACTIVE.off) (h2 : f.off ≠ DLC_YOKE_STAT.UP.off) : (s.noteUp l).rd f = s.rd f := by
  unfold State.noteUp
  split
  · exact wrBit_other _ _ _ (Ne.symm h1)
  · exact wrBit_other _ _ _ (Ne.symm h2)

theorem lane_noteUp (k : Nat) : (s.noteUp l).lane k = s.lane k := by
  unfold State.noteUp; split <;> rfl

theorem noteUp_keep : (s.noteUp l).now = s.now ∧ (s.noteUp l).log = s.log ∧ (s.noteUp l).glb = s.glb ∧
    (s.noteUp l).out = s.out ∧ (s.noteUp l).alp = s.alp ∧ (s.noteUp l).stu = s.stu := by
  unfold State.noteUp; split <;> exact ⟨rfl, rfl, rfl, rfl, rfl, rfl⟩

variable {l}

theorem laneReg_up (h : l < 14) {k : Nat} (hk : k < 0x40) (lo w : Nat) :
    (⟨laneBase l + k, lo, w⟩ : Fld).off ≠ CLC_UP.ACTIVE.off ∧ (⟨laneBase l + k, lo, w⟩ : Fld).off ≠ DLC_YOKE_STAT.UP.off := by
  have := laneOff_lt l h k hk
  show laneBase l + k ≠ 0x20408 ∧ laneBase l + k ≠ 0x28408
  omega

/-- A lane that enters a state is in it. -/
theorem laneState_enter (h : l < 14) {c : Nat} (hc : c < 16) : (s.enterLane l c).laneState l = c := by
  have hu := laneReg_up h (k := 4) (by decide) 0 4
  show (State.noteUp _ l).rd (LN.STATE l) = c
  rw [rd_noteUp _ _ hu.1 hu.2]
  show (s.wr (LN.STATE l) c).rd (LN.STATE l) = c
  rw [rd_wr_same _ _ (by show 0 + 4 ≤ 32; decide)]
  exact Nat.mod_eq_of_lt hc

theorem lane_enter (c : Nat) : (s.enterLane l c).lane l = (s.lane l).entered s.now c := by
  unfold State.enterLane
  rw [lane_noteUp, lane_modLane, lane_wr]

theorem enter_keep (c : Nat) : (s.enterLane l c).now = s.now ∧ (s.enterLane l c).log = s.log ∧ (s.enterLane l c).glb = s.glb ∧
    (s.enterLane l c).out = s.out ∧ (s.enterLane l c).alp = s.alp ∧ (s.enterLane l c).stu = s.stu := noteUp_keep _ _

/-- The other registers of its group stay. -/
theorem rd_enter {f : Fld} (c : Nat) (h0 : f.off ≠ laneBase l + 4) (h1 : f.off ≠ CLC_UP.ACTIVE.off) (h2 : f.off ≠ DLC_YOKE_STAT.UP.off) :
    (s.enterLane l c).rd f = s.rd f := by
  unfold State.enterLane
  rw [rd_noteUp _ _ h1 h2]
  exact rd_wr_other s _ (Ne.symm h0)

theorem mainUp_enter (h : l < 14) (c : Nat) : (s.enterLane l c).mainUp = s.mainUp := by
  refine mainUp_congr (enter_keep s c).2.2.1 (rd_enter s c ?_ (by decide) (by decide))
  have := laneOff_lt l h 4 (by decide)
  show 0x60 ≠ laneBase l + 4
  omega

/-- A lane that leaves ACTIVE: its new state, what it forgets, the event, and then its scan and the yoke. -/
theorem laneDown_facts (h : l < 14) (ha : s.laneActive l = true) (cause : Nat) {next : Nat} (hn : next < 16) (h3 : next ≠ 3) (hm : s.mainUp = true) :
    ∃ u : State, s.laneDown l cause next = (if l < 12 then u.abortScan l else (u.abortScan l).yokeDown l) ∧
      u.laneState l = next ∧ (u.lane l).exitAt = s.now ∧ (u.lane l).meas = none ∧
      s.logOne u (laneEv l 2) (entLane l) (cause % 2 ^ 64) 6 := by
  refine ⟨((s.enterLane l next).modLane l (fun x => x.cleared s.now)).ev (laneEv l 2) (entLane l) cause 6, ?_, ?_, ?_, ?_, ?_⟩
  · unfold State.laneDown; rw [if_pos ha]; unfold State.goLane; rw [if_neg h3]
  · rw [laneState_ev, laneState_modLane, laneState_enter s h hn]
  · rw [lane_ev, lane_modLane]; rfl
  · rw [lane_ev, lane_modLane]; rfl
  · have hm2 : ((s.enterLane l next).modLane l (fun x => x.cleared s.now)).mainUp = true := by
      exact (mainUp_congr (s := s.enterLane l next) (t := (s.enterLane l next).modLane l (fun x => x.cleared s.now)) rfl rfl).trans
        ((mainUp_enter s h next).trans hm)
    have hk := (enter_keep (l := l) s next).2.1
    have := ev_logOne ((s.enterLane l next).modLane l (fun x => x.cleared s.now)) (laneEv l 2) (entLane l) cause 6 hm2 (muted_lane _ _ _ h)
    unfold State.logOne at *
    rw [show ((s.enterLane l next).modLane l (fun x => x.cleared s.now)).log = s.log from hk] at this
    exact this

theorem laneState_toDetect (h : l < 14) : (s.toDetect l).laneState l = 2 := by
  unfold State.toDetect
  rw [laneState_modLane, laneState_enter s h (by decide)]

theorem onLane_up {s : State} (h : s.mainUp = true) (k : State → State) : s.onLane k = (k s).twinWatch.scanReports := by
  unfold State.onLane; rw [if_pos h]

theorem laneCtl_up {s : State} {l : Nat} (h : s.up = true) (hp : s.grade = .ph4812 → l < 12) (k : State → State) :
    s.laneCtl l k = (k s).twinWatch := by
  unfold State.laneCtl
  rw [if_neg (by simp [h]), if_neg]
  simp only [Bool.and_eq_true, decide_eq_true_eq, not_and, Nat.not_le]
  exact hp

/-! ### Frames received -/

theorem lane_laneRx (q : Nat) : (s.laneRx l q).lane l = { s.lane l with fseqRx := some q, rxAt := s.now } := by
  unfold State.laneRx
  dsimp only
  rw [lane_modLane, lane_bump]

theorem laneRx_keep (q : Nat) : (s.laneRx l q).now = s.now ∧ (s.laneRx l q).log = s.log ∧ (s.laneRx l q).glb = s.glb ∧
    (s.laneRx l q).out = s.out ∧ (s.laneRx l q).alp = s.alp ∧ (s.laneRx l q).stu = s.stu ∧ (s.laneRx l q).twin = s.twin := by
  unfold State.laneRx
  exact ⟨rfl, rfl, rfl, rfl, rfl, rfl, rfl⟩

/-- LOST_CNT is all a received frame changes among the registers. -/
theorem rd_laneRx {f : Fld} (q : Nat) (h : f.off ≠ laneBase l + 0xC) : (s.laneRx l q).rd f = s.rd f := by
  unfold State.laneRx
  exact rd_wr_other s _ (Ne.symm h)

theorem laneState_laneRx (q : Nat) : (s.laneRx l q).laneState l = s.laneState l :=
  rd_laneRx s q (by show laneBase l + 4 ≠ laneBase l + 0xC; omega)

/-- A frame sent: it is on the lane with the next FSEQ. -/
theorem laneTx_out (y : Nat) (p : List Nat) : (s.laneTx l y p).out =
    .lane l (s.now + s.txDelay l p.length) (sentBlocks (((s.lane l).fseqTx + 1) % 65536) y p) :: s.out := rfl

theorem lane_laneTx (y : Nat) (p : List Nat) :
    (s.laneTx l y p).lane l =
      { s.lane l with
        fseqTx := ((s.lane l).fseqTx + 1) % 65536, txAt := s.now + s.txDelay l p.length
        txFree := s.now + s.txDelay l p.length + blocksNs l (sentBlocks (((s.lane l).fseqTx + 1) % 65536) y p).length } := by
  unfold State.laneTx State.laneOut
  dsimp only
  rw [lane_emit, lane_modLane]

end Sys2Proof.Laws
end

