-- ==== Sys2Proof/Laws/Quiet.lean ====
section
/-!
SUPPORT. The relation that every operation keeps which is neither a reset nor a change of mode, and its own small laws.
-/
namespace Sys2Proof.Laws

open Sys2Proof.Machine

/-- From `a` to `s` nothing happened but ordinary work: the grade, the queue, the mode and the reset state are as they were
(a LIMP entry may have become pending), the clock has not gone back, and a sound register file and event log stayed sound. -/
structure Quiet (a s : State) : Prop where
  grade : s.grade = a.grade
  pending : s.pending = a.pending
  glb : { s.glb with limpPend := none } = { a.glb with limpPend := none }
  regs : a.regsOk = true → s.regsOk = true
  log : a.logOk = true → s.logOk = true
  now : a.now ≤ s.now

variable {a s t : State}

theorem Quiet.refl (s : State) : Quiet s s := ⟨rfl, rfl, rfl, id, id, Nat.le_refl _⟩

theorem Quiet.trans (h : Quiet a s) (k : Quiet s t) : Quiet a t :=
  ⟨k.grade.trans h.grade, k.pending.trans h.pending, k.glb.trans h.glb, fun x => k.regs (h.regs x), fun x => k.log (h.log x),
    Nat.le_trans h.now k.now⟩

/-- An update of any of the other fields. -/
theorem Quiet.upd (h : Quiet a s) {free out stu hif alp con link cce thm lsb mte rsl kvt see cans plu sfi twin} :
    Quiet a { pending := s.pending, grade := s.grade, now := s.now, free := free, regs := s.regs, out := out, glb := s.glb,
              stu := stu, log := s.log, hif := hif, alp := alp, con := con, link := link, cce := cce, thm := thm, lsb := lsb,
              mte := mte, rsl := rsl, kvt := kvt, see := see, cans := cans, plu := plu, sfi := sfi, twin := twin } :=
  ⟨h.grade, h.pending, h.glb, h.regs, h.log, h.now⟩

/-- Registers back at their reset values, with any update of the other fields. -/
theorem Quiet.filter (h : Quiet a s) {p : Nat × BitVec 32 → Bool}
    {free out stu hif alp con link cce thm lsb mte rsl kvt see cans plu sfi twin} :
    Quiet a { pending := s.pending, grade := s.grade, now := s.now, free := free, regs := s.regs.filter p, out := out,
              glb := s.glb, stu := stu, log := s.log, hif := hif, alp := alp, con := con, link := link, cce := cce, thm := thm,
              lsb := lsb, mte := mte, rsl := rsl, kvt := kvt, see := see, cans := cans, plu := plu, sfi := sfi, twin := twin } :=
  ⟨h.grade, h.pending, h.glb, fun x => tabWfFrom_filter p (h.regs x), h.log, h.now⟩

theorem Quiet.mode (h : Quiet a s) : s.glb.mode = a.glb.mode := by
  have := congrArg Glb.mode h.glb
  exact this

theorem Quiet.booting (h : Quiet a s) : s.glb.booting = a.glb.booting := by
  have := congrArg Glb.booting h.glb
  exact this

theorem Quiet.holds (h : Quiet a s) : s.glb.holds = a.glb.holds := by
  have := congrArg Glb.holds h.glb
  exact this

theorem Quiet.lastCause (h : Quiet a s) : s.glb.lastCause = a.glb.lastCause := by
  have := congrArg Glb.lastCause h.glb
  exact this

theorem Quiet.prevMode (h : Quiet a s) : s.glb.prevMode = a.glb.prevMode := by
  have := congrArg Glb.prevMode h.glb
  exact this

/-- What every operation keeps, a reset and a change of mode among them: the grade and the queue; the clock does not go back;
a sound register file and event log stay sound; a PH4812 does not come into SHADOW. -/
structure Kept (a s : State) : Prop where
  grade : s.grade = a.grade
  pending : s.pending = a.pending
  regs : a.regsOk = true → s.regsOk = true
  log : a.logOk = true → s.logOk = true
  now : a.now ≤ s.now
  mode : a.gradeOk = true → s.gradeOk = true

theorem Kept.refl (s : State) : Kept s s := ⟨rfl, rfl, id, id, Nat.le_refl _, id⟩

theorem Kept.trans (h : Kept a s) (k : Kept s t) : Kept a t :=
  ⟨k.grade.trans h.grade, k.pending.trans h.pending, fun x => k.regs (h.regs x), fun x => k.log (h.log x),
    Nat.le_trans h.now k.now, fun x => k.mode (h.mode x)⟩

/-- Ordinary work after an operation. -/
theorem Kept.quiet (h : Kept a s) (k : Quiet s t) : Kept a t := by
  refine ⟨k.grade.trans h.grade, k.pending.trans h.pending, fun x => k.regs (h.regs x), fun x => k.log (h.log x),
    Nat.le_trans h.now k.now, fun x => ?_⟩
  have := h.mode x
  unfold State.gradeOk at *
  rwa [k.grade, k.mode]

/-- An update of other fields, the mode left as it was. -/
theorem Kept.upd (h : Kept a s) {free out glb stu hif alp con link cce thm lsb mte rsl kvt see cans plu sfi twin}
    (hm : glb.mode = s.glb.mode) :
    Kept a { pending := s.pending, grade := s.grade, now := s.now, free := free, regs := s.regs, out := out, glb := glb,
             stu := stu, log := s.log, hif := hif, alp := alp, con := con, link := link, cce := cce, thm := thm, lsb := lsb,
             mte := mte, rsl := rsl, kvt := kvt, see := see, cans := cans, plu := plu, sfi := sfi, twin := twin } := by
  refine ⟨h.grade, h.pending, h.regs, h.log, h.now, fun x => ?_⟩
  have := h.mode x
  unfold State.gradeOk at *
  dsimp only
  rwa [hm]

/-- The events kept in VAON change: the log is as it was. -/
theorem Kept.keep (h : Kept a s) {k : List Event} : Kept a { s with log := { s.log with kept := k } } :=
  ⟨h.grade, h.pending, h.regs, h.log, h.now, h.mode⟩

/-- The main domains start anew: registers back at their reset values, an empty log, DORMANT. -/
theorem Kept.restart (h : Kept a s) {p : Nat × BitVec 32 → Bool} {k : List Event}
    {free out glb stu hif alp con link cce thm lsb mte rsl kvt see cans plu sfi twin} (hm : glb.mode = .dormant) :
    Kept a { pending := s.pending, grade := s.grade, now := s.now, free := free, regs := s.regs.filter p, out := out, glb := glb,
             stu := stu, log := { events := [], head := 0, kept := k }, hif := hif, alp := alp, con := con, link := link,
             cce := cce, thm := thm, lsb := lsb, mte := mte, rsl := rsl, kvt := kvt, see := see, cans := cans, plu := plu,
             sfi := sfi, twin := twin } := by
  refine ⟨h.grade, h.pending, fun x => tabWfFrom_filter p (h.regs x), fun _ => rfl, h.now, fun _ => ?_⟩
  unfold State.gradeOk
  dsimp only
  rw [hm]
  exact Bool.or_true _

/-- Entry to a mode; SHADOW is entered only by a part that is no PH4812. -/
theorem Kept.enter (h : Kept a s) {g : Glb} (hm : g.mode = .shadow → s.grade ≠ .ph4812) : Kept a { s with glb := g } := by
  refine ⟨h.grade, h.pending, h.regs, h.log, h.now, fun _ => ?_⟩
  unfold State.gradeOk
  by_cases e : g.mode = .shadow
  · have := hm e
    simp [bne_iff_ne, this]
  · simp [bne_iff_ne, e]

theorem ite_kept {c : Prop} [Decidable c] {x y : State} (hx : Kept a x) (hy : Kept a y) : Kept a (if c then x else y) := by
  split
  · exact hx
  · exact hy

theorem ite_kept_fst {α : Type} {c : Prop} [Decidable c] {x y : State × α} (hx : Kept a x.1) (hy : Kept a y.1) :
    Kept a (if c then x else y).1 := by
  split
  · exact hx
  · exact hy

theorem pair_kept {α β : Type} {p : α × β} {f : α → β → State} :
    Kept a (f p.1 p.2) → Kept a (match p with | (x, y) => f x y) := id

theorem foldl_kept {β : Type} {f : State → β → State} (hf : ∀ u x, Kept a u → Kept a (f u x)) {l : List β}
    (h : Kept a s) : Kept a (l.foldl f s) := by
  induction l generalizing s with
  | nil => exact h
  | cons x r ih => exact ih (hf s x h)

theorem ite_quiet {c : Prop} [Decidable c] {x y : State} (hx : Quiet a x) (hy : Quiet a y) : Quiet a (if c then x else y) := by
  split
  · exact hx
  · exact hy

theorem ite_quiet_fst {α : Type} {c : Prop} [Decidable c] {x y : State × α} (hx : Quiet a x.1) (hy : Quiet a y.1) :
    Quiet a (if c then x else y).1 := by
  split
  · exact hx
  · exact hy

/-- A pair taken apart. -/
theorem pair_quiet {α β : Type} {p : α × β} {f : α → β → State} :
    Quiet a (f p.1 p.2) → Quiet a (match p with | (x, y) => f x y) := id

/-- A fold of operations that keep the relation keeps it. -/
theorem foldl_quiet {β : Type} {f : State → β → State} (hf : ∀ u x, Quiet a u → Quiet a (f u x)) {l : List β}
    (h : Quiet a s) : Quiet a (l.foldl f s) := by
  induction l generalizing s with
  | nil => exact h
  | cons x r ih => exact ih (hf s x h)

theorem foldl_quiet_fst {α β : Type} {f : State × α → β → State × α} (hf : ∀ u x, Quiet a u.1 → Quiet a (f u x).1) {l : List β}
    {p : State × α} (h : Quiet a p.1) : Quiet a (l.foldl f p).1 := by
  induction l generalizing p with
  | nil => exact h
  | cons x r ih => exact ih (hf p x h)

theorem foldl_quiet_snd {α β : Type} {f : α × State → β → α × State} (hf : ∀ u x, Quiet a u.2 → Quiet a (f u x).2) {l : List β}
    {p : α × State} (h : Quiet a p.2) : Quiet a (l.foldl f p).2 := by
  induction l generalizing p with
  | nil => exact h
  | cons x r ih => exact ih (hf p x h)

theorem numbered_take {h n : Nat} {l : List Event} (k : numbered h l = true) : numbered h (l.take n) = true := by
  induction l generalizing h n with
  | nil => simp [numbered]
  | cons e r ih =>
    cases n with
    | zero => simp [numbered]
    | succ m =>
      simp only [List.take_succ_cons, numbered, Bool.and_eq_true] at *
      exact ⟨k.1, ih k.2⟩

/-- An event appended takes the next number and leaves the log numbered. -/
theorem pushEvent_logOk (s : State) (e : Event) (h : s.logOk = true) : (s.pushEvent e).logOk = true := by
  unfold State.logOk State.pushEvent at *
  simp only [Bool.and_eq_true, decide_eq_true_eq] at *
  exact ⟨by simp, numbered_take (by simp [numbered, h.2])⟩

end Sys2Proof.Laws
end

