-- ==== Sys2Proof/Laws/QOps.lean ====
section
/-!
SUPPORT. Machine/Ops.lean leaves grade, queue and mode alone and keeps register file and event log sound.
-/
namespace Sys2Proof.Laws

open Sys2Proof.Machine

variable {a0 : State}

theorem setReg_quiet {a s : State} (h : Quiet a s) (off v : Nat) : Quiet a (s.setReg off v) :=
  ⟨h.grade, h.pending, h.glb, fun x => tabWf_tset _ _ (h.regs x), h.log, h.now⟩

theorem setReg_kept {a0 s : State} (h : Kept a0 s) (off : Nat) (v : Nat) : Kept a0 (State.setReg s off v) :=
  h.quiet (setReg_quiet (Quiet.refl _) ..)

theorem wr_quiet {a0 s : State} (h : Quiet a0 s) (f : Fld) (v : Nat) : Quiet a0 (State.wr s f v) := by
  unfold State.wr
  with_reducible repeat' first | exact h | assumption | (intro) | apply ite_quiet | apply pair_quiet | apply setReg_quiet

theorem wr_kept {a0 s : State} (h : Kept a0 s) (f : Fld) (v : Nat) : Kept a0 (State.wr s f v) :=
  h.quiet (wr_quiet (Quiet.refl _) ..)

theorem wrS_quiet {a0 s : State} (h : Quiet a0 s) (f : Fld) (v : Int) : Quiet a0 (State.wrS s f v) := by
  unfold State.wrS
  with_reducible repeat' first | exact h | assumption | (intro) | apply ite_quiet | apply pair_quiet | apply wr_quiet

theorem wrS_kept {a0 s : State} (h : Kept a0 s) (f : Fld) (v : Int) : Kept a0 (State.wrS s f v) :=
  h.quiet (wrS_quiet (Quiet.refl _) ..)

theorem wrBit_quiet {a0 s : State} (h : Quiet a0 s) (f : Fld) (i : Nat) (b : Bool) : Quiet a0 (State.wrBit s f i b) := by
  unfold State.wrBit
  with_reducible repeat' first | exact h | assumption | (intro) | apply ite_quiet | apply pair_quiet | apply wr_quiet

theorem wrBit_kept {a0 s : State} (h : Kept a0 s) (f : Fld) (i : Nat) (b : Bool) : Kept a0 (State.wrBit s f i b) :=
  h.quiet (wrBit_quiet (Quiet.refl _) ..)

theorem bump_quiet {a0 s : State} (h : Quiet a0 s) (f : Fld) (k : Nat) : Quiet a0 (State.bump s f k) := by
  unfold State.bump
  with_reducible repeat' first | exact h | assumption | (intro) | apply ite_quiet | apply pair_quiet | apply wr_quiet

theorem bump_kept {a0 s : State} (h : Kept a0 s) (f : Fld) (k : Nat) : Kept a0 (State.bump s f k) :=
  h.quiet (bump_quiet (Quiet.refl _) ..)

theorem bumpWrap_quiet {a0 s : State} (h : Quiet a0 s) (f : Fld) (k : Nat) : Quiet a0 (State.bumpWrap s f k) := by
  unfold State.bumpWrap
  with_reducible repeat' first | exact h | assumption | (intro) | apply ite_quiet | apply pair_quiet | apply wr_quiet

theorem bumpWrap_kept {a0 s : State} (h : Kept a0 s) (f : Fld) (k : Nat) : Kept a0 (State.bumpWrap s f k) :=
  h.quiet (bumpWrap_quiet (Quiet.refl _) ..)

theorem wr64_quiet {a0 s : State} (h : Quiet a0 s) (lo : Fld) (hi : Fld) (v : Nat) : Quiet a0 (State.wr64 s lo hi v) := by
  unfold State.wr64
  with_reducible repeat' first | exact h | assumption | (intro) | apply ite_quiet | apply pair_quiet | apply wr_quiet

theorem wr64_kept {a0 s : State} (h : Kept a0 s) (lo : Fld) (hi : Fld) (v : Nat) : Kept a0 (State.wr64 s lo hi v) :=
  h.quiet (wr64_quiet (Quiet.refl _) ..)

theorem cycles_quiet {a s : State} (h : Quiet a s) (k : Nat) : Quiet a (s.cycles k) := by
  unfold State.cycles
  dsimp only
  split <;> exact ⟨h.grade, h.pending, h.glb, h.regs, h.log, Nat.le_trans h.now (Nat.le_add_right _ _)⟩

theorem cycles_kept {a0 s : State} (h : Kept a0 s) (k : Nat) : Kept a0 (State.cycles s k) :=
  h.quiet (cycles_quiet (Quiet.refl _) ..)

theorem waitTill_quiet {a0 s : State} (h : Quiet a0 s) (t : Nat) : Quiet a0 (State.waitTill s t) := by
  unfold State.waitTill
  with_reducible repeat' first | exact h | assumption | (intro) | apply ite_quiet | apply pair_quiet | apply cycles_quiet

theorem waitTill_kept {a0 s : State} (h : Kept a0 s) (t : Nat) : Kept a0 (State.waitTill s t) :=
  h.quiet (waitTill_quiet (Quiet.refl _) ..)

theorem waitSite_quiet {a0 s : State} (h : Quiet a0 s) (t : Nat) : Quiet a0 (State.waitSite s t) := by
  unfold State.waitSite
  with_reducible repeat' first | exact h | assumption | (intro) | apply ite_quiet | apply pair_quiet | apply cycles_quiet

theorem waitSite_kept {a0 s : State} (h : Kept a0 s) (t : Nat) : Kept a0 (State.waitSite s t) :=
  h.quiet (waitSite_quiet (Quiet.refl _) ..)

theorem fresh_quiet {a0 s : State} (h : Quiet a0 s) : Quiet a0 (State.fresh s).2 := by
  unfold State.fresh
  with_reducible repeat' first
    | exact h | assumption | (intro) | apply ite_quiet | apply ite_quiet_fst | apply pair_quiet | split | dsimp only
    | (apply Quiet.upd; exact h)

theorem fresh_quiet_eq {a0 s s1 : State} {b0}  (h : Quiet a0 s) (hE : State.fresh s = (b0, s1)) : Quiet a0 s1 := by
  have := fresh_quiet h  
  rw [hE] at this
  exact this

theorem fresh_kept {a0 s : State} (h : Kept a0 s) : Kept a0 (State.fresh s).2 :=
  h.quiet (fresh_quiet (Quiet.refl _) ..)

theorem fresh_kept_eq {a0 s s1 : State} {b0}  (h : Kept a0 s) (hE : State.fresh s = (b0, s1)) : Kept a0 s1 :=
  h.quiet (fresh_quiet_eq (Quiet.refl _) hE)

theorem pushEvent_quiet {a s : State} (h : Quiet a s) (e : Event) : Quiet a (s.pushEvent e) :=
  ⟨h.grade, h.pending, h.glb, h.regs, fun x => pushEvent_logOk s e (h.log x), h.now⟩

theorem pushEvent_kept {a0 s : State} (h : Kept a0 s) (e : Event) : Kept a0 (State.pushEvent s e) :=
  h.quiet (pushEvent_quiet (Quiet.refl _) ..)

theorem logFrom_quiet {a s : State} (h : Quiet a s) (source code entity a1 a2 : Nat) :
    Quiet a (s.logFrom source code entity a1 a2) := by
  unfold State.logFrom
  dsimp only
  split
  · exact pushEvent_quiet h _
  · exact ⟨h.grade, h.pending, h.glb, h.regs, h.log, h.now⟩

theorem logFrom_kept {a0 s : State} (h : Kept a0 s) (source : Nat) (code : Nat) (entity : Nat) (a1 : Nat) (a2 : Nat) : Kept a0 (State.logFrom s source code entity a1 a2) :=
  h.quiet (logFrom_quiet (Quiet.refl _) ..)

theorem emit_quiet {a0 s : State} (h : Quiet a0 s) (o : Out) : Quiet a0 (State.emit s o) := by
  unfold State.emit
  with_reducible repeat' first
    | exact h | assumption | (intro) | apply ite_quiet | apply pair_quiet | split | dsimp only | (apply Quiet.upd; exact h)

theorem emit_kept {a0 s : State} (h : Kept a0 s) (o : Out) : Kept a0 (State.emit s o) :=
  h.quiet (emit_quiet (Quiet.refl _) ..)

theorem ev_quiet {a0 s : State} (h : Quiet a0 s) (code : Nat) (entity : Nat) (a1 : Nat) (a2 : Nat) : Quiet a0 (State.ev s code entity a1 a2) := by
  unfold State.ev
  with_reducible repeat' first | exact h | assumption | (intro) | apply ite_quiet | apply pair_quiet | apply logFrom_quiet

theorem ev_kept {a0 s : State} (h : Kept a0 s) (code : Nat) (entity : Nat) (a1 : Nat) (a2 : Nat) : Kept a0 (State.ev s code entity a1 a2) :=
  h.quiet (ev_quiet (Quiet.refl _) ..)

theorem evLead_quiet {a0 s : State} (h : Quiet a0 s) (code : Nat) (entity : Nat) (a1 : Nat) (a2 : Nat) : Quiet a0 (State.evLead s code entity a1 a2) := by
  unfold State.evLead
  with_reducible repeat' first | exact h | apply ite_quiet | apply ev_quiet

theorem evLead_kept {a0 s : State} (h : Kept a0 s) (code : Nat) (entity : Nat) (a1 : Nat) (a2 : Nat) : Kept a0 (State.evLead s code entity a1 a2) :=
  h.quiet (evLead_quiet (Quiet.refl _) ..)

theorem refuseMode_quiet {a0 s : State} (h : Quiet a0 s) (target : Nat) (code : Nat) : Quiet a0 (State.refuseMode s target code) := by
  unfold State.refuseMode
  with_reducible repeat' first
    | exact h | assumption | (intro) | apply ite_quiet | apply pair_quiet | apply wr_quiet | apply ev_quiet

theorem refuseMode_kept {a0 s : State} (h : Kept a0 s) (target : Nat) (code : Nat) : Kept a0 (State.refuseMode s target code) :=
  h.quiet (refuseMode_quiet (Quiet.refl _) ..)

theorem preempt_quiet {a s : State} (h : Quiet a s) : Quiet a s.preempt := by
  unfold State.preempt
  split
  · apply refuseMode_quiet
    apply wr_quiet
    exact ⟨h.grade, h.pending, h.glb, h.regs, h.log, h.now⟩
  · exact h

theorem preempt_kept {a0 s : State} (h : Kept a0 s) : Kept a0 (State.preempt s) :=
  h.quiet (preempt_quiet (Quiet.refl _) ..)

theorem limpTrigger_quiet {a s : State} (h : Quiet a s) (cause : Nat) : Quiet a (s.limpTrigger cause) := by
  unfold State.limpTrigger
  have hp := preempt_quiet h
  dsimp only
  repeat' split
  · exact h
  · exact hp
  · exact ⟨hp.grade, hp.pending, hp.glb, hp.regs, hp.log, hp.now⟩

theorem limpTrigger_kept {a0 s : State} (h : Kept a0 s) (cause : Nat) : Kept a0 (State.limpTrigger s cause) :=
  h.quiet (limpTrigger_quiet (Quiet.refl _) ..)

theorem gradeLimit_quiet {a0 s : State} (h : Quiet a0 s) (entity : Nat) (off : Nat) : Quiet a0 (State.gradeLimit s entity off) := by
  unfold State.gradeLimit
  with_reducible repeat' first | exact h | assumption | (intro) | apply ite_quiet | apply pair_quiet | apply ev_quiet

theorem gradeLimit_kept {a0 s : State} (h : Kept a0 s) (entity : Nat) (off : Nat) : Kept a0 (State.gradeLimit s entity off) :=
  h.quiet (gradeLimit_quiet (Quiet.refl _) ..)

theorem gradeCut_quiet {a0 s : State} (h : Quiet a0 s) (off : Nat) (v : Nat) : Quiet a0 (State.gradeCut s off v).1 := by
  unfold State.gradeCut
  with_reducible repeat' first
    | exact h | assumption | (intro) | apply ite_quiet | apply ite_quiet_fst | apply pair_quiet | apply gradeLimit_quiet
    | split

theorem gradeCut_quiet_eq {a0 s s1 : State} {b0} {off : Nat} {v : Nat} (h : Quiet a0 s) (hE : State.gradeCut s off v = (s1, b0)) : Quiet a0 s1 := by
  have := gradeCut_quiet h off v 
  rw [hE] at this
  exact this

theorem gradeCut_kept {a0 s : State} (h : Kept a0 s) (off : Nat) (v : Nat) : Kept a0 (State.gradeCut s off v).1 :=
  h.quiet (gradeCut_quiet (Quiet.refl _) ..)

theorem gradeCut_kept_eq {a0 s s1 : State} {b0} {off : Nat} {v : Nat} (h : Kept a0 s) (hE : State.gradeCut s off v = (s1, b0)) : Kept a0 s1 :=
  h.quiet (gradeCut_quiet_eq (Quiet.refl _) hE)

theorem message_quiet {a0 s : State} (h : Quiet a0 s) : Quiet a0 (State.message s) := by
  unfold State.message
  with_reducible repeat' first
    | exact h | assumption | (intro) | apply ite_quiet | apply pair_quiet | apply emit_quiet | split | dsimp only
    | (apply Quiet.upd; first | exact h | assumption | (intro) | apply ite_quiet | apply pair_quiet | apply emit_quiet)

theorem message_kept {a0 s : State} (h : Kept a0 s) : Kept a0 (State.message s) :=
  h.quiet (message_quiet (Quiet.refl _) ..)

theorem attn_quiet {a0 s : State} (h : Quiet a0 s) (b : Nat) : Quiet a0 (State.attn s b) := by
  unfold State.attn
  with_reducible repeat' first
    | exact h | assumption | (intro) | apply ite_quiet | apply pair_quiet | apply wrBit_quiet | apply message_quiet

theorem attn_kept {a0 s : State} (h : Kept a0 s) (b : Nat) : Kept a0 (State.attn s b) :=
  h.quiet (attn_quiet (Quiet.refl _) ..)

theorem setRing_quiet {a0 s : State} (h : Quiet a0 s) (r : Nat) (x : Ring) : Quiet a0 (State.setRing s r x) := by
  unfold State.setRing
  with_reducible repeat' first
    | exact h | assumption | (intro) | apply ite_quiet | apply pair_quiet | split | dsimp only | (apply Quiet.upd; exact h)

theorem setRing_kept {a0 s : State} (h : Kept a0 s) (r : Nat) (x : Ring) : Kept a0 (State.setRing s r x) :=
  h.quiet (setRing_quiet (Quiet.refl _) ..)

theorem shadow_quiet {a0 s : State} (h : Quiet a0 s) (r : Nat) : Quiet a0 (State.shadow s r) := by
  unfold State.shadow
  with_reducible repeat' first | exact h | assumption | (intro) | apply ite_quiet | apply pair_quiet | apply emit_quiet

theorem shadow_kept {a0 s : State} (h : Kept a0 s) (r : Nat) : Kept a0 (State.shadow s r) :=
  h.quiet (shadow_quiet (Quiet.refl _) ..)

theorem mapFlight_quiet {a0 s : State} (h : Quiet a0 s) (r : Nat) (idx : Nat) (g : Flight → Flight) : Quiet a0 (State.mapFlight s r idx g) := by
  unfold State.mapFlight
  with_reducible repeat' first | exact h | assumption | (intro) | apply ite_quiet | apply pair_quiet | apply setRing_quiet

theorem mapFlight_kept {a0 s : State} (h : Kept a0 s) (r : Nat) (idx : Nat) (g : Flight → Flight) : Kept a0 (State.mapFlight s r idx g) :=
  h.quiet (mapFlight_quiet (Quiet.refl _) ..)

theorem complete_quiet {a0 s : State} (h : Quiet a0 s) (r : Nat) (idx : Nat) (partly : Bool) (err : Bool) (progress : Nat) (code : Nat) (result : List Nat) : Quiet a0 (State.complete s r idx partly err progress code result) := by
  unfold State.complete
  with_reducible repeat' first
    | exact h | assumption | (intro) | apply ite_quiet | apply pair_quiet | apply bump_quiet | apply emit_quiet
    | apply ev_quiet | apply setRing_quiet | apply shadow_quiet | split

theorem complete_kept {a0 s : State} (h : Kept a0 s) (r : Nat) (idx : Nat) (partly : Bool) (err : Bool) (progress : Nat) (code : Nat) (result : List Nat) : Kept a0 (State.complete s r idx partly err progress code result) :=
  h.quiet (complete_quiet (Quiet.refl _) ..)

theorem done_quiet {a0 s : State} (h : Quiet a0 s) (d : DescRef) (result : List Nat) (code : Nat) (progress : Nat) : Quiet a0 (State.done s d result code progress) := by
  unfold State.done
  with_reducible repeat' first | exact h | assumption | (intro) | apply ite_quiet | apply pair_quiet | apply complete_quiet

theorem done_kept {a0 s : State} (h : Kept a0 s) (d : DescRef) (result : List Nat) (code : Nat) (progress : Nat) : Kept a0 (State.done s d result code progress) :=
  h.quiet (done_quiet (Quiet.refl _) ..)

theorem fail_quiet {a0 s : State} (h : Quiet a0 s) (d : DescRef) (code : Nat) (result : List Nat) (partly : Bool) : Quiet a0 (State.fail s d code result partly) := by
  unfold State.fail
  with_reducible repeat' first | exact h | assumption | (intro) | apply ite_quiet | apply pair_quiet | apply complete_quiet

theorem fail_kept {a0 s : State} (h : Kept a0 s) (d : DescRef) (code : Nat) (result : List Nat) (partly : Bool) : Kept a0 (State.fail s d code result partly) :=
  h.quiet (fail_quiet (Quiet.refl _) ..)

theorem start_quiet {a0 s : State} (h : Quiet a0 s) (d : DescRef) : Quiet a0 (State.start s d) := by
  unfold State.start
  with_reducible repeat' first | exact h | assumption | (intro) | apply ite_quiet | apply pair_quiet | apply mapFlight_quiet

theorem start_kept {a0 s : State} (h : Kept a0 s) (d : DescRef) : Kept a0 (State.start s d) :=
  h.quiet (start_quiet (Quiet.refl _) ..)

theorem waitOutside_quiet {a0 s : State} (h : Quiet a0 s) (d : DescRef) : Quiet a0 (State.waitOutside s d) := by
  unfold State.waitOutside
  with_reducible repeat' first | exact h | assumption | (intro) | apply ite_quiet | apply pair_quiet | apply mapFlight_quiet

theorem waitOutside_kept {a0 s : State} (h : Kept a0 s) (d : DescRef) : Kept a0 (State.waitOutside s d) :=
  h.quiet (waitOutside_quiet (Quiet.refl _) ..)

theorem setWait_quiet {a0 s : State} (h : Quiet a0 s) (r : Nat) (w : Bool) : Quiet a0 (State.setWait s r w) := by
  unfold State.setWait
  with_reducible repeat' first | exact h | assumption | (intro) | apply ite_quiet | apply pair_quiet | apply setRing_quiet

theorem setWait_kept {a0 s : State} (h : Kept a0 s) (r : Nat) (w : Bool) : Kept a0 (State.setWait s r w) :=
  h.quiet (setWait_quiet (Quiet.refl _) ..)

theorem waitShared_quiet {a0 s : State} (h : Quiet a0 s) (d : DescRef) : Quiet a0 (State.waitShared s d) := by
  unfold State.waitShared
  with_reducible repeat' first
    | exact h | assumption | (intro) | apply ite_quiet | apply pair_quiet | apply mapFlight_quiet | apply setWait_quiet

theorem waitShared_kept {a0 s : State} (h : Kept a0 s) (d : DescRef) : Kept a0 (State.waitShared s d) :=
  h.quiet (waitShared_quiet (Quiet.refl _) ..)

theorem reportStart_quiet {a0 s : State} (h : Quiet a0 s) (r : Nat) (idx : Nat) (result : List Nat) : Quiet a0 (State.reportStart s r idx result) := by
  unfold State.reportStart
  with_reducible repeat' first
    | exact h | assumption | (intro) | apply ite_quiet | apply pair_quiet | apply emit_quiet | apply mapFlight_quiet | split

theorem reportStart_kept {a0 s : State} (h : Kept a0 s) (r : Nat) (idx : Nat) (result : List Nat) : Kept a0 (State.reportStart s r idx result) :=
  h.quiet (reportStart_quiet (Quiet.refl _) ..)

theorem report_quiet {a0 s : State} (h : Quiet a0 s) (r : Nat) (idx : Nat) (progress : Nat) (result : List Nat) : Quiet a0 (State.report s r idx progress result) := by
  unfold State.report
  with_reducible repeat' first
    | exact h | assumption | (intro) | apply ite_quiet | apply pair_quiet | apply emit_quiet | apply mapFlight_quiet | split

theorem report_kept {a0 s : State} (h : Kept a0 s) (r : Nat) (idx : Nat) (progress : Nat) (result : List Nat) : Kept a0 (State.report s r idx progress result) :=
  h.quiet (report_quiet (Quiet.refl _) ..)

theorem run_quiet {a0 s : State} (h : Quiet a0 s) (d : DescRef) (opcode : Nat) (k : State → State) (hk : ∀ u, Quiet a0 u → Quiet a0 (k u)) : Quiet a0 (State.run s d opcode k) := by
  unfold State.run
  with_reducible repeat' first
    | exact h | assumption | (intro) | apply ite_quiet | apply pair_quiet | apply start_quiet | apply hk

theorem run_kept {a0 s : State} (h : Kept a0 s) (d : DescRef) (opcode : Nat) (k : State → State) (hk : ∀ u, Kept a0 u → Kept a0 (k u)) : Kept a0 (State.run s d opcode k) := by
  unfold State.run
  with_reducible repeat' first
    | exact h | assumption | contradiction | (intro) | apply ite_kept | apply pair_kept | apply start_kept | apply hk

theorem failAbsent_quiet {a0 s : State} (h : Quiet a0 s) (d : DescRef) (entity : Nat) (code : Nat) : Quiet a0 (State.failAbsent s d entity code) := by
  unfold State.failAbsent
  with_reducible repeat' first
    | exact h | assumption | (intro) | apply ite_quiet | apply pair_quiet | apply ev_quiet | apply fail_quiet

theorem failAbsent_kept {a0 s : State} (h : Kept a0 s) (d : DescRef) (entity : Nat) (code : Nat) : Kept a0 (State.failAbsent s d entity code) :=
  h.quiet (failAbsent_quiet (Quiet.refl _) ..)

theorem checkEntity_quiet {a0 s : State} (h : Quiet a0 s) (d : DescRef) (entity : Nat) (k : State → State) (hk : ∀ u, Quiet a0 u → Quiet a0 (k u)) : Quiet a0 (State.checkEntity s d entity k) := by
  unfold State.checkEntity
  with_reducible repeat' first
    | exact h | assumption | (intro) | apply ite_quiet | apply pair_quiet | apply fail_quiet | apply failAbsent_quiet
    | apply hk

theorem checkEntity_kept {a0 s : State} (h : Kept a0 s) (d : DescRef) (entity : Nat) (k : State → State) (hk : ∀ u, Kept a0 u → Kept a0 (k u)) : Kept a0 (State.checkEntity s d entity k) := by
  unfold State.checkEntity
  with_reducible repeat' first
    | exact h | assumption | contradiction | (intro) | apply ite_kept | apply pair_kept | apply failAbsent_kept
    | apply fail_kept | apply hk

theorem checkMode_quiet {a0 s : State} (h : Quiet a0 s) (d : DescRef) (ok : Bool) (k : State → State) (hk : ∀ u, Quiet a0 u → Quiet a0 (k u)) : Quiet a0 (State.checkMode s d ok k) := by
  unfold State.checkMode
  with_reducible repeat' first
    | exact h | assumption | (intro) | apply ite_quiet | apply pair_quiet | apply fail_quiet | apply hk

theorem checkMode_kept {a0 s : State} (h : Kept a0 s) (d : DescRef) (ok : Bool) (k : State → State) (hk : ∀ u, Kept a0 u → Kept a0 (k u)) : Kept a0 (State.checkMode s d ok k) := by
  unfold State.checkMode
  with_reducible repeat' first
    | exact h | assumption | contradiction | (intro) | apply ite_kept | apply pair_kept | apply fail_kept | apply hk

end Sys2Proof.Laws
end

