-- ==== Sys2Proof/Laws/QSiteTime.lean ====
section
/-!
SUPPORT. Machine/SiteTime.lean leaves grade, queue and mode alone and keeps register file and event log sound.
-/
namespace Sys2Proof.Laws

open Sys2Proof.Machine

variable {a0 : State}

theorem retick_quiet {a0 s : State} (h : Quiet a0 s) : Quiet a0 (State.retick s) := by
  unfold State.retick
  with_reducible repeat' first
    | exact h | assumption | (intro) | apply ite_quiet | apply pair_quiet | split | dsimp only | (apply Quiet.upd; exact h)

theorem retick_kept {a0 s : State} (h : Kept a0 s) : Kept a0 (State.retick s) :=
  h.quiet (retick_quiet (Quiet.refl _) ..)

theorem selectSource_quiet {a0 s : State} (h : Quiet a0 s) : Quiet a0 (State.selectSource s) := by
  unfold State.selectSource
  with_reducible repeat' first
    | exact h | assumption | (intro) | apply ite_quiet | apply pair_quiet | apply wr_quiet | apply ev_quiet

theorem selectSource_kept {a0 s : State} (h : Kept a0 s) : Kept a0 (State.selectSource s) :=
  h.quiet (selectSource_quiet (Quiet.refl _) ..)

theorem setRate_quiet {a0 s : State} (h : Quiet a0 s) (f : Int) (p : Int) : Quiet a0 (State.setRate s f p) := by
  unfold State.setRate
  with_reducible repeat' first
    | exact h | assumption | (intro) | apply ite_quiet | apply pair_quiet | apply wrS_quiet | split | dsimp only
    | (apply Quiet.upd; first | exact h | assumption | (intro) | apply ite_quiet | apply pair_quiet | apply wrS_quiet)

theorem setRate_kept {a0 s : State} (h : Kept a0 s) (f : Int) (p : Int) : Kept a0 (State.setRate s f p) :=
  h.quiet (setRate_quiet (Quiet.refl _) ..)

theorem loseSource_quiet {a0 s : State} (h : Quiet a0 s) : Quiet a0 (State.loseSource s) := by
  unfold State.loseSource
  with_reducible repeat' first
    | exact h | assumption | (intro) | apply ite_quiet | apply pair_quiet | apply wr_quiet | apply ev_quiet
    | apply selectSource_quiet | apply setRate_quiet

theorem loseSource_kept {a0 s : State} (h : Kept a0 s) : Kept a0 (State.loseSource s) :=
  h.quiet (loseSource_quiet (Quiet.refl _) ..)

theorem discipline_quiet {a0 s : State} (h : Quiet a0 s) (err16 : Int) : Quiet a0 (State.discipline s err16) := by
  unfold State.discipline
  with_reducible repeat' first
    | exact h | assumption | (intro) | apply ite_quiet | apply pair_quiet | apply wr_quiet | apply wrS_quiet
    | apply ev_quiet | apply run_quiet | apply setRate_quiet | split | dsimp only
    | (apply Quiet.upd; first | exact h | assumption | (intro) | apply ite_quiet | apply pair_quiet | apply wr_quiet | apply wrS_quiet)

theorem discipline_kept {a0 s : State} (h : Kept a0 s) (err16 : Int) : Kept a0 (State.discipline s err16) :=
  h.quiet (discipline_quiet (Quiet.refl _) ..)

theorem acquire_quiet {a0 s : State} (h : Quiet a0 s) (ns : Nat) (before : Nat) : Quiet a0 (State.acquire s ns before) := by
  unfold State.acquire
  with_reducible repeat' first
    | exact h | assumption | (intro) | apply ite_quiet | apply pair_quiet | apply wr_quiet | apply ev_quiet
    | apply retick_quiet | split | dsimp only | (apply Quiet.upd; exact h)

theorem acquire_kept {a0 s : State} (h : Kept a0 s) (ns : Nat) (before : Nat) : Kept a0 (State.acquire s ns before) :=
  h.quiet (acquire_quiet (Quiet.refl _) ..)

theorem ppsAcquire_quiet {a0 s : State} (h : Quiet a0 s) : Quiet a0 (State.ppsAcquire s) := by
  unfold State.ppsAcquire
  with_reducible repeat' first
    | exact h | assumption | (intro) | apply ite_quiet | apply pair_quiet | apply selectSource_quiet | apply acquire_quiet
    | split | dsimp only
    | (apply Quiet.upd; first | exact h | assumption | (intro) | apply ite_quiet | apply pair_quiet | apply selectSource_quiet | apply acquire_quiet)

theorem ppsAcquire_kept {a0 s : State} (h : Kept a0 s) : Kept a0 (State.ppsAcquire s) :=
  h.quiet (ppsAcquire_quiet (Quiet.refl _) ..)

theorem ppsMeasure_quiet {a0 s : State} (h : Quiet a0 s) : Quiet a0 (State.ppsMeasure s) := by
  unfold State.ppsMeasure
  with_reducible repeat' first
    | exact h | assumption | (intro) | apply ite_quiet | apply pair_quiet | apply bump_quiet | apply ev_quiet
    | apply selectSource_quiet | apply discipline_quiet | split | dsimp only | (apply Quiet.upd; exact h)

theorem ppsMeasure_kept {a0 s : State} (h : Kept a0 s) : Kept a0 (State.ppsMeasure s) :=
  h.quiet (ppsMeasure_quiet (Quiet.refl _) ..)

theorem ppsEdge_quiet {a0 s : State} (h : Quiet a0 s) : Quiet a0 (State.ppsEdge s) := by
  unfold State.ppsEdge
  with_reducible repeat' first
    | exact h | assumption | (intro) | apply ite_quiet | apply pair_quiet | apply ppsAcquire_quiet | apply ppsMeasure_quiet
    | split | dsimp only
    | (apply Quiet.upd; first | exact h | assumption | (intro) | apply ite_quiet | apply pair_quiet | apply ppsAcquire_quiet | apply ppsMeasure_quiet)

theorem ppsEdge_kept {a0 s : State} (h : Kept a0 s) : Kept a0 (State.ppsEdge s) :=
  h.quiet (ppsEdge_quiet (Quiet.refl _) ..)

theorem setTime_quiet {a0 s : State} (h : Quiet a0 s) (v : Nat) : Quiet a0 (State.setTime s v) := by
  unfold State.setTime
  with_reducible repeat' first
    | exact h | assumption | (intro) | apply ite_quiet | apply pair_quiet | apply cycles_quiet | apply ev_quiet
    | apply acquire_quiet

theorem setTime_kept {a0 s : State} (h : Kept a0 s) (v : Nat) : Kept a0 (State.setTime s v) :=
  h.quiet (setTime_quiet (Quiet.refl _) ..)

theorem latchTime_quiet {a0 s : State} (h : Quiet a0 s) : Quiet a0 (State.latchTime s) := by
  unfold State.latchTime
  with_reducible repeat' first
    | exact h | assumption | (intro) | apply ite_quiet | apply pair_quiet | apply wr_quiet | apply wr64_quiet

theorem latchTime_kept {a0 s : State} (h : Kept a0 s) : Kept a0 (State.latchTime s) :=
  h.quiet (latchTime_quiet (Quiet.refl _) ..)

theorem armLabel_quiet {a0 s : State} (h : Quiet a0 s) (v : Nat) : Quiet a0 (State.armLabel s v) := by
  unfold State.armLabel
  with_reducible repeat' first
    | exact h | assumption | (intro) | apply ite_quiet | apply pair_quiet | apply wr_quiet | split | dsimp only
    | (apply Quiet.upd; first | exact h | assumption | (intro) | apply ite_quiet | apply pair_quiet | apply wr_quiet)

theorem armLabel_kept {a0 s : State} (h : Kept a0 s) (v : Nat) : Kept a0 (State.armLabel s v) :=
  h.quiet (armLabel_quiet (Quiet.refl _) ..)

end Sys2Proof.Laws
end

