-- ==== Sys2Proof/Laws/QSanitize.lean ====
section
/-!
SUPPORT. Machine/Sanitize.lean leaves grade, queue and mode alone and keeps register file and event log sound.
-/
namespace Sys2Proof.Laws

open Sys2Proof.Machine

variable {a0 : State}

theorem setSan_quiet {a0 s : State} (h : Quiet a0 s) (k : Nat) (m : San) : Quiet a0 (State.setSan s k m) := by
  unfold State.setSan
  with_reducible repeat' first
    | exact h | assumption | (intro) | apply ite_quiet | apply pair_quiet | split | dsimp only | (apply Quiet.upd; exact h)

theorem setSan_kept {a0 s : State} (h : Kept a0 s) (k : Nat) (m : San) : Kept a0 (State.setSan s k m) :=
  h.quiet (setSan_quiet (Quiet.refl _) ..)

theorem keepGood_quiet {a0 s : State} (h : Quiet a0 s) (k : Nat) (a : Int) (b : Int) (c : Int) : Quiet a0 (State.keepGood s k a b c) := by
  unfold State.keepGood
  with_reducible repeat' first | exact h | assumption | (intro) | apply ite_quiet | apply pair_quiet | apply setSan_quiet

theorem keepGood_kept {a0 s : State} (h : Kept a0 s) (k : Nat) (a : Int) (b : Int) (c : Int) : Kept a0 (State.keepGood s k a b c) :=
  h.quiet (keepGood_quiet (Quiet.refl _) ..)

theorem judge_quiet {a0 s : State} (h : Quiet a0 s) (code : Nat) (idx : Nat) (entity : Nat) (cause : Nat) (arg : Nat) (back : Bool) : Quiet a0 (State.judge s code idx entity cause arg back).1 := by
  unfold State.judge
  with_reducible repeat' first
    | exact h | assumption | (intro) | apply ite_quiet | apply ite_quiet_fst | apply pair_quiet | apply ev_quiet
    | apply setSan_quiet

theorem judge_quiet_eq {a0 s s1 : State} {b0} {code : Nat} {idx : Nat} {entity : Nat} {cause : Nat} {arg : Nat} {back : Bool} (h : Quiet a0 s) (hE : State.judge s code idx entity cause arg back = (s1, b0)) : Quiet a0 s1 := by
  have := judge_quiet h code idx entity cause arg back 
  rw [hE] at this
  exact this

theorem judge_kept {a0 s : State} (h : Kept a0 s) (code : Nat) (idx : Nat) (entity : Nat) (cause : Nat) (arg : Nat) (back : Bool) : Kept a0 (State.judge s code idx entity cause arg back).1 :=
  h.quiet (judge_quiet (Quiet.refl _) ..)

theorem judge_kept_eq {a0 s s1 : State} {b0} {code : Nat} {idx : Nat} {entity : Nat} {cause : Nat} {arg : Nat} {back : Bool} (h : Kept a0 s) (hE : State.judge s code idx entity cause arg back = (s1, b0)) : Kept a0 s1 :=
  h.quiet (judge_quiet_eq (Quiet.refl _) hE)

theorem judgeShared_quiet {a0 s : State} (h : Quiet a0 s) (code : Nat) (idx : Nat) (entity : Nat) (cause : Nat) (arg : Nat) (arg3 : Nat) (hold : Bool) (back : Bool) (plaus : Bool) : Quiet a0 (State.judgeShared s code idx entity cause arg arg3 hold back plaus).1 := by
  unfold State.judgeShared
  with_reducible repeat' first
    | exact h | assumption | (intro) | apply ite_quiet | apply ite_quiet_fst | apply pair_quiet | apply ev_quiet
    | apply setSan_quiet | apply judge_quiet

theorem judgeShared_quiet_eq {a0 s s1 : State} {b0} {code : Nat} {idx : Nat} {entity : Nat} {cause : Nat} {arg : Nat} {arg3 : Nat} {hold : Bool} {back : Bool} {plaus : Bool} (h : Quiet a0 s) (hE : State.judgeShared s code idx entity cause arg arg3 hold back plaus = (s1, b0)) : Quiet a0 s1 := by
  have := judgeShared_quiet h code idx entity cause arg arg3 hold back plaus 
  rw [hE] at this
  exact this

theorem judgeShared_kept {a0 s : State} (h : Kept a0 s) (code : Nat) (idx : Nat) (entity : Nat) (cause : Nat) (arg : Nat) (arg3 : Nat) (hold : Bool) (back : Bool) (plaus : Bool) : Kept a0 (State.judgeShared s code idx entity cause arg arg3 hold back plaus).1 :=
  h.quiet (judgeShared_quiet (Quiet.refl _) ..)

theorem judgeShared_kept_eq {a0 s s1 : State} {b0} {code : Nat} {idx : Nat} {entity : Nat} {cause : Nat} {arg : Nat} {arg3 : Nat} {hold : Bool} {back : Bool} {plaus : Bool} (h : Kept a0 s) (hE : State.judgeShared s code idx entity cause arg arg3 hold back plaus = (s1, b0)) : Kept a0 s1 :=
  h.quiet (judgeShared_quiet_eq (Quiet.refl _) hE)

theorem sanRequest_quiet {a0 s : State} (h : Quiet a0 s) (n : Snap) (p : Nat) : Quiet a0 (State.sanRequest s n p).1 := by
  unfold State.sanRequest
  with_reducible repeat' first
    | exact h | assumption | (intro) | apply ite_quiet | apply ite_quiet_fst | apply pair_quiet | apply keepGood_quiet
    | apply judge_quiet

theorem sanRequest_quiet_eq {a0 s s1 : State} {b0} {n : Snap} {p : Nat} (h : Quiet a0 s) (hE : State.sanRequest s n p = (s1, b0)) : Quiet a0 s1 := by
  have := sanRequest_quiet h n p 
  rw [hE] at this
  exact this

theorem sanRequest_kept {a0 s : State} (h : Kept a0 s) (n : Snap) (p : Nat) : Kept a0 (State.sanRequest s n p).1 :=
  h.quiet (sanRequest_quiet (Quiet.refl _) ..)

theorem sanRequest_kept_eq {a0 s s1 : State} {b0} {n : Snap} {p : Nat} (h : Kept a0 s) (hE : State.sanRequest s n p = (s1, b0)) : Kept a0 s1 :=
  h.quiet (sanRequest_quiet_eq (Quiet.refl _) hE)

theorem sanVolt_quiet {a0 s : State} (h : Quiet a0 s) (n : Snap) (p : Nat) : Quiet a0 (State.sanVolt s n p).1 := by
  unfold State.sanVolt
  with_reducible repeat' first
    | exact h | assumption | (intro) | apply ite_quiet | apply ite_quiet_fst | apply pair_quiet | apply fresh_quiet
    | apply keepGood_quiet | apply judge_quiet

theorem sanVolt_quiet_eq {a0 s s1 : State} {b0} {n : Snap} {p : Nat} (h : Quiet a0 s) (hE : State.sanVolt s n p = (s1, b0)) : Quiet a0 s1 := by
  have := sanVolt_quiet h n p 
  rw [hE] at this
  exact this

theorem sanVolt_kept {a0 s : State} (h : Kept a0 s) (n : Snap) (p : Nat) : Kept a0 (State.sanVolt s n p).1 :=
  h.quiet (sanVolt_quiet (Quiet.refl _) ..)

theorem sanVolt_kept_eq {a0 s s1 : State} {b0} {n : Snap} {p : Nat} (h : Kept a0 s) (hE : State.sanVolt s n p = (s1, b0)) : Kept a0 s1 :=
  h.quiet (sanVolt_quiet_eq (Quiet.refl _) hE)

theorem sanCurrent_quiet {a0 s : State} (h : Quiet a0 s) (n : Snap) (p : Nat) : Quiet a0 (State.sanCurrent s n p).1 := by
  unfold State.sanCurrent
  with_reducible repeat' first
    | exact h | assumption | (intro) | apply ite_quiet | apply ite_quiet_fst | apply pair_quiet | apply fresh_quiet
    | apply keepGood_quiet | apply judge_quiet

theorem sanCurrent_quiet_eq {a0 s s1 : State} {b0} {n : Snap} {p : Nat} (h : Quiet a0 s) (hE : State.sanCurrent s n p = (s1, b0)) : Quiet a0 s1 := by
  have := sanCurrent_quiet h n p 
  rw [hE] at this
  exact this

theorem sanCurrent_kept {a0 s : State} (h : Kept a0 s) (n : Snap) (p : Nat) : Kept a0 (State.sanCurrent s n p).1 :=
  h.quiet (sanCurrent_quiet (Quiet.refl _) ..)

theorem sanCurrent_kept_eq {a0 s s1 : State} {b0} {n : Snap} {p : Nat} (h : Kept a0 s) (hE : State.sanCurrent s n p = (s1, b0)) : Kept a0 s1 :=
  h.quiet (sanCurrent_quiet_eq (Quiet.refl _) hE)

theorem sanBlock_quiet {a0 s : State} (h : Quiet a0 s) (n : Snap) (b : Nat) : Quiet a0 (State.sanBlock s n b).1 := by
  unfold State.sanBlock
  with_reducible repeat' first
    | exact h | assumption | (intro) | apply ite_quiet | apply ite_quiet_fst | apply pair_quiet | apply ev_quiet
    | apply setSan_quiet | apply keepGood_quiet

theorem sanBlock_quiet_eq {a0 s s1 : State} {b0} {n : Snap} {b : Nat} (h : Quiet a0 s) (hE : State.sanBlock s n b = (s1, b0)) : Quiet a0 s1 := by
  have := sanBlock_quiet h n b 
  rw [hE] at this
  exact this

theorem sanBlock_kept {a0 s : State} (h : Kept a0 s) (n : Snap) (b : Nat) : Kept a0 (State.sanBlock s n b).1 :=
  h.quiet (sanBlock_quiet (Quiet.refl _) ..)

theorem sanBlock_kept_eq {a0 s s1 : State} {b0} {n : Snap} {b : Nat} (h : Kept a0 s) (hE : State.sanBlock s n b = (s1, b0)) : Kept a0 s1 :=
  h.quiet (sanBlock_quiet_eq (Quiet.refl _) hE)

theorem convChecks_quiet {a0 s : State} (h : Quiet a0 s) (n : Snap) (k : Nat) : Quiet a0 (State.convChecks s n k).1 := by
  unfold State.convChecks
  with_reducible repeat' first
    | exact h | assumption | (intro) | apply ite_quiet | apply ite_quiet_fst | apply pair_quiet | apply setSan_quiet

theorem convChecks_quiet_eq {a0 s s1 : State} {b0} {n : Snap} {k : Nat} (h : Quiet a0 s) (hE : State.convChecks s n k = (s1, b0)) : Quiet a0 s1 := by
  have := convChecks_quiet h n k 
  rw [hE] at this
  exact this

theorem convChecks_kept {a0 s : State} (h : Kept a0 s) (n : Snap) (k : Nat) : Kept a0 (State.convChecks s n k).1 :=
  h.quiet (convChecks_quiet (Quiet.refl _) ..)

theorem convChecks_kept_eq {a0 s s1 : State} {b0} {n : Snap} {k : Nat} (h : Kept a0 s) (hE : State.convChecks s n k = (s1, b0)) : Kept a0 s1 :=
  h.quiet (convChecks_quiet_eq (Quiet.refl _) hE)

theorem sanString_quiet {a0 s : State} (h : Quiet a0 s) (n : Snap) (tgt : Nat → Int) (v : ConvCheck) (fbC : Bool) (i : Nat) : Quiet a0 (State.sanString s n tgt v fbC i).1 := by
  unfold State.sanString
  with_reducible repeat' first
    | exact h | assumption | (intro) | apply ite_quiet | apply ite_quiet_fst | apply pair_quiet | apply keepGood_quiet
    | apply judgeShared_quiet

theorem sanString_quiet_eq {a0 s s1 : State} {b0} {n : Snap} {tgt : Nat → Int} {v : ConvCheck} {fbC : Bool} {i : Nat} (h : Quiet a0 s) (hE : State.sanString s n tgt v fbC i = (s1, b0)) : Quiet a0 s1 := by
  have := sanString_quiet h n tgt v fbC i 
  rw [hE] at this
  exact this

theorem sanString_kept {a0 s : State} (h : Kept a0 s) (n : Snap) (tgt : Nat → Int) (v : ConvCheck) (fbC : Bool) (i : Nat) : Kept a0 (State.sanString s n tgt v fbC i).1 :=
  h.quiet (sanString_quiet (Quiet.refl _) ..)

theorem sanString_kept_eq {a0 s s1 : State} {b0} {n : Snap} {tgt : Nat → Int} {v : ConvCheck} {fbC : Bool} {i : Nat} (h : Kept a0 s) (hE : State.sanString s n tgt v fbC i = (s1, b0)) : Kept a0 s1 :=
  h.quiet (sanString_quiet_eq (Quiet.refl _) hE)

theorem sanConv_quiet {a0 s : State} (h : Quiet a0 s) (n : Snap) (tgt : Nat → Int) (k : Nat) : Quiet a0 (State.sanConv s n tgt k).1 := by
  unfold State.sanConv
  with_reducible repeat' first
    | exact h | assumption | (intro) | apply ite_quiet | apply ite_quiet_fst | apply pair_quiet | apply judgeShared_quiet
    | apply convChecks_quiet | apply sanString_quiet | apply foldl_quiet | apply foldl_quiet_fst

theorem sanConv_quiet_eq {a0 s s1 : State} {b0} {n : Snap} {tgt : Nat → Int} {k : Nat} (h : Quiet a0 s) (hE : State.sanConv s n tgt k = (s1, b0)) : Quiet a0 s1 := by
  have := sanConv_quiet h n tgt k 
  rw [hE] at this
  exact this

theorem sanConv_kept {a0 s : State} (h : Kept a0 s) (n : Snap) (tgt : Nat → Int) (k : Nat) : Kept a0 (State.sanConv s n tgt k).1 :=
  h.quiet (sanConv_quiet (Quiet.refl _) ..)

theorem sanConv_kept_eq {a0 s s1 : State} {b0} {n : Snap} {tgt : Nat → Int} {k : Nat} (h : Kept a0 s) (hE : State.sanConv s n tgt k = (s1, b0)) : Kept a0 s1 :=
  h.quiet (sanConv_quiet_eq (Quiet.refl _) hE)

theorem sanGrid_quiet {a0 s : State} (h : Quiet a0 s) (n : Snap) : Quiet a0 (State.sanGrid s n).1 := by
  unfold State.sanGrid
  with_reducible repeat' first
    | exact h | assumption | (intro) | apply ite_quiet | apply ite_quiet_fst | apply pair_quiet | apply keepGood_quiet
    | apply judge_quiet

theorem sanGrid_quiet_eq {a0 s s1 : State} {b0} {n : Snap} (h : Quiet a0 s) (hE : State.sanGrid s n = (s1, b0)) : Quiet a0 s1 := by
  have := sanGrid_quiet h n 
  rw [hE] at this
  exact this

theorem sanGrid_kept {a0 s : State} (h : Kept a0 s) (n : Snap) : Kept a0 (State.sanGrid s n).1 :=
  h.quiet (sanGrid_quiet (Quiet.refl _) ..)

theorem sanGrid_kept_eq {a0 s s1 : State} {b0} {n : Snap} (h : Kept a0 s) (hE : State.sanGrid s n = (s1, b0)) : Kept a0 s1 :=
  h.quiet (sanGrid_quiet_eq (Quiet.refl _) hE)

theorem sanCaps_quiet {a0 s : State} (h : Quiet a0 s) (n : Snap) : Quiet a0 (State.sanCaps s n).1 := by
  unfold State.sanCaps
  with_reducible repeat' first
    | exact h | assumption | (intro) | apply ite_quiet | apply ite_quiet_fst | apply pair_quiet | apply ev_quiet
    | apply setSan_quiet

theorem sanCaps_quiet_eq {a0 s s1 : State} {b0} {n : Snap} (h : Quiet a0 s) (hE : State.sanCaps s n = (s1, b0)) : Quiet a0 s1 := by
  have := sanCaps_quiet h n 
  rw [hE] at this
  exact this

theorem sanCaps_kept {a0 s : State} (h : Kept a0 s) (n : Snap) : Kept a0 (State.sanCaps s n).1 :=
  h.quiet (sanCaps_quiet (Quiet.refl _) ..)

theorem sanCaps_kept_eq {a0 s s1 : State} {b0} {n : Snap} (h : Kept a0 s) (hE : State.sanCaps s n = (s1, b0)) : Kept a0 s1 :=
  h.quiet (sanCaps_quiet_eq (Quiet.refl _) hE)

theorem sanSlow_quiet {a0 s : State} (h : Quiet a0 s) (n : Snap) (j : Nat) : Quiet a0 (State.sanSlow s n j).1 := by
  unfold State.sanSlow
  with_reducible repeat' first
    | exact h | assumption | (intro) | apply ite_quiet | apply ite_quiet_fst | apply pair_quiet | apply judge_quiet

theorem sanSlow_quiet_eq {a0 s s1 : State} {b0} {n : Snap} {j : Nat} (h : Quiet a0 s) (hE : State.sanSlow s n j = (s1, b0)) : Quiet a0 s1 := by
  have := sanSlow_quiet h n j 
  rw [hE] at this
  exact this

theorem sanSlow_kept {a0 s : State} (h : Kept a0 s) (n : Snap) (j : Nat) : Kept a0 (State.sanSlow s n j).1 :=
  h.quiet (sanSlow_quiet (Quiet.refl _) ..)

theorem sanSlow_kept_eq {a0 s s1 : State} {b0} {n : Snap} {j : Nat} (h : Kept a0 s) (hE : State.sanSlow s n j = (s1, b0)) : Kept a0 s1 :=
  h.quiet (sanSlow_quiet_eq (Quiet.refl _) hE)

theorem sanEach_quiet {a0 : State} {f : State → Snap → Nat → State × Snap}
    (hf : ∀ u m i, Quiet a0 u → Quiet a0 (f u m i).1) (l : List Nat) {p : State × Snap} (h : Quiet a0 p.1) :
    Quiet a0 (sanEach f l p).1 := by
  unfold sanEach
  exact foldl_quiet_fst (fun u x hu => hf u.1 u.2 x hu) h

theorem sanitize_quiet {a0 s : State} (h : Quiet a0 s) (n : Snap) (tgt : Nat → Int) (slots : List Nat) :
    Quiet a0 (s.sanitize n tgt slots).1 := by
  unfold State.sanitize
  apply sanEach_quiet (fun u m i hu => sanSlow_quiet hu m i)
  apply sanCaps_quiet
  apply sanGrid_quiet
  apply sanEach_quiet (fun u m i hu => sanConv_quiet hu m tgt i)
  apply sanEach_quiet (fun u m i hu => sanBlock_quiet hu m i)
  apply sanEach_quiet (fun u m i hu => sanCurrent_quiet hu m i)
  apply sanEach_quiet (fun u m i hu => sanVolt_quiet hu m i)
  apply sanEach_quiet (fun u m i hu => sanRequest_quiet hu m i)
  exact h

theorem sanitize_quiet_eq {a0 s s1 : State} {x} {n : Snap} {tgt : Nat → Int} {slots : List Nat} (h : Quiet a0 s)
    (e : s.sanitize n tgt slots = (s1, x)) : Quiet a0 s1 := by
  have := sanitize_quiet h n tgt slots
  rw [e] at this
  exact this

theorem sanitize_kept {a0 s : State} (h : Kept a0 s) (n : Snap) (tgt : Nat → Int) (slots : List Nat) : Kept a0 (State.sanitize s n tgt slots).1 :=
  h.quiet (sanitize_quiet (Quiet.refl _) ..)

theorem sanitize_kept_eq {a0 s s1 : State} {b0} {n : Snap} {tgt : Nat → Int} {slots : List Nat} (h : Kept a0 s) (hE : State.sanitize s n tgt slots = (s1, b0)) : Kept a0 s1 :=
  h.quiet (sanitize_quiet_eq (Quiet.refl _) hE)

end Sys2Proof.Laws
end

