-- ==== Sys2Proof/Laws/QBounds.lean ====
section
/-!
SUPPORT. Machine/Bounds.lean leaves grade, queue and mode alone and keeps register file and event log sound.
-/
namespace Sys2Proof.Laws

open Sys2Proof.Machine

variable {a0 : State}

theorem setEntryAt_quiet {a0 s : State} (h : Quiet a0 s) (t : Nat) (i : Nat) (e : Entry) : Quiet a0 (State.setEntryAt s t i e) := by
  unfold State.setEntryAt
  with_reducible repeat' first
    | exact h | assumption | (intro) | apply ite_quiet | apply pair_quiet | split | dsimp only | (apply Quiet.upd; exact h)

theorem setEntryAt_kept {a0 s : State} (h : Kept a0 s) (t : Nat) (i : Nat) (e : Entry) : Kept a0 (State.setEntryAt s t i e) :=
  h.quiet (setEntryAt_quiet (Quiet.refl _) ..)

theorem setEntry_quiet {a0 s : State} (h : Quiet a0 s) (i : Nat) (e : Entry) : Quiet a0 (State.setEntry s i e) := by
  unfold State.setEntry
  with_reducible repeat' first | exact h | assumption | (intro) | apply ite_quiet | apply pair_quiet | apply setEntryAt_quiet

theorem setEntry_kept {a0 s : State} (h : Kept a0 s) (i : Nat) (e : Entry) : Kept a0 (State.setEntry s i e) :=
  h.quiet (setEntry_quiet (Quiet.refl _) ..)

theorem hideLate_quiet {a0 s : State} (h : Quiet a0 s) (tN : Nat) : Quiet a0 (State.hideLate s tN) := by
  unfold State.hideLate
  with_reducible repeat' first
    | exact h | assumption | (intro) | apply ite_quiet | apply ite_quiet_fst | apply pair_quiet | apply foldl_quiet
    | apply foldl_quiet_fst | apply foldl_quiet_snd | split | dsimp only | (apply Quiet.upd; exact h)

theorem hideLate_kept {a0 s : State} (h : Kept a0 s) (tN : Nat) : Kept a0 (State.hideLate s tN) :=
  h.quiet (hideLate_quiet (Quiet.refl _) ..)

theorem showLate_quiet {a0 s : State} (h : Quiet a0 s) : Quiet a0 s.showLate := by
  unfold State.showLate
  exact foldl_quiet (fun u x hu => setEntryAt_quiet hu _ _ _) h.upd

theorem showLate_kept {a0 s : State} (h : Kept a0 s) : Kept a0 (State.showLate s) :=
  h.quiet (showLate_quiet (Quiet.refl _) ..)

theorem command_quiet {a0 s : State} (h : Quiet a0 s) (b : Nat) (path : Nat) (tick : Nat) : Quiet a0 (State.command s b path tick) := by
  unfold State.command
  with_reducible repeat' first
    | exact h | assumption | (intro) | apply ite_quiet | apply pair_quiet | split | dsimp only | (apply Quiet.upd; exact h)

theorem command_kept {a0 s : State} (h : Kept a0 s) (b : Nat) (path : Nat) (tick : Nat) : Kept a0 (State.command s b path tick) :=
  h.quiet (command_quiet (Quiet.refl _) ..)

theorem pathCheck_quiet {a0 s : State} (h : Quiet a0 s) (n : Snap) : Quiet a0 (State.pathCheck s n) := by
  unfold State.pathCheck
  with_reducible repeat' first
    | exact h | assumption | (intro) | apply ite_quiet | apply ite_quiet_fst | apply pair_quiet | apply ev_quiet
    | apply foldl_quiet | apply foldl_quiet_fst | apply foldl_quiet_snd | split | dsimp only
    | (apply Quiet.upd; first | exact h | assumption)

theorem pathCheck_kept {a0 s : State} (h : Kept a0 s) (n : Snap) : Kept a0 (State.pathCheck s n) :=
  h.quiet (pathCheck_quiet (Quiet.refl _) ..)

end Sys2Proof.Laws
end

