-- ==== Sys2Proof/Laws/QAllocate.lean ====
section
/-!
SUPPORT. Machine/Allocate.lean leaves grade, queue and mode alone and keeps register file and event log sound.
-/
namespace Sys2Proof.Laws

open Sys2Proof.Machine

variable {a0 : State}

theorem abortMig_quiet {a0 s : State} (h : Quiet a0 s) (m : Mig) (code : Nat) : Quiet a0 (State.abortMig s m code) := by
  unfold State.abortMig
  with_reducible repeat' first
    | exact h | assumption | (intro) | apply ite_quiet | apply pair_quiet | apply ev_quiet | apply evLead_quiet | apply complete_quiet
    | apply start_quiet | apply setEntry_quiet | split | dsimp only | (apply Quiet.upd; exact h)

theorem abortMig_kept {a0 s : State} (h : Kept a0 s) (m : Mig) (code : Nat) : Kept a0 (State.abortMig s m code) :=
  h.quiet (abortMig_quiet (Quiet.refl _) ..)

theorem park_quiet {a0 s : State} (h : Quiet a0 s) (b : Nat) : Quiet a0 (State.park s b) := by
  unfold State.park
  with_reducible repeat' first
    | exact h | assumption | (intro) | apply ite_quiet | apply pair_quiet | split | dsimp only | (apply Quiet.upd; exact h)

theorem park_kept {a0 s : State} (h : Kept a0 s) (b : Nat) : Kept a0 (State.park s b) :=
  h.quiet (park_quiet (Quiet.refl _) ..)

theorem checkMig_quiet {a0 s : State} (h : Quiet a0 s) (n : Snap) (m : Mig) : Quiet a0 (State.checkMig s n m).1 := by
  unfold State.checkMig
  with_reducible repeat' first
    | exact h | assumption | (intro) | apply ite_quiet | apply ite_quiet_fst | apply pair_quiet | apply abortMig_quiet
    | apply park_quiet

theorem checkMig_quiet_eq {a0 s s1 : State} {b0} {n : Snap} {m : Mig} (h : Quiet a0 s) (hE : State.checkMig s n m = (s1, b0)) : Quiet a0 s1 := by
  have := checkMig_quiet h n m 
  rw [hE] at this
  exact this

theorem checkMig_kept {a0 s : State} (h : Kept a0 s) (n : Snap) (m : Mig) : Kept a0 (State.checkMig s n m).1 :=
  h.quiet (checkMig_quiet (Quiet.refl _) ..)

theorem checkMig_kept_eq {a0 s s1 : State} {b0} {n : Snap} {m : Mig} (h : Kept a0 s) (hE : State.checkMig s n m = (s1, b0)) : Kept a0 s1 :=
  h.quiet (checkMig_quiet_eq (Quiet.refl _) hE)

theorem checkMigs_quiet {a0 s : State} (h : Quiet a0 s) (n : Snap) : Quiet a0 (State.checkMigs s n).1 := by
  unfold State.checkMigs
  with_reducible repeat' first
    | exact h | assumption | (intro) | apply ite_quiet | apply ite_quiet_fst | apply pair_quiet | apply checkMig_quiet
    | apply foldl_quiet | apply foldl_quiet_fst

theorem checkMigs_quiet_eq {a0 s s1 : State} {b0} {n : Snap} (h : Quiet a0 s) (hE : State.checkMigs s n = (s1, b0)) : Quiet a0 s1 := by
  have := checkMigs_quiet h n 
  rw [hE] at this
  exact this

theorem checkMigs_kept {a0 s : State} (h : Kept a0 s) (n : Snap) : Kept a0 (State.checkMigs s n).1 :=
  h.quiet (checkMigs_quiet (Quiet.refl _) ..)

theorem checkMigs_kept_eq {a0 s s1 : State} {b0} {n : Snap} (h : Kept a0 s) (hE : State.checkMigs s n = (s1, b0)) : Kept a0 s1 :=
  h.quiet (checkMigs_quiet_eq (Quiet.refl _) hE)

theorem advanceMig_quiet {a0 s : State} (h : Quiet a0 s) (tick : Nat) (m : Mig) : Quiet a0 (State.advanceMig s tick m) := by
  unfold State.advanceMig
  with_reducible repeat' first
    | exact h | assumption | (intro) | apply ite_quiet | apply pair_quiet | apply ev_quiet | apply evLead_quiet | apply complete_quiet
    | apply report_quiet | apply setEntry_quiet | apply command_quiet | split | dsimp only
    | (apply Quiet.upd; first | exact h | assumption | (intro) | apply ite_quiet | apply pair_quiet | apply ev_quiet | apply evLead_quiet | apply complete_quiet | apply report_quiet | apply setEntry_quiet | apply command_quiet)

theorem advanceMig_kept {a0 s : State} (h : Kept a0 s) (tick : Nat) (m : Mig) : Kept a0 (State.advanceMig s tick m) :=
  h.quiet (advanceMig_quiet (Quiet.refl _) ..)

theorem advanceMigs_quiet {a0 s : State} (h : Quiet a0 s) (tick : Nat) : Quiet a0 (State.advanceMigs s tick) := by
  unfold State.advanceMigs
  with_reducible repeat' first
    | exact h | assumption | (intro) | apply ite_quiet | apply ite_quiet_fst | apply pair_quiet | apply advanceMig_quiet
    | apply foldl_quiet

theorem advanceMigs_kept {a0 s : State} (h : Kept a0 s) (tick : Nat) : Kept a0 (State.advanceMigs s tick) :=
  h.quiet (advanceMigs_quiet (Quiet.refl _) ..)

end Sys2Proof.Laws
end

