-- ==== Sys2Proof/Laws/QHostRings.lean ====
section
/-!
SUPPORT. Machine/HostRings.lean leaves grade, queue and mode alone and keeps register file and event log sound.
-/
namespace Sys2Proof.Laws

open Sys2Proof.Machine

variable {a0 : State}

theorem dropHifWaits_quiet {a0 s : State} (h : Quiet a0 s) (r : Nat) : Quiet a0 (State.dropHifWaits s r) := by
  unfold State.dropHifWaits
  with_reducible repeat' first
    | exact h | assumption | (intro) | apply ite_quiet | apply pair_quiet | split | dsimp only | (apply Quiet.upd; exact h)

theorem dropHifWaits_kept {a0 s : State} (h : Kept a0 s) (r : Nat) : Kept a0 (State.dropHifWaits s r) :=
  h.quiet (dropHifWaits_quiet (Quiet.refl _) ..)

theorem flushRing_quiet {a0 s : State} (h : Quiet a0 s) (r : Nat) : Quiet a0 (State.flushRing s r) := by
  unfold State.flushRing
  with_reducible repeat' first
    | exact h | assumption | (intro) | apply ite_quiet | apply ite_quiet_fst | apply pair_quiet | apply complete_quiet
    | apply dropHifWaits_quiet | apply foldl_quiet

theorem flushRing_kept {a0 s : State} (h : Kept a0 s) (r : Nat) : Kept a0 (State.flushRing s r) :=
  h.quiet (flushRing_quiet (Quiet.refl _) ..)

theorem disableRing_quiet {a0 s : State} (h : Quiet a0 s) (r : Nat) : Quiet a0 (State.disableRing s r) := by
  unfold State.disableRing
  with_reducible repeat' first
    | exact h | assumption | (intro) | apply ite_quiet | apply pair_quiet | apply wr_quiet | apply setRing_quiet
    | apply shadow_quiet | apply run_quiet | apply flushRing_quiet

theorem disableRing_kept {a0 s : State} (h : Kept a0 s) (r : Nat) : Kept a0 (State.disableRing s r) :=
  h.quiet (disableRing_quiet (Quiet.refl _) ..)

theorem haltRing_quiet {a0 s : State} (h : Quiet a0 s) (r : Nat) (cause : Nat) (idx : Nat) (tag : Nat) : Quiet a0 (State.haltRing s r cause idx tag) := by
  unfold State.haltRing
  with_reducible repeat' first
    | exact h | assumption | (intro) | apply ite_quiet | apply pair_quiet | apply fresh_quiet | apply ev_quiet
    | apply attn_quiet | apply setRing_quiet | apply disableRing_quiet

theorem haltRing_kept {a0 s : State} (h : Kept a0 s) (r : Nat) (cause : Nat) (idx : Nat) (tag : Nat) : Kept a0 (State.haltRing s r cause idx tag) :=
  h.quiet (haltRing_quiet (Quiet.refl _) ..)

theorem linkEvent_quiet {a0 s : State} (h : Quiet a0 s) (kind : Nat) : Quiet a0 (State.linkEvent s kind) := by
  unfold State.linkEvent
  with_reducible repeat' first
    | exact h | assumption | (intro) | apply ite_quiet | apply ite_quiet_fst | apply pair_quiet | apply bump_quiet
    | apply ev_quiet | apply haltRing_quiet | apply foldl_quiet

theorem linkEvent_kept {a0 s : State} (h : Kept a0 s) (kind : Nat) : Kept a0 (State.linkEvent s kind) :=
  h.quiet (linkEvent_quiet (Quiet.refl _) ..)

theorem resetHif_quiet {a0 s : State} (h : Quiet a0 s) : Quiet a0 s.resetHif := by
  unfold State.resetHif
  with_reducible
    apply wr_quiet
    exact Quiet.filter h

theorem resetHif_kept {a0 s : State} (h : Kept a0 s) : Kept a0 (State.resetHif s) :=
  h.quiet (resetHif_quiet (Quiet.refl _) ..)

theorem doorbell_quiet {a0 s : State} (h : Quiet a0 s) (r : Nat) (v : Nat) : Quiet a0 (State.doorbell s r v) := by
  unfold State.doorbell
  with_reducible repeat' first
    | exact h | assumption | (intro) | apply ite_quiet | apply pair_quiet | apply bump_quiet | apply setRing_quiet
    | apply shadow_quiet | apply haltRing_quiet

theorem doorbell_kept {a0 s : State} (h : Kept a0 s) (r : Nat) (v : Nat) : Kept a0 (State.doorbell s r v) :=
  h.quiet (doorbell_quiet (Quiet.refl _) ..)

theorem fetchOne_quiet {a0 s : State} (h : Quiet a0 s) (r : Nat) (f : FetchDesc) : Quiet a0 (State.fetchOne s r f).1 := by
  unfold State.fetchOne
  with_reducible repeat' first
    | exact h | assumption | (intro) | apply ite_quiet | apply ite_quiet_fst | apply pair_quiet | apply ev_quiet
    | apply setRing_quiet | apply complete_quiet | apply haltRing_quiet | split | dsimp only
    | (apply Quiet.upd; first | exact h | assumption | (intro) | apply ite_quiet | apply ite_quiet_fst | apply pair_quiet | apply ev_quiet | apply setRing_quiet)

theorem fetchOne_quiet_eq {a0 s s1 : State} {b0} {r : Nat} {f : FetchDesc} (h : Quiet a0 s) (hE : State.fetchOne s r f = (s1, b0)) : Quiet a0 s1 := by
  have := fetchOne_quiet h r f 
  rw [hE] at this
  exact this

theorem fetchOne_kept {a0 s : State} (h : Kept a0 s) (r : Nat) (f : FetchDesc) : Kept a0 (State.fetchOne s r f).1 :=
  h.quiet (fetchOne_quiet (Quiet.refl _) ..)

theorem fetchOne_kept_eq {a0 s s1 : State} {b0} {r : Nat} {f : FetchDesc} (h : Kept a0 s) (hE : State.fetchOne s r f = (s1, b0)) : Kept a0 s1 :=
  h.quiet (fetchOne_quiet_eq (Quiet.refl _) hE)

theorem fetchRing_quiet {a0 s : State} (h : Quiet a0 s) (r k : Nat) (l : List FetchDesc) : Quiet a0 (s.fetchRing r k l) := by
  induction k generalizing s l with
  | zero => simpa [State.fetchRing] using h
  | succ k ih =>
    cases l with
    | nil => simpa [State.fetchRing] using h
    | cons f l =>
      unfold State.fetchRing
      have h1 := fetchOne_quiet h r f
      dsimp only
      split
      · split
        · exact ih h1 l
        · exact h1
      · exact h

theorem markStalls_quiet {a0 s : State} (h : Quiet a0 s) : Quiet a0 (State.markStalls s) := by
  unfold State.markStalls
  with_reducible repeat' first
    | exact h | assumption | (intro) | apply ite_quiet | apply ite_quiet_fst | apply pair_quiet | apply ev_quiet
    | apply setRing_quiet | apply run_quiet | apply foldl_quiet | apply foldl_quiet_fst | apply foldl_quiet_snd | split
    | dsimp only
    | (apply Quiet.upd; first | exact h | assumption | (intro) | apply ite_quiet | apply ite_quiet_fst | apply pair_quiet | apply ev_quiet | apply setRing_quiet | apply run_quiet | apply foldl_quiet)

theorem markStalls_kept {a0 s : State} (h : Kept a0 s) : Kept a0 (State.markStalls s) :=
  h.quiet (markStalls_quiet (Quiet.refl _) ..)

theorem fetchTurn_quiet {a0 s : State} (h : Quiet a0 s) (l : List FetchDesc) : Quiet a0 (State.fetchTurn s l) := by
  unfold State.fetchTurn
  with_reducible repeat' first
    | exact h | assumption | (intro) | apply ite_quiet | apply pair_quiet | apply shadow_quiet | apply fetchRing_quiet
    | apply markStalls_quiet | exact fetchRing_quiet_eq (by assumption) (by assumption) | split | dsimp only
    | (apply Quiet.upd; exact h)

theorem fetchTurn_kept {a0 s : State} (h : Kept a0 s) (l : List FetchDesc) : Kept a0 (State.fetchTurn s l) :=
  h.quiet (fetchTurn_quiet (Quiet.refl _) ..)

theorem ringFields_quiet {a0 s : State} (h : Quiet a0 s) (r : Nat) (v : Nat) : Quiet a0 (State.ringFields s r v) := by
  unfold State.ringFields
  with_reducible repeat' first | exact h | assumption | (intro) | apply ite_quiet | apply pair_quiet | apply wr_quiet

theorem ringFields_kept {a0 s : State} (h : Kept a0 s) (r : Nat) (v : Nat) : Kept a0 (State.ringFields s r v) :=
  h.quiet (ringFields_quiet (Quiet.refl _) ..)

theorem enableRing_quiet {a0 s : State} (h : Quiet a0 s) (r : Nat) (v : Nat) : Quiet a0 (State.enableRing s r v) := by
  unfold State.enableRing
  with_reducible repeat' first
    | exact h | assumption | (intro) | apply ite_quiet | apply pair_quiet | apply wr_quiet | apply setRing_quiet
    | apply shadow_quiet | apply run_quiet | apply ringFields_quiet

theorem enableRing_kept {a0 s : State} (h : Kept a0 s) (r : Nat) (v : Nat) : Kept a0 (State.enableRing s r v) :=
  h.quiet (enableRing_quiet (Quiet.refl _) ..)

theorem ringOff_quiet {a0 s : State} (h : Quiet a0 s) (r : Nat) (v : Nat) : Quiet a0 (State.ringOff s r v) := by
  unfold State.ringOff
  with_reducible repeat' first
    | exact h | assumption | (intro) | apply ite_quiet | apply pair_quiet | apply disableRing_quiet | apply ringFields_quiet

theorem ringOff_kept {a0 s : State} (h : Kept a0 s) (r : Nat) (v : Nat) : Kept a0 (State.ringOff s r v) :=
  h.quiet (ringOff_quiet (Quiet.refl _) ..)

theorem deliverEvents_quiet {a0 s : State} (h : Quiet a0 s) (r : Nat) (idx : Nat) (first : Nat) (addr : Nat) (len : Nat) (code : Nat) : Quiet a0 (State.deliverEvents s r idx first addr len code) := by
  unfold State.deliverEvents
  with_reducible repeat' first
    | exact h | assumption | (intro) | apply ite_quiet | apply pair_quiet | apply emit_quiet | apply complete_quiet

theorem deliverEvents_kept {a0 s : State} (h : Kept a0 s) (r : Nat) (idx : Nat) (first : Nat) (addr : Nat) (len : Nat) (code : Nat) : Kept a0 (State.deliverEvents s r idx first addr len code) :=
  h.quiet (deliverEvents_quiet (Quiet.refl _) ..)

theorem beginSelfTest_quiet {a0 s : State} (h : Quiet a0 s) (r : Nat) (idx : Nat) (kind : Nat) : Quiet a0 (State.beginSelfTest s r idx kind) := by
  unfold State.beginSelfTest
  with_reducible repeat' first
    | exact h | assumption | (intro) | apply ite_quiet | apply pair_quiet | apply mapFlight_quiet | apply reportStart_quiet
    | split | dsimp only
    | (apply Quiet.upd; first | exact h | assumption | (intro) | apply ite_quiet | apply pair_quiet | apply mapFlight_quiet)

theorem beginSelfTest_kept {a0 s : State} (h : Kept a0 s) (r : Nat) (idx : Nat) (kind : Nat) : Kept a0 (State.beginSelfTest s r idx kind) :=
  h.quiet (beginSelfTest_quiet (Quiet.refl _) ..)

theorem selfTestDesc_quiet {a0 s : State} (h : Quiet a0 s) (d : DescRef) (kind : Nat) (argOk : Bool) : Quiet a0 (State.selfTestDesc s d kind argOk) := by
  unfold State.selfTestDesc
  with_reducible repeat' first
    | exact h | assumption | (intro) | apply ite_quiet | apply pair_quiet | apply fail_quiet | apply waitShared_quiet
    | apply run_quiet | apply beginSelfTest_quiet | split | dsimp only
    | (apply Quiet.upd; first | exact h | assumption | (intro) | apply ite_quiet | apply pair_quiet | apply fail_quiet | apply waitShared_quiet)

theorem selfTestDesc_kept {a0 s : State} (h : Kept a0 s) (d : DescRef) (kind : Nat) (argOk : Bool) : Kept a0 (State.selfTestDesc s d kind argOk) :=
  h.quiet (selfTestDesc_quiet (Quiet.refl _) ..)

theorem selfTestDone_quiet {a0 s : State} (h : Quiet a0 s) (a : Nat) (b : Nat) : Quiet a0 (State.selfTestDone s a b) := by
  unfold State.selfTestDone
  with_reducible repeat' first
    | exact h | assumption | (intro) | apply ite_quiet | apply pair_quiet | apply waitTill_quiet | apply complete_quiet
    | apply setWait_quiet | apply beginSelfTest_quiet | split | dsimp only
    | (apply Quiet.upd; first | exact h | assumption | (intro) | apply ite_quiet | apply pair_quiet | apply waitTill_quiet | apply complete_quiet)

theorem selfTestDone_kept {a0 s : State} (h : Kept a0 s) (a : Nat) (b : Nat) : Kept a0 (State.selfTestDone s a b) :=
  h.quiet (selfTestDone_quiet (Quiet.refl _) ..)

theorem seeReadFail_quiet {a0 s : State} (h : Quiet a0 s) (gen : Option Nat) : Quiet a0 (State.seeReadFail s gen) := by
  unfold State.seeReadFail
  with_reducible repeat' first
    | exact h | assumption | (intro) | apply ite_quiet | apply pair_quiet | apply wr_quiet | split | dsimp only
    | (apply Quiet.upd; exact h)

theorem seeReadFail_kept {a0 s : State} (h : Kept a0 s) (gen : Option Nat) : Kept a0 (State.seeReadFail s gen) :=
  h.quiet (seeReadFail_quiet (Quiet.refl _) ..)

theorem attnWrite_quiet {a0 s : State} (h : Quiet a0 s) (v : Nat) : Quiet a0 (State.attnWrite s v) := by
  unfold State.attnWrite
  with_reducible repeat' first
    | exact h | assumption | (intro) | apply ite_quiet | apply pair_quiet | apply wr_quiet | apply message_quiet

theorem attnWrite_kept {a0 s : State} (h : Kept a0 s) (v : Nat) : Kept a0 (State.attnWrite s v) :=
  h.quiet (attnWrite_quiet (Quiet.refl _) ..)

theorem msixVec_quiet {a0 s : State} (h : Quiet a0 s) (mask : Bool) : Quiet a0 (State.msixVec s mask) := by
  unfold State.msixVec
  with_reducible repeat' first
    | exact h | assumption | (intro) | apply ite_quiet | apply pair_quiet | apply message_quiet | split | dsimp only
    | (apply Quiet.upd; exact h)

theorem msixVec_kept {a0 s : State} (h : Kept a0 s) (mask : Bool) : Kept a0 (State.msixVec s mask) :=
  h.quiet (msixVec_quiet (Quiet.refl _) ..)

theorem hifClear_quiet {a0 s : State} (h : Quiet a0 s) : Quiet a0 (State.hifClear s) := by
  unfold State.hifClear
  with_reducible repeat' first
    | exact h | assumption | (intro) | apply ite_quiet | apply pair_quiet | apply wr_quiet | split | dsimp only
    | (apply Quiet.upd; first | exact h | assumption | (intro) | apply ite_quiet | apply pair_quiet | apply wr_quiet)

theorem hifClear_kept {a0 s : State} (h : Kept a0 s) : Kept a0 (State.hifClear s) :=
  h.quiet (hifClear_quiet (Quiet.refl _) ..)

end Sys2Proof.Laws
end

