-- ==== Sys2Proof/Laws/QCan.lean ====
section
/-!
SUPPORT. Machine/Can.lean leaves grade, queue and mode alone and keeps register file and event log sound.
-/
namespace Sys2Proof.Laws

open Sys2Proof.Machine

variable {a0 : State}

theorem modCan_quiet {a0 s : State} (h : Quiet a0 s) (n : Nat) (f : CanCtl → CanCtl) : Quiet a0 (State.modCan s n f) := by
  unfold State.modCan
  with_reducible repeat' first
    | exact h | assumption | (intro) | apply ite_quiet | apply pair_quiet | split | dsimp only | (apply Quiet.upd; exact h)

theorem modCan_kept {a0 s : State} (h : Kept a0 s) (n : Nat) (f : CanCtl → CanCtl) : Kept a0 (State.modCan s n f) :=
  h.quiet (modCan_quiet (Quiet.refl _) ..)

theorem setBuf_quiet {a0 s : State} (h : Quiet a0 s) (n : Nat) (b : Nat) (q : Option CanReq) : Quiet a0 (State.setBuf s n b q) := by
  unfold State.setBuf
  with_reducible repeat' first | exact h | assumption | (intro) | apply ite_quiet | apply pair_quiet | apply modCan_quiet

theorem setBuf_kept {a0 s : State} (h : Kept a0 s) (n : Nat) (b : Nat) (q : Option CanReq) : Kept a0 (State.setBuf s n b q) :=
  h.quiet (setBuf_quiet (Quiet.refl _) ..)

theorem canShow_quiet {a0 s : State} (h : Quiet a0 s) (n : Nat) : Quiet a0 (State.canShow s n) := by
  unfold State.canShow
  with_reducible repeat' first
    | exact h | assumption | (intro) | apply ite_quiet | apply ite_quiet_fst | apply pair_quiet | apply wr_quiet
    | apply foldl_quiet

theorem canShow_kept {a0 s : State} (h : Kept a0 s) (n : Nat) : Kept a0 (State.canShow s n) :=
  h.quiet (canShow_quiet (Quiet.refl _) ..)

theorem canLoad_quiet {a0 s : State} (h : Quiet a0 s) (n : Nat) (b : Nat) (q : CanReq) : Quiet a0 (State.canLoad s n b q) := by
  unfold State.canLoad
  with_reducible repeat' first
    | exact h | assumption | (intro) | apply ite_quiet | apply pair_quiet | apply modCan_quiet | apply setBuf_quiet

theorem canLoad_kept {a0 s : State} (h : Kept a0 s) (n : Nat) (b : Nat) (q : CanReq) : Kept a0 (State.canLoad s n b q) :=
  h.quiet (canLoad_quiet (Quiet.refl _) ..)

theorem canFill1_quiet {a0 s s1 : State} (h : Quiet a0 s) {n : Nat} (e : s.canFill1 n = some s1) : Quiet a0 s1 := by
  unfold State.canFill1 at e
  dsimp only at e
  repeat' split at e
  all_goals first
    | (injection e with e; subst e; with_reducible repeat' first | exact h | apply modCan_quiet | apply canLoad_quiet)
    | cases e

theorem canFillN_quiet {a0 s : State} (h : Quiet a0 s) (n k : Nat) : Quiet a0 (s.canFillN n k) := by
  induction k generalizing s with
  | zero => exact h
  | succ k ih =>
    unfold State.canFillN
    split
    · exact h
    · next s1 e => exact ih (canFill1_quiet h e)

theorem canFill_quiet {a0 s : State} (h : Quiet a0 s) (n : Nat) : Quiet a0 (State.canFill s n) := by
  unfold State.canFill
  with_reducible repeat' first
    | exact h | assumption | (intro) | apply ite_quiet | apply pair_quiet | apply canShow_quiet | apply canFillN_quiet

theorem canFill_kept {a0 s : State} (h : Kept a0 s) (n : Nat) : Kept a0 (State.canFill s n) :=
  h.quiet (canFill_quiet (Quiet.refl _) ..)

theorem canWithdraw_quiet {a0 s : State} (h : Quiet a0 s) (n : Nat) (q : CanReq) (cause : Nat) : Quiet a0 (State.canWithdraw s n q cause) := by
  unfold State.canWithdraw
  with_reducible repeat' first
    | exact h | assumption | (intro) | apply ite_quiet | apply pair_quiet | apply bump_quiet | apply ev_quiet
    | apply complete_quiet | split

theorem canWithdraw_kept {a0 s : State} (h : Kept a0 s) (n : Nat) (q : CanReq) (cause : Nat) : Kept a0 (State.canWithdraw s n q cause) :=
  h.quiet (canWithdraw_quiet (Quiet.refl _) ..)

theorem canWithdrawAll_quiet {a0 s : State} (h : Quiet a0 s) (n : Nat) (cause : Nat) (p : CanReq → Bool) : Quiet a0 (State.canWithdrawAll s n cause p) := by
  unfold State.canWithdrawAll
  with_reducible repeat' first
    | exact h | assumption | (intro) | apply ite_quiet | apply ite_quiet_fst | apply pair_quiet | apply modCan_quiet
    | apply setBuf_quiet | apply canWithdraw_quiet | apply foldl_quiet

theorem canWithdrawAll_kept {a0 s : State} (h : Kept a0 s) (n : Nat) (cause : Nat) (p : CanReq → Bool) : Kept a0 (State.canWithdrawAll s n cause p) :=
  h.quiet (canWithdrawAll_quiet (Quiet.refl _) ..)

theorem canExpire_quiet {a0 s : State} (h : Quiet a0 s) (n : Nat) : Quiet a0 (State.canExpire s n) := by
  unfold State.canExpire
  with_reducible repeat' first
    | exact h | assumption | (intro) | apply ite_quiet | apply pair_quiet | apply canFill_quiet | apply canWithdrawAll_quiet

theorem canExpire_kept {a0 s : State} (h : Kept a0 s) (n : Nat) : Kept a0 (State.canExpire s n) :=
  h.quiet (canExpire_quiet (Quiet.refl _) ..)

theorem canRequest_quiet {a0 s : State} (h : Quiet a0 s) (n : Nat) (o : Nat) (data : List Nat) (deadline : Option Nat) (src : CanSrc) : Quiet a0 (State.canRequest s n o data deadline src) := by
  unfold State.canRequest
  with_reducible repeat' first
    | exact h | assumption | (intro) | apply ite_quiet | apply pair_quiet | apply modCan_quiet | apply canFill_quiet
    | apply canWithdrawAll_quiet

theorem canRequest_kept {a0 s : State} (h : Kept a0 s) (n : Nat) (o : Nat) (data : List Nat) (deadline : Option Nat) (src : CanSrc) : Kept a0 (State.canRequest s n o data deadline src) :=
  h.quiet (canRequest_quiet (Quiet.refl _) ..)

theorem canStartTx_quiet {a0 s : State} (h : Quiet a0 s) (n : Nat) : Quiet a0 (State.canStartTx s n) := by
  unfold State.canStartTx
  with_reducible repeat' first
    | exact h | assumption | (intro) | apply ite_quiet | apply pair_quiet | apply modCan_quiet | apply canShow_quiet
    | apply canExpire_quiet | split | dsimp only

theorem canStartTx_kept {a0 s : State} (h : Kept a0 s) (n : Nat) : Kept a0 (State.canStartTx s n) :=
  h.quiet (canStartTx_quiet (Quiet.refl _) ..)

theorem canErrState_quiet {a0 s : State} (h : Quiet a0 s) (n : Nat) (tec0 : Nat) (rec0 : Nat) : Quiet a0 (State.canErrState s n tec0 rec0) := by
  unfold State.canErrState
  with_reducible repeat' first
    | exact h | assumption | (intro) | apply ite_quiet | apply pair_quiet | apply wr_quiet | apply ev_quiet

theorem canErrState_kept {a0 s : State} (h : Kept a0 s) (n : Nat) (tec0 : Nat) (rec0 : Nat) : Kept a0 (State.canErrState s n tec0 rec0) :=
  h.quiet (canErrState_quiet (Quiet.refl _) ..)

theorem canSent_quiet {a0 s : State} (h : Quiet a0 s) (n : Nat) : Quiet a0 (State.canSent s n) := by
  unfold State.canSent
  with_reducible repeat' first
    | exact h | assumption | (intro) | apply ite_quiet | apply pair_quiet | apply wr_quiet | apply bumpWrap_quiet
    | apply emit_quiet | apply complete_quiet | apply modCan_quiet | apply setBuf_quiet | apply canFill_quiet
    | apply canErrState_quiet | split

theorem canSent_kept {a0 s : State} (h : Kept a0 s) (n : Nat) : Kept a0 (State.canSent s n) :=
  h.quiet (canSent_quiet (Quiet.refl _) ..)

theorem canMarkSuspect_quiet {a0 s : State} (h : Quiet a0 s) (n : Nat) (id : Nat) (ide : Bool) (on : Bool) : Quiet a0 (State.canMarkSuspect s n id ide on) := by
  unfold State.canMarkSuspect
  with_reducible repeat' first
    | exact h | assumption | (intro) | apply ite_quiet | apply ite_quiet_fst | apply pair_quiet | apply wr_quiet
    | apply foldl_quiet

theorem canMarkSuspect_kept {a0 s : State} (h : Kept a0 s) (n : Nat) (id : Nat) (ide : Bool) (on : Bool) : Kept a0 (State.canMarkSuspect s n id ide on) :=
  h.quiet (canMarkSuspect_quiet (Quiet.refl _) ..)

theorem canContend_quiet {a0 s : State} (h : Quiet a0 s) (n : Nat) (q : CanReq) : Quiet a0 (State.canContend s n q) := by
  unfold State.canContend
  with_reducible repeat' first
    | exact h | assumption | (intro) | apply ite_quiet | apply pair_quiet | apply wr_quiet | apply ev_quiet
    | apply modCan_quiet | apply canWithdrawAll_quiet | apply canMarkSuspect_quiet

theorem canContend_kept {a0 s : State} (h : Kept a0 s) (n : Nat) (q : CanReq) : Kept a0 (State.canContend s n q) :=
  h.quiet (canContend_quiet (Quiet.refl _) ..)

theorem canError_quiet {a0 s : State} (h : Quiet a0 s) (n : Nat) (kind : Nat) : Quiet a0 (State.canError s n kind) := by
  unfold State.canError
  with_reducible repeat' first
    | exact h | assumption | (intro) | apply ite_quiet | apply pair_quiet | apply wr_quiet | apply bump_quiet
    | apply ev_quiet | apply modCan_quiet | apply canFill_quiet | apply canErrState_quiet | apply canContend_quiet | split

theorem canError_kept {a0 s : State} (h : Kept a0 s) (n : Nat) (kind : Nat) : Kept a0 (State.canError s n kind) :=
  h.quiet (canError_quiet (Quiet.refl _) ..)

theorem modStr_quiet {a0 s : State} (h : Quiet a0 s) (i : Nat) (f : Str → Str) : Quiet a0 (State.modStr s i f) := by
  unfold State.modStr
  with_reducible repeat' first
    | exact h | assumption | (intro) | apply ite_quiet | apply pair_quiet | split | dsimp only | (apply Quiet.upd; exact h)

theorem modStr_kept {a0 s : State} (h : Kept a0 s) (i : Nat) (f : Str → Str) : Kept a0 (State.modStr s i f) :=
  h.quiet (modStr_quiet (Quiet.refl _) ..)

theorem wantAuth_quiet {a0 s : State} (h : Quiet a0 s) (i : Nat) : Quiet a0 (State.wantAuth s i) := by
  unfold State.wantAuth
  with_reducible repeat' first | exact h | assumption | (intro) | apply ite_quiet | apply pair_quiet | apply modStr_quiet

theorem wantAuth_kept {a0 s : State} (h : Kept a0 s) (i : Nat) : Kept a0 (State.wantAuth s i) :=
  h.quiet (wantAuth_quiet (Quiet.refl _) ..)

theorem authBus_quiet {a0 s : State} (h : Quiet a0 s) (n : Nat) : Quiet a0 (State.authBus s n) := by
  unfold State.authBus
  with_reducible repeat' first
    | exact h | assumption | (intro) | apply ite_quiet | apply ite_quiet_fst | apply pair_quiet | apply wantAuth_quiet
    | apply foldl_quiet

theorem authBus_kept {a0 s : State} (h : Kept a0 s) (n : Nat) : Kept a0 (State.authBus s n) :=
  h.quiet (authBus_quiet (Quiet.refl _) ..)

theorem canRecovered_quiet {a0 s : State} (h : Quiet a0 s) (n : Nat) : Quiet a0 (State.canRecovered s n) := by
  unfold State.canRecovered
  with_reducible repeat' first
    | exact h | assumption | (intro) | apply ite_quiet | apply pair_quiet | apply wr_quiet | apply bump_quiet
    | apply waitTill_quiet | apply ev_quiet | apply modCan_quiet | apply canExpire_quiet | apply authBus_quiet | split

theorem canRecovered_kept {a0 s : State} (h : Kept a0 s) (n : Nat) : Kept a0 (State.canRecovered s n) :=
  h.quiet (canRecovered_quiet (Quiet.refl _) ..)

theorem canToHost_quiet {a0 s : State} (h : Quiet a0 s) (n : Nat) (o : Nat) (ring : Nat) (f : CanFrame) : Quiet a0 (State.canToHost s n o ring f).1 := by
  unfold State.canToHost
  with_reducible repeat' first
    | exact h | assumption | (intro) | apply ite_quiet | apply ite_quiet_fst | apply pair_quiet | apply bump_quiet
    | apply emit_quiet | apply complete_quiet | split | dsimp only | (apply Quiet.upd; exact h)

theorem canToHost_quiet_eq {a0 s s1 : State} {b0} {n : Nat} {o : Nat} {ring : Nat} {f : CanFrame} (h : Quiet a0 s) (hE : State.canToHost s n o ring f = (s1, b0)) : Quiet a0 s1 := by
  have := canToHost_quiet h n o ring f 
  rw [hE] at this
  exact this

theorem canToHost_kept {a0 s : State} (h : Kept a0 s) (n : Nat) (o : Nat) (ring : Nat) (f : CanFrame) : Kept a0 (State.canToHost s n o ring f).1 :=
  h.quiet (canToHost_quiet (Quiet.refl _) ..)

theorem canToHost_kept_eq {a0 s s1 : State} {b0} {n : Nat} {o : Nat} {ring : Nat} {f : CanFrame} (h : Kept a0 s) (hE : State.canToHost s n o ring f = (s1, b0)) : Kept a0 s1 :=
  h.quiet (canToHost_quiet_eq (Quiet.refl _) hE)

theorem canStore_quiet {a0 s : State} (h : Quiet a0 s) (n : Nat) (o : Nat) (f : CanFrame) (hkcTakes : Bool) : Quiet a0 (State.canStore s n o f hkcTakes) := by
  unfold State.canStore
  with_reducible repeat' first
    | exact h | assumption | (intro) | apply ite_quiet | apply pair_quiet | apply wr_quiet | apply bumpWrap_quiet
    | apply ev_quiet | apply modCan_quiet | apply canToHost_quiet | exact canToHost_quiet_eq (by assumption) (by assumption)
    | split

theorem canStore_kept {a0 s : State} (h : Kept a0 s) (n : Nat) (o : Nat) (f : CanFrame) (hkcTakes : Bool) : Kept a0 (State.canStore s n o f hkcTakes) :=
  h.quiet (canStore_quiet (Quiet.refl _) ..)

theorem canReceive_quiet {a0 s : State} (h : Quiet a0 s) (n : Nat) (id : Nat) (ide : Bool) (fdf : Bool) (brs : Bool) (data : List Nat) (lead : Nat) (hkcTakes : Bool) : Quiet a0 (State.canReceive s n id ide fdf brs data lead hkcTakes) := by
  unfold State.canReceive
  with_reducible repeat' first
    | exact h | assumption | (intro) | apply ite_quiet | apply pair_quiet | apply wr_quiet | apply bump_quiet
    | apply fresh_quiet | apply modCan_quiet | apply canErrState_quiet | apply canStore_quiet
    | exact fresh_quiet_eq (by assumption) (by assumption) | split

theorem canReceive_kept {a0 s : State} (h : Kept a0 s) (n : Nat) (id : Nat) (ide : Bool) (fdf : Bool) (brs : Bool) (data : List Nat) (lead : Nat) (hkcTakes : Bool) : Kept a0 (State.canReceive s n id ide fdf brs data lead hkcTakes) :=
  h.quiet (canReceive_quiet (Quiet.refl _) ..)

theorem canSleep_quiet {a0 s : State} (h : Quiet a0 s) (n : Nat) : Quiet a0 (State.canSleep s n) := by
  unfold State.canSleep
  with_reducible repeat' first
    | exact h | assumption | (intro) | apply ite_quiet | apply pair_quiet | apply wr_quiet | apply canSent_quiet

theorem canSleep_kept {a0 s : State} (h : Kept a0 s) (n : Nat) : Kept a0 (State.canSleep s n) :=
  h.quiet (canSleep_quiet (Quiet.refl _) ..)

theorem canAwake_quiet {a0 s : State} (h : Quiet a0 s) (n : Nat) : Quiet a0 (State.canAwake s n) := by
  unfold State.canAwake
  with_reducible repeat' first
    | exact h | assumption | (intro) | apply ite_quiet | apply pair_quiet | apply wr_quiet | apply waitTill_quiet
    | apply canExpire_quiet

theorem canAwake_kept {a0 s : State} (h : Kept a0 s) (n : Nat) : Kept a0 (State.canAwake s n) :=
  h.quiet (canAwake_quiet (Quiet.refl _) ..)

theorem canMaster_quiet {a0 s : State} (h : Quiet a0 s) (n : Nat) : Quiet a0 (State.canMaster s n) := by
  unfold State.canMaster
  with_reducible repeat' first
    | exact h | assumption | (intro) | apply ite_quiet | apply pair_quiet | apply wr_quiet | apply ev_quiet

theorem canMaster_kept {a0 s : State} (h : Kept a0 s) (n : Nat) : Kept a0 (State.canMaster s n) :=
  h.quiet (canMaster_quiet (Quiet.refl _) ..)

theorem canRoles_quiet {a0 s : State} (h : Quiet a0 s) : Quiet a0 (State.canRoles s) := by
  unfold State.canRoles
  with_reducible repeat' first
    | exact h | assumption | (intro) | apply ite_quiet | apply ite_quiet_fst | apply pair_quiet | apply wr_quiet
    | apply canFill_quiet | apply canWithdrawAll_quiet | apply canSleep_quiet | apply canMaster_quiet | apply foldl_quiet

theorem canRoles_kept {a0 s : State} (h : Kept a0 s) : Kept a0 (State.canRoles s) :=
  h.quiet (canRoles_quiet (Quiet.refl _) ..)

theorem canCheck_quiet {a0 s : State} (h : Quiet a0 s) : Quiet a0 (State.canCheck s) := by
  unfold State.canCheck
  with_reducible repeat' first
    | exact h | assumption | (intro) | apply ite_quiet | apply ite_quiet_fst | apply pair_quiet | apply wr_quiet
    | apply ev_quiet | apply foldl_quiet

theorem canCheck_kept {a0 s : State} (h : Kept a0 s) : Kept a0 (State.canCheck s) :=
  h.quiet (canCheck_quiet (Quiet.refl _) ..)

theorem canClear_quiet {a0 s : State} (h : Quiet a0 s) (n : Nat) : Quiet a0 (State.canClear s n) := by
  unfold State.canClear
  with_reducible repeat' first | exact h | assumption | (intro) | apply ite_quiet | apply pair_quiet | apply wr_quiet

theorem canClear_kept {a0 s : State} (h : Kept a0 s) (n : Nat) : Kept a0 (State.canClear s n) :=
  h.quiet (canClear_quiet (Quiet.refl _) ..)

theorem canRefMessage_quiet {a0 s : State} (h : Quiet a0 s) (n : Nat) : Quiet a0 (State.canRefMessage s n) := by
  unfold State.canRefMessage
  with_reducible repeat' first
    | exact h | assumption | (intro) | apply ite_quiet | apply pair_quiet | apply waitSite_quiet | apply modCan_quiet
    | apply canRequest_quiet

theorem canRefMessage_kept {a0 s : State} (h : Kept a0 s) (n : Nat) : Kept a0 (State.canRefMessage s n) :=
  h.quiet (canRefMessage_quiet (Quiet.refl _) ..)

theorem unsuspect_quiet {a0 s : State} (h : Quiet a0 s) (n : Nat) (x : Nat × Bool × Nat) : Quiet a0 (State.unsuspect s n x) := by
  unfold State.unsuspect
  with_reducible repeat' first
    | exact h | assumption | (intro) | apply ite_quiet | apply pair_quiet | apply modCan_quiet | apply canMarkSuspect_quiet

theorem unsuspect_kept {a0 s : State} (h : Kept a0 s) (n : Nat) (x : Nat × Bool × Nat) : Kept a0 (State.unsuspect s n x) :=
  h.quiet (unsuspect_quiet (Quiet.refl _) ..)

theorem canRecReq_quiet {a0 s : State} (h : Quiet a0 s) (n : Nat) : Quiet a0 (State.canRecReq s n) := by
  unfold State.canRecReq
  with_reducible repeat' first
    | exact h | assumption | (intro) | apply ite_quiet | apply pair_quiet | apply wr_quiet | apply modCan_quiet

theorem canRecReq_kept {a0 s : State} (h : Kept a0 s) (n : Nat) : Kept a0 (State.canRecReq s n) :=
  h.quiet (canRecReq_quiet (Quiet.refl _) ..)

end Sys2Proof.Laws
end

