-- ==== Sys2Proof/Laws/QSeal.lean ====
section
/-!
SUPPORT. Machine/Seal.lean leaves grade, queue and mode alone and keeps register file and event log sound.
-/
namespace Sys2Proof.Laws

open Sys2Proof.Machine

variable {a0 : State}

theorem logClamps_quiet {a0 s : State} (h : Quiet a0 s) (l : List Clamp) : Quiet a0 (State.logClamps s l) := by
  unfold State.logClamps
  with_reducible repeat' first
    | exact h | assumption | (intro) | apply ite_quiet | apply ite_quiet_fst | apply pair_quiet | apply bump_quiet
    | apply ev_quiet | apply evLead_quiet | apply foldl_quiet | apply foldl_quiet_fst | apply foldl_quiet_snd | split | dsimp only
    | (apply Quiet.upd; first | exact h | assumption | (intro) | apply ite_quiet | apply ite_quiet_fst | apply pair_quiet | apply bump_quiet)

theorem logClamps_kept {a0 s : State} (h : Kept a0 s) (l : List Clamp) : Kept a0 (State.logClamps s l) :=
  h.quiet (logClamps_quiet (Quiet.refl _) ..)

theorem sendHeartbeat_quiet {a0 s : State} (h : Quiet a0 s) (w : Nat) : Quiet a0 (State.sendHeartbeat s w) := by
  unfold State.sendHeartbeat
  with_reducible repeat' first
    | exact h | assumption | (intro) | apply ite_quiet | apply pair_quiet | split | dsimp only | (apply Quiet.upd; exact h)

theorem sendHeartbeat_kept {a0 s : State} (h : Kept a0 s) (w : Nat) : Kept a0 (State.sendHeartbeat s w) :=
  h.quiet (sendHeartbeat_quiet (Quiet.refl _) ..)

theorem storeCurd_quiet {a0 s : State} (h : Quiet a0 s) (c : Curd) (w : Nat) (sealT : Nat) : Quiet a0 (State.storeCurd s c w sealT) := by
  unfold State.storeCurd
  with_reducible repeat' first
    | exact h | assumption | (intro) | apply ite_quiet | apply pair_quiet | apply wr_quiet | apply sendHeartbeat_quiet
    | split | dsimp only
    | (apply Quiet.upd; first | exact h | assumption | (intro) | apply ite_quiet | apply pair_quiet | apply wr_quiet)

theorem storeCurd_kept {a0 s : State} (h : Kept a0 s) (c : Curd) (w : Nat) (sealT : Nat) : Kept a0 (State.storeCurd s c w sealT) :=
  h.quiet (storeCurd_quiet (Quiet.refl _) ..)

theorem noteWhey_quiet {a0 s : State} (h : Quiet a0 s) (tick : Nat) (w : Int) : Quiet a0 (State.noteWhey s tick w) := by
  unfold State.noteWhey
  with_reducible repeat' first
    | exact h | assumption | (intro) | apply ite_quiet | apply pair_quiet | apply wr64_quiet | split | dsimp only
    | (apply Quiet.upd; exact h)

theorem noteWhey_kept {a0 s : State} (h : Kept a0 s) (tick : Nat) (w : Int) : Kept a0 (State.noteWhey s tick w) :=
  h.quiet (noteWhey_quiet (Quiet.refl _) ..)

theorem noteSubst_quiet {a0 s : State} (h : Quiet a0 s) (n : Snap) : Quiet a0 (State.noteSubst s n) := by
  unfold State.noteSubst
  with_reducible repeat' first
    | exact h | assumption | (intro) | apply ite_quiet | apply pair_quiet | apply wr_quiet | apply bump_quiet

theorem noteSubst_kept {a0 s : State} (h : Kept a0 s) (n : Snap) : Kept a0 (State.noteSubst s n) :=
  h.quiet (noteSubst_quiet (Quiet.refl _) ..)

theorem noteShort_quiet {a0 s : State} (h : Quiet a0 s) (tick : Nat) (al : Alloc) (gCap : Int) : Quiet a0 (State.noteShort s tick al gCap) := by
  unfold State.noteShort
  with_reducible repeat' first
    | exact h | assumption | (intro) | apply ite_quiet | apply pair_quiet | apply bump_quiet | apply ev_quiet | apply evLead_quiet | split
    | dsimp only
    | (apply Quiet.upd; first | exact h | assumption | (intro) | apply ite_quiet | apply pair_quiet | apply bump_quiet | apply ev_quiet | apply evLead_quiet)

theorem noteShort_kept {a0 s : State} (h : Kept a0 s) (tick : Nat) (al : Alloc) (gCap : Int) : Kept a0 (State.noteShort s tick al gCap) :=
  h.quiet (noteShort_quiet (Quiet.refl _) ..)

theorem endRest_quiet {a0 s : State} (h : Quiet a0 s) (tick : Nat) (why : Nat) : Quiet a0 (State.endRest s tick why) := by
  unfold State.endRest
  with_reducible repeat' first
    | exact h | assumption | (intro) | apply ite_quiet | apply pair_quiet | apply ev_quiet | apply evLead_quiet | apply setEntry_quiet | split
    | dsimp only
    | (apply Quiet.upd; first | exact h | assumption | (intro) | apply ite_quiet | apply pair_quiet | apply ev_quiet | apply evLead_quiet)

theorem endRest_kept {a0 s : State} (h : Kept a0 s) (tick : Nat) (why : Nat) : Kept a0 (State.endRest s tick why) :=
  h.quiet (endRest_quiet (Quiet.refl _) ..)

theorem expireRest_quiet {a0 s : State} (h : Quiet a0 s) (n : Snap) : Quiet a0 (State.expireRest s n) := by
  unfold State.expireRest
  with_reducible repeat' first | exact h | assumption | (intro) | apply ite_quiet | apply pair_quiet | apply endRest_quiet

theorem expireRest_kept {a0 s : State} (h : Kept a0 s) (n : Snap) : Kept a0 (State.expireRest s n) :=
  h.quiet (expireRest_quiet (Quiet.refl _) ..)

theorem placeRest_quiet {a0 s : State} (h : Quiet a0 s) (n : Snap) (bd : Bounds) (al : Alloc) (pStor : Int) : Quiet a0 (State.placeRest s n bd al pStor) := by
  unfold State.placeRest
  with_reducible repeat' first
    | exact h | assumption | (intro) | apply ite_quiet | apply pair_quiet | apply ev_quiet | apply evLead_quiet | apply start_quiet
    | apply setEntry_quiet | apply endRest_quiet | split | dsimp only
    | (apply Quiet.upd; first | exact h | assumption | (intro) | apply ite_quiet | apply pair_quiet | apply ev_quiet | apply evLead_quiet | apply start_quiet | apply setEntry_quiet)

theorem placeRest_kept {a0 s : State} (h : Kept a0 s) (n : Snap) (bd : Bounds) (al : Alloc) (pStor : Int) : Kept a0 (State.placeRest s n bd al pStor) :=
  h.quiet (placeRest_quiet (Quiet.refl _) ..)

theorem peak_quiet {a0 s : State} (h : Quiet a0 s) (f : Fld) (v : Nat) : Quiet a0 (State.peak s f v) := by
  unfold State.peak
  with_reducible repeat' first | exact h | assumption | (intro) | apply ite_quiet | apply pair_quiet | apply wr_quiet

theorem peak_kept {a0 s : State} (h : Kept a0 s) (f : Fld) (v : Nat) : Kept a0 (State.peak s f v) :=
  h.quiet (peak_quiet (Quiet.refl _) ..)

theorem noteStages_quiet {a0 s : State} (h : Quiet a0 s) (t : List Nat) : Quiet a0 (State.noteStages s t) := by
  unfold State.noteStages
  with_reducible repeat' first | exact h | assumption | (intro) | apply ite_quiet | apply pair_quiet | apply peak_quiet

theorem noteStages_kept {a0 s : State} (h : Kept a0 s) (t : List Nat) : Kept a0 (State.noteStages s t) :=
  h.quiet (noteStages_quiet (Quiet.refl _) ..)

theorem setRun_quiet {a0 s : State} (h : Quiet a0 s) (k : Nat) : Quiet a0 (State.setRun s k) := by
  unfold State.setRun
  with_reducible repeat' first
    | exact h | assumption | (intro) | apply ite_quiet | apply pair_quiet | apply wr_quiet | split | dsimp only
    | (apply Quiet.upd; first | exact h | assumption | (intro) | apply ite_quiet | apply pair_quiet | apply wr_quiet)

theorem setRun_kept {a0 s : State} (h : Kept a0 s) (k : Nat) : Kept a0 (State.setRun s k) :=
  h.quiet (setRun_quiet (Quiet.refl _) ..)

theorem endRepeats_quiet {a0 s : State} (h : Quiet a0 s) (tick : Nat) : Quiet a0 (State.endRepeats s tick) := by
  unfold State.endRepeats
  with_reducible repeat' first
    | exact h | assumption | (intro) | apply ite_quiet | apply pair_quiet | apply ev_quiet | apply evLead_quiet | apply setRun_quiet

theorem endRepeats_kept {a0 s : State} (h : Kept a0 s) (tick : Nat) : Kept a0 (State.endRepeats s tick) :=
  h.quiet (endRepeats_quiet (Quiet.refl _) ..)

theorem slideOverruns_quiet {a0 s : State} (h : Quiet a0 s) (tick : Nat) : Quiet a0 (State.slideOverruns s tick) := by
  unfold State.slideOverruns
  with_reducible repeat' first
    | exact h | assumption | (intro) | apply ite_quiet | apply pair_quiet | apply wr_quiet | split | dsimp only
    | (apply Quiet.upd; first | exact h | assumption | (intro) | apply ite_quiet | apply pair_quiet | apply wr_quiet)

theorem slideOverruns_kept {a0 s : State} (h : Kept a0 s) (tick : Nat) : Kept a0 (State.slideOverruns s tick) :=
  h.quiet (slideOverruns_quiet (Quiet.refl _) ..)

theorem storeSnap_quiet {a0 s : State} (h : Quiet a0 s) (n : Snap) : Quiet a0 (State.storeSnap s n) := by
  unfold State.storeSnap
  with_reducible repeat' first
    | exact h | assumption | (intro) | apply ite_quiet | apply pair_quiet | split | dsimp only | (apply Quiet.upd; exact h)

theorem storeSnap_kept {a0 s : State} (h : Kept a0 s) (n : Snap) : Kept a0 (State.storeSnap s n) :=
  h.quiet (storeSnap_quiet (Quiet.refl _) ..)

theorem pipeline_quiet {a0 s : State} (h : Quiet a0 s) (g : Snap) (slots stages : List Nat) :
    Quiet a0 (s.pipeline g slots stages) := by
  unfold State.pipeline
  extract_lets t s0
  have h0 : Quiet a0 s0 := expireRest_quiet h g
  clear_value s0
  split
  next s1 n e1 =>
  have h1 := sanitize_quiet_eq h0 e1
  extract_lets s2
  have h2 : Quiet a0 s2 := pathCheck_quiet (storeSnap_quiet h1 _) _
  clear_value s2
  split
  next s3 opening e2 =>
  have h3 := checkMigs_quiet_eq h2 e2
  extract_lets bd al zero c0 c1
  split
  next c clamps e3 =>
  with_reducible
    refine placeRest_quiet (Quiet.upd (foldl_quiet (fun u b hu => command_quiet hu ..) (advanceMigs_quiet ?_ _))) ..
    refine slideOverruns_quiet (endRepeats_quiet (noteStages_quiet (noteSubst_quiet (noteWhey_quiet ?_ ..) ..) ..) ..) ..
    exact storeCurd_quiet (logClamps_quiet (noteShort_quiet h3 ..) ..) ..

theorem pipeline_kept {a0 s : State} (h : Kept a0 s) (g : Snap) (slots : List Nat) (stages : List Nat) : Kept a0 (State.pipeline s g slots stages) :=
  h.quiet (pipeline_quiet (Quiet.refl _) ..)

theorem repeatCurd_quiet {a0 s : State} (h : Quiet a0 s) (n : Snap) (unreadable : Bool) : Quiet a0 (State.repeatCurd s n unreadable) := by
  unfold State.repeatCurd
  with_reducible repeat' first
    | exact h | assumption | (intro) | apply ite_quiet | apply pair_quiet | apply bump_quiet | apply run_quiet
    | apply logClamps_quiet | apply storeCurd_quiet | apply setRun_quiet | apply slideOverruns_quiet | split | dsimp only
    | (apply Quiet.upd; first | exact h | assumption | (intro) | apply ite_quiet | apply pair_quiet | apply bump_quiet | apply run_quiet | apply logClamps_quiet | apply storeCurd_quiet)

theorem repeatCurd_kept {a0 s : State} (h : Kept a0 s) (n : Snap) (unreadable : Bool) : Kept a0 (State.repeatCurd s n unreadable) :=
  h.quiet (repeatCurd_quiet (Quiet.refl _) ..)

theorem afterOverrun_quiet {a0 s : State} (h : Quiet a0 s) : Quiet a0 (State.afterOverrun s) := by
  unfold State.afterOverrun
  with_reducible repeat' first
    | exact h | assumption | (intro) | apply ite_quiet | apply pair_quiet | apply limpTrigger_quiet | apply shadow_quiet
    | split | dsimp only | (apply Quiet.upd; exact h)

theorem afterOverrun_kept {a0 s : State} (h : Kept a0 s) : Kept a0 (State.afterOverrun s) :=
  h.quiet (afterOverrun_quiet (Quiet.refl _) ..)

end Sys2Proof.Laws
end

