-- ==== Sys2Proof/Laws/QConstraints.lean ====
section
/-!
SUPPORT. Machine/Constraints.lean leaves grade, queue and mode alone and keeps register file and event log sound.
-/
namespace Sys2Proof.Laws

open Sys2Proof.Machine

variable {a0 : State}

theorem failEdit_quiet {a0 s : State} (h : Quiet a0 s) (d : DescRef) (code : Nat) : Quiet a0 (State.failEdit s d code) := by
  unfold State.failEdit
  with_reducible repeat' first | exact h | assumption | (intro) | apply ite_quiet | apply pair_quiet | apply fail_quiet

theorem failEdit_kept {a0 s : State} (h : Kept a0 s) (d : DescRef) (code : Nat) : Kept a0 (State.failEdit s d code) :=
  h.quiet (failEdit_quiet (Quiet.refl _) ..)

theorem failEntry_quiet {a0 s : State} (h : Quiet a0 s) (d : DescRef) (raw : EntryArg) (code : Nat) : Quiet a0 (State.failEntry s d raw code) := by
  unfold State.failEntry
  with_reducible repeat' first
    | exact h | assumption | (intro) | apply ite_quiet | apply pair_quiet | apply ev_quiet | apply failEdit_quiet

theorem failEntry_kept {a0 s : State} (h : Kept a0 s) (d : DescRef) (raw : EntryArg) (code : Nat) : Kept a0 (State.failEntry s d raw code) :=
  h.quiet (failEntry_quiet (Quiet.refl _) ..)

theorem edit_quiet {a0 s : State} (h : Quiet a0 s) (d : DescRef) (argOk : Bool) (k : State → State) (hk : ∀ u, Quiet a0 u → Quiet a0 (k u)) : Quiet a0 (State.edit s d argOk k) := by
  unfold State.edit
  with_reducible repeat' first
    | exact h | assumption | (intro) | apply ite_quiet | apply pair_quiet | apply run_quiet | apply failEdit_quiet
    | apply hk

theorem edit_kept {a0 s : State} (h : Kept a0 s) (d : DescRef) (argOk : Bool) (k : State → State) (hk : ∀ u, Kept a0 u → Kept a0 (k u)) : Kept a0 (State.edit s d argOk k) := by
  unfold State.edit
  with_reducible repeat' first
    | exact h | assumption | contradiction | (intro) | apply ite_kept | apply pair_kept | apply failEdit_kept
    | apply run_kept | apply hk

theorem writeGroup_quiet {a0 s0 : State} (h : Quiet a0 s0) (n : Nat) (v0 : Nat) : Quiet a0 (State.writeGroup s0 n v0) := by
  unfold State.writeGroup
  with_reducible repeat' first
    | exact h | assumption | (intro) | apply ite_quiet | apply pair_quiet | apply wr_quiet | apply ev_quiet
    | apply gradeCut_quiet | exact gradeCut_quiet_eq (by assumption) (by assumption) | split | dsimp only

theorem writeGroup_kept {a0 s0 : State} (h : Kept a0 s0) (n : Nat) (v0 : Nat) : Kept a0 (State.writeGroup s0 n v0) :=
  h.quiet (writeGroup_quiet (Quiet.refl _) ..)

theorem writeTickLen_quiet {a0 s : State} (h : Quiet a0 s) (v : Nat) : Quiet a0 (State.writeTickLen s v) := by
  unfold State.writeTickLen
  with_reducible repeat' first
    | exact h | assumption | (intro) | apply ite_quiet | apply pair_quiet | apply wr_quiet | apply ev_quiet
    | apply retick_quiet

theorem writeTickLen_kept {a0 s : State} (h : Kept a0 s) (v : Nat) : Kept a0 (State.writeTickLen s v) :=
  h.quiet (writeTickLen_quiet (Quiet.refl _) ..)

theorem refuseMig_quiet {a0 s : State} (h : Quiet a0 s) (p : Proposal) (code : Nat) : Quiet a0 (State.refuseMig s p code) := by
  unfold State.refuseMig
  with_reducible repeat' first
    | exact h | assumption | (intro) | apply ite_quiet | apply pair_quiet | apply ev_quiet | apply complete_quiet

theorem refuseMig_kept {a0 s : State} (h : Kept a0 s) (p : Proposal) (code : Nat) : Kept a0 (State.refuseMig s p code) :=
  h.quiet (refuseMig_quiet (Quiet.refl _) ..)

theorem acceptMig_quiet {a0 s : State} (h : Quiet a0 s) (n : Snap) (p : Proposal) : Quiet a0 (State.acceptMig s n p) := by
  unfold State.acceptMig
  with_reducible repeat' first
    | exact h | assumption | (intro) | apply ite_quiet | apply pair_quiet | apply ev_quiet | apply start_quiet
    | apply reportStart_quiet | apply setEntry_quiet | split | dsimp only | (apply Quiet.upd; exact h)

theorem acceptMig_kept {a0 s : State} (h : Kept a0 s) (n : Snap) (p : Proposal) : Kept a0 (State.acceptMig s n p) :=
  h.quiet (acceptMig_quiet (Quiet.refl _) ..)

theorem checkProposal_quiet {a0 s : State} (h : Quiet a0 s) : Quiet a0 (State.checkProposal s) := by
  unfold State.checkProposal
  with_reducible repeat' first
    | exact h | assumption | (intro) | apply ite_quiet | apply pair_quiet | apply refuseMig_quiet | apply acceptMig_quiet
    | split | dsimp only | (apply Quiet.upd; exact h)

theorem checkProposal_kept {a0 s : State} (h : Kept a0 s) : Kept a0 (State.checkProposal s) :=
  h.quiet (checkProposal_quiet (Quiet.refl _) ..)

theorem clearStages_quiet {a0 s : State} (h : Quiet a0 s) : Quiet a0 (State.clearStages s) := by
  unfold State.clearStages
  with_reducible repeat' first | exact h | assumption | (intro) | apply ite_quiet | apply pair_quiet | apply setReg_quiet

theorem clearStages_kept {a0 s : State} (h : Kept a0 s) : Kept a0 (State.clearStages s) :=
  h.quiet (clearStages_quiet (Quiet.refl _) ..)

theorem clearAlpCounts_quiet {a0 s : State} (h : Quiet a0 s) : Quiet a0 (State.clearAlpCounts s) := by
  unfold State.clearAlpCounts
  with_reducible repeat' first | exact h | assumption | (intro) | apply ite_quiet | apply pair_quiet | apply wr_quiet

theorem clearAlpCounts_kept {a0 s : State} (h : Kept a0 s) : Kept a0 (State.clearAlpCounts s) :=
  h.quiet (clearAlpCounts_quiet (Quiet.refl _) ..)

theorem restartWhey_quiet {a0 s : State} (h : Quiet a0 s) : Quiet a0 (State.restartWhey s) := by
  unfold State.restartWhey
  with_reducible repeat' first
    | exact h | assumption | (intro) | apply ite_quiet | apply pair_quiet | split | dsimp only | (apply Quiet.upd; exact h)

theorem restartWhey_kept {a0 s : State} (h : Kept a0 s) : Kept a0 (State.restartWhey s) :=
  h.quiet (restartWhey_quiet (Quiet.refl _) ..)

end Sys2Proof.Laws
end

