-- ==== Sys2Proof/Laws/QLanes.lean ====
section
/-!
SUPPORT. Machine/Lanes.lean leaves grade, queue and mode alone and keeps register file and event log sound.
-/
namespace Sys2Proof.Laws

open Sys2Proof.Machine

variable {a0 : State}

theorem modLane_quiet {a0 s : State} (h : Quiet a0 s) (l : Nat) (f : Lane → Lane) : Quiet a0 (State.modLane s l f) := by
  unfold State.modLane
  with_reducible repeat' first
    | exact h | assumption | (intro) | apply ite_quiet | apply pair_quiet | split | dsimp only | (apply Quiet.upd; exact h)

theorem modLane_kept {a0 s : State} (h : Kept a0 s) (l : Nat) (f : Lane → Lane) : Kept a0 (State.modLane s l f) :=
  h.quiet (modLane_quiet (Quiet.refl _) ..)

theorem noteUp_quiet {a0 s : State} (h : Quiet a0 s) (l : Nat) : Quiet a0 (State.noteUp s l) := by
  unfold State.noteUp
  with_reducible repeat' first | exact h | assumption | (intro) | apply ite_quiet | apply pair_quiet | apply wrBit_quiet

theorem noteUp_kept {a0 s : State} (h : Kept a0 s) (l : Nat) : Kept a0 (State.noteUp s l) :=
  h.quiet (noteUp_quiet (Quiet.refl _) ..)

theorem enterLane_quiet {a0 s : State} (h : Quiet a0 s) (l : Nat) (code : Nat) : Quiet a0 (State.enterLane s l code) := by
  unfold State.enterLane
  with_reducible repeat' first
    | exact h | assumption | (intro) | apply ite_quiet | apply pair_quiet | apply wr_quiet | apply modLane_quiet
    | apply noteUp_quiet

theorem enterLane_kept {a0 s : State} (h : Kept a0 s) (l : Nat) (code : Nat) : Kept a0 (State.enterLane s l code) :=
  h.quiet (enterLane_quiet (Quiet.refl _) ..)

theorem laneOut_quiet {a0 s : State} (h : Quiet a0 s) (l : Nat) (d : Nat) (yseq : Nat) (payload : List Nat) : Quiet a0 (State.laneOut s l d yseq payload) := by
  unfold State.laneOut
  with_reducible repeat' first
    | exact h | assumption | (intro) | apply ite_quiet | apply pair_quiet | apply emit_quiet | apply modLane_quiet

theorem laneOut_kept {a0 s : State} (h : Kept a0 s) (l : Nat) (d : Nat) (yseq : Nat) (payload : List Nat) : Kept a0 (State.laneOut s l d yseq payload) :=
  h.quiet (laneOut_quiet (Quiet.refl _) ..)

theorem laneTx_quiet {a0 s : State} (h : Quiet a0 s) (l : Nat) (yseq : Nat) (payload : List Nat) : Quiet a0 (State.laneTx s l yseq payload) := by
  unfold State.laneTx
  with_reducible repeat' first | exact h | assumption | (intro) | apply ite_quiet | apply pair_quiet | apply laneOut_quiet

theorem laneTx_kept {a0 s : State} (h : Kept a0 s) (l : Nat) (yseq : Nat) (payload : List Nat) : Kept a0 (State.laneTx s l yseq payload) :=
  h.quiet (laneTx_quiet (Quiet.refl _) ..)

theorem send_quiet {a0 s : State} (h : Quiet a0 s) (l : Nat) (payload : List Nat) : Quiet a0 (State.send s l payload) := by
  unfold State.send
  with_reducible repeat' first | exact h | assumption | (intro) | apply ite_quiet | apply pair_quiet | apply laneOut_quiet

theorem send_kept {a0 s : State} (h : Kept a0 s) (l : Nat) (payload : List Nat) : Kept a0 (State.send s l payload) :=
  h.quiet (send_quiet (Quiet.refl _) ..)

theorem yokeSend_quiet {a0 s : State} (h : Quiet a0 s) (payload : List Nat) : Quiet a0 (State.yokeSend s payload) := by
  unfold State.yokeSend
  with_reducible repeat' first
    | exact h | assumption | (intro) | apply ite_quiet | apply ite_quiet_fst | apply pair_quiet | apply laneTx_quiet
    | apply foldl_quiet | apply foldl_quiet_fst | apply foldl_quiet_snd | split | dsimp only | (apply Quiet.upd; exact h)

theorem yokeSend_kept {a0 s : State} (h : Kept a0 s) (payload : List Nat) : Kept a0 (State.yokeSend s payload) :=
  h.quiet (yokeSend_quiet (Quiet.refl _) ..)

theorem laneRx_quiet {a0 s : State} (h : Quiet a0 s) (l : Nat) (fseq : Nat) : Quiet a0 (State.laneRx s l fseq) := by
  unfold State.laneRx
  with_reducible repeat' first
    | exact h | assumption | (intro) | apply ite_quiet | apply pair_quiet | apply bump_quiet | apply modLane_quiet

theorem laneRx_kept {a0 s : State} (h : Kept a0 s) (l : Nat) (fseq : Nat) : Kept a0 (State.laneRx s l fseq) :=
  h.quiet (laneRx_quiet (Quiet.refl _) ..)

theorem yokeRx_quiet {a0 s : State} (h : Quiet a0 s) (y : Nat) : Quiet a0 (s.yokeRx y).1 := by
  unfold State.yokeRx
  split
  · exact Quiet.upd h
  · extract_lets n
    exact ite_quiet_fst (ite_quiet_fst (Quiet.upd h) h)
      (ite_quiet_fst (ev_quiet (bump_quiet (Quiet.upd h) ..) ..) (Quiet.upd h))

theorem yokeRx_quiet_eq {a0 s s1 : State} {x} {y : Nat} (h : Quiet a0 s) (e : s.yokeRx y = (s1, x)) : Quiet a0 s1 := by
  have := yokeRx_quiet h y
  rw [e] at this
  exact this

theorem yokeRx_kept {a0 s : State} (h : Kept a0 s) (y : Nat) : Kept a0 (State.yokeRx s y).1 :=
  h.quiet (yokeRx_quiet (Quiet.refl _) ..)

theorem yokeRx_kept_eq {a0 s s1 : State} {b0} {y : Nat} (h : Kept a0 s) (hE : State.yokeRx s y = (s1, b0)) : Kept a0 s1 :=
  h.quiet (yokeRx_quiet_eq (Quiet.refl _) hE)

theorem freshWords_quiet {a0 s : State} (h : Quiet a0 s) (k : Nat) : Quiet a0 (s.freshWords k).1 := by
  induction k generalizing s with
  | zero => exact h
  | succ k ih => exact ih (fresh_quiet h)

theorem freshWords_quiet_eq {a0 s s1 : State} {x} {k : Nat} (h : Quiet a0 s) (e : s.freshWords k = (s1, x)) : Quiet a0 s1 := by
  have := freshWords_quiet h k
  rw [e] at this
  exact this

theorem freshWords_kept {a0 s : State} (h : Kept a0 s) (k : Nat) : Kept a0 (State.freshWords s k).1 :=
  h.quiet (freshWords_quiet (Quiet.refl _) ..)

theorem freshWords_kept_eq {a0 s s1 : State} {b0} {k : Nat} (h : Kept a0 s) (hE : State.freshWords s k = (s1, b0)) : Kept a0 s1 :=
  h.quiet (freshWords_quiet_eq (Quiet.refl _) hE)

theorem startScan_quiet {a0 s : State} (h : Quiet a0 s) (c : Scan) : Quiet a0 (State.startScan s c) := by
  unfold State.startScan
  with_reducible repeat' first
    | exact h | assumption | (intro) | apply ite_quiet | apply pair_quiet | apply start_quiet | apply reportStart_quiet
    | split | dsimp only | (apply Quiet.upd; exact h)

theorem startScan_kept {a0 s : State} (h : Kept a0 s) (c : Scan) : Kept a0 (State.startScan s c) :=
  h.quiet (startScan_quiet (Quiet.refl _) ..)

theorem scanReports_quiet {a0 s : State} (h : Quiet a0 s) : Quiet a0 (State.scanReports s) := by
  unfold State.scanReports
  with_reducible repeat' first
    | exact h | assumption | (intro) | apply ite_quiet | apply ite_quiet_fst | apply pair_quiet | apply report_quiet
    | apply foldl_quiet

theorem scanReports_kept {a0 s : State} (h : Kept a0 s) : Kept a0 (State.scanReports s) :=
  h.quiet (scanReports_quiet (Quiet.refl _) ..)

theorem judgeScan_quiet {a0 s : State} (h : Quiet a0 s) (c : Scan) : Quiet a0 (State.judgeScan s c) := by
  unfold State.judgeScan
  with_reducible repeat' first
    | exact h | assumption | (intro) | apply ite_quiet | apply pair_quiet | apply complete_quiet | apply startScan_quiet

theorem judgeScan_kept {a0 s : State} (h : Kept a0 s) (c : Scan) : Kept a0 (State.judgeScan s c) :=
  h.quiet (judgeScan_quiet (Quiet.refl _) ..)

theorem startScans_quiet {a0 s : State} (h : Quiet a0 s) (l : List Scan) : Quiet a0 (s.startScans l) := by
  induction l generalizing s with
  | nil => exact Quiet.upd h
  | cons c l ih =>
    unfold State.startScans
    split
    · exact Quiet.upd h
    · exact ih (judgeScan_quiet (mapFlight_quiet (setWait_quiet h ..) ..) _)

theorem startScans_kept {a0 s : State} (h : Kept a0 s) (l : List Scan) : Kept a0 (s.startScans l) :=
  h.quiet (startScans_quiet (Quiet.refl _) ..)

theorem nextScan_quiet {a0 s : State} (h : Quiet a0 s) : Quiet a0 (State.nextScan s) := by
  unfold State.nextScan
  with_reducible repeat' first | exact h | assumption | (intro) | apply ite_quiet | apply pair_quiet | apply startScans_quiet

theorem nextScan_kept {a0 s : State} (h : Kept a0 s) : Kept a0 (State.nextScan s) :=
  h.quiet (nextScan_quiet (Quiet.refl _) ..)

theorem abortScan_quiet {a0 s : State} (h : Quiet a0 s) (l : Nat) : Quiet a0 (State.abortScan s l) := by
  unfold State.abortScan
  with_reducible repeat' first
    | exact h | assumption | (intro) | apply ite_quiet | apply pair_quiet | apply emit_quiet | apply complete_quiet
    | apply freshWords_quiet | apply nextScan_quiet | exact freshWords_quiet_eq (by assumption) (by assumption) | split
    | dsimp only | (apply Quiet.upd; exact h)

theorem abortScan_kept {a0 s : State} (h : Kept a0 s) (l : Nat) : Kept a0 (State.abortScan s l) :=
  h.quiet (abortScan_quiet (Quiet.refl _) ..)

theorem loseTwin_quiet {a0 s : State} (h : Quiet a0 s) : Quiet a0 (State.loseTwin s) := by
  unfold State.loseTwin
  with_reducible repeat' first
    | exact h | assumption | (intro) | apply ite_quiet | apply pair_quiet | apply loseSource_quiet | split | dsimp only
    | (apply Quiet.upd; exact h)

theorem loseTwin_kept {a0 s : State} (h : Kept a0 s) : Kept a0 (State.loseTwin s) :=
  h.quiet (loseTwin_quiet (Quiet.refl _) ..)

theorem yokeDown_quiet {a0 s : State} (h : Quiet a0 s) (l : Nat) : Quiet a0 (State.yokeDown s l) := by
  unfold State.yokeDown
  with_reducible repeat' first
    | exact h | assumption | (intro) | apply ite_quiet | apply pair_quiet | apply wr_quiet | apply ev_quiet
    | apply attn_quiet | apply loseTwin_quiet | split | dsimp only | (apply Quiet.upd; exact h)

theorem yokeDown_kept {a0 s : State} (h : Kept a0 s) (l : Nat) : Kept a0 (State.yokeDown s l) :=
  h.quiet (yokeDown_quiet (Quiet.refl _) ..)

theorem yokeBack_quiet {a0 s : State} (h : Quiet a0 s) (l : Nat) : Quiet a0 (State.yokeBack s l) := by
  unfold State.yokeBack
  with_reducible repeat' first
    | exact h | assumption | (intro) | apply ite_quiet | apply pair_quiet | apply wr_quiet | apply ev_quiet | split
    | dsimp only | (apply Quiet.upd; exact h)

theorem yokeBack_kept {a0 s : State} (h : Kept a0 s) (l : Nat) : Kept a0 (State.yokeBack s l) :=
  h.quiet (yokeBack_quiet (Quiet.refl _) ..)

theorem startTrain_quiet {a0 s : State} (h : Quiet a0 s) (l : Nat) : Quiet a0 (State.startTrain s l) := by
  unfold State.startTrain
  with_reducible repeat' first
    | exact h | assumption | (intro) | apply ite_quiet | apply pair_quiet | apply emit_quiet | apply enterLane_quiet

theorem startTrain_kept {a0 s : State} (h : Kept a0 s) (l : Nat) : Kept a0 (State.startTrain s l) :=
  h.quiet (startTrain_quiet (Quiet.refl _) ..)

theorem goLane_quiet {a0 s : State} (h : Quiet a0 s) (l : Nat) (next : Nat) : Quiet a0 (State.goLane s l next) := by
  unfold State.goLane
  with_reducible repeat' first
    | exact h | assumption | (intro) | apply ite_quiet | apply pair_quiet | apply enterLane_quiet | apply startTrain_quiet

theorem goLane_kept {a0 s : State} (h : Kept a0 s) (l : Nat) (next : Nat) : Kept a0 (State.goLane s l next) :=
  h.quiet (goLane_quiet (Quiet.refl _) ..)

theorem laneDown_quiet {a0 s : State} (h : Quiet a0 s) (l : Nat) (cause : Nat) (next : Nat) : Quiet a0 (State.laneDown s l cause next) := by
  unfold State.laneDown
  with_reducible repeat' first
    | exact h | assumption | (intro) | apply ite_quiet | apply pair_quiet | apply ev_quiet | apply modLane_quiet
    | apply abortScan_quiet | apply yokeDown_quiet | apply goLane_quiet

theorem laneDown_kept {a0 s : State} (h : Kept a0 s) (l : Nat) (cause : Nat) (next : Nat) : Kept a0 (State.laneDown s l cause next) :=
  h.quiet (laneDown_quiet (Quiet.refl _) ..)

theorem toDetect_quiet {a0 s : State} (h : Quiet a0 s) (l : Nat) : Quiet a0 (State.toDetect s l) := by
  unfold State.toDetect
  with_reducible repeat' first
    | exact h | assumption | (intro) | apply ite_quiet | apply pair_quiet | apply modLane_quiet | apply enterLane_quiet

theorem toDetect_kept {a0 s : State} (h : Kept a0 s) (l : Nat) : Kept a0 (State.toDetect s l) :=
  h.quiet (toDetect_quiet (Quiet.refl _) ..)

theorem laneUp_quiet {a0 s : State} (h : Quiet a0 s) (l : Nat) : Quiet a0 (State.laneUp s l) := by
  unfold State.laneUp
  with_reducible repeat' first
    | exact h | assumption | (intro) | apply ite_quiet | apply pair_quiet | apply wr_quiet | apply ev_quiet
    | apply modLane_quiet | apply enterLane_quiet | apply yokeBack_quiet

theorem laneUp_kept {a0 s : State} (h : Kept a0 s) (l : Nat) : Kept a0 (State.laneUp s l) :=
  h.quiet (laneUp_quiet (Quiet.refl _) ..)

theorem sendCaps_quiet {a0 s : State} (h : Quiet a0 s) (l : Nat) : Quiet a0 (State.sendCaps s l) := by
  unfold State.sendCaps
  with_reducible repeat' first
    | exact h | assumption | (intro) | apply ite_quiet | apply pair_quiet | apply modLane_quiet | apply laneTx_quiet

theorem sendCaps_kept {a0 s : State} (h : Kept a0 s) (l : Nat) : Kept a0 (State.sendCaps s l) :=
  h.quiet (sendCaps_quiet (Quiet.refl _) ..)

theorem detectTest_quiet {a0 s : State} (h : Quiet a0 s) (l : Nat) (found : Bool) : Quiet a0 (State.detectTest s l found) := by
  unfold State.detectTest
  with_reducible repeat' first
    | exact h | assumption | (intro) | apply ite_quiet | apply pair_quiet | apply waitTill_quiet | apply modLane_quiet
    | apply startTrain_quiet

theorem detectTest_kept {a0 s : State} (h : Kept a0 s) (l : Nat) (found : Bool) : Kept a0 (State.detectTest s l found) :=
  h.quiet (detectTest_quiet (Quiet.refl _) ..)

theorem trainDone_quiet {a0 s : State} (h : Quiet a0 s) (l : Nat) (inverted : Bool) (ctle : Nat) (dfe : Nat) : Quiet a0 (State.trainDone s l inverted ctle dfe) := by
  unfold State.trainDone
  with_reducible repeat' first
    | exact h | assumption | (intro) | apply ite_quiet | apply pair_quiet | apply wr_quiet | apply waitTill_quiet
    | apply emit_quiet | apply modLane_quiet | apply enterLane_quiet | apply sendCaps_quiet

theorem trainDone_kept {a0 s : State} (h : Kept a0 s) (l : Nat) (inverted : Bool) (ctle : Nat) (dfe : Nat) : Kept a0 (State.trainDone s l inverted ctle dfe) :=
  h.quiet (trainDone_quiet (Quiet.refl _) ..)

theorem bringupTimeout_quiet {a0 s : State} (h : Quiet a0 s) (l : Nat) : Quiet a0 (State.bringupTimeout s l) := by
  unfold State.bringupTimeout
  with_reducible repeat' first
    | exact h | assumption | (intro) | apply ite_quiet | apply pair_quiet | apply wr_quiet | apply bump_quiet
    | apply waitTill_quiet | apply ev_quiet | apply toDetect_quiet

theorem bringupTimeout_kept {a0 s : State} (h : Kept a0 s) (l : Nat) : Kept a0 (State.bringupTimeout s l) :=
  h.quiet (bringupTimeout_quiet (Quiet.refl _) ..)

theorem capsRx_quiet {a0 s : State} (h : Quiet a0 s) (l : Nat) (c : FarCaps) : Quiet a0 (State.capsRx s l c).1 := by
  unfold State.capsRx
  with_reducible repeat' first
    | exact h | assumption | (intro) | apply ite_quiet | apply ite_quiet_fst | apply pair_quiet | apply setReg_quiet
    | apply ev_quiet | apply modLane_quiet | apply enterLane_quiet | apply toDetect_quiet | split | dsimp only

theorem capsRx_quiet_eq {a0 s s1 : State} {b0} {l : Nat} {c : FarCaps} (h : Quiet a0 s) (hE : State.capsRx s l c = (s1, b0)) : Quiet a0 s1 := by
  have := capsRx_quiet h l c 
  rw [hE] at this
  exact this

theorem capsRx_kept {a0 s : State} (h : Kept a0 s) (l : Nat) (c : FarCaps) : Kept a0 (State.capsRx s l c).1 :=
  h.quiet (capsRx_quiet (Quiet.refl _) ..)

theorem capsRx_kept_eq {a0 s s1 : State} {b0} {l : Nat} {c : FarCaps} (h : Kept a0 s) (hE : State.capsRx s l c = (s1, b0)) : Kept a0 s1 :=
  h.quiet (capsRx_quiet_eq (Quiet.refl _) hE)

theorem measStart_quiet {a0 s : State} (h : Quiet a0 s) (l : Nat) : Quiet a0 (State.measStart s l) := by
  unfold State.measStart
  with_reducible repeat' first
    | exact h | assumption | (intro) | apply ite_quiet | apply pair_quiet | apply waitTill_quiet | apply modLane_quiet

theorem measStart_kept {a0 s : State} (h : Kept a0 s) (l : Nat) : Kept a0 (State.measStart s l) :=
  h.quiet (measStart_quiet (Quiet.refl _) ..)

theorem reqOut_quiet {a0 s : State} (h : Quiet a0 s) (l : Nat) (m : Meas) : Quiet a0 (State.reqOut s l m) := by
  unfold State.reqOut
  with_reducible repeat' first
    | exact h | assumption | (intro) | apply ite_quiet | apply pair_quiet | apply modLane_quiet | apply laneOut_quiet

theorem reqOut_kept {a0 s : State} (h : Kept a0 s) (l : Nat) (m : Meas) : Kept a0 (State.reqOut s l m) :=
  h.quiet (reqOut_quiet (Quiet.refl _) ..)

theorem sendReq_quiet {a0 s : State} (h : Quiet a0 s) (l : Nat) : Quiet a0 (State.sendReq s l) := by
  unfold State.sendReq
  with_reducible repeat' first
    | exact h | assumption | (intro) | apply ite_quiet | apply pair_quiet | apply waitTill_quiet | apply start_quiet
    | apply modLane_quiet | apply reqOut_quiet | split | dsimp only

theorem sendReq_kept {a0 s : State} (h : Kept a0 s) (l : Nat) : Kept a0 (State.sendReq s l) :=
  h.quiet (sendReq_quiet (Quiet.refl _) ..)

theorem answerReq_quiet {a0 s : State} (h : Quiet a0 s) (l : Nat) (xid : Nat) (wait : Nat) : Quiet a0 (State.answerReq s l xid wait) := by
  unfold State.answerReq
  with_reducible repeat' first
    | exact h | assumption | (intro) | apply ite_quiet | apply pair_quiet | apply waitTill_quiet | apply modLane_quiet
    | apply laneOut_quiet

theorem answerReq_kept {a0 s : State} (h : Kept a0 s) (l : Nat) (xid : Nat) (wait : Nat) : Kept a0 (State.answerReq s l xid wait) :=
  h.quiet (answerReq_quiet (Quiet.refl _) ..)

theorem takeTwinTime_quiet {a0 s : State} (h : Quiet a0 s) (o : Int) (peerActive : Bool) : Quiet a0 (State.takeTwinTime s o peerActive) := by
  unfold State.takeTwinTime
  with_reducible repeat' first
    | exact h | assumption | (intro) | apply ite_quiet | apply pair_quiet | apply shadow_quiet | apply selectSource_quiet
    | apply discipline_quiet | apply acquire_quiet | split | dsimp only | (apply Quiet.upd; exact h)

theorem takeTwinTime_kept {a0 s : State} (h : Kept a0 s) (o : Int) (peerActive : Bool) : Kept a0 (State.takeTwinTime s o peerActive) :=
  h.quiet (takeTwinTime_quiet (Quiet.refl _) ..)

theorem respRx_quiet {a0 s : State} (h : Quiet a0 s) (l : Nat) (xid : Nat) (t2n : Nat) (t2f : Nat) (t3n : Nat) (t3f : Nat) (peerActive : Bool) : Quiet a0 (State.respRx s l xid t2n t2f t3n t3f peerActive) := by
  unfold State.respRx
  with_reducible repeat' first
    | exact h | assumption | (intro) | apply ite_quiet | apply pair_quiet | apply wr_quiet | apply modLane_quiet
    | apply takeTwinTime_quiet | split

theorem respRx_kept {a0 s : State} (h : Kept a0 s) (l : Nat) (xid : Nat) (t2n : Nat) (t2f : Nat) (t3n : Nat) (t3f : Nat) (peerActive : Bool) : Kept a0 (State.respRx s l xid t2n t2f t3n t3f peerActive) :=
  h.quiet (respRx_quiet (Quiet.refl _) ..)

theorem sendTime_quiet {a0 s : State} (h : Quiet a0 s) (l : Nat) : Quiet a0 (State.sendTime s l) := by
  unfold State.sendTime
  with_reducible repeat' first
    | exact h | assumption | (intro) | apply ite_quiet | apply pair_quiet | apply modLane_quiet | apply laneOut_quiet

theorem sendTime_kept {a0 s : State} (h : Kept a0 s) (l : Nat) : Kept a0 (State.sendTime s l) :=
  h.quiet (sendTime_quiet (Quiet.refl _) ..)

theorem deadlineCheck_quiet {a0 s : State} (h : Quiet a0 s) (l : Nat) : Quiet a0 (State.deadlineCheck s l) := by
  unfold State.deadlineCheck
  with_reducible repeat' first | exact h | assumption | (intro) | apply ite_quiet | apply pair_quiet | apply ev_quiet

theorem deadlineCheck_kept {a0 s : State} (h : Kept a0 s) (l : Nat) : Kept a0 (State.deadlineCheck s l) :=
  h.quiet (deadlineCheck_quiet (Quiet.refl _) ..)

theorem measDone_quiet {a0 s : State} (h : Quiet a0 s) (l : Nat) : Quiet a0 (State.measDone s l) := by
  unfold State.measDone
  with_reducible repeat' first
    | exact h | assumption | (intro) | apply ite_quiet | apply pair_quiet | apply wr_quiet | apply ev_quiet
    | apply modLane_quiet | apply laneUp_quiet | apply sendTime_quiet | apply deadlineCheck_quiet | split

theorem measDone_kept {a0 s : State} (h : Kept a0 s) (l : Nat) : Kept a0 (State.measDone s l) :=
  h.quiet (measDone_quiet (Quiet.refl _) ..)

theorem lpMove_quiet {a0 s : State} (h : Quiet a0 s) (l : Nat) (next : Nat) : Quiet a0 (State.lpMove s l next) := by
  unfold State.lpMove
  with_reducible repeat' first
    | exact h | assumption | (intro) | apply ite_quiet | apply pair_quiet | apply ev_quiet | apply enterLane_quiet

theorem lpMove_kept {a0 s : State} (h : Kept a0 s) (l : Nat) (next : Nat) : Kept a0 (State.lpMove s l next) :=
  h.quiet (lpMove_quiet (Quiet.refl _) ..)

theorem wakePattern_quiet {a0 s : State} (h : Quiet a0 s) (l : Nat) : Quiet a0 (State.wakePattern s l) := by
  unfold State.wakePattern
  with_reducible repeat' first | exact h | assumption | (intro) | apply ite_quiet | apply pair_quiet | apply emit_quiet

theorem wakePattern_kept {a0 s : State} (h : Kept a0 s) (l : Nat) : Kept a0 (State.wakePattern s l) :=
  h.quiet (wakePattern_quiet (Quiet.refl _) ..)

theorem lpWake_quiet {a0 s : State} (h : Quiet a0 s) (l : Nat) : Quiet a0 (State.lpWake s l) := by
  unfold State.lpWake
  with_reducible repeat' first
    | exact h | assumption | (intro) | apply ite_quiet | apply pair_quiet | apply emit_quiet | apply ev_quiet
    | apply modLane_quiet | apply toDetect_quiet | apply laneUp_quiet | apply lpMove_quiet | apply wakePattern_quiet | split

theorem lpWake_kept {a0 s : State} (h : Kept a0 s) (l : Nat) : Kept a0 (State.lpWake s l) :=
  h.quiet (lpWake_quiet (Quiet.refl _) ..)

theorem lpUp_quiet {a0 s : State} (h : Quiet a0 s) (l : Nat) : Quiet a0 (State.lpUp s l) := by
  unfold State.lpUp
  with_reducible repeat' first
    | exact h | assumption | (intro) | apply ite_quiet | apply pair_quiet | apply wr_quiet | apply modLane_quiet
    | apply lpWake_quiet

theorem lpUp_kept {a0 s : State} (h : Kept a0 s) (l : Nat) : Kept a0 (State.lpUp s l) :=
  h.quiet (lpUp_quiet (Quiet.refl _) ..)

theorem lpLow_quiet {a0 s : State} (h : Quiet a0 s) (l : Nat) (target : Nat) : Quiet a0 (State.lpLow s l target) := by
  unfold State.lpLow
  with_reducible repeat' first
    | exact h | assumption | (intro) | apply ite_quiet | apply pair_quiet | apply wr_quiet | apply ev_quiet
    | apply modLane_quiet | apply laneTx_quiet | apply lpWake_quiet

theorem lpLow_kept {a0 s : State} (h : Kept a0 s) (l : Nat) (target : Nat) : Kept a0 (State.lpLow s l target) :=
  h.quiet (lpLow_quiet (Quiet.refl _) ..)

theorem lpOff_quiet {a0 s : State} (h : Quiet a0 s) (l : Nat) : Quiet a0 (State.lpOff s l) := by
  unfold State.lpOff
  with_reducible repeat' first
    | exact h | assumption | (intro) | apply ite_quiet | apply pair_quiet | apply wr_quiet | apply ev_quiet
    | apply laneDown_quiet | apply lpMove_quiet

theorem lpOff_kept {a0 s : State} (h : Kept a0 s) (l : Nat) : Kept a0 (State.lpOff s l) :=
  h.quiet (lpOff_quiet (Quiet.refl _) ..)

theorem lpEnter_quiet {a0 s : State} (h : Quiet a0 s) (l : Nat) (target : Nat) : Quiet a0 (State.lpEnter s l target) := by
  unfold State.lpEnter
  with_reducible repeat' first
    | exact h | assumption | (intro) | apply ite_quiet | apply pair_quiet | apply emit_quiet | apply ev_quiet
    | apply modLane_quiet | apply abortScan_quiet | apply yokeDown_quiet | apply laneDown_quiet | apply lpMove_quiet

theorem lpEnter_kept {a0 s : State} (h : Kept a0 s) (l : Nat) (target : Nat) : Kept a0 (State.lpEnter s l target) :=
  h.quiet (lpEnter_quiet (Quiet.refl _) ..)

theorem lpAck_quiet {a0 s : State} (h : Quiet a0 s) (l : Nat) (target : Nat) : Quiet a0 (State.lpAck s l target) := by
  unfold State.lpAck
  with_reducible repeat' first
    | exact h | assumption | (intro) | apply ite_quiet | apply pair_quiet | apply modLane_quiet | apply lpEnter_quiet
    | split

theorem lpAck_kept {a0 s : State} (h : Kept a0 s) (l : Nat) (target : Nat) : Kept a0 (State.lpAck s l target) :=
  h.quiet (lpAck_quiet (Quiet.refl _) ..)

theorem lpReqRx_quiet {a0 s : State} (h : Quiet a0 s) (l : Nat) (target : Nat) : Quiet a0 (State.lpReqRx s l target) := by
  unfold State.lpReqRx
  with_reducible repeat' first
    | exact h | assumption | (intro) | apply ite_quiet | apply pair_quiet | apply laneTx_quiet | apply lpEnter_quiet

theorem lpReqRx_kept {a0 s : State} (h : Kept a0 s) (l : Nat) (target : Nat) : Kept a0 (State.lpReqRx s l target) :=
  h.quiet (lpReqRx_quiet (Quiet.refl _) ..)

theorem signalDetect_quiet {a0 s : State} (h : Quiet a0 s) (l : Nat) : Quiet a0 (State.signalDetect s l) := by
  unfold State.signalDetect
  with_reducible repeat' first | exact h | assumption | (intro) | apply ite_quiet | apply pair_quiet | apply lpWake_quiet

theorem signalDetect_kept {a0 s : State} (h : Kept a0 s) (l : Nat) : Kept a0 (State.signalDetect s l) :=
  h.quiet (signalDetect_quiet (Quiet.refl _) ..)

theorem lanesWake_quiet {a0 s : State} (h : Quiet a0 s) : Quiet a0 (State.lanesWake s) := by
  unfold State.lanesWake
  with_reducible repeat' first
    | exact h | assumption | (intro) | apply ite_quiet | apply ite_quiet_fst | apply pair_quiet | apply lpUp_quiet
    | apply foldl_quiet

theorem lanesWake_kept {a0 s : State} (h : Kept a0 s) : Kept a0 (State.lanesWake s) :=
  h.quiet (lanesWake_quiet (Quiet.refl _) ..)

theorem releaseDreak_quiet {a0 s : State} (h : Quiet a0 s) : Quiet a0 (State.releaseDreak s) := by
  unfold State.releaseDreak
  with_reducible repeat' first
    | exact h | assumption | (intro) | apply ite_quiet | apply ite_quiet_fst | apply pair_quiet | apply wr_quiet
    | apply toDetect_quiet | apply foldl_quiet | apply foldl_quiet_fst | apply foldl_quiet_snd | split | dsimp only
    | (apply Quiet.upd; exact h)

theorem releaseDreak_kept {a0 s : State} (h : Kept a0 s) : Kept a0 (State.releaseDreak s) :=
  h.quiet (releaseDreak_quiet (Quiet.refl _) ..)

theorem holdDreak_quiet {a0 s : State} (h : Quiet a0 s) : Quiet a0 (State.holdDreak s) := by
  unfold State.holdDreak
  with_reducible repeat' first
    | exact h | assumption | (intro) | apply ite_quiet | apply ite_quiet_fst | apply pair_quiet | apply wr_quiet
    | apply enterLane_quiet | apply laneDown_quiet | apply foldl_quiet | apply foldl_quiet_fst | apply foldl_quiet_snd
    | split | dsimp only
    | (apply Quiet.upd; first | exact h | assumption | (intro) | apply ite_quiet | apply ite_quiet_fst | apply pair_quiet | apply wr_quiet | apply enterLane_quiet | apply laneDown_quiet | apply foldl_quiet)

theorem holdDreak_kept {a0 s : State} (h : Kept a0 s) : Kept a0 (State.holdDreak s) :=
  h.quiet (holdDreak_quiet (Quiet.refl _) ..)

theorem serialUnlock_quiet {a0 s : State} (h : Quiet a0 s) (dreak : Bool) : Quiet a0 (State.serialUnlock s dreak) := by
  unfold State.serialUnlock
  with_reducible repeat' first
    | exact h | assumption | (intro) | apply ite_quiet | apply ite_quiet_fst | apply pair_quiet | apply wr_quiet
    | apply ev_quiet | apply laneDown_quiet | apply toDetect_quiet | apply foldl_quiet

theorem serialUnlock_kept {a0 s : State} (h : Kept a0 s) (dreak : Bool) : Kept a0 (State.serialUnlock s dreak) :=
  h.quiet (serialUnlock_quiet (Quiet.refl _) ..)

theorem serialLock_quiet {a0 s : State} (h : Quiet a0 s) (dreak : Bool) : Quiet a0 (State.serialLock s dreak) := by
  unfold State.serialLock
  with_reducible repeat' first | exact h | assumption | (intro) | apply ite_quiet | apply pair_quiet | apply wr_quiet

theorem serialLock_kept {a0 s : State} (h : Kept a0 s) (dreak : Bool) : Kept a0 (State.serialLock s dreak) :=
  h.quiet (serialLock_quiet (Quiet.refl _) ..)

end Sys2Proof.Laws
end

