-- ==== Sys2Proof/Laws/QPress.lean ====
section
/-!
SUPPORT. Machine/Press.lean leaves grade, queue and mode alone and keeps register file and event log sound.
-/
namespace Sys2Proof.Laws

open Sys2Proof.Machine

variable {a0 : State}

theorem setCv_quiet {a0 s : State} (h : Quiet a0 s) (k : Nat) (x : Cce) : Quiet a0 (State.setCv s k x) := by
  unfold State.setCv
  with_reducible repeat' first
    | exact h | assumption | (intro) | apply ite_quiet | apply pair_quiet | split | dsimp only | (apply Quiet.upd; exact h)

theorem setCv_kept {a0 s : State} (h : Kept a0 s) (k : Nat) (x : Cce) : Kept a0 (State.setCv s k x) :=
  h.quiet (setCv_quiet (Quiet.refl _) ..)

theorem modCv_quiet {a0 s : State} (h : Quiet a0 s) (k : Nat) (f : Cce → Cce) : Quiet a0 (State.modCv s k f) := by
  unfold State.modCv
  with_reducible repeat' first | exact h | assumption | (intro) | apply ite_quiet | apply pair_quiet | apply setCv_quiet

theorem modCv_kept {a0 s : State} (h : Kept a0 s) (k : Nat) (f : Cce → Cce) : Kept a0 (State.modCv s k f) :=
  h.quiet (modCv_quiet (Quiet.refl _) ..)

theorem pressCheck_quiet {a0 s : State} (h : Quiet a0 s) : Quiet a0 (State.pressCheck s) := by
  unfold State.pressCheck
  with_reducible repeat' first
    | exact h | assumption | (intro) | apply ite_quiet | apply ite_quiet_fst | apply pair_quiet | apply ev_quiet
    | apply modCv_quiet | apply foldl_quiet

theorem pressCheck_kept {a0 s : State} (h : Kept a0 s) : Kept a0 (State.pressCheck s) :=
  h.quiet (pressCheck_quiet (Quiet.refl _) ..)

theorem zeroOff_quiet {a0 s : State} (h : Quiet a0 s) (k : Nat) : Quiet a0 (State.zeroOff s k) := by
  unfold State.zeroOff
  with_reducible repeat' first
    | exact h | assumption | (intro) | apply ite_quiet | apply pair_quiet | apply wr_quiet | apply modCv_quiet

theorem zeroOff_kept {a0 s : State} (h : Kept a0 s) (k : Nat) : Kept a0 (State.zeroOff s k) :=
  h.quiet (zeroOff_quiet (Quiet.refl _) ..)

theorem latchCv_quiet {a0 s : State} (h : Quiet a0 s) (k : Nat) (why : Nat) : Quiet a0 (State.latchCv s k why) := by
  unfold State.latchCv
  with_reducible repeat' first
    | exact h | assumption | (intro) | apply ite_quiet | apply pair_quiet | apply ev_quiet | apply modCv_quiet

theorem latchCv_kept {a0 s : State} (h : Kept a0 s) (k : Nat) (why : Nat) : Kept a0 (State.latchCv s k why) :=
  h.quiet (latchCv_quiet (Quiet.refl _) ..)

theorem ssFail_quiet {a0 s : State} (h : Quiet a0 s) (k : Nat) (why : Nat) : Quiet a0 (State.ssFail s k why) := by
  unfold State.ssFail
  with_reducible repeat' first
    | exact h | assumption | (intro) | apply ite_quiet | apply pair_quiet | apply ev_quiet | apply modCv_quiet
    | apply latchCv_quiet

theorem ssFail_kept {a0 s : State} (h : Kept a0 s) (k : Nat) (why : Nat) : Kept a0 (State.ssFail s k why) :=
  h.quiet (ssFail_quiet (Quiet.refl _) ..)

theorem armCv_quiet {a0 s : State} (h : Quiet a0 s) (k : Nat) : Quiet a0 (State.armCv s k) := by
  unfold State.armCv
  with_reducible repeat' first | exact h | assumption | (intro) | apply ite_quiet | apply pair_quiet | apply modCv_quiet

theorem armCv_kept {a0 s : State} (h : Kept a0 s) (k : Nat) : Kept a0 (State.armCv s k) :=
  h.quiet (armCv_quiet (Quiet.refl _) ..)

theorem armPress_quiet {a0 s : State} (h : Quiet a0 s) : Quiet a0 (State.armPress s) := by
  unfold State.armPress
  with_reducible repeat' first
    | exact h | assumption | (intro) | apply ite_quiet | apply ite_quiet_fst | apply pair_quiet | apply armCv_quiet
    | apply foldl_quiet

theorem armPress_kept {a0 s : State} (h : Kept a0 s) : Kept a0 (State.armPress s) :=
  h.quiet (armPress_quiet (Quiet.refl _) ..)

theorem softStart_quiet {a0 s : State} (h : Quiet a0 s) (k : Nat) (c : Nat) : Quiet a0 (State.softStart s k c) := by
  unfold State.softStart
  with_reducible repeat' first
    | exact h | assumption | (intro) | apply ite_quiet | apply pair_quiet | apply ev_quiet | apply modCv_quiet

theorem softStart_kept {a0 s : State} (h : Kept a0 s) (k : Nat) (c : Nat) : Kept a0 (State.softStart s k c) :=
  h.quiet (softStart_quiet (Quiet.refl _) ..)

theorem enterRun_quiet {a0 s : State} (h : Quiet a0 s) (k : Nat) : Quiet a0 (State.enterRun s k) := by
  unfold State.enterRun
  with_reducible repeat' first | exact h | assumption | (intro) | apply ite_quiet | apply pair_quiet | apply modCv_quiet

theorem enterRun_kept {a0 s : State} (h : Kept a0 s) (k : Nat) : Kept a0 (State.enterRun s k) :=
  h.quiet (enterRun_quiet (Quiet.refl _) ..)

theorem endRemoval_quiet {a0 s : State} (h : Quiet a0 s) (k : Nat) (c : Nat) : Quiet a0 (State.endRemoval s k c) := by
  unfold State.endRemoval
  with_reducible repeat' first
    | exact h | assumption | (intro) | apply ite_quiet | apply pair_quiet | apply bump_quiet | apply ev_quiet
    | apply setCv_quiet | split | dsimp only

theorem endRemoval_kept {a0 s : State} (h : Kept a0 s) (k : Nat) (c : Nat) : Kept a0 (State.endRemoval s k c) :=
  h.quiet (endRemoval_quiet (Quiet.refl _) ..)

theorem takeSkim_quiet {a0 s : State} (h : Quiet a0 s) (k : Nat) (c : Nat) (skim : Nat) (launch : Nat) : Quiet a0 (State.takeSkim s k c skim launch) := by
  unfold State.takeSkim
  with_reducible repeat' first
    | exact h | assumption | (intro) | apply ite_quiet | apply pair_quiet | apply setCv_quiet | split

theorem takeSkim_kept {a0 s : State} (h : Kept a0 s) (k : Nat) (c : Nat) (skim : Nat) (launch : Nat) : Kept a0 (State.takeSkim s k c skim launch) :=
  h.quiet (takeSkim_quiet (Quiet.refl _) ..)

theorem stepDetect_quiet {a0 s : State} (h : Quiet a0 s) (k : Nat) (c : Nat) (i : Int) : Quiet a0 (State.stepDetect s k c i) := by
  unfold State.stepDetect
  with_reducible repeat' first
    | exact h | assumption | (intro) | apply ite_quiet | apply pair_quiet | apply bump_quiet | apply ev_quiet
    | apply modCv_quiet | split | dsimp only

theorem stepDetect_kept {a0 s : State} (h : Kept a0 s) (k : Nat) (c : Nat) (i : Int) : Kept a0 (State.stepDetect s k c i) :=
  h.quiet (stepDetect_quiet (Quiet.refl _) ..)

theorem cycleCv_quiet {a0 s : State} (h : Quiet a0 s) (c : Nat) (cur : Option Curd) (fresh : Bool) (k : Nat) : Quiet a0 (State.cycleCv s c cur fresh k) := by
  unfold State.cycleCv
  with_reducible repeat' first
    | exact h | assumption | (intro) | apply ite_quiet | apply pair_quiet | apply fresh_quiet | apply run_quiet
    | apply setCv_quiet | apply modCv_quiet | apply zeroOff_quiet | apply latchCv_quiet | apply ssFail_quiet
    | apply softStart_quiet | apply enterRun_quiet | apply endRemoval_quiet | apply takeSkim_quiet
    | exact fresh_quiet_eq (by assumption) (by assumption) | split

theorem cycleCv_kept {a0 s : State} (h : Kept a0 s) (c : Nat) (cur : Option Curd) (fresh : Bool) (k : Nat) : Kept a0 (State.cycleCv s c cur fresh k) :=
  h.quiet (cycleCv_quiet (Quiet.refl _) ..)

theorem enterCycle_quiet {a0 s : State} (h : Quiet a0 s) (c : Nat) : Quiet a0 (State.enterCycle s c) := by
  unfold State.enterCycle
  with_reducible repeat' first
    | exact h | assumption | (intro) | apply ite_quiet | apply ite_quiet_fst | apply pair_quiet | apply fresh_quiet
    | apply cycleCv_quiet | apply foldl_quiet | apply foldl_quiet_fst | apply foldl_quiet_snd
    | exact fresh_quiet_eq (by assumption) (by assumption) | split | dsimp only
    | (apply Quiet.upd; first | exact h | assumption | (intro) | apply ite_quiet | apply ite_quiet_fst | apply pair_quiet | apply fresh_quiet | apply cycleCv_quiet | apply foldl_quiet)

theorem enterCycle_kept {a0 s : State} (h : Kept a0 s) (c : Nat) : Kept a0 (State.enterCycle s c) :=
  h.quiet (enterCycle_quiet (Quiet.refl _) ..)

theorem sendPhase_quiet {a0 s : State} (h : Quiet a0 s) : Quiet a0 (State.sendPhase s) := by
  unfold State.sendPhase
  with_reducible repeat' first
    | exact h | assumption | (intro) | apply ite_quiet | apply pair_quiet | apply send_quiet | apply enterCycle_quiet
    | split

theorem sendPhase_kept {a0 s : State} (h : Kept a0 s) : Kept a0 (State.sendPhase s) :=
  h.quiet (sendPhase_quiet (Quiet.refl _) ..)

theorem ssMonitor_quiet {a0 s : State} (h : Quiet a0 s) (k : Nat) (t : Nat) (busV : Int) : Quiet a0 (State.ssMonitor s k t busV) := by
  unfold State.ssMonitor
  with_reducible repeat' first
    | exact h | assumption | (intro) | apply ite_quiet | apply pair_quiet | apply ev_quiet | apply setCv_quiet

theorem ssMonitor_kept {a0 s : State} (h : Kept a0 s) (k : Nat) (t : Nat) (busV : Int) : Kept a0 (State.ssMonitor s k t busV) :=
  h.quiet (ssMonitor_quiet (Quiet.refl _) ..)

theorem zeroWatch_quiet {a0 s : State} (h : Quiet a0 s) (k : Nat) (i : Int) : Quiet a0 (State.zeroWatch s k i) := by
  unfold State.zeroWatch
  with_reducible repeat' first
    | exact h | assumption | (intro) | apply ite_quiet | apply pair_quiet | apply setCv_quiet | apply zeroOff_quiet

theorem zeroWatch_kept {a0 s : State} (h : Kept a0 s) (k : Nat) (i : Int) : Kept a0 (State.zeroWatch s k i) :=
  h.quiet (zeroWatch_quiet (Quiet.refl _) ..)

theorem pressPeaks_quiet {a0 s : State} (h : Quiet a0 s) (k : Nat) (i : Int) (busV : Int) : Quiet a0 (State.pressPeaks s k i busV) := by
  unfold State.pressPeaks
  with_reducible repeat' first | exact h | assumption | (intro) | apply ite_quiet | apply pair_quiet | apply wr_quiet

theorem pressPeaks_kept {a0 s : State} (h : Kept a0 s) (k : Nat) (i : Int) (busV : Int) : Kept a0 (State.pressPeaks s k i busV) :=
  h.quiet (pressPeaks_quiet (Quiet.refl _) ..)

theorem loop_quiet {a0 s : State} (h : Quiet a0 s) (k : Nat) (c : Nat) (t : Nat) (i : Int) (busV : Int) (batV : Int) : Quiet a0 (State.loop s k c t i busV batV) := by
  unfold State.loop
  with_reducible repeat' first | exact h | assumption | (intro) | apply ite_quiet | apply pair_quiet | apply setCv_quiet

theorem loop_kept {a0 s : State} (h : Kept a0 s) (k : Nat) (c : Nat) (t : Nat) (i : Int) (busV : Int) (batV : Int) : Kept a0 (State.loop s k c t i busV batV) :=
  h.quiet (loop_quiet (Quiet.refl _) ..)

theorem controlSample_quiet {a0 s : State} (h : Quiet a0 s) (k : Nat) (i : Int) (busV : Int) (batIn : Int) : Quiet a0 (State.controlSample s k i busV batIn) := by
  unfold State.controlSample
  with_reducible repeat' first
    | exact h | assumption | (intro) | apply ite_quiet | apply pair_quiet | apply waitSite_quiet | apply modCv_quiet
    | apply stepDetect_quiet | apply ssMonitor_quiet | apply zeroWatch_quiet | apply pressPeaks_quiet | apply loop_quiet
    | split

theorem controlSample_kept {a0 s : State} (h : Kept a0 s) (k : Nat) (i : Int) (busV : Int) (batIn : Int) : Kept a0 (State.controlSample s k i busV batIn) :=
  h.quiet (controlSample_quiet (Quiet.refl _) ..)

theorem ilim_quiet {a0 s : State} (h : Quiet a0 s) (p : Nat) : Quiet a0 (State.ilim s p) := by
  unfold State.ilim
  with_reducible repeat' first
    | exact h | assumption | (intro) | apply ite_quiet | apply pair_quiet | apply bump_quiet | apply modCv_quiet | split
    | dsimp only | (apply Quiet.upd; exact h)

theorem ilim_kept {a0 s : State} (h : Kept a0 s) (p : Nat) : Kept a0 (State.ilim s p) :=
  h.quiet (ilim_quiet (Quiet.refl _) ..)

theorem pressTemp1_quiet {a0 s : State} (h : Quiet a0 s) (ch : Nat) (k : Nat) : Quiet a0 (State.pressTemp1 s ch k) := by
  unfold State.pressTemp1
  with_reducible repeat' first
    | exact h | assumption | (intro) | apply ite_quiet | apply pair_quiet | apply ev_quiet | apply modCv_quiet
    | apply armCv_quiet | split

theorem pressTemp1_kept {a0 s : State} (h : Kept a0 s) (ch : Nat) (k : Nat) : Kept a0 (State.pressTemp1 s ch k) :=
  h.quiet (pressTemp1_quiet (Quiet.refl _) ..)

theorem pressTemp_quiet {a0 s : State} (h : Quiet a0 s) (ch : Nat) : Quiet a0 (State.pressTemp s ch) := by
  unfold State.pressTemp
  with_reducible repeat' first
    | exact h | assumption | (intro) | apply ite_quiet | apply ite_quiet_fst | apply pair_quiet | apply pressTemp1_quiet
    | apply foldl_quiet

theorem pressTemp_kept {a0 s : State} (h : Kept a0 s) (ch : Nat) : Kept a0 (State.pressTemp s ch) :=
  h.quiet (pressTemp_quiet (Quiet.refl _) ..)

theorem publishCv_quiet {a0 s : State} (h : Quiet a0 s) (k : Nat) : Quiet a0 (State.publishCv s k) := by
  unfold State.publishCv
  with_reducible repeat' first
    | exact h | assumption | (intro) | apply ite_quiet | apply pair_quiet | apply wr_quiet | apply wrS_quiet
    | apply modCv_quiet | split | dsimp only
    | (apply Quiet.upd; first | exact h | assumption | (intro) | apply ite_quiet | apply pair_quiet | apply wr_quiet | apply wrS_quiet | apply modCv_quiet)

theorem publishCv_kept {a0 s : State} (h : Kept a0 s) (k : Nat) : Kept a0 (State.publishCv s k) :=
  h.quiet (publishCv_quiet (Quiet.refl _) ..)

theorem pressPublish_quiet {a0 s : State} (h : Quiet a0 s) : Quiet a0 (State.pressPublish s) := by
  unfold State.pressPublish
  with_reducible repeat' first
    | exact h | assumption | (intro) | apply ite_quiet | apply ite_quiet_fst | apply pair_quiet | apply publishCv_quiet
    | apply foldl_quiet

theorem pressPublish_kept {a0 s : State} (h : Kept a0 s) : Kept a0 (State.pressPublish s) :=
  h.quiet (pressPublish_quiet (Quiet.refl _) ..)

theorem connectCv_quiet {a0 s : State} (h : Quiet a0 s) (k : Nat) : Quiet a0 (State.connectCv s k) := by
  unfold State.connectCv
  with_reducible repeat' first | exact h | assumption | (intro) | apply ite_quiet | apply pair_quiet | apply wr_quiet

theorem connectCv_kept {a0 s : State} (h : Kept a0 s) (k : Nat) : Kept a0 (State.connectCv s k) :=
  h.quiet (connectCv_quiet (Quiet.refl _) ..)

theorem disconnectCv_quiet {a0 s : State} (h : Quiet a0 s) (k : Nat) : Quiet a0 (State.disconnectCv s k) := by
  unfold State.disconnectCv
  with_reducible repeat' first
    | exact h | assumption | (intro) | apply ite_quiet | apply pair_quiet | apply wr_quiet | apply shadow_quiet
    | apply modCv_quiet

theorem disconnectCv_kept {a0 s : State} (h : Kept a0 s) (k : Nat) : Kept a0 (State.disconnectCv s k) :=
  h.quiet (disconnectCv_quiet (Quiet.refl _) ..)

theorem unlatchCv_quiet {a0 s : State} (h : Quiet a0 s) (k : Nat) : Quiet a0 (State.unlatchCv s k) := by
  unfold State.unlatchCv
  with_reducible repeat' first
    | exact h | assumption | (intro) | apply ite_quiet | apply pair_quiet | apply ev_quiet | apply shadow_quiet
    | apply setCv_quiet | apply armCv_quiet

theorem unlatchCv_kept {a0 s : State} (h : Kept a0 s) (k : Nat) : Kept a0 (State.unlatchCv s k) :=
  h.quiet (unlatchCv_quiet (Quiet.refl _) ..)

theorem selectorRestart_quiet {a0 s : State} (h : Quiet a0 s) (lane : Nat) (flags : Nat) (cycleApplied : Nat) : Quiet a0 (State.selectorRestart s lane flags cycleApplied) := by
  unfold State.selectorRestart
  with_reducible repeat' first
    | exact h | assumption | (intro) | apply ite_quiet | apply ite_quiet_fst | apply pair_quiet | apply ev_quiet
    | apply modCv_quiet | apply armCv_quiet | apply foldl_quiet

theorem selectorRestart_kept {a0 s : State} (h : Kept a0 s) (lane : Nat) (flags : Nat) (cycleApplied : Nat) : Kept a0 (State.selectorRestart s lane flags cycleApplied) :=
  h.quiet (selectorRestart_quiet (Quiet.refl _) ..)

theorem clearCcePeaks_quiet {a0 s : State} (h : Quiet a0 s) : Quiet a0 (State.clearCcePeaks s) := by
  unfold State.clearCcePeaks
  with_reducible repeat' first
    | exact h | assumption | (intro) | apply ite_quiet | apply ite_quiet_fst | apply pair_quiet | apply wr_quiet
    | apply foldl_quiet

theorem clearCcePeaks_kept {a0 s : State} (h : Kept a0 s) : Kept a0 (State.clearCcePeaks s) :=
  h.quiet (clearCcePeaks_quiet (Quiet.refl _) ..)

theorem clearCceCounts_quiet {a0 s : State} (h : Quiet a0 s) : Quiet a0 (State.clearCceCounts s) := by
  unfold State.clearCceCounts
  with_reducible repeat' first
    | exact h | assumption | (intro) | apply ite_quiet | apply ite_quiet_fst | apply pair_quiet | apply wr_quiet
    | apply foldl_quiet

theorem clearCceCounts_kept {a0 s : State} (h : Kept a0 s) : Kept a0 (State.clearCceCounts s) :=
  h.quiet (clearCceCounts_quiet (Quiet.refl _) ..)

end Sys2Proof.Laws
end

