-- ==== Sys2Proof/Laws/QMetrology.lean ====
section
/-!
SUPPORT. Machine/Metrology.lean leaves grade, queue and mode alone and keeps register file and event log sound.
-/
namespace Sys2Proof.Laws

open Sys2Proof.Machine

variable {a0 : State}

theorem showFault_quiet {a0 s : State} (h : Quiet a0 s) (c : Nat) : Quiet a0 (State.showFault s c) := by
  unfold State.showFault
  with_reducible repeat' first
    | exact h | assumption | (intro) | apply ite_quiet | apply pair_quiet | apply wr_quiet | apply wrBit_quiet | split
    | dsimp only

theorem showFault_kept {a0 s : State} (h : Kept a0 s) (c : Nat) : Kept a0 (State.showFault s c) :=
  h.quiet (showFault_quiet (Quiet.refl _) ..)

theorem setMch_quiet {a0 s : State} (h : Quiet a0 s) (c : Nat) (x : MChan) : Quiet a0 (State.setMch s c x) := by
  unfold State.setMch
  with_reducible repeat' first
    | exact h | assumption | (intro) | apply ite_quiet | apply pair_quiet | apply showFault_quiet | split | dsimp only
    | (apply Quiet.upd; exact h)

theorem setMch_kept {a0 s : State} (h : Kept a0 s) (c : Nat) (x : MChan) : Kept a0 (State.setMch s c x) :=
  h.quiet (setMch_quiet (Quiet.refl _) ..)

theorem setMeter_quiet {a0 s : State} (h : Quiet a0 s) (e : Nat) (x : Meter) : Quiet a0 (State.setMeter s e x) := by
  unfold State.setMeter
  with_reducible repeat' first
    | exact h | assumption | (intro) | apply ite_quiet | apply pair_quiet | split | dsimp only | (apply Quiet.upd; exact h)

theorem setMeter_kept {a0 s : State} (h : Kept a0 s) (e : Nat) (x : Meter) : Kept a0 (State.setMeter s e x) :=
  h.quiet (setMeter_quiet (Quiet.refl _) ..)

theorem chanOut_quiet {a0 s : State} (h : Quiet a0 s) (c : Nat) (v : Int) : Quiet a0 (State.chanOut s c v) := by
  unfold State.chanOut
  with_reducible repeat' first
    | exact h | assumption | (intro) | apply ite_quiet | apply pair_quiet | apply wrS_quiet | apply setMch_quiet

theorem chanOut_kept {a0 s : State} (h : Kept a0 s) (c : Nat) (v : Int) : Kept a0 (State.chanOut s c v) :=
  h.quiet (chanOut_quiet (Quiet.refl _) ..)

theorem setMerge_quiet {a0 s : State} (h : Quiet a0 s) (e : Nat) (m : Merge) : Quiet a0 (State.setMerge s e m) := by
  unfold State.setMerge
  with_reducible repeat' first
    | exact h | assumption | (intro) | apply ite_quiet | apply pair_quiet | split | dsimp only | (apply Quiet.upd; exact h)

theorem setMerge_kept {a0 s : State} (h : Kept a0 s) (e : Nat) (m : Merge) : Kept a0 (State.setMerge s e m) :=
  h.quiet (setMerge_quiet (Quiet.refl _) ..)

theorem handReading_quiet {a0 s : State} (h : Quiet a0 s) (r : Reading) : Quiet a0 (State.handReading s r) := by
  unfold State.handReading
  with_reducible repeat' first
    | exact h | assumption | (intro) | apply ite_quiet | apply pair_quiet | apply shadow_quiet | apply setMerge_quiet
    | split | dsimp only
    | (apply Quiet.upd; first | exact h | assumption | (intro) | apply ite_quiet | apply pair_quiet | apply shadow_quiet | apply setMerge_quiet)

theorem handReading_kept {a0 s : State} (h : Kept a0 s) (r : Reading) : Kept a0 (State.handReading s r) :=
  h.quiet (handReading_quiet (Quiet.refl _) ..)

theorem closeOne_quiet {a0 s : State} (h : Quiet a0 s) (b : Nat) (e : Nat) : Quiet a0 (State.closeOne s b e) := by
  unfold State.closeOne
  with_reducible repeat' first
    | exact h | assumption | (intro) | apply ite_quiet | apply pair_quiet | apply wr_quiet | apply setMeter_quiet
    | apply handReading_quiet

theorem closeOne_kept {a0 s : State} (h : Kept a0 s) (b : Nat) (e : Nat) : Kept a0 (State.closeOne s b e) :=
  h.quiet (closeOne_quiet (Quiet.refl _) ..)

theorem mark_quiet {a0 s : State} (h : Quiet a0 s) : Quiet a0 (State.mark s) := by
  unfold State.mark
  with_reducible repeat' first
    | exact h | assumption | (intro) | apply ite_quiet | apply pair_quiet | split | dsimp only | (apply Quiet.upd; exact h)

theorem mark_kept {a0 s : State} (h : Kept a0 s) : Kept a0 (State.mark s) :=
  h.quiet (mark_quiet (Quiet.refl _) ..)

theorem closeTo_quiet {a0 s : State} (h : Quiet a0 s) (t : Nat) : Quiet a0 (State.closeTo s t) := by
  unfold State.closeTo
  with_reducible repeat' first
    | exact h | assumption | (intro) | apply ite_quiet | apply ite_quiet_fst | apply pair_quiet | apply closeOne_quiet
    | apply mark_quiet | apply foldl_quiet | apply foldl_quiet_fst | apply foldl_quiet_snd | split | dsimp only
    | (apply Quiet.upd; first | exact h | assumption | (intro) | apply ite_quiet | apply ite_quiet_fst | apply pair_quiet | apply closeOne_quiet | apply mark_quiet)

theorem closeTo_kept {a0 s : State} (h : Kept a0 s) (t : Nat) : Kept a0 (State.closeTo s t) :=
  h.quiet (closeTo_quiet (Quiet.refl _) ..)

theorem firstSample_quiet {a0 s : State} (h : Quiet a0 s) (e : Nat) (t : Nat) : Quiet a0 (State.firstSample s e t) := by
  unfold State.firstSample
  with_reducible repeat' first
    | exact h | assumption | (intro) | apply ite_quiet | apply pair_quiet | split | dsimp only | (apply Quiet.upd; exact h)

theorem firstSample_kept {a0 s : State} (h : Kept a0 s) (e : Nat) (t : Nat) : Kept a0 (State.firstSample s e t) :=
  h.quiet (firstSample_quiet (Quiet.refl _) ..)

theorem sessionReading_quiet {a0 s : State} (h : Quiet a0 s) (p : Nat) (kind : Nat) : Quiet a0 (State.sessionReading s p kind).1 := by
  unfold State.sessionReading
  with_reducible repeat' first
    | exact h | assumption | (intro) | apply ite_quiet | apply ite_quiet_fst | apply pair_quiet | apply setMeter_quiet
    | apply closeTo_quiet

theorem sessionReading_quiet_eq {a0 s s1 : State} {b0} {p : Nat} {kind : Nat} (h : Quiet a0 s) (hE : State.sessionReading s p kind = (s1, b0)) : Quiet a0 s1 := by
  have := sessionReading_quiet h p kind 
  rw [hE] at this
  exact this

theorem sessionReading_kept {a0 s : State} (h : Kept a0 s) (p : Nat) (kind : Nat) : Kept a0 (State.sessionReading s p kind).1 :=
  h.quiet (sessionReading_quiet (Quiet.refl _) ..)

theorem sessionReading_kept_eq {a0 s s1 : State} {b0} {p : Nat} {kind : Nat} (h : Kept a0 s) (hE : State.sessionReading s p kind = (s1, b0)) : Kept a0 s1 :=
  h.quiet (sessionReading_quiet_eq (Quiet.refl _) hE)

theorem windowEnd_quiet {a0 s : State} (h : Quiet a0 s) (e : Nat) (len : Nat) : Quiet a0 (State.windowEnd s e len).1 := by
  unfold State.windowEnd
  with_reducible repeat' first
    | exact h | assumption | (intro) | apply ite_quiet | apply ite_quiet_fst | apply pair_quiet | apply waitTill_quiet
    | apply setMch_quiet | apply setMeter_quiet | apply mark_quiet | apply closeTo_quiet | apply foldl_quiet
    | apply foldl_quiet_fst | apply foldl_quiet_snd | split | dsimp only
    | (apply Quiet.upd; first | exact h | assumption | (intro) | apply ite_quiet | apply ite_quiet_fst | apply pair_quiet | apply waitTill_quiet | apply setMch_quiet | apply setMeter_quiet)

theorem windowEnd_quiet_eq {a0 s s1 : State} {b0} {e : Nat} {len : Nat} (h : Quiet a0 s) (hE : State.windowEnd s e len = (s1, b0)) : Quiet a0 s1 := by
  have := windowEnd_quiet h e len 
  rw [hE] at this
  exact this

theorem windowEnd_kept {a0 s : State} (h : Kept a0 s) (e : Nat) (len : Nat) : Kept a0 (State.windowEnd s e len).1 :=
  h.quiet (windowEnd_quiet (Quiet.refl _) ..)

theorem windowEnd_kept_eq {a0 s s1 : State} {b0} {e : Nat} {len : Nat} (h : Kept a0 s) (hE : State.windowEnd s e len = (s1, b0)) : Kept a0 s1 :=
  h.quiet (windowEnd_quiet_eq (Quiet.refl _) hE)

theorem missWindow_quiet {a0 s : State} (h : Quiet a0 s) (e : Nat) : Quiet a0 (State.missWindow s e) := by
  unfold State.missWindow
  with_reducible repeat' first | exact h | assumption | (intro) | apply ite_quiet | apply pair_quiet | apply setMeter_quiet

theorem missWindow_kept {a0 s : State} (h : Kept a0 s) (e : Nat) : Kept a0 (State.missWindow s e) :=
  h.quiet (missWindow_quiet (Quiet.refl _) ..)

theorem addProduct_quiet {a0 s : State} (h : Quiet a0 s) (e : Nat) (p : Int) : Quiet a0 (State.addProduct s e p) := by
  unfold State.addProduct
  with_reducible repeat' first
    | exact h | assumption | (intro) | apply ite_quiet | apply pair_quiet | apply wr_quiet | apply setMeter_quiet
    | apply firstSample_quiet

theorem addProduct_kept {a0 s : State} (h : Kept a0 s) (e : Nat) (p : Int) : Kept a0 (State.addProduct s e p) :=
  h.quiet (addProduct_quiet (Quiet.refl _) ..)

theorem feedCaps_quiet {a0 s : State} (h : Quiet a0 s) (f : MCap → MCap) : Quiet a0 (State.feedCaps s f) := by
  unfold State.feedCaps
  with_reducible repeat' first
    | exact h | assumption | (intro) | apply ite_quiet | apply ite_quiet_fst | apply pair_quiet | apply report_quiet
    | apply foldl_quiet | apply foldl_quiet_fst | apply foldl_quiet_snd | split | dsimp only | (apply Quiet.upd; exact h)

theorem feedCaps_kept {a0 s : State} (h : Kept a0 s) (f : MCap → MCap) : Kept a0 (State.feedCaps s f) :=
  h.quiet (feedCaps_quiet (Quiet.refl _) ..)

theorem feedChan_quiet {a0 s : State} (h : Quiet a0 s) (c : Nat) (v : Int) (raw : Int) : Quiet a0 (State.feedChan s c v raw) := by
  unfold State.feedChan
  with_reducible repeat' first | exact h | assumption | (intro) | apply ite_quiet | apply pair_quiet | apply feedCaps_quiet

theorem feedChan_kept {a0 s : State} (h : Kept a0 s) (c : Nat) (v : Int) (raw : Int) : Kept a0 (State.feedChan s c v raw) :=
  h.quiet (feedChan_quiet (Quiet.refl _) ..)

theorem feedEnergy_quiet {a0 s : State} (h : Quiet a0 s) (c : Nat) (p : Int) (raw : Int) : Quiet a0 (State.feedEnergy s c p raw) := by
  unfold State.feedEnergy
  with_reducible repeat' first | exact h | assumption | (intro) | apply ite_quiet | apply pair_quiet | apply feedCaps_quiet

theorem feedEnergy_kept {a0 s : State} (h : Kept a0 s) (c : Nat) (p : Int) (raw : Int) : Kept a0 (State.feedEnergy s c p raw) :=
  h.quiet (feedEnergy_quiet (Quiet.refl _) ..)

theorem portSample_quiet {a0 s : State} (h : Quiet a0 s) (p : Nat) (lead : Nat) (codesV : List (BitVec 24)) (codesI : List (BitVec 24)) : Quiet a0 (State.portSample s p lead codesV codesI) := by
  unfold State.portSample
  with_reducible repeat' first
    | exact h | assumption | (intro) | apply ite_quiet | apply pair_quiet | apply chanOut_quiet | apply windowEnd_quiet
    | apply missWindow_quiet | apply addProduct_quiet | apply feedChan_quiet | apply feedEnergy_quiet
    | exact windowEnd_quiet_eq (by assumption) (by assumption) | split | dsimp only
    | (apply Quiet.upd; first | exact h | assumption | (intro) | apply ite_quiet | apply pair_quiet | apply chanOut_quiet | apply windowEnd_quiet | apply missWindow_quiet | apply addProduct_quiet | apply feedChan_quiet | apply feedEnergy_quiet)

theorem portSample_kept {a0 s : State} (h : Kept a0 s) (p : Nat) (lead : Nat) (codesV : List (BitVec 24)) (codesI : List (BitVec 24)) : Kept a0 (State.portSample s p lead codesV codesI) :=
  h.quiet (portSample_quiet (Quiet.refl _) ..)

theorem auxChan_quiet {a0 s : State} (h : Quiet a0 s) (c : Nat) (lead : Nat) (codes : List (BitVec 24)) : Quiet a0 (State.auxChan s c lead codes) := by
  unfold State.auxChan
  with_reducible repeat' first
    | exact h | assumption | (intro) | apply ite_quiet | apply pair_quiet | apply chanOut_quiet | apply feedChan_quiet

theorem auxChan_kept {a0 s : State} (h : Kept a0 s) (c : Nat) (lead : Nat) (codes : List (BitVec 24)) : Kept a0 (State.auxChan s c lead codes) :=
  h.quiet (auxChan_quiet (Quiet.refl _) ..)

theorem auxSample_quiet {a0 s : State} (h : Quiet a0 s) (q : Nat) (lead : Nat) (codesA : List (BitVec 24)) (codesB : List (BitVec 24)) : Quiet a0 (State.auxSample s q lead codesA codesB) := by
  unfold State.auxSample
  with_reducible repeat' first
    | exact h | assumption | (intro) | apply ite_quiet | apply pair_quiet | apply windowEnd_quiet | apply auxChan_quiet

theorem auxSample_kept {a0 s : State} (h : Kept a0 s) (q : Nat) (lead : Nat) (codesA : List (BitVec 24)) (codesB : List (BitVec 24)) : Kept a0 (State.auxSample s q lead codesA codesB) :=
  h.quiet (auxSample_quiet (Quiet.refl _) ..)

theorem acChan_quiet {a0 s : State} (h : Quiet a0 s) (c : Nat) (lead : Nat) (current : Bool) (codes : List (BitVec 24)) : Quiet a0 (State.acChan s c lead current codes).1 := by
  unfold State.acChan
  with_reducible repeat' first
    | exact h | assumption | (intro) | apply ite_quiet | apply ite_quiet_fst | apply pair_quiet | apply chanOut_quiet

theorem acChan_quiet_eq {a0 s s1 : State} {b0} {c : Nat} {lead : Nat} {current : Bool} {codes : List (BitVec 24)} (h : Quiet a0 s) (hE : State.acChan s c lead current codes = (s1, b0)) : Quiet a0 s1 := by
  have := acChan_quiet h c lead current codes 
  rw [hE] at this
  exact this

theorem acChan_kept {a0 s : State} (h : Kept a0 s) (c : Nat) (lead : Nat) (current : Bool) (codes : List (BitVec 24)) : Kept a0 (State.acChan s c lead current codes).1 :=
  h.quiet (acChan_quiet (Quiet.refl _) ..)

theorem acChan_kept_eq {a0 s s1 : State} {b0} {c : Nat} {lead : Nat} {current : Bool} {codes : List (BitVec 24)} (h : Kept a0 s) (hE : State.acChan s c lead current codes = (s1, b0)) : Kept a0 s1 :=
  h.quiet (acChan_quiet_eq (Quiet.refl _) hE)

theorem acPair_quiet {a0 s : State} (h : Quiet a0 s) (g lead j : Nat) (codesV codesI : List (List (BitVec 24))) :
    Quiet a0 (s.acPair g lead j codesV codesI).1 := by
  unfold State.acPair
  exact feedChan_quiet (feedChan_quiet (acChan_quiet (acChan_quiet h ..) ..) ..) ..

theorem acPair_quiet_eq {a0 s s1 : State} {x} {g lead j : Nat} {codesV codesI : List (List (BitVec 24))} (h : Quiet a0 s)
    (e : s.acPair g lead j codesV codesI = (s1, x)) : Quiet a0 s1 := by
  have := acPair_quiet h g lead j codesV codesI
  rwa [e] at this

theorem acPair_kept {a0 s : State} (h : Kept a0 s) (g : Nat) (lead : Nat) (j : Nat) (codesV : List (List (BitVec 24))) (codesI : List (List (BitVec 24))) : Kept a0 (State.acPair s g lead j codesV codesI).1 :=
  h.quiet (acPair_quiet (Quiet.refl _) ..)

theorem acPair_kept_eq {a0 s s1 : State} {b0} {g : Nat} {lead : Nat} {j : Nat} {codesV : List (List (BitVec 24))} {codesI : List (List (BitVec 24))} (h : Kept a0 s) (hE : State.acPair s g lead j codesV codesI = (s1, b0)) : Kept a0 s1 :=
  h.quiet (acPair_quiet_eq (Quiet.refl _) hE)

theorem acPhases_quiet {a0 s : State} (h : Quiet a0 s) (g : Nat) (lead : Nat) (codesV : List (List (BitVec 24))) (codesI : List (List (BitVec 24))) : Quiet a0 (State.acPhases s g lead codesV codesI).1 := by
  unfold State.acPhases
  with_reducible repeat' first
    | exact h | assumption | (intro) | apply ite_quiet | apply ite_quiet_fst | apply pair_quiet | apply acPair_quiet
    | apply foldl_quiet | apply foldl_quiet_fst

theorem acPhases_quiet_eq {a0 s s1 : State} {b0} {g : Nat} {lead : Nat} {codesV : List (List (BitVec 24))} {codesI : List (List (BitVec 24))} (h : Quiet a0 s) (hE : State.acPhases s g lead codesV codesI = (s1, b0)) : Quiet a0 s1 := by
  have := acPhases_quiet h g lead codesV codesI 
  rw [hE] at this
  exact this

theorem acPhases_kept {a0 s : State} (h : Kept a0 s) (g : Nat) (lead : Nat) (codesV : List (List (BitVec 24))) (codesI : List (List (BitVec 24))) : Kept a0 (State.acPhases s g lead codesV codesI).1 :=
  h.quiet (acPhases_quiet (Quiet.refl _) ..)

theorem acPhases_kept_eq {a0 s s1 : State} {b0} {g : Nat} {lead : Nat} {codesV : List (List (BitVec 24))} {codesI : List (List (BitVec 24))} (h : Kept a0 s) (hE : State.acPhases s g lead codesV codesI = (s1, b0)) : Kept a0 s1 :=
  h.quiet (acPhases_quiet_eq (Quiet.refl _) hE)

theorem acNeutral1_quiet {a0 s : State} (h : Quiet a0 s) (c lead : Nat) (cur : Bool) (codes : List (BitVec 24)) :
    Quiet a0 (s.acNeutral1 c lead cur codes) := by
  unfold State.acNeutral1
  exact ite_quiet h (feedChan_quiet (acChan_quiet h ..) ..)

theorem acNeutral1_kept {a0 s : State} (h : Kept a0 s) (c : Nat) (lead : Nat) (cur : Bool) (codes : List (BitVec 24)) : Kept a0 (State.acNeutral1 s c lead cur codes) :=
  h.quiet (acNeutral1_quiet (Quiet.refl _) ..)

theorem acNeutral_quiet {a0 s : State} (h : Quiet a0 s) (g : Nat) (lead : Nat) (codesV : List (List (BitVec 24))) (codesI : List (List (BitVec 24))) : Quiet a0 (State.acNeutral s g lead codesV codesI) := by
  unfold State.acNeutral
  with_reducible repeat' first | exact h | assumption | (intro) | apply ite_quiet | apply pair_quiet | apply acNeutral1_quiet

theorem acNeutral_kept {a0 s : State} (h : Kept a0 s) (g : Nat) (lead : Nat) (codesV : List (List (BitVec 24))) (codesI : List (List (BitVec 24))) : Kept a0 (State.acNeutral s g lead codesV codesI) :=
  h.quiet (acNeutral_quiet (Quiet.refl _) ..)

theorem acProduct_quiet {a0 s : State} (h : Quiet a0 s) (g lead : Nat) (codesV codesI : List (List (BitVec 24))) :
    Quiet a0 (s.acProduct g lead codesV codesI).1 := by
  unfold State.acProduct
  exact feedEnergy_quiet (acNeutral_quiet (acPhases_quiet h ..) ..) ..

theorem acProduct_quiet_eq {a0 s s1 : State} {x} {g lead : Nat} {codesV codesI : List (List (BitVec 24))} (h : Quiet a0 s)
    (e : s.acProduct g lead codesV codesI = (s1, x)) : Quiet a0 s1 := by
  have := acProduct_quiet h g lead codesV codesI
  rwa [e] at this

theorem acProduct_kept {a0 s : State} (h : Kept a0 s) (g : Nat) (lead : Nat) (codesV : List (List (BitVec 24))) (codesI : List (List (BitVec 24))) : Kept a0 (State.acProduct s g lead codesV codesI).1 :=
  h.quiet (acProduct_quiet (Quiet.refl _) ..)

theorem acProduct_kept_eq {a0 s s1 : State} {b0} {g : Nat} {lead : Nat} {codesV : List (List (BitVec 24))} {codesI : List (List (BitVec 24))} (h : Kept a0 s) (hE : State.acProduct s g lead codesV codesI = (s1, b0)) : Kept a0 s1 :=
  h.quiet (acProduct_quiet_eq (Quiet.refl _) hE)

theorem acSample_quiet {a0 s : State} (h : Quiet a0 s) (g : Nat) (lead : Nat) (codesV : List (List (BitVec 24))) (codesI : List (List (BitVec 24))) : Quiet a0 (State.acSample s g lead codesV codesI) := by
  unfold State.acSample
  with_reducible repeat' first
    | exact h | assumption | (intro) | apply ite_quiet | apply pair_quiet | apply setMeter_quiet | apply windowEnd_quiet
    | apply missWindow_quiet | apply addProduct_quiet | apply acProduct_quiet
    | exact windowEnd_quiet_eq (by assumption) (by assumption) | exact acProduct_quiet_eq (by assumption) (by assumption)
    | split | dsimp only
    | (apply Quiet.upd; first | exact h | assumption | (intro) | apply ite_quiet | apply pair_quiet | apply setMeter_quiet)

theorem acSample_kept {a0 s : State} (h : Kept a0 s) (g : Nat) (lead : Nat) (codesV : List (List (BitVec 24))) (codesI : List (List (BitVec 24))) : Kept a0 (State.acSample s g lead codesV codesI) :=
  h.quiet (acSample_quiet (Quiet.refl _) ..)

theorem chanFault1_quiet {a0 s : State} (h : Quiet a0 s) (c : Nat) (cause : Nat) : Quiet a0 (State.chanFault1 s c cause) := by
  unfold State.chanFault1
  with_reducible repeat' first
    | exact h | assumption | (intro) | apply ite_quiet | apply pair_quiet | apply ev_quiet | apply setMch_quiet | split
    | dsimp only | (apply Quiet.upd; exact h)

theorem chanFault1_kept {a0 s : State} (h : Kept a0 s) (c : Nat) (cause : Nat) : Kept a0 (State.chanFault1 s c cause) :=
  h.quiet (chanFault1_quiet (Quiet.refl _) ..)

theorem chanBack_quiet {a0 s : State} (h : Quiet a0 s) (c : Nat) (mask : Nat) : Quiet a0 (State.chanBack s c mask) := by
  unfold State.chanBack
  with_reducible repeat' first
    | exact h | assumption | (intro) | apply ite_quiet | apply pair_quiet | apply ev_quiet | apply setMch_quiet

theorem chanBack_kept {a0 s : State} (h : Kept a0 s) (c : Nat) (mask : Nat) : Kept a0 (State.chanBack s c mask) :=
  h.quiet (chanBack_quiet (Quiet.refl _) ..)

theorem overOn_quiet {a0 s : State} (h : Quiet a0 s) (c : Nat) : Quiet a0 (State.overOn s c) := by
  unfold State.overOn
  with_reducible repeat' first
    | exact h | assumption | (intro) | apply ite_quiet | apply pair_quiet | apply wrBit_quiet | apply setMch_quiet
    | apply setMeter_quiet | split

theorem overOn_kept {a0 s : State} (h : Kept a0 s) (c : Nat) : Kept a0 (State.overOn s c) :=
  h.quiet (overOn_quiet (Quiet.refl _) ..)

theorem overrange_quiet {a0 s : State} (h : Quiet a0 s) (c : Nat) (full : Bool) : Quiet a0 (State.overrange s c full) := by
  unfold State.overrange
  with_reducible repeat' first
    | exact h | assumption | (intro) | apply ite_quiet | apply pair_quiet | apply ev_quiet | apply setMch_quiet
    | apply overOn_quiet | split | dsimp only

theorem overrange_kept {a0 s : State} (h : Kept a0 s) (c : Nat) (full : Bool) : Kept a0 (State.overrange s c full) :=
  h.quiet (overrange_quiet (Quiet.refl _) ..)

theorem tableCheck_quiet {a0 s : State} (h : Quiet a0 s) : Quiet a0 (State.tableCheck s) := by
  unfold State.tableCheck
  with_reducible repeat' first
    | exact h | assumption | (intro) | apply ite_quiet | apply ite_quiet_fst | apply pair_quiet | apply ev_quiet
    | apply chanFault1_quiet | apply chanBack_quiet | apply foldl_quiet | apply foldl_quiet_fst | apply foldl_quiet_snd
    | split

theorem tableCheck_kept {a0 s : State} (h : Kept a0 s) : Kept a0 (State.tableCheck s) :=
  h.quiet (tableCheck_quiet (Quiet.refl _) ..)

theorem rollLatch_quiet {a0 s : State} (h : Quiet a0 s) (e : Nat) : Quiet a0 (State.rollLatch s e) := by
  unfold State.rollLatch
  with_reducible repeat' first
    | exact h | assumption | (intro) | apply ite_quiet | apply pair_quiet | apply setReg_quiet | apply ev_quiet
    | apply setMeter_quiet

theorem rollLatch_kept {a0 s : State} (h : Kept a0 s) (e : Nat) : Kept a0 (State.rollLatch s e) :=
  h.quiet (rollLatch_quiet (Quiet.refl _) ..)

theorem setAcp_quiet {a0 s : State} (h : Quiet a0 s) (g : Nat) (x : AcPoint) : Quiet a0 (State.setAcp s g x) := by
  unfold State.setAcp
  with_reducible repeat' first
    | exact h | assumption | (intro) | apply ite_quiet | apply pair_quiet | split | dsimp only | (apply Quiet.upd; exact h)

theorem setAcp_kept {a0 s : State} (h : Kept a0 s) (g : Nat) (x : AcPoint) : Kept a0 (State.setAcp s g x) :=
  h.quiet (setAcp_quiet (Quiet.refl _) ..)

theorem acLatch_quiet {a0 s : State} (h : Quiet a0 s) (g : Nat) : Quiet a0 (State.acLatch s g) := by
  unfold State.acLatch
  with_reducible repeat' first
    | exact h | assumption | (intro) | apply ite_quiet | apply ite_quiet_fst | apply pair_quiet | apply setReg_quiet
    | apply foldl_quiet

theorem acLatch_kept {a0 s : State} (h : Kept a0 s) (g : Nat) : Kept a0 (State.acLatch s g) :=
  h.quiet (acLatch_quiet (Quiet.refl _) ..)

theorem detector_quiet {a0 s : State} (h : Quiet a0 s) (f : Fld) (now : Bool) (code : Nat) (g : Nat) (arg : Nat) : Quiet a0 (State.detector s f now code g arg) := by
  unfold State.detector
  with_reducible repeat' first
    | exact h | assumption | (intro) | apply ite_quiet | apply pair_quiet | apply wr_quiet | apply ev_quiet

theorem detector_kept {a0 s : State} (h : Kept a0 s) (f : Fld) (now : Bool) (code : Nat) (g : Nat) (arg : Nat) : Kept a0 (State.detector s f now code g arg) :=
  h.quiet (detector_quiet (Quiet.refl _) ..)

theorem acDetect_quiet {a0 s : State} (h : Quiet a0 s) (g : Nat) (w : AcWindow) : Quiet a0 (State.acDetect s g w) := by
  unfold State.acDetect
  with_reducible repeat' first
    | exact h | assumption | (intro) | apply ite_quiet | apply ite_quiet_fst | apply pair_quiet | apply wr_quiet
    | apply ev_quiet | apply setAcp_quiet | apply detector_quiet

theorem acDetect_kept {a0 s : State} (h : Kept a0 s) (g : Nat) (w : AcWindow) : Kept a0 (State.acDetect s g w) :=
  h.quiet (acDetect_quiet (Quiet.refl _) ..)

theorem acWindow_quiet {a0 s : State} (h : Quiet a0 s) (g : Nat) (w : AcWindow) : Quiet a0 (State.acWindow s g w) := by
  unfold State.acWindow
  with_reducible repeat' first
    | exact h | assumption | (intro) | apply ite_quiet | apply pair_quiet | apply bumpWrap_quiet | apply waitTill_quiet
    | apply setAcp_quiet | apply acDetect_quiet | split

theorem acWindow_kept {a0 s : State} (h : Kept a0 s) (g : Nat) (w : AcWindow) : Kept a0 (State.acWindow s g w) :=
  h.quiet (acWindow_quiet (Quiet.refl _) ..)

theorem writeCkpt_quiet {a0 s : State} (h : Quiet a0 s) : Quiet a0 (State.writeCkpt s) := by
  unfold State.writeCkpt
  with_reducible repeat' first
    | exact h | assumption | (intro) | apply ite_quiet | apply pair_quiet | split | dsimp only | (apply Quiet.upd; exact h)

theorem writeCkpt_kept {a0 s : State} (h : Kept a0 s) : Kept a0 (State.writeCkpt s) :=
  h.quiet (writeCkpt_quiet (Quiet.refl _) ..)

theorem mteResume_quiet {a0 s : State} (h : Quiet a0 s) (gapEnd : Nat) : Quiet a0 (State.mteResume s gapEnd) := by
  unfold State.mteResume
  with_reducible repeat' first
    | exact h | assumption | (intro) | apply ite_quiet | apply ite_quiet_fst | apply pair_quiet | apply ev_quiet
    | apply setMeter_quiet | apply foldl_quiet | apply foldl_quiet_fst | apply foldl_quiet_snd | split | dsimp only
    | (apply Quiet.upd; first | exact h | assumption | (intro) | apply ite_quiet | apply ite_quiet_fst | apply pair_quiet | apply ev_quiet | apply setMeter_quiet)

theorem mteResume_kept {a0 s : State} (h : Kept a0 s) (gapEnd : Nat) : Kept a0 (State.mteResume s gapEnd) :=
  h.quiet (mteResume_quiet (Quiet.refl _) ..)

theorem sealCal_quiet {a0 s : State} (h : Quiet a0 s) (old : Option (Tab (BitVec 32))) : Quiet a0 (State.sealCal s old) := by
  unfold State.sealCal
  with_reducible repeat' first
    | exact h | assumption | (intro) | apply ite_quiet | apply ite_quiet_fst | apply pair_quiet | apply wr_quiet
    | apply ev_quiet | apply foldl_quiet | apply foldl_quiet_fst | apply foldl_quiet_snd | split | dsimp only
    | (apply Quiet.upd; exact h)

theorem sealCal_kept {a0 s : State} (h : Kept a0 s) (old : Option (Tab (BitVec 32))) : Kept a0 (State.sealCal s old) :=
  h.quiet (sealCal_quiet (Quiet.refl _) ..)

theorem startMcap_quiet {a0 s : State} (h : Quiet a0 s) (j : MCap) : Quiet a0 (State.startMcap s j) := by
  unfold State.startMcap
  with_reducible repeat' first
    | exact h | assumption | (intro) | apply ite_quiet | apply pair_quiet | apply complete_quiet | apply reportStart_quiet
    | split | dsimp only | (apply Quiet.upd; exact h)

theorem startMcap_kept {a0 s : State} (h : Kept a0 s) (j : MCap) : Kept a0 (State.startMcap s j) :=
  h.quiet (startMcap_quiet (Quiet.refl _) ..)

theorem startWaiting_quiet {a0 s : State} (h : Quiet a0 s) (l : List MCap) : Quiet a0 (s.startWaiting l) := by
  induction l generalizing s with
  | nil => exact Quiet.upd h
  | cons c l ih =>
    unfold State.startWaiting
    split
    · exact Quiet.upd h
    · exact ih (startMcap_quiet (mapFlight_quiet (setWait_quiet h ..) ..) _)

theorem startWaiting_kept {a0 s : State} (h : Kept a0 s) (l : List MCap) : Kept a0 (s.startWaiting l) :=
  h.quiet (startWaiting_quiet (Quiet.refl _) ..)

theorem nextMcap_quiet {a0 s : State} (h : Quiet a0 s) : Quiet a0 (State.nextMcap s) := by
  unfold State.nextMcap
  with_reducible repeat' first
    | exact h | assumption | (intro) | apply ite_quiet | apply pair_quiet | apply startWaiting_quiet

theorem nextMcap_kept {a0 s : State} (h : Kept a0 s) : Kept a0 (State.nextMcap s) :=
  h.quiet (nextMcap_quiet (Quiet.refl _) ..)

theorem mteCapture_quiet {a0 s : State} (h : Quiet a0 s) (d : DescRef) (a : McapArg) : Quiet a0 (State.mteCapture s d a) := by
  unfold State.mteCapture
  with_reducible repeat' first
    | exact h | assumption | (intro) | apply ite_quiet | apply pair_quiet | apply fail_quiet | apply waitShared_quiet
    | apply checkMode_quiet | apply startMcap_quiet | split | dsimp only
    | (apply Quiet.upd; first | exact h | assumption | (intro) | apply ite_quiet | apply pair_quiet | apply fail_quiet | apply waitShared_quiet)

theorem mteCapture_kept {a0 s : State} (h : Kept a0 s) (d : DescRef) (a : McapArg) : Kept a0 (State.mteCapture s d a) :=
  h.quiet (mteCapture_quiet (Quiet.refl _) ..)

theorem endMcap_quiet {a0 s : State} (h : Quiet a0 s) (j : MCap) (measured : List Nat) : Quiet a0 (State.endMcap s j measured) := by
  unfold State.endMcap
  with_reducible repeat' first
    | exact h | assumption | (intro) | apply ite_quiet | apply pair_quiet | apply emit_quiet | apply complete_quiet
    | apply nextMcap_quiet | split | dsimp only | (apply Quiet.upd; exact h)

theorem endMcap_kept {a0 s : State} (h : Kept a0 s) (j : MCap) (measured : List Nat) : Kept a0 (State.endMcap s j measured) :=
  h.quiet (endMcap_quiet (Quiet.refl _) ..)

theorem holdFreq10_quiet {a0 s : State} (h : Quiet a0 s) (g : Nat) (f : Nat) : Quiet a0 (State.holdFreq10 s g f) := by
  unfold State.holdFreq10
  with_reducible repeat' first | exact h | assumption | (intro) | apply ite_quiet | apply pair_quiet | apply setAcp_quiet

theorem holdFreq10_kept {a0 s : State} (h : Kept a0 s) (g : Nat) (f : Nat) : Kept a0 (State.holdFreq10 s g f) :=
  h.quiet (holdFreq10_quiet (Quiet.refl _) ..)

end Sys2Proof.Laws
end

