-- ==== Sys2Proof/Laws/QRecords.lean ====
section
/-!
SUPPORT. Machine/Records.lean leaves grade, queue and mode alone and keeps register file and event log sound.
-/
namespace Sys2Proof.Laws

open Sys2Proof.Machine

variable {a0 : State}

theorem showKvt_quiet {a0 s : State} (h : Quiet a0 s) : Quiet a0 (State.showKvt s) := by
  unfold State.showKvt
  with_reducible repeat' first
    | exact h | assumption | (intro) | apply ite_quiet | apply ite_quiet_fst | apply pair_quiet | apply setReg_quiet
    | apply wr_quiet | apply foldl_quiet

theorem showKvt_kept {a0 s : State} (h : Kept a0 s) : Kept a0 (State.showKvt s) :=
  h.quiet (showKvt_quiet (Quiet.refl _) ..)

theorem setKvt_quiet {a0 s : State} (h : Quiet a0 s) (k : Kvt) : Quiet a0 (State.setKvt s k) := by
  unfold State.setKvt
  with_reducible repeat' first
    | exact h | assumption | (intro) | apply ite_quiet | apply pair_quiet | apply showKvt_quiet | split | dsimp only
    | (apply Quiet.upd; exact h)

theorem setKvt_kept {a0 s : State} (h : Kept a0 s) (k : Kvt) : Kept a0 (State.setKvt s k) :=
  h.quiet (setKvt_quiet (Quiet.refl _) ..)

theorem flipKey_quiet {a0 s : State} (h : Quiet a0 s) (gen : Nat) (meas : List Nat) : Quiet a0 (State.flipKey s gen meas) := by
  unfold State.flipKey
  with_reducible repeat' first
    | exact h | assumption | (intro) | apply ite_quiet | apply pair_quiet | apply setKvt_quiet | split | dsimp only
    | (apply Quiet.upd; exact h)

theorem flipKey_kept {a0 s : State} (h : Kept a0 s) (gen : Nat) (meas : List Nat) : Kept a0 (State.flipKey s gen meas) :=
  h.quiet (flipKey_quiet (Quiet.refl _) ..)

theorem setHead_quiet {a0 s : State} (h : Quiet a0 s) (e : Nat) (hd : Option ChainHead) : Quiet a0 (State.setHead s e hd) := by
  unfold State.setHead
  with_reducible repeat' first
    | exact h | assumption | (intro) | apply ite_quiet | apply pair_quiet | split | dsimp only | (apply Quiet.upd; exact h)

theorem setHead_kept {a0 s : State} (h : Kept a0 s) (e : Nat) (hd : Option ChainHead) : Kept a0 (State.setHead s e hd) :=
  h.quiet (setHead_quiet (Quiet.refl _) ..)

theorem showJrnl_quiet {a0 s : State} (h : Quiet a0 s) : Quiet a0 (State.showJrnl s) := by
  unfold State.showJrnl
  with_reducible repeat' first
    | exact h | assumption | (intro) | apply ite_quiet | apply pair_quiet | apply wr_quiet | apply wr64_quiet
    | apply ev_quiet

theorem showJrnl_kept {a0 s : State} (h : Kept a0 s) : Kept a0 (State.showJrnl s) :=
  h.quiet (showJrnl_quiet (Quiet.refl _) ..)

theorem journal_quiet {a0 s : State} (h : Quiet a0 s) (r0 : Rec) (key : Nat) (closing : Bool) : Quiet a0 (State.journal s r0 key closing) := by
  unfold State.journal
  with_reducible repeat' first
    | exact h | assumption | (intro) | apply ite_quiet | apply pair_quiet | apply setHead_quiet | apply showJrnl_quiet
    | split | dsimp only | (apply Quiet.upd; exact h)

theorem journal_kept {a0 s : State} (h : Kept a0 s) (r0 : Rec) (key : Nat) (closing : Bool) : Kept a0 (State.journal s r0 key closing) :=
  h.quiet (journal_quiet (Quiet.refl _) ..)

theorem rollRecord_quiet {a0 s : State} (h : Quiet a0 s) (e : Nat) (gen : Nat) (key : Nat) (body : List Nat) (unlinked : Bool) : Quiet a0 (State.rollRecord s e gen key body unlinked) := by
  unfold State.rollRecord
  with_reducible repeat' first
    | exact h | assumption | (intro) | apply ite_quiet | apply pair_quiet | apply journal_quiet | split

theorem rollRecord_kept {a0 s : State} (h : Kept a0 s) (e : Nat) (gen : Nat) (key : Nat) (body : List Nat) (unlinked : Bool) : Kept a0 (State.rollRecord s e gen key body unlinked) :=
  h.quiet (rollRecord_quiet (Quiet.refl _) ..)

theorem cutOff_quiet {a0 s : State} (h : Quiet a0 s) : Quiet a0 (State.cutOff s) := by
  unfold State.cutOff
  with_reducible repeat' first
    | exact h | assumption | (intro) | apply ite_quiet | apply pair_quiet | split | dsimp only | (apply Quiet.upd; exact h)

theorem cutOff_kept {a0 s : State} (h : Kept a0 s) : Kept a0 (State.cutOff s) :=
  h.quiet (cutOff_quiet (Quiet.refl _) ..)

theorem payUnlinked_quiet {a0 s : State} (h : Quiet a0 s) (e : Nat) (key : Nat) : Quiet a0 (State.payUnlinked s e key) := by
  unfold State.payUnlinked
  with_reducible repeat' first
    | exact h | assumption | (intro) | apply ite_quiet | apply pair_quiet | apply rollRecord_quiet | split | dsimp only
    | (apply Quiet.upd; first | exact h | assumption | (intro) | apply ite_quiet | apply pair_quiet | apply rollRecord_quiet)

theorem payUnlinked_kept {a0 s : State} (h : Kept a0 s) (e : Nat) (key : Nat) : Kept a0 (State.payUnlinked s e key) :=
  h.quiet (payUnlinked_quiet (Quiet.refl _) ..)

theorem genesis_quiet {a0 s : State} (h : Quiet a0 s) (r : Reading) (key : Nat) : Quiet a0 (State.genesis s r key) := by
  unfold State.genesis
  with_reducible repeat' first
    | exact h | assumption | (intro) | apply ite_quiet | apply pair_quiet | apply setMerge_quiet | apply journal_quiet

theorem genesis_kept {a0 s : State} (h : Kept a0 s) (r : Reading) (key : Nat) : Kept a0 (State.genesis s r key) :=
  h.quiet (genesis_quiet (Quiet.refl _) ..)

theorem takeoverRecord_quiet {a0 s : State} (h : Quiet a0 s) (t : Takeover) (r : Reading) (key : Nat) : Quiet a0 (State.takeoverRecord s t r key) := by
  unfold State.takeoverRecord
  with_reducible repeat' first
    | exact h | assumption | (intro) | apply ite_quiet | apply ite_quiet_fst | apply pair_quiet | apply ev_quiet
    | apply setMerge_quiet | apply journal_quiet | apply foldl_quiet | apply foldl_quiet_fst | apply foldl_quiet_snd | split
    | dsimp only
    | (apply Quiet.upd; first | exact h | assumption | (intro) | apply ite_quiet | apply ite_quiet_fst | apply pair_quiet | apply ev_quiet)

theorem takeoverRecord_kept {a0 s : State} (h : Kept a0 s) (t : Takeover) (r : Reading) (key : Nat) : Kept a0 (State.takeoverRecord s t r key) :=
  h.quiet (takeoverRecord_quiet (Quiet.refl _) ..)

theorem intervalRecord_quiet {a0 s : State} (h : Quiet a0 s) (hd : ChainHead) (r : Reading) (session : Nat) (key : Nat) : Quiet a0 (State.intervalRecord s hd r session key) := by
  unfold State.intervalRecord
  with_reducible repeat' first
    | exact h | assumption | (intro) | apply ite_quiet | apply pair_quiet | apply wr_quiet | apply ev_quiet
    | apply setMerge_quiet | apply journal_quiet | split | dsimp only
    | (apply Quiet.upd; first | exact h | assumption | (intro) | apply ite_quiet | apply pair_quiet | apply wr_quiet | apply ev_quiet | apply setMerge_quiet)

theorem intervalRecord_kept {a0 s : State} (h : Kept a0 s) (hd : ChainHead) (r : Reading) (session : Nat) (key : Nat) : Kept a0 (State.intervalRecord s hd r session key) :=
  h.quiet (intervalRecord_quiet (Quiet.refl _) ..)

theorem buildInterval_quiet {a0 s : State} (h : Quiet a0 s) (r : Reading) (session : Nat) (key : Nat) : Quiet a0 (State.buildInterval s r session key) := by
  unfold State.buildInterval
  with_reducible repeat' first
    | exact h | assumption | (intro) | apply ite_quiet | apply pair_quiet | apply wr_quiet | apply ev_quiet
    | apply setMerge_quiet | apply payUnlinked_quiet | apply genesis_quiet | apply takeoverRecord_quiet
    | apply intervalRecord_quiet | split | dsimp only

theorem buildInterval_kept {a0 s : State} (h : Kept a0 s) (r : Reading) (session : Nat) (key : Nat) : Kept a0 (State.buildInterval s r session key) :=
  h.quiet (buildInterval_quiet (Quiet.refl _) ..)

theorem sessionRecord_quiet {a0 s : State} (h : Quiet a0 s) (r : Reading) (o : OpenSess) (reason : Nat) (taken : Option TakenSess) (gap : Bool) (key : Nat) : Quiet a0 (State.sessionRecord s r o reason taken gap key) := by
  unfold State.sessionRecord
  with_reducible repeat' first
    | exact h | assumption | (intro) | apply ite_quiet | apply pair_quiet | apply journal_quiet | apply payUnlinked_quiet
    | split | dsimp only
    | (apply Quiet.upd; first | exact h | assumption | (intro) | apply ite_quiet | apply pair_quiet | apply journal_quiet)

theorem sessionRecord_kept {a0 s : State} (h : Kept a0 s) (r : Reading) (o : OpenSess) (reason : Nat) (taken : Option TakenSess) (gap : Bool) (key : Nat) : Kept a0 (State.sessionRecord s r o reason taken gap key) :=
  h.quiet (sessionRecord_quiet (Quiet.refl _) ..)

theorem announce_quiet {a0 s : State} (h : Quiet a0 s) (p : PendKey) (key : Nat) : Quiet a0 (State.announce s p key) := by
  unfold State.announce
  with_reducible repeat' first
    | exact h | assumption | (intro) | apply ite_quiet | apply ite_quiet_fst | apply pair_quiet | apply rollRecord_quiet
    | apply payUnlinked_quiet | apply foldl_quiet | apply foldl_quiet_fst | apply foldl_quiet_snd | split | dsimp only
    | (apply Quiet.upd; first | exact h | assumption | (intro) | apply ite_quiet | apply ite_quiet_fst | apply pair_quiet | apply rollRecord_quiet)

theorem announce_kept {a0 s : State} (h : Kept a0 s) (p : PendKey) (key : Nat) : Kept a0 (State.announce s p key) :=
  h.quiet (announce_quiet (Quiet.refl _) ..)

theorem rollDone_quiet {a0 s : State} (h : Quiet a0 s) : Quiet a0 (State.rollDone s) := by
  unfold State.rollDone
  with_reducible repeat' first
    | exact h | assumption | (intro) | apply ite_quiet | apply pair_quiet | apply done_quiet | split | dsimp only
    | (apply Quiet.upd; exact h)

theorem rollDone_kept {a0 s : State} (h : Kept a0 s) : Kept a0 (State.rollDone s) :=
  h.quiet (rollDone_quiet (Quiet.refl _) ..)

theorem rollEnd_quiet {a0 s : State} (h : Quiet a0 s) (p : PendKey) (cut : Option RollCut) : Quiet a0 (State.rollEnd s p cut) := by
  unfold State.rollEnd
  with_reducible repeat' first
    | exact h | assumption | (intro) | apply ite_quiet | apply pair_quiet | apply ev_quiet | apply setKvt_quiet
    | apply flipKey_quiet | apply cutOff_quiet | apply rollDone_quiet | split

theorem rollEnd_kept {a0 s : State} (h : Kept a0 s) (p : PendKey) (cut : Option RollCut) : Kept a0 (State.rollEnd s p cut) :=
  h.quiet (rollEnd_quiet (Quiet.refl _) ..)

theorem rollOn_quiet {a0 s : State} (h : Quiet a0 s) (cut : Option RollCut) : Quiet a0 (State.rollOn s cut) := by
  unfold State.rollOn
  with_reducible repeat' first
    | exact h | assumption | (intro) | apply ite_quiet | apply pair_quiet | apply announce_quiet | apply rollEnd_quiet
    | split

theorem rollOn_kept {a0 s : State} (h : Kept a0 s) (cut : Option RollCut) : Kept a0 (State.rollOn s cut) :=
  h.quiet (rollOn_quiet (Quiet.refl _) ..)

theorem buildNext_quiet {a0 s : State} (h : Quiet a0 s) (key : Nat) : Quiet a0 (State.buildNext s key) := by
  unfold State.buildNext
  with_reducible repeat' first
    | exact h | assumption | (intro) | apply ite_quiet | apply pair_quiet | apply showJrnl_quiet | apply buildInterval_quiet
    | apply sessionRecord_quiet | split | dsimp only | (apply Quiet.upd; exact h)

theorem buildNext_kept {a0 s : State} (h : Kept a0 s) (key : Nat) : Kept a0 (State.buildNext s key) :=
  h.quiet (buildNext_quiet (Quiet.refl _) ..)

theorem buildRecord_quiet {a0 s : State} (h : Quiet a0 s) : Quiet a0 (State.buildRecord s) := by
  unfold State.buildRecord
  with_reducible repeat' first
    | exact h | assumption | (intro) | apply ite_quiet | apply pair_quiet | apply rollOn_quiet | apply buildNext_quiet
    | split

theorem buildRecord_kept {a0 s : State} (h : Kept a0 s) : Kept a0 (State.buildRecord s) :=
  h.quiet (buildRecord_quiet (Quiet.refl _) ..)

theorem buildCut_quiet {a0 s : State} (h : Quiet a0 s) (c : BuildCut) : Quiet a0 (State.buildCut s c) := by
  unfold State.buildCut
  with_reducible repeat' first
    | exact h | assumption | (intro) | apply ite_quiet | apply pair_quiet | apply setHead_quiet | apply journal_quiet
    | apply cutOff_quiet | apply buildRecord_quiet | split | dsimp only | (apply Quiet.upd; exact h)

theorem buildCut_kept {a0 s : State} (h : Kept a0 s) (c : BuildCut) : Kept a0 (State.buildCut s c) :=
  h.quiet (buildCut_quiet (Quiet.refl _) ..)

theorem openSession_quiet {a0 s : State} (h : Quiet a0 s) (p : Nat) (id : Nat) (evcc : List Nat) (contract : List Nat) : Quiet a0 (State.openSession s p id evcc contract) := by
  unfold State.openSession
  with_reducible repeat' first
    | exact h | assumption | (intro) | apply ite_quiet | apply pair_quiet | apply sessionReading_quiet
    | exact sessionReading_quiet_eq (by assumption) (by assumption) | split | dsimp only
    | (apply Quiet.upd; first | exact h | assumption | (intro) | apply ite_quiet | apply pair_quiet | apply sessionReading_quiet | exact sessionReading_quiet_eq (by assumption) (by assumption))

theorem openSession_kept {a0 s : State} (h : Kept a0 s) (p : Nat) (id : Nat) (evcc : List Nat) (contract : List Nat) : Kept a0 (State.openSession s p id evcc contract) :=
  h.quiet (openSession_quiet (Quiet.refl _) ..)

theorem closeSession_quiet {a0 s : State} (h : Quiet a0 s) (p : Nat) (reason : Nat) : Quiet a0 (State.closeSession s p reason) := by
  unfold State.closeSession
  with_reducible repeat' first
    | exact h | assumption | (intro) | apply ite_quiet | apply pair_quiet | apply sessionReading_quiet
    | exact sessionReading_quiet_eq (by assumption) (by assumption) | split | dsimp only
    | (apply Quiet.upd; first | exact h | assumption | (intro) | apply ite_quiet | apply pair_quiet | apply sessionReading_quiet | exact sessionReading_quiet_eq (by assumption) (by assumption))

theorem closeSession_kept {a0 s : State} (h : Kept a0 s) (p : Nat) (reason : Nat) : Kept a0 (State.closeSession s p reason) :=
  h.quiet (closeSession_quiet (Quiet.refl _) ..)

theorem adoptTail_quiet {a0 s : State} (h : Quiet a0 s) (r : Rec) : Quiet a0 (State.adoptTail s r) := by
  unfold State.adoptTail
  with_reducible repeat' first
    | exact h | assumption | (intro) | apply ite_quiet | apply pair_quiet | apply ev_quiet | apply setHead_quiet
    | apply journal_quiet | split | dsimp only
    | (apply Quiet.upd; first | exact h | assumption | (intro) | apply ite_quiet | apply pair_quiet | apply ev_quiet | apply setHead_quiet)

theorem adoptTail_kept {a0 s : State} (h : Kept a0 s) (r : Rec) : Kept a0 (State.adoptTail s r) :=
  h.quiet (adoptTail_quiet (Quiet.refl _) ..)

theorem recoverSlot_quiet {a0 s : State} (h : Quiet a0 s) : Quiet a0 (State.recoverSlot s) := by
  unfold State.recoverSlot
  with_reducible repeat' first
    | exact h | assumption | (intro) | apply ite_quiet | apply pair_quiet | apply ev_quiet | apply adoptTail_quiet | split
    | dsimp only | (apply Quiet.upd; exact h)

theorem recoverSlot_kept {a0 s : State} (h : Kept a0 s) : Kept a0 (State.recoverSlot s) :=
  h.quiet (recoverSlot_quiet (Quiet.refl _) ..)

theorem rslRecover_quiet {a0 s : State} (h : Quiet a0 s) : Quiet a0 (State.rslRecover s) := by
  unfold State.rslRecover
  with_reducible repeat' first
    | exact h | assumption | (intro) | apply ite_quiet | apply pair_quiet | apply showJrnl_quiet | apply recoverSlot_quiet
    | split | dsimp only
    | (apply Quiet.upd; first | exact h | assumption | (intro) | apply ite_quiet | apply pair_quiet | apply showJrnl_quiet | apply recoverSlot_quiet)

theorem rslRecover_kept {a0 s : State} (h : Kept a0 s) : Kept a0 (State.rslRecover s) :=
  h.quiet (rslRecover_quiet (Quiet.refl _) ..)

theorem rebuildHead_quiet {a0 s : State} (h : Quiet a0 s) (e : Nat) : Quiet a0 (State.rebuildHead s e) := by
  unfold State.rebuildHead
  with_reducible repeat' first
    | exact h | assumption | (intro) | apply ite_quiet | apply pair_quiet | apply ev_quiet | apply setHead_quiet
    | apply journal_quiet | split | dsimp only | (apply Quiet.upd; exact h)

theorem rebuildHead_kept {a0 s : State} (h : Kept a0 s) (e : Nat) : Kept a0 (State.rebuildHead s e) :=
  h.quiet (rebuildHead_quiet (Quiet.refl _) ..)

theorem startTakeover_quiet {a0 s : State} (h : Quiet a0 s) (claim : Nat) (serial : Nat) (gen : Nat) : Quiet a0 (State.startTakeover s claim serial gen) := by
  unfold State.startTakeover
  with_reducible repeat' first
    | exact h | assumption | (intro) | apply ite_quiet | apply ite_quiet_fst | apply pair_quiet | apply foldl_quiet
    | apply foldl_quiet_fst | apply foldl_quiet_snd | split | dsimp only | (apply Quiet.upd; first | exact h | assumption)

theorem startTakeover_kept {a0 s : State} (h : Kept a0 s) (claim : Nat) (serial : Nat) (gen : Nat) : Kept a0 (State.startTakeover s claim serial gen) :=
  h.quiet (startTakeover_quiet (Quiet.refl _) ..)

theorem loadSlot_quiet {a0 s : State} (h : Quiet a0 s) : Quiet a0 (State.loadSlot s) := by
  unfold State.loadSlot
  with_reducible repeat' first
    | exact h | assumption | (intro) | apply ite_quiet | apply pair_quiet | apply ev_quiet | apply setKvt_quiet | split

theorem loadSlot_kept {a0 s : State} (h : Kept a0 s) : Kept a0 (State.loadSlot s) :=
  h.quiet (loadSlot_quiet (Quiet.refl _) ..)

theorem flipAtBoot_quiet {a0 s : State} (h : Quiet a0 s) (p : PendKey) : Quiet a0 (State.flipAtBoot s p) := by
  unfold State.flipAtBoot
  with_reducible repeat' first
    | exact h | assumption | (intro) | apply ite_quiet | apply ite_quiet_fst | apply pair_quiet | apply ev_quiet
    | apply done_quiet | apply setKvt_quiet | apply flipKey_quiet | apply loadSlot_quiet | apply foldl_quiet
    | apply foldl_quiet_fst | apply foldl_quiet_snd | split | dsimp only | (apply Quiet.upd; exact h)

theorem flipAtBoot_kept {a0 s : State} (h : Kept a0 s) (p : PendKey) : Kept a0 (State.flipAtBoot s p) :=
  h.quiet (flipAtBoot_quiet (Quiet.refl _) ..)

theorem loadPointer_quiet {a0 s : State} (h : Quiet a0 s) : Quiet a0 (State.loadPointer s) := by
  unfold State.loadPointer
  with_reducible repeat' first
    | exact h | assumption | (intro) | apply ite_quiet | apply pair_quiet | apply loadSlot_quiet | apply flipAtBoot_quiet
    | split

theorem loadPointer_kept {a0 s : State} (h : Kept a0 s) : Kept a0 (State.loadPointer s) :=
  h.quiet (loadPointer_quiet (Quiet.refl _) ..)

theorem bootRoot_quiet {a0 s : State} (h : Quiet a0 s) (tries : Nat) (bits : Nat) (meas : List Nat) : Quiet a0 (State.bootRoot s tries bits meas) := by
  unfold State.bootRoot
  with_reducible repeat' first
    | exact h | assumption | (intro) | apply ite_quiet | apply pair_quiet | apply ev_quiet | apply showKvt_quiet
    | apply setKvt_quiet | apply loadPointer_quiet | split | dsimp only | (apply Quiet.upd; exact h)

theorem bootRoot_kept {a0 s : State} (h : Kept a0 s) (tries : Nat) (bits : Nat) (meas : List Nat) : Kept a0 (State.bootRoot s tries bits meas) :=
  h.quiet (bootRoot_quiet (Quiet.refl _) ..)

theorem spoil_kept {a0 s : State} (h : Kept a0 s) (p : MramPart) : Kept a0 (State.spoil s p) := by
  unfold State.spoil
  with_reducible repeat' first
    | exact h | assumption | contradiction | (intro) | apply ite_kept | apply pair_kept | apply rebuildHead_kept | split
    | dsimp only | (refine Kept.upd ?_ rfl; exact h)

theorem loadMram_kept {a0 s : State} (h : Kept a0 s) (bad : List MramPart) : Kept a0 (State.loadMram s bad) := by
  unfold State.loadMram
  with_reducible repeat' first
    | exact h | assumption | contradiction | (intro) | apply ite_kept | apply ite_kept_fst | apply pair_kept
    | apply spoil_kept | apply foldl_kept | split | dsimp only
    | (refine Kept.upd ?_ rfl; first | exact h | assumption | contradiction | (intro) | apply ite_kept | apply ite_kept_fst | apply pair_kept | apply spoil_kept | apply foldl_kept)

theorem mramDone_kept {a0 s : State} (h : Kept a0 s) (bad : List MramPart) : Kept a0 (State.mramDone s bad) := by
  unfold State.mramDone
  with_reducible repeat' first
    | exact h | assumption | contradiction | (intro) | apply ite_kept | apply ite_kept_fst | apply pair_kept
    | apply spoil_kept | apply ev_kept | apply foldl_kept | split | dsimp only
    | (refine Kept.upd ?_ rfl; first | exact h | assumption | contradiction | (intro) | apply ite_kept | apply ite_kept_fst | apply pair_kept | apply spoil_kept | apply ev_kept | apply foldl_kept)

theorem waitCalendar_quiet {a0 s : State} (h : Quiet a0 s) (t : Nat) : Quiet a0 (State.waitCalendar s t) := by
  unfold State.waitCalendar
  with_reducible repeat' first
    | exact h | assumption | (intro) | apply ite_quiet | apply pair_quiet | apply waitTill_quiet | apply waitSite_quiet

theorem waitCalendar_kept {a0 s : State} (h : Kept a0 s) (t : Nat) : Kept a0 (State.waitCalendar s t) :=
  h.quiet (waitCalendar_quiet (Quiet.refl _) ..)

theorem runWrite_quiet {a0 s : State} (h : Quiet a0 s) (d : DescRef) (op : Nat) (k : State → State) (hk : ∀ u, Quiet a0 u → Quiet a0 (k u)) : Quiet a0 (State.runWrite s d op k) := by
  unfold State.runWrite
  with_reducible repeat' first | exact h | assumption | (intro) | apply ite_quiet | apply pair_quiet | apply run_quiet

theorem runWrite_kept {a0 s : State} (h : Kept a0 s) (d : DescRef) (op : Nat) (k : State → State) (hk : ∀ u, Kept a0 u → Kept a0 (k u)) : Kept a0 (State.runWrite s d op k) := by
  unfold State.runWrite
  with_reducible repeat' first
    | exact h | assumption | contradiction | (intro) | apply ite_kept | apply pair_kept | apply run_kept

theorem recArg_quiet {a0 s : State} (h : Quiet a0 s) (d : DescRef) (ok : Bool) (k : State → State) (hk : ∀ u, Quiet a0 u → Quiet a0 (k u)) : Quiet a0 (State.recArg s d ok k) := by
  unfold State.recArg
  with_reducible repeat' first
    | exact h | assumption | (intro) | apply ite_quiet | apply pair_quiet | apply fail_quiet | apply hk

theorem recArg_kept {a0 s : State} (h : Kept a0 s) (d : DescRef) (ok : Bool) (k : State → State) (hk : ∀ u, Kept a0 u → Kept a0 (k u)) : Kept a0 (State.recArg s d ok k) := by
  unfold State.recArg
  with_reducible repeat' first
    | exact h | assumption | contradiction | (intro) | apply ite_kept | apply pair_kept | apply fail_kept | apply hk

theorem recExport_quiet {a0 s : State} (h : Quiet a0 s) (d : DescRef) (addr : Nat) (len : Nat) : Quiet a0 (State.recExport s d addr len) := by
  unfold State.recExport
  with_reducible repeat' first
    | exact h | assumption | (intro) | apply ite_quiet | apply pair_quiet | apply emit_quiet | apply done_quiet
    | apply fail_quiet | apply showJrnl_quiet | split | dsimp only
    | (apply Quiet.upd; first | exact h | assumption | (intro) | apply ite_quiet | apply pair_quiet | apply emit_quiet)

theorem recExport_kept {a0 s : State} (h : Kept a0 s) (d : DescRef) (addr : Nat) (len : Nat) : Kept a0 (State.recExport s d addr len) :=
  h.quiet (recExport_quiet (Quiet.refl _) ..)

theorem recAck_quiet {a0 s : State} (h : Quiet a0 s) (d : DescRef) (pos : Nat) : Quiet a0 (State.recAck s d pos) := by
  unfold State.recAck
  with_reducible repeat' first
    | exact h | assumption | (intro) | apply ite_quiet | apply pair_quiet | apply done_quiet | apply fail_quiet
    | apply showJrnl_quiet | apply buildRecord_quiet | split | dsimp only | (apply Quiet.upd; exact h)

theorem recAck_kept {a0 s : State} (h : Kept a0 s) (d : DescRef) (pos : Nat) : Kept a0 (State.recAck s d pos) :=
  h.quiet (recAck_quiet (Quiet.refl _) ..)

theorem recRead_quiet {a0 s : State} (h : Quiet a0 s) (d : DescRef) (addr : Nat) (len : Nat) (first : Nat) (count : Nat) : Quiet a0 (State.recRead s d addr len first count) := by
  unfold State.recRead
  with_reducible repeat' first
    | exact h | assumption | (intro) | apply ite_quiet | apply pair_quiet | apply emit_quiet | apply done_quiet
    | apply fail_quiet

theorem recRead_kept {a0 s : State} (h : Kept a0 s) (d : DescRef) (addr : Nat) (len : Nat) (first : Nat) (count : Nat) : Kept a0 (State.recRead s d addr len first count) :=
  h.quiet (recRead_quiet (Quiet.refl _) ..)

theorem recHeads_quiet {a0 s : State} (h : Quiet a0 s) (d : DescRef) (addr : Nat) (len : Nat) : Quiet a0 (State.recHeads s d addr len) := by
  unfold State.recHeads
  with_reducible repeat' first
    | exact h | assumption | (intro) | apply ite_quiet | apply pair_quiet | apply emit_quiet | apply done_quiet
    | apply fail_quiet

theorem recHeads_kept {a0 s : State} (h : Kept a0 s) (d : DescRef) (addr : Nat) (len : Nat) : Kept a0 (State.recHeads s d addr len) :=
  h.quiet (recHeads_quiet (Quiet.refl _) ..)

theorem recAttest_quiet {a0 s : State} (h : Quiet a0 s) (d : DescRef) (addr : Nat) (len : Nat) (nonce : List Nat) : Quiet a0 (State.recAttest s d addr len nonce) := by
  unfold State.recAttest
  with_reducible repeat' first
    | exact h | assumption | (intro) | apply ite_quiet | apply pair_quiet | apply emit_quiet | apply done_quiet
    | apply fail_quiet | split | dsimp only | (apply Quiet.upd; exact h)

theorem recAttest_kept {a0 s : State} (h : Kept a0 s) (d : DescRef) (addr : Nat) (len : Nat) (nonce : List Nat) : Kept a0 (State.recAttest s d addr len nonce) :=
  h.quiet (recAttest_quiet (Quiet.refl _) ..)

theorem rollTo_quiet {a0 s : State} (h : Quiet a0 s) (d : DescRef) (new : Nat) (gen : Nat) (tgt : List Nat) (cut : Option RollCut) : Quiet a0 (State.rollTo s d new gen tgt cut) := by
  unfold State.rollTo
  with_reducible repeat' first
    | exact h | assumption | (intro) | apply ite_quiet | apply pair_quiet | apply ev_quiet | apply setKvt_quiet
    | apply cutOff_quiet | apply announce_quiet | apply rollOn_quiet | split | dsimp only
    | (apply Quiet.upd; first | exact h | assumption | (intro) | apply ite_quiet | apply pair_quiet | apply ev_quiet)

theorem rollTo_kept {a0 s : State} (h : Kept a0 s) (d : DescRef) (new : Nat) (gen : Nat) (tgt : List Nat) (cut : Option RollCut) : Kept a0 (State.rollTo s d new gen tgt cut) :=
  h.quiet (rollTo_quiet (Quiet.refl _) ..)

theorem keyRoll_quiet {a0 s : State} (h : Quiet a0 s) (d : DescRef) (len : Nat) (target : List Nat) (cut : Option RollCut) : Quiet a0 (State.keyRoll s d len target cut) := by
  unfold State.keyRoll
  with_reducible repeat' first
    | exact h | assumption | (intro) | apply ite_quiet | apply pair_quiet | apply ev_quiet | apply fail_quiet
    | apply rollTo_quiet | split | dsimp only | (apply Quiet.upd; exact h)

theorem keyRoll_kept {a0 s : State} (h : Kept a0 s) (d : DescRef) (len : Nat) (target : List Nat) (cut : Option RollCut) : Kept a0 (State.keyRoll s d len target cut) :=
  h.quiet (keyRoll_quiet (Quiet.refl _) ..)

theorem enrol_quiet {a0 s : State} (h : Quiet a0 s) (d : DescRef) (force : Bool) : Quiet a0 (State.enrol s d force) := by
  unfold State.enrol
  with_reducible repeat' first
    | exact h | assumption | (intro) | apply ite_quiet | apply pair_quiet | apply ev_quiet | apply done_quiet
    | apply fail_quiet | apply checkMode_quiet | apply setKvt_quiet | apply rollDone_quiet | apply loadPointer_quiet | split
    | dsimp only
    | (apply Quiet.upd; first | exact h | assumption | (intro) | apply ite_quiet | apply pair_quiet | apply ev_quiet)

theorem enrol_kept {a0 s : State} (h : Kept a0 s) (d : DescRef) (force : Bool) : Kept a0 (State.enrol s d force) :=
  h.quiet (enrol_quiet (Quiet.refl _) ..)

theorem payAll_quiet {a0 s : State} (h : Quiet a0 s) (key : Nat) : Quiet a0 (State.payAll s key) := by
  unfold State.payAll
  with_reducible repeat' first
    | exact h | assumption | (intro) | apply ite_quiet | apply ite_quiet_fst | apply pair_quiet | apply payUnlinked_quiet
    | apply foldl_quiet

theorem payAll_kept {a0 s : State} (h : Kept a0 s) (key : Nat) : Kept a0 (State.payAll s key) :=
  h.quiet (payAll_quiet (Quiet.refl _) ..)

theorem rebind_quiet {a0 s : State} (h : Quiet a0 s) (d : DescRef) : Quiet a0 (State.rebind s d) := by
  unfold State.rebind
  with_reducible repeat' first
    | exact h | assumption | (intro) | apply ite_quiet | apply pair_quiet | apply done_quiet | apply checkMode_quiet
    | apply flipKey_quiet | apply payAll_quiet | split | dsimp only
    | (apply Quiet.upd; first | exact h | assumption | (intro) | apply ite_quiet | apply pair_quiet | apply done_quiet | apply checkMode_quiet | apply flipKey_quiet)

theorem rebind_kept {a0 s : State} (h : Kept a0 s) (d : DescRef) : Kept a0 (State.rebind s d) :=
  h.quiet (rebind_quiet (Quiet.refl _) ..)

theorem recPubkey_quiet {a0 s : State} (h : Quiet a0 s) (d : DescRef) (addr : Nat) (len : Nat) : Quiet a0 (State.recPubkey s d addr len) := by
  unfold State.recPubkey
  with_reducible repeat' first
    | exact h | assumption | (intro) | apply ite_quiet | apply pair_quiet | apply emit_quiet | apply done_quiet
    | apply fail_quiet

theorem recPubkey_kept {a0 s : State} (h : Kept a0 s) (d : DescRef) (addr : Nat) (len : Nat) : Kept a0 (State.recPubkey s d addr len) :=
  h.quiet (recPubkey_quiet (Quiet.refl _) ..)

end Sys2Proof.Laws
end

