-- ==== Sys2Proof/Laws/QStorage.lean ====
section
/-!
SUPPORT. Machine/Storage.lean leaves grade, queue and mode alone and keeps register file and event log sound.
-/
namespace Sys2Proof.Laws

open Sys2Proof.Machine

variable {a0 : State}

theorem seeShow_quiet {a0 s : State} (h : Quiet a0 s) (i : Nat) : Quiet a0 (State.seeShow s i) := by
  unfold State.seeShow
  with_reducible repeat' first | exact h | assumption | (intro) | apply ite_quiet | apply pair_quiet | apply wr_quiet

theorem seeShow_kept {a0 s : State} (h : Kept a0 s) (i : Nat) : Kept a0 (State.seeShow s i) :=
  h.quiet (seeShow_quiet (Quiet.refl _) ..)

theorem setStr_quiet {a0 s : State} (h : Quiet a0 s) (i : Nat) (f : Str → Str) : Quiet a0 (State.setStr s i f) := by
  unfold State.setStr
  with_reducible repeat' first
    | exact h | assumption | (intro) | apply ite_quiet | apply pair_quiet | apply modStr_quiet | apply seeShow_quiet

theorem setStr_kept {a0 s : State} (h : Kept a0 s) (i : Nat) (f : Str → Str) : Kept a0 (State.setStr s i f) :=
  h.quiet (setStr_quiet (Quiet.refl _) ..)

theorem uncertain_quiet {a0 s : State} (h : Quiet a0 s) (i : Nat) : Quiet a0 (State.uncertain s i) := by
  unfold State.uncertain
  with_reducible repeat' first
    | exact h | assumption | (intro) | apply ite_quiet | apply pair_quiet | apply ev_quiet | apply modStr_quiet

theorem uncertain_kept {a0 s : State} (h : Kept a0 s) (i : Nat) : Kept a0 (State.uncertain s i) :=
  h.quiet (uncertain_quiet (Quiet.refl _) ..)

theorem distrust_quiet {a0 s : State} (h : Quiet a0 s) (i : Nat) : Quiet a0 (State.distrust s i) := by
  unfold State.distrust
  with_reducible repeat' first
    | exact h | assumption | (intro) | apply ite_quiet | apply pair_quiet | apply modStr_quiet | apply seeShow_quiet
    | apply uncertain_quiet

theorem distrust_kept {a0 s : State} (h : Kept a0 s) (i : Nat) : Kept a0 (State.distrust s i) :=
  h.quiet (distrust_quiet (Quiet.refl _) ..)

theorem coldTake_quiet {a0 s : State} (h : Quiet a0 s) (i : Nat) (f : BmuFrame) : Quiet a0 (State.coldTake s i f) := by
  unfold State.coldTake
  with_reducible repeat' first
    | exact h | assumption | (intro) | apply ite_quiet | apply pair_quiet | apply modStr_quiet | apply distrust_quiet

theorem coldTake_kept {a0 s : State} (h : Kept a0 s) (i : Nat) (f : BmuFrame) : Kept a0 (State.coldTake s i f) :=
  h.quiet (coldTake_quiet (Quiet.refl _) ..)

theorem coldFrom_quiet {a0 s : State} (h : Quiet a0 s) (i : Nat) : Quiet a0 (State.coldFrom s i) := by
  unfold State.coldFrom
  with_reducible repeat' first
    | exact h | assumption | (intro) | apply ite_quiet | apply pair_quiet | apply seeShow_quiet | apply coldTake_quiet
    | split

theorem coldFrom_kept {a0 s : State} (h : Kept a0 s) (i : Nat) : Kept a0 (State.coldFrom s i) :=
  h.quiet (coldFrom_quiet (Quiet.refl _) ..)

theorem startCold_quiet {a0 s : State} (h : Quiet a0 s) (i : Nat) : Quiet a0 (State.startCold s i) := by
  unfold State.startCold
  with_reducible repeat' first
    | exact h | assumption | (intro) | apply ite_quiet | apply pair_quiet | apply modStr_quiet | apply distrust_quiet
    | apply coldFrom_quiet

theorem startCold_kept {a0 s : State} (h : Kept a0 s) (i : Nat) : Kept a0 (State.startCold s i) :=
  h.quiet (startCold_quiet (Quiet.refl _) ..)

theorem coldAll_quiet {a0 s : State} (h : Quiet a0 s) : Quiet a0 (State.coldAll s) := by
  unfold State.coldAll
  with_reducible repeat' first
    | exact h | assumption | (intro) | apply ite_quiet | apply ite_quiet_fst | apply pair_quiet | apply startCold_quiet
    | apply foldl_quiet | apply foldl_quiet_fst | apply foldl_quiet_snd | split | dsimp only
    | (apply Quiet.upd; first | exact h | assumption | (intro) | apply ite_quiet | apply ite_quiet_fst | apply pair_quiet | apply startCold_quiet | apply foldl_quiet)

theorem coldAll_kept {a0 s : State} (h : Kept a0 s) : Kept a0 (State.coldAll s) :=
  h.quiet (coldAll_quiet (Quiet.refl _) ..)

theorem eodCheck_quiet {a0 s : State} (h : Quiet a0 s) (i : Nat) : Quiet a0 (State.eodCheck s i) := by
  unfold State.eodCheck
  with_reducible repeat' first
    | exact h | assumption | (intro) | apply ite_quiet | apply pair_quiet | apply ev_quiet | apply modStr_quiet | split

theorem eodCheck_kept {a0 s : State} (h : Kept a0 s) (i : Nat) : Kept a0 (State.eodCheck s i) :=
  h.quiet (eodCheck_quiet (Quiet.refl _) ..)

theorem integrate_quiet {a0 s : State} (h : Quiet a0 s) (i : Nat) (c : Int) : Quiet a0 (State.integrate s i c) := by
  unfold State.integrate
  with_reducible repeat' first | exact h | assumption | (intro) | apply ite_quiet | apply pair_quiet | apply modStr_quiet

theorem integrate_kept {a0 s : State} (h : Kept a0 s) (i : Nat) (c : Int) : Kept a0 (State.integrate s i c) :=
  h.quiet (integrate_quiet (Quiet.refl _) ..)

theorem clipQ_quiet {a0 s : State} (h : Quiet a0 s) (i : Nat) : Quiet a0 (State.clipQ s i) := by
  unfold State.clipQ
  with_reducible repeat' first
    | exact h | assumption | (intro) | apply ite_quiet | apply pair_quiet | apply ev_quiet | apply modStr_quiet

theorem clipQ_kept {a0 s : State} (h : Kept a0 s) (i : Nat) : Kept a0 (State.clipQ s i) :=
  h.quiet (clipQ_quiet (Quiet.refl _) ..)

theorem refTimers_quiet {a0 s : State} (h : Quiet a0 s) (i : Nat) (now : Nat) (c : Int) : Quiet a0 (State.refTimers s i now c) := by
  unfold State.refTimers
  with_reducible repeat' first
    | exact h | assumption | (intro) | apply ite_quiet | apply pair_quiet | apply run_quiet | apply modStr_quiet

theorem refTimers_kept {a0 s : State} (h : Kept a0 s) (i : Nat) (now : Nat) (c : Int) : Kept a0 (State.refTimers s i now c) :=
  h.quiet (refTimers_quiet (Quiet.refl _) ..)

theorem enterOutput_quiet {a0 s : State} (h : Quiet a0 s) (i : Nat) (now : Nat) (c : Int) : Quiet a0 (State.enterOutput s i now c) := by
  unfold State.enterOutput
  with_reducible repeat' first
    | exact h | assumption | (intro) | apply ite_quiet | apply pair_quiet | apply seeShow_quiet | apply uncertain_quiet
    | apply eodCheck_quiet | apply integrate_quiet | apply clipQ_quiet | apply refTimers_quiet

theorem enterOutput_kept {a0 s : State} (h : Kept a0 s) (i : Nat) (now : Nat) (c : Int) : Kept a0 (State.enterOutput s i now c) :=
  h.quiet (enterOutput_quiet (Quiet.refl _) ..)

theorem takeHeld_quiet {a0 s : State} (h : Quiet a0 s) : Quiet a0 (State.takeHeld s) := by
  unfold State.takeHeld
  refine Quiet.upd (foldl_quiet (fun u i hu => ite_quiet hu (ite_quiet (modStr_quiet hu ..) ?_)) h)
  exact foldl_quiet (fun v x hv => enterOutput_quiet hv ..) (modStr_quiet hu ..)

theorem takeHeld_kept {a0 s : State} (h : Kept a0 s) : Kept a0 (State.takeHeld s) :=
  h.quiet (takeHeld_quiet (Quiet.refl _) ..)

theorem coulomb_quiet {a0 s : State} (h : Quiet a0 s) (i : Nat) (r : Int) : Quiet a0 (State.coulomb s i r) := by
  unfold State.coulomb
  with_reducible repeat' first
    | exact h | assumption | (intro) | apply ite_quiet | apply pair_quiet | apply waitTill_quiet | apply shadow_quiet
    | apply modStr_quiet | apply enterOutput_quiet | split

theorem coulomb_kept {a0 s : State} (h : Kept a0 s) (i : Nat) (r : Int) : Kept a0 (State.coulomb s i r) :=
  h.quiet (coulomb_quiet (Quiet.refl _) ..)

theorem reference_quiet {a0 s : State} (h : Quiet a0 s) (i : Nat) (kind : Nat) (q : Nat) (uRef : Nat) : Quiet a0 (State.reference s i kind q uRef) := by
  unfold State.reference
  with_reducible repeat' first
    | exact h | assumption | (intro) | apply ite_quiet | apply pair_quiet | apply ev_quiet | apply modStr_quiet
    | apply seeShow_quiet

theorem reference_kept {a0 s : State} (h : Kept a0 s) (i : Nat) (kind : Nat) (q : Nat) (uRef : Nat) : Kept a0 (State.reference s i kind q uRef) :=
  h.quiet (reference_quiet (Quiet.refl _) ..)

theorem eocPoint_quiet {a0 s : State} (h : Quiet a0 s) (i : Nat) : Quiet a0 (State.eocPoint s i) := by
  unfold State.eocPoint
  with_reducible repeat' first | exact h | assumption | (intro) | apply ite_quiet | apply pair_quiet | apply reference_quiet

theorem eocPoint_kept {a0 s : State} (h : Kept a0 s) (i : Nat) : Kept a0 (State.eocPoint s i) :=
  h.quiet (eocPoint_quiet (Quiet.refl _) ..)

theorem restPoint_quiet {a0 s : State} (h : Quiet a0 s) (i : Nat) : Quiet a0 (State.restPoint s i) := by
  unfold State.restPoint
  with_reducible repeat' first
    | exact h | assumption | (intro) | apply ite_quiet | apply pair_quiet | apply modStr_quiet | apply reference_quiet
    | split

theorem restPoint_kept {a0 s : State} (h : Kept a0 s) (i : Nat) : Kept a0 (State.restPoint s i) :=
  h.quiet (restPoint_quiet (Quiet.refl _) ..)

theorem bmuSerial_quiet {a0 s : State} (h : Quiet a0 s) (i : Nat) (serial : Nat) (seen : Option Nat) : Quiet a0 (State.bmuSerial s i serial seen) := by
  unfold State.bmuSerial
  with_reducible repeat' first
    | exact h | assumption | (intro) | apply ite_quiet | apply pair_quiet | apply ev_quiet | apply modStr_quiet
    | apply wantAuth_quiet | apply startCold_quiet | split

theorem bmuSerial_kept {a0 s : State} (h : Kept a0 s) (i : Nat) (serial : Nat) (seen : Option Nat) : Kept a0 (State.bmuSerial s i serial seen) :=
  h.quiet (bmuSerial_quiet (Quiet.refl _) ..)

theorem bmuFrame_quiet {a0 s : State} (h : Quiet a0 s) (i : Nat) (b : List Nat) : Quiet a0 (State.bmuFrame s i b) := by
  unfold State.bmuFrame
  with_reducible repeat' first
    | exact h | assumption | (intro) | apply ite_quiet | apply pair_quiet | apply ev_quiet | apply modStr_quiet
    | apply seeShow_quiet | apply coldTake_quiet | apply eodCheck_quiet | apply bmuSerial_quiet

theorem bmuFrame_kept {a0 s : State} (h : Kept a0 s) (i : Nat) (b : List Nat) : Kept a0 (State.bmuFrame s i b) :=
  h.quiet (bmuFrame_quiet (Quiet.refl _) ..)

theorem freshBytes_quiet {a0 s : State} (h : Quiet a0 s) (k : Nat) : Quiet a0 (s.freshBytes k).1 := by
  induction k generalizing s with
  | zero => exact h
  | succ k ih => exact ih (fresh_quiet h)

theorem freshBytes_quiet_eq {a0 s s1 : State} {x} {k : Nat} (h : Quiet a0 s) (e : s.freshBytes k = (s1, x)) : Quiet a0 s1 := by
  have := freshBytes_quiet h k
  rw [e] at this
  exact this

theorem freshBytes_kept {a0 s : State} (h : Kept a0 s) (k : Nat) : Kept a0 (State.freshBytes s k).1 :=
  h.quiet (freshBytes_quiet (Quiet.refl _) ..)

theorem freshBytes_kept_eq {a0 s s1 : State} {b0} {k : Nat} (h : Kept a0 s) (hE : State.freshBytes s k = (s1, b0)) : Kept a0 s1 :=
  h.quiet (freshBytes_quiet_eq (Quiet.refl _) hE)

theorem challenge_quiet {a0 s : State} (h : Quiet a0 s) (i : Nat) (o : Nat) : Quiet a0 (State.challenge s i o) := by
  unfold State.challenge
  with_reducible repeat' first
    | exact h | assumption | (intro) | apply ite_quiet | apply pair_quiet | apply canRequest_quiet | apply modStr_quiet
    | apply freshBytes_quiet | exact freshBytes_quiet_eq (by assumption) (by assumption) | split | dsimp only
    | (apply Quiet.upd; first | exact h | assumption | (intro) | apply ite_quiet | apply pair_quiet | apply canRequest_quiet | apply modStr_quiet)

theorem challenge_kept {a0 s : State} (h : Kept a0 s) (i : Nat) (o : Nat) : Kept a0 (State.challenge s i o) :=
  h.quiet (challenge_quiet (Quiet.refl _) ..)

theorem authFail_quiet {a0 s : State} (h : Quiet a0 s) (i : Nat) (cause : Nat) : Quiet a0 (State.authFail s i cause) := by
  unfold State.authFail
  with_reducible repeat' first
    | exact h | assumption | (intro) | apply ite_quiet | apply pair_quiet | apply ev_quiet | apply modStr_quiet
    | apply seeShow_quiet | split | dsimp only
    | (apply Quiet.upd; first | exact h | assumption | (intro) | apply ite_quiet | apply pair_quiet | apply ev_quiet | apply modStr_quiet)

theorem authFail_kept {a0 s : State} (h : Kept a0 s) (i : Nat) (cause : Nat) : Kept a0 (State.authFail s i cause) :=
  h.quiet (authFail_quiet (Quiet.refl _) ..)

theorem authPass_quiet {a0 s : State} (h : Quiet a0 s) (i : Nat) (serial : Nat) (seq : Nat) : Quiet a0 (State.authPass s i serial seq) := by
  unfold State.authPass
  with_reducible repeat' first
    | exact h | assumption | (intro) | apply ite_quiet | apply pair_quiet | apply ev_quiet | apply modStr_quiet
    | apply seeShow_quiet | split | dsimp only
    | (apply Quiet.upd; first | exact h | assumption | (intro) | apply ite_quiet | apply pair_quiet | apply ev_quiet | apply modStr_quiet)

theorem authPass_kept {a0 s : State} (h : Kept a0 s) (i : Nat) (serial : Nat) (seq : Nat) : Kept a0 (State.authPass s i serial seq) :=
  h.quiet (authPass_quiet (Quiet.refl _) ..)

theorem authAnswer_quiet {a0 s : State} (h : Quiet a0 s) (e : Exchange) (f1 : List Nat) (f2 : List Nat) : Quiet a0 (State.authAnswer s e f1 f2) := by
  unfold State.authAnswer
  with_reducible repeat' first
    | exact h | assumption | (intro) | apply ite_quiet | apply pair_quiet | apply authFail_quiet | apply authPass_quiet

theorem authAnswer_kept {a0 s : State} (h : Kept a0 s) (e : Exchange) (f1 : List Nat) (f2 : List Nat) : Kept a0 (State.authAnswer s e f1 f2) :=
  h.quiet (authAnswer_quiet (Quiet.refl _) ..)

theorem authAll_quiet {a0 s : State} (h : Quiet a0 s) : Quiet a0 (State.authAll s) := by
  unfold State.authAll
  with_reducible repeat' first
    | exact h | assumption | (intro) | apply ite_quiet | apply ite_quiet_fst | apply pair_quiet | apply wantAuth_quiet
    | apply foldl_quiet

theorem authAll_kept {a0 s : State} (h : Kept a0 s) : Kept a0 (State.authAll s) :=
  h.quiet (authAll_quiet (Quiet.refl _) ..)

theorem adoptStr_quiet {a0 s : State} (h : Quiet a0 s) (b : List Nat) (how : Nat) (i : Nat) : Quiet a0 (State.adoptStr s b how i) := by
  unfold State.adoptStr
  with_reducible repeat' first
    | exact h | assumption | (intro) | apply ite_quiet | apply pair_quiet | apply modStr_quiet | apply seeShow_quiet
    | apply uncertain_quiet | apply distrust_quiet | apply startCold_quiet | apply clipQ_quiet

theorem adoptStr_kept {a0 s : State} (h : Kept a0 s) (b : List Nat) (how : Nat) (i : Nat) : Kept a0 (State.adoptStr s b how i) :=
  h.quiet (adoptStr_quiet (Quiet.refl _) ..)

theorem adopt_quiet {a0 s : State} (h : Quiet a0 s) (b : List Nat) (how : Nat) : Quiet a0 (State.adopt s b how) := by
  unfold State.adopt
  with_reducible repeat' first
    | exact h | assumption | (intro) | apply ite_quiet | apply ite_quiet_fst | apply pair_quiet | apply wr_quiet
    | apply ev_quiet | apply adoptStr_quiet | apply foldl_quiet | apply foldl_quiet_fst | apply foldl_quiet_snd | split
    | dsimp only
    | (apply Quiet.upd; first | exact h | assumption | (intro) | apply ite_quiet | apply ite_quiet_fst | apply pair_quiet | apply wr_quiet)

theorem adopt_kept {a0 s : State} (h : Kept a0 s) (b : List Nat) (how : Nat) : Kept a0 (State.adopt s b how) :=
  h.quiet (adopt_quiet (Quiet.refl _) ..)

theorem bufferRead_quiet {a0 s : State} (h : Quiet a0 s) (ok : Bool) (b : List Nat) : Quiet a0 (State.bufferRead s ok b) := by
  unfold State.bufferRead
  with_reducible repeat' first
    | exact h | assumption | (intro) | apply ite_quiet | apply pair_quiet | apply seeReadFail_quiet | apply adopt_quiet
    | split

theorem bufferRead_kept {a0 s : State} (h : Kept a0 s) (ok : Bool) (b : List Nat) : Kept a0 (State.bufferRead s ok b) :=
  h.quiet (bufferRead_quiet (Quiet.refl _) ..)

theorem seeCommit_quiet {a0 s : State} (h : Quiet a0 s) (v : Nat) : Quiet a0 (State.seeCommit s v) := by
  unfold State.seeCommit
  with_reducible repeat' first
    | exact h | assumption | (intro) | apply ite_quiet | apply pair_quiet | apply wr_quiet | apply ev_quiet | split
    | dsimp only | (apply Quiet.upd; exact h)

theorem seeCommit_kept {a0 s : State} (h : Kept a0 s) (v : Nat) : Kept a0 (State.seeCommit s v) :=
  h.quiet (seeCommit_quiet (Quiet.refl _) ..)

theorem seeArg_quiet {a0 s : State} (h : Quiet a0 s) (d : DescRef) (ok : Bool) (i : Nat) (k : State → State) (hk : ∀ u, Quiet a0 u → Quiet a0 (k u)) : Quiet a0 (State.seeArg s d ok i k) := by
  unfold State.seeArg
  with_reducible repeat' first
    | exact h | assumption | (intro) | apply ite_quiet | apply pair_quiet | apply fail_quiet | apply failAbsent_quiet
    | apply hk

theorem seeArg_kept {a0 s : State} (h : Kept a0 s) (d : DescRef) (ok : Bool) (i : Nat) (k : State → State) (hk : ∀ u, Kept a0 u → Kept a0 (k u)) : Kept a0 (State.seeArg s d ok i k) := by
  unfold State.seeArg
  with_reducible repeat' first
    | exact h | assumption | contradiction | (intro) | apply ite_kept | apply pair_kept | apply failAbsent_kept
    | apply fail_kept | apply hk

theorem seeCheck_quiet {a0 s : State} (h : Quiet a0 s) : Quiet a0 (State.seeCheck s) := by
  unfold State.seeCheck
  with_reducible repeat' first
    | exact h | assumption | (intro) | apply ite_quiet | apply pair_quiet | apply ev_quiet | split | dsimp only
    | (apply Quiet.upd; exact h)

theorem seeCheck_kept {a0 s : State} (h : Kept a0 s) : Kept a0 (State.seeCheck s) :=
  h.quiet (seeCheck_quiet (Quiet.refl _) ..)

theorem seeSeal_quiet {a0 s : State} (h : Quiet a0 s) : Quiet a0 (State.seeSeal s) := by
  unfold State.seeSeal
  with_reducible repeat' first
    | exact h | assumption | (intro) | apply ite_quiet | apply pair_quiet | split | dsimp only | (apply Quiet.upd; exact h)

theorem seeSeal_kept {a0 s : State} (h : Kept a0 s) : Kept a0 (State.seeSeal s) :=
  h.quiet (seeSeal_quiet (Quiet.refl _) ..)

theorem seeEnter_quiet {a0 s : State} (h : Quiet a0 s) : Quiet a0 (State.seeEnter s) := by
  unfold State.seeEnter
  with_reducible repeat' first
    | exact h | assumption | (intro) | apply ite_quiet | apply pair_quiet | split | dsimp only | (apply Quiet.upd; exact h)

theorem seeEnter_kept {a0 s : State} (h : Kept a0 s) : Kept a0 (State.seeEnter s) :=
  h.quiet (seeEnter_quiet (Quiet.refl _) ..)

theorem restEnd_quiet {a0 s : State} (h : Quiet a0 s) (i : Nat) : Quiet a0 (State.restEnd s i) := by
  unfold State.restEnd
  with_reducible repeat' first
    | exact h | assumption | (intro) | apply ite_quiet | apply pair_quiet | apply eocPoint_quiet | apply restPoint_quiet
    | split

theorem restEnd_kept {a0 s : State} (h : Kept a0 s) (i : Nat) : Kept a0 (State.restEnd s i) :=
  h.quiet (restEnd_quiet (Quiet.refl _) ..)

theorem eodEnd_quiet {a0 s : State} (h : Quiet a0 s) (i : Nat) (vs : Nat) : Quiet a0 (State.eodEnd s i vs) := by
  unfold State.eodEnd
  with_reducible repeat' first
    | exact h | assumption | (intro) | apply ite_quiet | apply pair_quiet | apply ev_quiet | apply modStr_quiet
    | apply seeShow_quiet

theorem eodEnd_kept {a0 s : State} (h : Kept a0 s) (i : Nat) (vs : Nat) : Kept a0 (State.eodEnd s i vs) :=
  h.quiet (eodEnd_quiet (Quiet.refl _) ..)

theorem inputBack_quiet {a0 s : State} (h : Quiet a0 s) (i : Nat) : Quiet a0 (State.inputBack s i) := by
  unfold State.inputBack
  with_reducible repeat' first
    | exact h | assumption | (intro) | apply ite_quiet | apply pair_quiet | apply ev_quiet | apply modStr_quiet
    | apply distrust_quiet

theorem inputBack_kept {a0 s : State} (h : Kept a0 s) (i : Nat) : Kept a0 (State.inputBack s i) :=
  h.quiet (inputBack_quiet (Quiet.refl _) ..)

theorem unitStale_quiet {a0 s : State} (h : Quiet a0 s) (i : Nat) : Quiet a0 (State.unitStale s i) := by
  unfold State.unitStale
  with_reducible repeat' first
    | exact h | assumption | (intro) | apply ite_quiet | apply pair_quiet | apply ev_quiet | apply modStr_quiet
    | apply seeShow_quiet

theorem unitStale_kept {a0 s : State} (h : Kept a0 s) (i : Nat) : Kept a0 (State.unitStale s i) :=
  h.quiet (unitStale_quiet (Quiet.refl _) ..)

end Sys2Proof.Laws
end

