-- ==== Sys2Proof/Laws/QPortLink.lean ====
section
/-!
SUPPORT. Machine/PortLink.lean leaves grade, queue and mode alone and keeps register file and event log sound.
-/
namespace Sys2Proof.Laws

open Sys2Proof.Machine

variable {a0 : State}

theorem modPort_quiet {a0 s : State} (h : Quiet a0 s) (p : Nat) (f : Plu → Plu) : Quiet a0 (State.modPort s p f) := by
  unfold State.modPort
  with_reducible repeat' first
    | exact h | assumption | (intro) | apply ite_quiet | apply pair_quiet | split | dsimp only | (apply Quiet.upd; exact h)

theorem modPort_kept {a0 s : State} (h : Kept a0 s) (p : Nat) (f : Plu → Plu) : Kept a0 (State.modPort s p f) :=
  h.quiet (modPort_quiet (Quiet.refl _) ..)

theorem setSession_quiet {a0 s : State} (h : Quiet a0 s) (p : Nat) (v : Nat) : Quiet a0 (State.setSession s p v) := by
  unfold State.setSession
  with_reducible repeat' first
    | exact h | assumption | (intro) | apply ite_quiet | apply pair_quiet | apply wr_quiet | split | dsimp only
    | (apply Quiet.upd; exact h)

theorem setSession_kept {a0 s : State} (h : Kept a0 s) (p : Nat) (v : Nat) : Kept a0 (State.setSession s p v) :=
  h.quiet (setSession_quiet (Quiet.refl _) ..)

theorem toVehicle_quiet {a0 s : State} (h : Quiet a0 s) (p : Nat) (kind : Nat) (broadcast : Bool) (bytes : List Nat) : Quiet a0 (State.toVehicle s p kind broadcast bytes) := by
  unfold State.toVehicle
  with_reducible repeat' first | exact h | assumption | (intro) | apply ite_quiet | apply pair_quiet | apply emit_quiet

theorem toVehicle_kept {a0 s : State} (h : Kept a0 s) (p : Nat) (kind : Nat) (broadcast : Bool) (bytes : List Nat) : Kept a0 (State.toVehicle s p kind broadcast bytes) :=
  h.quiet (toVehicle_quiet (Quiet.refl _) ..)

theorem fillBuffer_quiet {a0 s : State} (h : Quiet a0 s) (p : Nat) (b : Nat × Nat × Nat) (kind : Nat) (bytes : List Nat) (stamp : Nat) : Quiet a0 (State.fillBuffer s p b kind bytes stamp) := by
  unfold State.fillBuffer
  with_reducible repeat' first
    | exact h | assumption | (intro) | apply ite_quiet | apply pair_quiet | apply emit_quiet | apply complete_quiet
    | apply modPort_quiet

theorem fillBuffer_kept {a0 s : State} (h : Kept a0 s) (p : Nat) (b : Nat × Nat × Nat) (kind : Nat) (bytes : List Nat) (stamp : Nat) : Kept a0 (State.fillBuffer s p b kind bytes stamp) :=
  h.quiet (fillBuffer_quiet (Quiet.refl _) ..)

theorem postItem_quiet {a0 s : State} (h : Quiet a0 s) (p : Nat) (kind : Nat) (bytes : List Nat) : Quiet a0 (State.postItem s p kind bytes) := by
  unfold State.postItem
  with_reducible repeat' first
    | exact h | assumption | (intro) | apply ite_quiet | apply pair_quiet | apply bump_quiet | apply modPort_quiet
    | apply fillBuffer_quiet | split

theorem postItem_kept {a0 s : State} (h : Kept a0 s) (p : Nat) (kind : Nat) (bytes : List Nat) : Kept a0 (State.postItem s p kind bytes) :=
  h.quiet (postItem_quiet (Quiet.refl _) ..)

theorem notice_quiet {a0 s : State} (h : Quiet a0 s) (p : Nat) (type : Nat) (cause : Nat) (t : Nat) : Quiet a0 (State.notice s p type cause t) := by
  unfold State.notice
  with_reducible repeat' first | exact h | assumption | (intro) | apply ite_quiet | apply pair_quiet | apply postItem_quiet

theorem notice_kept {a0 s : State} (h : Kept a0 s) (p : Nat) (type : Nat) (cause : Nat) (t : Nat) : Kept a0 (State.notice s p type cause t) :=
  h.quiet (notice_quiet (Quiet.refl _) ..)

theorem violate_quiet {a0 s : State} (h : Quiet a0 s) (p : Nat) (cls : Nat) (cause : Nat) (code : Nat) : Quiet a0 (State.violate s p cls cause code) := by
  unfold State.violate
  with_reducible repeat' first
    | exact h | assumption | (intro) | apply ite_quiet | apply pair_quiet | apply wr_quiet | apply bump_quiet
    | apply ev_quiet | apply modPort_quiet | split

theorem violate_kept {a0 s : State} (h : Kept a0 s) (p : Nat) (cls : Nat) (cause : Nat) (code : Nat) : Kept a0 (State.violate s p cls cause code) :=
  h.quiet (violate_quiet (Quiet.refl _) ..)

theorem guardExit_quiet {a0 s : State} (h : Quiet a0 s) (p : Nat) (reason : Nat) : Quiet a0 (State.guardExit s p reason) := by
  unfold State.guardExit
  with_reducible repeat' first | exact h | assumption | (intro) | apply ite_quiet | apply pair_quiet | apply modPort_quiet

theorem guardExit_kept {a0 s : State} (h : Kept a0 s) (p : Nat) (reason : Nat) : Kept a0 (State.guardExit s p reason) :=
  h.quiet (guardExit_quiet (Quiet.refl _) ..)

theorem classC_quiet {a0 s : State} (h : Quiet a0 s) (p : Nat) (cause : Nat) : Quiet a0 (State.classC s p cause) := by
  unfold State.classC
  with_reducible repeat' first
    | exact h | assumption | (intro) | apply ite_quiet | apply pair_quiet | apply modPort_quiet | apply violate_quiet
    | apply guardExit_quiet

theorem classC_kept {a0 s : State} (h : Kept a0 s) (p : Nat) (cause : Nat) : Kept a0 (State.classC s p cause) :=
  h.quiet (classC_quiet (Quiet.refl _) ..)

theorem classB_quiet {a0 s : State} (h : Quiet a0 s) (p : Nat) (cause : Nat) (code : Nat) : Quiet a0 (State.classB s p cause code) := by
  unfold State.classB
  with_reducible repeat' first
    | exact h | assumption | (intro) | apply ite_quiet | apply pair_quiet | apply violate_quiet | apply classC_quiet

theorem classB_kept {a0 s : State} (h : Kept a0 s) (p : Nat) (cause : Nat) (code : Nat) : Kept a0 (State.classB s p cause code) :=
  h.quiet (classB_quiet (Quiet.refl _) ..)

theorem guardDecide_quiet {a0 s : State} (h : Quiet a0 s) (n : Nat) (tN : Nat) (p : Nat) : Quiet a0 (State.guardDecide s n tN p) := by
  unfold State.guardDecide
  with_reducible repeat' first
    | exact h | assumption | (intro) | apply ite_quiet | apply pair_quiet | apply wr_quiet | apply modPort_quiet
    | apply notice_quiet | apply classC_quiet | split

theorem guardDecide_kept {a0 s : State} (h : Kept a0 s) (n : Nat) (tN : Nat) (p : Nat) : Kept a0 (State.guardDecide s n tN p) :=
  h.quiet (guardDecide_quiet (Quiet.refl _) ..)

theorem sessionEnd_quiet {a0 s : State} (h : Quiet a0 s) (p : Nat) (t : Nat) : Quiet a0 (State.sessionEnd s p t) := by
  unfold State.sessionEnd
  with_reducible repeat' first
    | exact h | assumption | (intro) | apply ite_quiet | apply ite_quiet_fst | apply pair_quiet | apply wr_quiet
    | apply ev_quiet | apply complete_quiet | apply closeSession_quiet | apply modPort_quiet | apply setSession_quiet
    | apply notice_quiet | apply foldl_quiet

theorem sessionEnd_kept {a0 s : State} (h : Kept a0 s) (p : Nat) (t : Nat) : Kept a0 (State.sessionEnd s p t) :=
  h.quiet (sessionEnd_quiet (Quiet.refl _) ..)

theorem guardRestart_quiet {a0 s : State} (h : Quiet a0 s) : Quiet a0 (State.guardRestart s) := by
  unfold State.guardRestart
  with_reducible repeat' first
    | exact h | assumption | (intro) | apply ite_quiet | apply ite_quiet_fst | apply pair_quiet | apply modPort_quiet
    | apply foldl_quiet

theorem guardRestart_kept {a0 s : State} (h : Kept a0 s) : Kept a0 (State.guardRestart s) :=
  h.quiet (guardRestart_quiet (Quiet.refl _) ..)

theorem slacArm_quiet {a0 s : State} (h : Quiet a0 s) (p : Nat) : Quiet a0 (State.slacArm s p) := by
  unfold State.slacArm
  with_reducible repeat' first
    | exact h | assumption | (intro) | apply ite_quiet | apply pair_quiet | apply wr_quiet | apply modPort_quiet

theorem slacArm_kept {a0 s : State} (h : Kept a0 s) (p : Nat) : Kept a0 (State.slacArm s p) :=
  h.quiet (slacArm_quiet (Quiet.refl _) ..)

theorem guardForce_quiet {a0 s : State} (h : Quiet a0 s) (n : Nat) (p : Nat) : Quiet a0 (State.guardForce s n p) := by
  unfold State.guardForce
  with_reducible repeat' first
    | exact h | assumption | (intro) | apply ite_quiet | apply pair_quiet | apply wr_quiet | apply modPort_quiet
    | apply slacArm_quiet | split

theorem guardForce_kept {a0 s : State} (h : Kept a0 s) (n : Nat) (p : Nat) : Kept a0 (State.guardForce s n p) :=
  h.quiet (guardForce_quiet (Quiet.refl _) ..)

theorem guardStrobe_quiet {a0 s : State} (h : Quiet a0 s) (n : Nat) (tN : Nat) : Quiet a0 (State.guardStrobe s n tN) := by
  unfold State.guardStrobe
  with_reducible repeat' first
    | exact h | assumption | (intro) | apply ite_quiet | apply ite_quiet_fst | apply pair_quiet | apply guardDecide_quiet
    | apply guardForce_quiet | apply foldl_quiet

theorem guardStrobe_kept {a0 s : State} (h : Kept a0 s) (n : Nat) (tN : Nat) : Kept a0 (State.guardStrobe s n tN) :=
  h.quiet (guardStrobe_quiet (Quiet.refl _) ..)

theorem pilotChange_quiet {a0 s : State} (h : Quiet a0 s) (p : Nat) (new : Nat) : Quiet a0 (State.pilotChange s p new) := by
  unfold State.pilotChange
  with_reducible repeat' first
    | exact h | assumption | (intro) | apply ite_quiet | apply pair_quiet | apply wr_quiet | apply ev_quiet
    | apply notice_quiet | apply classC_quiet | apply slacArm_quiet

theorem pilotChange_kept {a0 s : State} (h : Kept a0 s) (p : Nat) (new : Nat) : Kept a0 (State.pilotChange s p new) :=
  h.quiet (pilotChange_quiet (Quiet.refl _) ..)

theorem pilotPeriod_quiet {a0 s : State} (h : Quiet a0 s) (p : Nat) (a : Int) (b : Int) : Quiet a0 (State.pilotPeriod s p a b) := by
  unfold State.pilotPeriod
  with_reducible repeat' first
    | exact h | assumption | (intro) | apply ite_quiet | apply pair_quiet | apply wrS_quiet | apply bump_quiet
    | apply waitSite_quiet | apply modPort_quiet | apply pilotChange_quiet

theorem pilotPeriod_kept {a0 s : State} (h : Kept a0 s) (p : Nat) (a : Int) (b : Int) : Kept a0 (State.pilotPeriod s p a b) :=
  h.quiet (pilotPeriod_quiet (Quiet.refl _) ..)

theorem pilotControl_quiet {a0 s : State} (h : Quiet a0 s) (p : Nat) (v : Nat) : Quiet a0 (State.pilotControl s p v) := by
  unfold State.pilotControl
  with_reducible repeat' first
    | exact h | assumption | (intro) | apply ite_quiet | apply pair_quiet | apply wr_quiet | apply slacArm_quiet

theorem pilotControl_kept {a0 s : State} (h : Kept a0 s) (p : Nat) (v : Nat) : Kept a0 (State.pilotControl s p v) :=
  h.quiet (pilotControl_quiet (Quiet.refl _) ..)

theorem setRow_quiet {a0 s : State} (h : Quiet a0 s) (r : Nat) (x : Option Round) : Quiet a0 (State.setRow s r x) := by
  unfold State.setRow
  with_reducible repeat' first
    | exact h | assumption | (intro) | apply ite_quiet | apply pair_quiet | split | dsimp only | (apply Quiet.upd; exact h)

theorem setRow_kept {a0 s : State} (h : Kept a0 s) (r : Nat) (x : Option Round) : Kept a0 (State.setRow s r x) :=
  h.quiet (setRow_quiet (Quiet.refl _) ..)

theorem associate_quiet {a0 s : State} (h : Quiet a0 s) (p : Nat) : Quiet a0 (State.associate s p) := by
  unfold State.associate
  with_reducible repeat' first
    | exact h | assumption | (intro) | apply ite_quiet | apply pair_quiet | apply wr_quiet | apply freshBytes_quiet
    | apply modPort_quiet | apply slacArm_quiet

theorem associate_kept {a0 s : State} (h : Kept a0 s) (p : Nat) : Kept a0 (State.associate s p) :=
  h.quiet (associate_quiet (Quiet.refl _) ..)

theorem slacClose_quiet {a0 s : State} (h : Quiet a0 s) (r : Nat) (x : Round) : Quiet a0 (State.slacClose s r x) := by
  unfold State.slacClose
  with_reducible repeat' first
    | exact h | assumption | (intro) | apply ite_quiet | apply pair_quiet | apply wr_quiet | apply ev_quiet
    | apply modPort_quiet | apply toVehicle_quiet | apply postItem_quiet | apply notice_quiet | apply setRow_quiet
    | apply associate_quiet

theorem slacClose_kept {a0 s : State} (h : Kept a0 s) (r : Nat) (x : Round) : Kept a0 (State.slacClose s r x) :=
  h.quiet (slacClose_quiet (Quiet.refl _) ..)

theorem vehicleFrame_quiet {a0 s : State} (h : Quiet a0 s) (p : Nat) (f : List Nat) (lead : Nat) : Quiet a0 (State.vehicleFrame s p f lead) := by
  unfold State.vehicleFrame
  with_reducible repeat' first
    | exact h | assumption | (intro) | apply ite_quiet | apply pair_quiet | apply wr_quiet | apply bump_quiet
    | apply shadow_quiet | apply modPort_quiet | apply fillBuffer_quiet | split

theorem vehicleFrame_kept {a0 s : State} (h : Kept a0 s) (p : Nat) (f : List Nat) (lead : Nat) : Kept a0 (State.vehicleFrame s p f lead) :=
  h.quiet (vehicleFrame_quiet (Quiet.refl _) ..)

theorem unicastFail_quiet {a0 s : State} (h : Quiet a0 s) (p : Nat) : Quiet a0 (State.unicastFail s p) := by
  unfold State.unicastFail
  with_reducible repeat' first
    | exact h | assumption | (intro) | apply ite_quiet | apply pair_quiet | apply wr_quiet | apply bump_quiet
    | apply ev_quiet | apply modPort_quiet

theorem unicastFail_kept {a0 s : State} (h : Kept a0 s) (p : Nat) : Kept a0 (State.unicastFail s p) :=
  h.quiet (unicastFail_quiet (Quiet.refl _) ..)

theorem typeChanged_quiet {a0 s : State} (h : Quiet a0 s) (p : Nat) : Quiet a0 (State.typeChanged s p) := by
  unfold State.typeChanged
  with_reducible repeat' first
    | exact h | assumption | (intro) | apply ite_quiet | apply ite_quiet_fst | apply pair_quiet | apply wr_quiet
    | apply modPort_quiet | apply slacArm_quiet | apply foldl_quiet

theorem typeChanged_kept {a0 s : State} (h : Kept a0 s) (p : Nat) : Kept a0 (State.typeChanged s p) :=
  h.quiet (typeChanged_quiet (Quiet.refl _) ..)

theorem pluClear_quiet {a0 s : State} (h : Quiet a0 s) (p : Nat) : Quiet a0 (State.pluClear s p) := by
  unfold State.pluClear
  with_reducible repeat' first
    | exact h | assumption | (intro) | apply ite_quiet | apply ite_quiet_fst | apply pair_quiet | apply wr_quiet
    | apply foldl_quiet

theorem pluClear_kept {a0 s : State} (h : Kept a0 s) (p : Nat) : Kept a0 (State.pluClear s p) :=
  h.quiet (pluClear_quiet (Quiet.refl _) ..)

theorem portDisabled_quiet {a0 s : State} (h : Quiet a0 s) (p : Nat) : Quiet a0 (State.portDisabled s p) := by
  unfold State.portDisabled
  with_reducible repeat' first
    | exact h | assumption | (intro) | apply ite_quiet | apply ite_quiet_fst | apply pair_quiet | apply complete_quiet
    | apply modPort_quiet | apply foldl_quiet

theorem portDisabled_kept {a0 s : State} (h : Kept a0 s) (p : Nat) : Kept a0 (State.portDisabled s p) :=
  h.quiet (portDisabled_quiet (Quiet.refl _) ..)

theorem beacon_quiet {a0 s : State} (h : Quiet a0 s) (p : Nat) (t : Nat) : Quiet a0 (State.beacon s p t) := by
  unfold State.beacon
  with_reducible repeat' first
    | exact h | assumption | (intro) | apply ite_quiet | apply pair_quiet | apply wr_quiet | apply modPort_quiet
    | apply toVehicle_quiet

theorem beacon_kept {a0 s : State} (h : Kept a0 s) (p : Nat) (t : Nat) : Kept a0 (State.beacon s p t) :=
  h.quiet (beacon_quiet (Quiet.refl _) ..)

theorem roboOff_quiet {a0 s : State} (h : Quiet a0 s) (p : Nat) : Quiet a0 (State.roboOff s p) := by
  unfold State.roboOff
  with_reducible repeat' first
    | exact h | assumption | (intro) | apply ite_quiet | apply pair_quiet | apply wr_quiet | apply ev_quiet
    | apply modPort_quiet

theorem roboOff_kept {a0 s : State} (h : Kept a0 s) (p : Nat) : Kept a0 (State.roboOff s p) :=
  h.quiet (roboOff_quiet (Quiet.refl _) ..)

theorem slacAnswer_quiet {a0 s : State} (h : Quiet a0 s) (p : Nat) (runId : Nat) : Quiet a0 (State.slacAnswer s p runId) := by
  unfold State.slacAnswer
  with_reducible repeat' first | exact h | assumption | (intro) | apply ite_quiet | apply pair_quiet | apply toVehicle_quiet

theorem slacAnswer_kept {a0 s : State} (h : Kept a0 s) (p : Nat) (runId : Nat) : Kept a0 (State.slacAnswer s p runId) :=
  h.quiet (slacAnswer_quiet (Quiet.refl _) ..)

theorem startSession_quiet {a0 s : State} (h : Quiet a0 s) (p : Nat) (evcc : Nat) (maxV : Nat) (maxI : Nat) (maxP : Nat) (contract : List Nat) : Quiet a0 (State.startSession s p evcc maxV maxI maxP contract) := by
  unfold State.startSession
  with_reducible repeat' first
    | exact h | assumption | (intro) | apply ite_quiet | apply pair_quiet | apply wr_quiet | apply ev_quiet
    | apply openSession_quiet | apply modPort_quiet | apply setSession_quiet | apply classC_quiet | split | dsimp only
    | (apply Quiet.upd; first | exact h | assumption | (intro) | apply ite_quiet | apply pair_quiet | apply wr_quiet | apply ev_quiet | apply openSession_quiet | apply modPort_quiet)

theorem startSession_kept {a0 s : State} (h : Kept a0 s) (p : Nat) (evcc : Nat) (maxV : Nat) (maxI : Nat) (maxP : Nat) (contract : List Nat) : Kept a0 (State.startSession s p evcc maxV maxI maxP contract) :=
  h.quiet (startSession_quiet (Quiet.refl _) ..)

theorem postRequest_quiet {a0 s : State} (h : Quiet a0 s) (p : Nat) (q : Req) : Quiet a0 (State.postRequest s p q) := by
  unfold State.postRequest
  with_reducible repeat' first
    | exact h | assumption | (intro) | apply ite_quiet | apply pair_quiet | apply modPort_quiet | split | dsimp only
    | (apply Quiet.upd; first | exact h | assumption | (intro) | apply ite_quiet | apply pair_quiet | apply modPort_quiet)

theorem postRequest_kept {a0 s : State} (h : Kept a0 s) (p : Nat) (q : Req) : Kept a0 (State.postRequest s p q) :=
  h.quiet (postRequest_quiet (Quiet.refl _) ..)

theorem coolDone_quiet {a0 s : State} (h : Quiet a0 s) (p : Nat) : Quiet a0 (State.coolDone s p) := by
  unfold State.coolDone
  with_reducible repeat' first
    | exact h | assumption | (intro) | apply ite_quiet | apply pair_quiet | apply wr_quiet | apply ev_quiet
    | apply modPort_quiet | apply setSession_quiet | apply notice_quiet

theorem coolDone_kept {a0 s : State} (h : Kept a0 s) (p : Nat) : Kept a0 (State.coolDone s p) :=
  h.quiet (coolDone_quiet (Quiet.refl _) ..)

theorem runTx_quiet {a0 s : State} (h : Quiet a0 s) (d : DescRef) (k : State → State) (hk : ∀ u, Quiet a0 u → Quiet a0 (k u)) : Quiet a0 (State.runTx s d k) := by
  unfold State.runTx
  with_reducible repeat' first
    | exact h | assumption | (intro) | apply ite_quiet | apply pair_quiet | apply run_quiet | apply checkMode_quiet

theorem runTx_kept {a0 s : State} (h : Kept a0 s) (d : DescRef) (k : State → State) (hk : ∀ u, Kept a0 u → Kept a0 (k u)) : Kept a0 (State.runTx s d k) := by
  unfold State.runTx
  with_reducible repeat' first
    | exact h | assumption | contradiction | (intro) | apply ite_kept | apply pair_kept | apply checkMode_kept
    | apply run_kept

theorem check_quiet {a0 s : State} (h : Quiet a0 s) (p : Nat) (bad : Bool) (cause : Nat) (code : Nat) (first : Nat) : Quiet a0 (State.check s p bad cause code first).1 := by
  unfold State.check
  with_reducible repeat' first
    | exact h | assumption | (intro) | apply ite_quiet | apply ite_quiet_fst | apply pair_quiet | apply classB_quiet

theorem check_quiet_eq {a0 s s1 : State} {b0} {p : Nat} {bad : Bool} {cause : Nat} {code : Nat} {first : Nat} (h : Quiet a0 s) (hE : State.check s p bad cause code first = (s1, b0)) : Quiet a0 s1 := by
  have := check_quiet h p bad cause code first 
  rw [hE] at this
  exact this

theorem check_kept {a0 s : State} (h : Kept a0 s) (p : Nat) (bad : Bool) (cause : Nat) (code : Nat) (first : Nat) : Kept a0 (State.check s p bad cause code first).1 :=
  h.quiet (check_quiet (Quiet.refl _) ..)

theorem check_kept_eq {a0 s s1 : State} {b0} {p : Nat} {bad : Bool} {cause : Nat} {code : Nat} {first : Nat} (h : Kept a0 s) (hE : State.check s p bad cause code first = (s1, b0)) : Kept a0 s1 :=
  h.quiet (check_quiet_eq (Quiet.refl _) hE)

theorem timeRequest_quiet {a0 s : State} (h : Quiet a0 s) (p : Nat) : Quiet a0 (State.timeRequest s p) := by
  unfold State.timeRequest
  with_reducible repeat' first | exact h | assumption | (intro) | apply ite_quiet | apply pair_quiet | apply violate_quiet

theorem timeRequest_kept {a0 s : State} (h : Kept a0 s) (p : Nat) : Kept a0 (State.timeRequest s p) :=
  h.quiet (timeRequest_quiet (Quiet.refl _) ..)

theorem requestChecks_quiet {a0 s : State} (h : Quiet a0 s) (p : Nat) (reqI : BitVec 32) (reqV : BitVec 32) (reqP : BitVec 32) (presentV : BitVec 32) : Quiet a0 (State.requestChecks s p reqI reqV reqP presentV).1 := by
  unfold State.requestChecks
  with_reducible repeat' first
    | exact h | assumption | (intro) | apply ite_quiet | apply ite_quiet_fst | apply pair_quiet | apply check_quiet

theorem requestChecks_quiet_eq {a0 s s1 : State} {b0} {p : Nat} {reqI : BitVec 32} {reqV : BitVec 32} {reqP : BitVec 32} {presentV : BitVec 32} (h : Quiet a0 s) (hE : State.requestChecks s p reqI reqV reqP presentV = (s1, b0)) : Quiet a0 s1 := by
  have := requestChecks_quiet h p reqI reqV reqP presentV 
  rw [hE] at this
  exact this

theorem requestChecks_kept {a0 s : State} (h : Kept a0 s) (p : Nat) (reqI : BitVec 32) (reqV : BitVec 32) (reqP : BitVec 32) (presentV : BitVec 32) : Kept a0 (State.requestChecks s p reqI reqV reqP presentV).1 :=
  h.quiet (requestChecks_quiet (Quiet.refl _) ..)

theorem requestChecks_kept_eq {a0 s s1 : State} {b0} {p : Nat} {reqI : BitVec 32} {reqV : BitVec 32} {reqP : BitVec 32} {presentV : BitVec 32} (h : Kept a0 s) (hE : State.requestChecks s p reqI reqV reqP presentV = (s1, b0)) : Kept a0 s1 :=
  h.quiet (requestChecks_quiet_eq (Quiet.refl _) hE)

theorem requestTimed_quiet {a0 s : State} (h : Quiet a0 s) (p : Nat) (newI : BitVec 32) (newV : BitVec 32) (newP : BitVec 32) : Quiet a0 (State.requestTimed s p newI newV newP) := by
  unfold State.requestTimed
  with_reducible repeat' first
    | exact h | assumption | (intro) | apply ite_quiet | apply pair_quiet | apply modPort_quiet | apply timeRequest_quiet

theorem requestTimed_kept {a0 s : State} (h : Kept a0 s) (p : Nat) (newI : BitVec 32) (newV : BitVec 32) (newP : BitVec 32) : Kept a0 (State.requestTimed s p newI newV newP) :=
  h.quiet (requestTimed_quiet (Quiet.refl _) ..)

end Sys2Proof.Laws
end

