-- ==== Sys2Proof/Laws/QRind.lean ====
section
/-!
SUPPORT. Machine/Rind.lean leaves grade, queue and mode alone and keeps register file and event log sound.
-/
namespace Sys2Proof.Laws

open Sys2Proof.Machine

variable {a0 : State}

theorem setPair_quiet {a0 s : State} (h : Quiet a0 s) (i : Nat) (x : Pair) : Quiet a0 (State.setPair s i x) := by
  unfold State.setPair
  with_reducible repeat' first
    | exact h | assumption | (intro) | apply ite_quiet | apply pair_quiet | split | dsimp only | (apply Quiet.upd; exact h)

theorem setPair_kept {a0 s : State} (h : Kept a0 s) (i : Nat) (x : Pair) : Kept a0 (State.setPair s i x) :=
  h.quiet (setPair_quiet (Quiet.refl _) ..)

theorem setSo_quiet {a0 s : State} (h : Quiet a0 s) (k : Nat) (x : SafeOut) : Quiet a0 (State.setSo s k x) := by
  unfold State.setSo
  with_reducible repeat' first
    | exact h | assumption | (intro) | apply ite_quiet | apply pair_quiet | split | dsimp only | (apply Quiet.upd; exact h)

theorem setSo_kept {a0 s : State} (h : Kept a0 s) (k : Nat) (x : SafeOut) : Kept a0 (State.setSo s k x) :=
  h.quiet (setSo_quiet (Quiet.refl _) ..)

theorem setTerm_quiet {a0 s : State} (h : Quiet a0 s) (ch : Nat) (x : SafeIn) : Quiet a0 (State.setTerm s ch x) := by
  unfold State.setTerm
  with_reducible repeat' first
    | exact h | assumption | (intro) | apply ite_quiet | apply pair_quiet | split | dsimp only | (apply Quiet.upd; exact h)

theorem setTerm_kept {a0 s : State} (h : Kept a0 s) (ch : Nat) (x : SafeIn) : Kept a0 (State.setTerm s ch x) :=
  h.quiet (setTerm_quiet (Quiet.refl _) ..)

theorem setConn_quiet {a0 s : State} (h : Quiet a0 s) (c : Nat) (x : Conn) : Quiet a0 (State.setConn s c x) := by
  unfold State.setConn
  with_reducible repeat' first
    | exact h | assumption | (intro) | apply ite_quiet | apply pair_quiet | split | dsimp only | (apply Quiet.upd; exact h)

theorem setConn_kept {a0 s : State} (h : Kept a0 s) (c : Nat) (x : Conn) : Kept a0 (State.setConn s c x) :=
  h.quiet (setConn_quiet (Quiet.refl _) ..)

theorem evS_quiet {a0 s : State} (h : Quiet a0 s) (code : Nat) (entity : Nat) (a1 : Nat) (a2 : Nat) : Quiet a0 (State.evS s code entity a1 a2) := by
  unfold State.evS
  with_reducible repeat' first | exact h | assumption | (intro) | apply ite_quiet | apply pair_quiet | apply logFrom_quiet

theorem evS_kept {a0 s : State} (h : Kept a0 s) (code : Nat) (entity : Nat) (a1 : Nat) (a2 : Nat) : Kept a0 (State.evS s code entity a1 a2) :=
  h.quiet (evS_quiet (Quiet.refl _) ..)

theorem trip_quiet {a0 s : State} (h : Quiet a0 s) (target : Nat) (func : Nat) (origin : Nat) (cat : Nat) (val : Int) : Quiet a0 (State.trip s target func origin cat val) := by
  unfold State.trip
  with_reducible repeat' first
    | exact h | assumption | (intro) | apply ite_quiet | apply pair_quiet | apply attn_quiet | apply evS_quiet | split
    | dsimp only | (apply Quiet.upd; exact h)

theorem trip_kept {a0 s : State} (h : Kept a0 s) (target : Nat) (func : Nat) (origin : Nat) (cat : Nat) (val : Int) : Kept a0 (State.trip s target func origin cat val) :=
  h.quiet (trip_quiet (Quiet.refl _) ..)

theorem tripScope_quiet {a0 s : State} (h : Quiet a0 s) (m : Nat) (func : Nat) (origin : Nat) (cat : Nat) (val : Int) : Quiet a0 (State.tripScope s m func origin cat val) := by
  unfold State.tripScope
  with_reducible repeat' first
    | exact h | assumption | (intro) | apply ite_quiet | apply ite_quiet_fst | apply pair_quiet | apply trip_quiet
    | apply foldl_quiet

theorem tripScope_kept {a0 s : State} (h : Kept a0 s) (m : Nat) (func : Nat) (origin : Nat) (cat : Nat) (val : Int) : Kept a0 (State.tripScope s m func origin cat val) :=
  h.quiet (tripScope_quiet (Quiet.refl _) ..)

theorem tripOut_quiet {a0 s : State} (h : Quiet a0 s) (k : Nat) : Quiet a0 (State.tripOut s k) := by
  unfold State.tripOut
  with_reducible repeat' first
    | exact h | assumption | (intro) | apply ite_quiet | apply ite_quiet_fst | apply pair_quiet | apply trip_quiet
    | apply foldl_quiet

theorem tripOut_kept {a0 s : State} (h : Kept a0 s) (k : Nat) : Kept a0 (State.tripOut s k) :=
  h.quiet (tripOut_quiet (Quiet.refl _) ..)

theorem cause_quiet {a0 s : State} (h : Quiet a0 s) (func : Nat) (origin : Nat) : Quiet a0 (State.cause s func origin) := by
  unfold State.cause
  with_reducible repeat' first
    | exact h | assumption | (intro) | apply ite_quiet | apply pair_quiet | split | dsimp only | (apply Quiet.upd; exact h)

theorem cause_kept {a0 s : State} (h : Kept a0 s) (func : Nat) (origin : Nat) : Kept a0 (State.cause s func origin) :=
  h.quiet (cause_quiet (Quiet.refl _) ..)

theorem count_quiet {a0 s : State} (h : Quiet a0 s) (key : Nat) (on : Bool) (val : Int) : Quiet a0 (State.count s key on val).1 := by
  unfold State.count
  with_reducible repeat' first
    | exact h | assumption | (intro) | apply ite_quiet | apply ite_quiet_fst | apply pair_quiet | split | dsimp only
    | (apply Quiet.upd; exact h)

theorem count_quiet_eq {a0 s s1 : State} {b0} {key : Nat} {on : Bool} {val : Int} (h : Quiet a0 s) (hE : State.count s key on val = (s1, b0)) : Quiet a0 s1 := by
  have := count_quiet h key on val 
  rw [hE] at this
  exact this

theorem count_kept {a0 s : State} (h : Kept a0 s) (key : Nat) (on : Bool) (val : Int) : Kept a0 (State.count s key on val).1 :=
  h.quiet (count_quiet (Quiet.refl _) ..)

theorem count_kept_eq {a0 s s1 : State} {b0} {key : Nat} {on : Bool} {val : Int} (h : Kept a0 s) (hE : State.count s key on val = (s1, b0)) : Kept a0 s1 :=
  h.quiet (count_quiet_eq (Quiet.refl _) hE)

theorem condition_quiet {a0 s : State} (h : Quiet a0 s) (func : Nat) (origin : Nat) (cycles : Nat) (on : Bool) (val : Int) (trip : State → State) (htrip : ∀ u, Quiet a0 u → Quiet a0 (trip u)) : Quiet a0 (State.condition s func origin cycles on val trip) := by
  unfold State.condition
  with_reducible repeat' first
    | exact h | assumption | (intro) | apply ite_quiet | apply pair_quiet | apply cycles_quiet | apply trip_quiet
    | apply cause_quiet | apply count_quiet | exact count_quiet_eq (by assumption) (by assumption) | apply htrip

theorem scanTerms_quiet {a0 s : State} (h : Quiet a0 s) (samples : List (BitVec 16)) : Quiet a0 (State.scanTerms s samples) := by
  unfold State.scanTerms
  with_reducible repeat' first
    | exact h | assumption | (intro) | apply ite_quiet | apply ite_quiet_fst | apply pair_quiet | apply setTerm_quiet
    | apply foldl_quiet

theorem scanTerms_kept {a0 s : State} (h : Kept a0 s) (samples : List (BitVec 16)) : Kept a0 (State.scanTerms s samples) :=
  h.quiet (scanTerms_quiet (Quiet.refl _) ..)

theorem discFault_quiet {a0 s : State} (h : Quiet a0 s) (i : Nat) : Quiet a0 (State.discFault s i) := by
  unfold State.discFault
  with_reducible repeat' first
    | exact h | assumption | (intro) | apply ite_quiet | apply pair_quiet | apply setPair_quiet | apply evS_quiet

theorem discFault_kept {a0 s : State} (h : Kept a0 s) (i : Nat) : Kept a0 (State.discFault s i) :=
  h.quiet (discFault_quiet (Quiet.refl _) ..)

theorem scanPair_quiet {a0 s : State} (h : Quiet a0 s) (i : Nat) : Quiet a0 (State.scanPair s i).1 := by
  unfold State.scanPair
  with_reducible repeat' first
    | exact h | assumption | (intro) | apply ite_quiet | apply ite_quiet_fst | apply pair_quiet | apply setPair_quiet
    | apply discFault_quiet

theorem scanPair_quiet_eq {a0 s s1 : State} {b0} {i : Nat} (h : Quiet a0 s) (hE : State.scanPair s i = (s1, b0)) : Quiet a0 s1 := by
  have := scanPair_quiet h i 
  rw [hE] at this
  exact this

theorem scanPair_kept {a0 s : State} (h : Kept a0 s) (i : Nat) : Kept a0 (State.scanPair s i).1 :=
  h.quiet (scanPair_quiet (Quiet.refl _) ..)

theorem scanPair_kept_eq {a0 s s1 : State} {b0} {i : Nat} (h : Kept a0 s) (hE : State.scanPair s i = (s1, b0)) : Kept a0 s1 :=
  h.quiet (scanPair_quiet_eq (Quiet.refl _) hE)

theorem pairTrips_quiet {a0 s : State} (h : Quiet a0 s) (i : Nat) : Quiet a0 (State.pairTrips s i) := by
  unfold State.pairTrips
  with_reducible repeat' first
    | exact h | assumption | (intro) | apply ite_quiet | apply pair_quiet | apply tripScope_quiet | apply condition_quiet
    | split

theorem pairTrips_kept {a0 s : State} (h : Kept a0 s) (i : Nat) : Kept a0 (State.pairTrips s i) :=
  h.quiet (pairTrips_quiet (Quiet.refl _) ..)

theorem limitsNow_quiet {a0 s : State} (h : Quiet a0 s) (p : Nat) (c : Caps) : Quiet a0 (State.limitsNow s p c).1 := by
  unfold State.limitsNow
  with_reducible repeat' first
    | exact h | assumption | (intro) | apply ite_quiet | apply ite_quiet_fst | apply pair_quiet | split | dsimp only
    | (apply Quiet.upd; exact h)

theorem limitsNow_quiet_eq {a0 s s1 : State} {b0} {p : Nat} {c : Caps} (h : Quiet a0 s) (hE : State.limitsNow s p c = (s1, b0)) : Quiet a0 s1 := by
  have := limitsNow_quiet h p c 
  rw [hE] at this
  exact this

theorem limitsNow_kept {a0 s : State} (h : Kept a0 s) (p : Nat) (c : Caps) : Kept a0 (State.limitsNow s p c).1 :=
  h.quiet (limitsNow_quiet (Quiet.refl _) ..)

theorem limitsNow_kept_eq {a0 s s1 : State} {b0} {p : Nat} {c : Caps} (h : Kept a0 s) (hE : State.limitsNow s p c = (s1, b0)) : Kept a0 s1 :=
  h.quiet (limitsNow_quiet_eq (Quiet.refl _) hE)

theorem limpCause_quiet {a0 s : State} (h : Quiet a0 s) (key : Nat) (entity : Nat) (diag : Nat) (on : Bool) : Quiet a0 (State.limpCause s key entity diag on) := by
  unfold State.limpCause
  with_reducible repeat' first
    | exact h | assumption | (intro) | apply ite_quiet | apply pair_quiet | apply evS_quiet | split | dsimp only
    | (apply Quiet.upd; exact h)

theorem limpCause_kept {a0 s : State} (h : Kept a0 s) (key : Nat) (entity : Nat) (diag : Nat) (on : Bool) : Kept a0 (State.limpCause s key entity diag on) :=
  h.quiet (limpCause_quiet (Quiet.refl _) ..)

theorem crossCheck_quiet {a0 s : State} (h : Quiet a0 s) (p : Nat) (ch : Nat) (d : Int) (m : Int) (on : Bool) : Quiet a0 (State.crossCheck s p ch d m on).1 := by
  unfold State.crossCheck
  with_reducible repeat' first
    | exact h | assumption | (intro) | apply ite_quiet | apply ite_quiet_fst | apply pair_quiet | apply evS_quiet
    | apply count_quiet

theorem crossCheck_quiet_eq {a0 s s1 : State} {b0} {p : Nat} {ch : Nat} {d : Int} {m : Int} {on : Bool} (h : Quiet a0 s) (hE : State.crossCheck s p ch d m on = (s1, b0)) : Quiet a0 s1 := by
  have := crossCheck_quiet h p ch d m on 
  rw [hE] at this
  exact this

theorem crossCheck_kept {a0 s : State} (h : Kept a0 s) (p : Nat) (ch : Nat) (d : Int) (m : Int) (on : Bool) : Kept a0 (State.crossCheck s p ch d m on).1 :=
  h.quiet (crossCheck_quiet (Quiet.refl _) ..)

theorem crossCheck_kept_eq {a0 s s1 : State} {b0} {p : Nat} {ch : Nat} {d : Int} {m : Int} {on : Bool} (h : Kept a0 s) (hE : State.crossCheck s p ch d m on = (s1, b0)) : Kept a0 s1 :=
  h.quiet (crossCheck_quiet_eq (Quiet.refl _) hE)

theorem portCycle_quiet {a0 s : State} (h : Quiet a0 s) (c : Caps) (p : Nat) (d : PortDiag) : Quiet a0 (State.portCycle s c p d) := by
  unfold State.portCycle
  with_reducible repeat' first
    | exact h | assumption | (intro) | apply ite_quiet | apply pair_quiet | apply trip_quiet | apply condition_quiet
    | apply limitsNow_quiet | apply limpCause_quiet | apply crossCheck_quiet
    | exact limitsNow_quiet_eq (by assumption) (by assumption) | exact crossCheck_quiet_eq (by assumption) (by assumption)
    | split | dsimp only
    | (apply Quiet.upd; first | exact h | assumption | (intro) | apply ite_quiet | apply pair_quiet | apply trip_quiet | apply condition_quiet | apply limitsNow_quiet | apply limpCause_quiet)

theorem portCycle_kept {a0 s : State} (h : Kept a0 s) (c : Caps) (p : Nat) (d : PortDiag) : Kept a0 (State.portCycle s c p d) :=
  h.quiet (portCycle_quiet (Quiet.refl _) ..)

theorem portSilent_quiet {a0 s : State} (h : Quiet a0 s) (p : Nat) : Quiet a0 (State.portSilent s p) := by
  unfold State.portSilent
  with_reducible repeat' first
    | exact h | assumption | (intro) | apply ite_quiet | apply ite_quiet_fst | apply pair_quiet | apply foldl_quiet
    | apply foldl_quiet_fst | apply foldl_quiet_snd | split | dsimp only | (apply Quiet.upd; exact h)

theorem portSilent_kept {a0 s : State} (h : Kept a0 s) (p : Nat) : Kept a0 (State.portSilent s p) :=
  h.quiet (portSilent_quiet (Quiet.refl _) ..)

theorem convCycle_quiet {a0 s : State} (h : Quiet a0 s) (c : Caps) (l : List (BitVec 24 × Bool)) (k : Nat) : Quiet a0 (State.convCycle s c l k) := by
  unfold State.convCycle
  with_reducible repeat' first
    | exact h | assumption | (intro) | apply ite_quiet | apply ite_quiet_fst | apply pair_quiet | apply trip_quiet
    | apply condition_quiet | apply limpCause_quiet | apply foldl_quiet

theorem convCycle_kept {a0 s : State} (h : Kept a0 s) (c : Caps) (l : List (BitVec 24 × Bool)) (k : Nat) : Kept a0 (State.convCycle s c l k) :=
  h.quiet (convCycle_quiet (Quiet.refl _) ..)

theorem axisCycle_quiet {a0 s : State} (h : Quiet a0 s) (a : Nat) (x : AxisIn) : Quiet a0 (State.axisCycle s a x) := by
  unfold State.axisCycle
  with_reducible repeat' first
    | exact h | assumption | (intro) | apply ite_quiet | apply pair_quiet | apply trip_quiet | apply condition_quiet | split
    | dsimp only | (apply Quiet.upd; exact h)

theorem axisCycle_kept {a0 s : State} (h : Kept a0 s) (a : Nat) (x : AxisIn) : Kept a0 (State.axisCycle s a x) :=
  h.quiet (axisCycle_quiet (Quiet.refl _) ..)

theorem tempCycle_quiet {a0 s : State} (h : Quiet a0 s) (j : Nat) (t : Int) (selfBad : Bool) : Quiet a0 (State.tempCycle s j t selfBad) := by
  unfold State.tempCycle
  with_reducible repeat' first
    | exact h | assumption | (intro) | apply ite_quiet | apply pair_quiet | apply tripScope_quiet | apply cause_quiet
    | apply count_quiet | apply condition_quiet | exact count_quiet_eq (by assumption) (by assumption) | split | dsimp only
    | (apply Quiet.upd; first | exact h | assumption | (intro) | apply ite_quiet | apply pair_quiet | apply tripScope_quiet | apply cause_quiet | apply count_quiet)

theorem tempCycle_kept {a0 s : State} (h : Kept a0 s) (j : Nat) (t : Int) (selfBad : Bool) : Kept a0 (State.tempCycle s j t selfBad) :=
  h.quiet (tempCycle_quiet (Quiet.refl _) ..)

theorem driveSo_quiet {a0 s : State} (h : Quiet a0 s) : Quiet a0 (State.driveSo s) := by
  unfold State.driveSo
  with_reducible repeat' first
    | exact h | assumption | (intro) | apply ite_quiet | apply ite_quiet_fst | apply pair_quiet | apply setSo_quiet
    | apply evS_quiet | apply foldl_quiet | apply foldl_quiet_fst | apply foldl_quiet_snd | split

theorem driveSo_kept {a0 s : State} (h : Kept a0 s) : Kept a0 (State.driveSo s) :=
  h.quiet (driveSo_quiet (Quiet.refl _) ..)

theorem soFault_quiet {a0 s : State} (h : Quiet a0 s) (k : Nat) (kind : Nat) : Quiet a0 (State.soFault s k kind) := by
  unfold State.soFault
  with_reducible repeat' first
    | exact h | assumption | (intro) | apply ite_quiet | apply pair_quiet | apply setSo_quiet | apply evS_quiet
    | apply tripOut_quiet

theorem soFault_kept {a0 s : State} (h : Kept a0 s) (k : Nat) (kind : Nat) : Kept a0 (State.soFault s k kind) :=
  h.quiet (soFault_quiet (Quiet.refl _) ..)

theorem edmCycle_quiet {a0 s : State} (h : Quiet a0 s) (k : Nat) : Quiet a0 (State.edmCycle s k) := by
  unfold State.edmCycle
  with_reducible repeat' first
    | exact h | assumption | (intro) | apply ite_quiet | apply pair_quiet | apply setSo_quiet | apply soFault_quiet | split

theorem edmCycle_kept {a0 s : State} (h : Kept a0 s) (k : Nat) : Kept a0 (State.edmCycle s k) :=
  h.quiet (edmCycle_quiet (Quiet.refl _) ..)

theorem rindFault_quiet {a0 s : State} (h : Quiet a0 s) (diag : Nat) : Quiet a0 (State.rindFault s diag) := by
  unfold State.rindFault
  with_reducible repeat' first
    | exact h | assumption | (intro) | apply ite_quiet | apply pair_quiet | apply wr_quiet | apply evS_quiet | split
    | dsimp only
    | (apply Quiet.upd; first | exact h | assumption | (intro) | apply ite_quiet | apply pair_quiet | apply wr_quiet | apply evS_quiet)

theorem rindFault_kept {a0 s : State} (h : Kept a0 s) (diag : Nat) : Kept a0 (State.rindFault s diag) :=
  h.quiet (rindFault_quiet (Quiet.refl _) ..)

theorem readbackOff_quiet {a0 s : State} (h : Quiet a0 s) (read : BitVec 8) (gap : Bool) : Quiet a0 (State.readbackOff s read gap).1 := by
  unfold State.readbackOff
  with_reducible repeat' first
    | exact h | assumption | (intro) | apply ite_quiet | apply ite_quiet_fst | apply pair_quiet | apply setSo_quiet
    | apply soFault_quiet | apply foldl_quiet | apply foldl_quiet_fst

theorem readbackOff_quiet_eq {a0 s s1 : State} {b0} {read : BitVec 8} {gap : Bool} (h : Quiet a0 s) (hE : State.readbackOff s read gap = (s1, b0)) : Quiet a0 s1 := by
  have := readbackOff_quiet h read gap 
  rw [hE] at this
  exact this

theorem readbackOff_kept {a0 s : State} (h : Kept a0 s) (read : BitVec 8) (gap : Bool) : Kept a0 (State.readbackOff s read gap).1 :=
  h.quiet (readbackOff_quiet (Quiet.refl _) ..)

theorem readbackOff_kept_eq {a0 s s1 : State} {b0} {read : BitVec 8} {gap : Bool} (h : Kept a0 s) (hE : State.readbackOff s read gap = (s1, b0)) : Kept a0 s1 :=
  h.quiet (readbackOff_quiet_eq (Quiet.refl _) hE)

theorem acknowledge_quiet {a0 s : State} (h : Quiet a0 s) (via : Nat) : Quiet a0 (State.acknowledge s via) := by
  unfold State.acknowledge
  with_reducible repeat' first
    | exact h | assumption | (intro) | apply ite_quiet | apply ite_quiet_fst | apply pair_quiet | apply setSo_quiet
    | apply setConn_quiet | apply evS_quiet | apply foldl_quiet | apply foldl_quiet_fst | apply foldl_quiet_snd | split
    | dsimp only | (apply Quiet.upd; exact h)

theorem acknowledge_kept {a0 s : State} (h : Kept a0 s) (via : Nat) : Kept a0 (State.acknowledge s via) :=
  h.quiet (acknowledge_quiet (Quiet.refl _) ..)

theorem actLate_quiet {a0 s : State} (h : Quiet a0 s) : Quiet a0 (State.actLate s) := by
  unfold State.actLate
  with_reducible repeat' first
    | exact h | assumption | (intro) | apply ite_quiet | apply pair_quiet | split | dsimp only | (apply Quiet.upd; exact h)

theorem actLate_kept {a0 s : State} (h : Kept a0 s) : Kept a0 (State.actLate s) :=
  h.quiet (actLate_quiet (Quiet.refl _) ..)

theorem graceCheck_quiet {a0 s : State} (h : Quiet a0 s) : Quiet a0 (State.graceCheck s) := by
  unfold State.graceCheck
  with_reducible repeat' first
    | exact h | assumption | (intro) | apply ite_quiet | apply pair_quiet | apply evS_quiet | apply trip_quiet
    | apply cause_quiet | split | dsimp only
    | (apply Quiet.upd; first | exact h | assumption | (intro) | apply ite_quiet | apply pair_quiet | apply evS_quiet | apply trip_quiet | apply cause_quiet)

theorem graceCheck_kept {a0 s : State} (h : Kept a0 s) : Kept a0 (State.graceCheck s) :=
  h.quiet (graceCheck_quiet (Quiet.refl _) ..)

theorem haltCheck_quiet {a0 s : State} (h : Quiet a0 s) (l : List (Option PortDiag)) : Quiet a0 (State.haltCheck s l) := by
  unfold State.haltCheck
  with_reducible repeat' first
    | exact h | assumption | (intro) | apply ite_quiet | apply pair_quiet | split | dsimp only | (apply Quiet.upd; exact h)

theorem haltCheck_kept {a0 s : State} (h : Kept a0 s) (l : List (Option PortDiag)) : Kept a0 (State.haltCheck s l) :=
  h.quiet (haltCheck_quiet (Quiet.refl _) ..)

theorem setHold_quiet {a0 s : State} (h : Quiet a0 s) (on : Bool) : Quiet a0 (State.setHold s on) := by
  unfold State.setHold
  with_reducible repeat' first
    | exact h | assumption | (intro) | apply ite_quiet | apply pair_quiet | apply wr_quiet | apply evS_quiet | split
    | dsimp only | (apply Quiet.upd; exact h)

theorem setHold_kept {a0 s : State} (h : Kept a0 s) (on : Bool) : Kept a0 (State.setHold s on) :=
  h.quiet (setHold_quiet (Quiet.refl _) ..)

theorem mirror_quiet {a0 s : State} (h : Quiet a0 s) : Quiet a0 s.mirror := by
  unfold State.mirror
  extract_lets
  exact foldl_quiet (fun u x hu => wr_quiet hu x.1 x.2) h

theorem mirror_kept {a0 s : State} (h : Kept a0 s) : Kept a0 (State.mirror s) :=
  h.quiet (mirror_quiet (Quiet.refl _) ..)

theorem publish_quiet {a0 s : State} (h : Quiet a0 s) : Quiet a0 (State.publish s) := by
  unfold State.publish
  with_reducible repeat' first
    | exact h | assumption | (intro) | apply ite_quiet | apply ite_quiet_fst | apply pair_quiet | apply sessionEnd_quiet
    | apply foldl_quiet | apply foldl_quiet_fst | apply foldl_quiet_snd | split | dsimp only | (apply Quiet.upd; exact h)

theorem publish_kept {a0 s : State} (h : Kept a0 s) : Kept a0 (State.publish s) :=
  h.quiet (publish_quiet (Quiet.refl _) ..)

theorem changeLog_quiet {a0 s : State} (h : Quiet a0 s) (kind : Nat) : Quiet a0 (State.changeLog s kind) := by
  unfold State.changeLog
  with_reducible repeat' first
    | exact h | assumption | (intro) | apply ite_quiet | apply pair_quiet | split | dsimp only | (apply Quiet.upd; exact h)

theorem changeLog_kept {a0 s : State} (h : Kept a0 s) (kind : Nat) : Kept a0 (State.changeLog s kind) :=
  h.quiet (changeLog_quiet (Quiet.refl _) ..)

theorem paramRefuse_quiet {a0 s : State} (h : Quiet a0 s) (code : Nat) (ofs : Nat) : Quiet a0 (State.paramRefuse s code ofs) := by
  unfold State.paramRefuse
  with_reducible repeat' first
    | exact h | assumption | (intro) | apply ite_quiet | apply pair_quiet | apply wr_quiet | apply evS_quiet | split
    | dsimp only | (apply Quiet.upd; exact h)

theorem paramRefuse_kept {a0 s : State} (h : Kept a0 s) (code : Nat) (ofs : Nat) : Kept a0 (State.paramRefuse s code ofs) :=
  h.quiet (paramRefuse_quiet (Quiet.refl _) ..)

theorem closeConns_quiet {a0 s : State} (h : Quiet a0 s) : Quiet a0 (State.closeConns s) := by
  unfold State.closeConns
  with_reducible repeat' first
    | exact h | assumption | (intro) | apply ite_quiet | apply ite_quiet_fst | apply pair_quiet | apply setConn_quiet
    | apply foldl_quiet

theorem closeConns_kept {a0 s : State} (h : Kept a0 s) : Kept a0 (State.closeConns s) :=
  h.quiet (closeConns_quiet (Quiet.refl _) ..)

theorem paramConfirm_quiet {a0 s : State} (h : Quiet a0 s) : Quiet a0 (State.paramConfirm s) := by
  unfold State.paramConfirm
  with_reducible repeat' first
    | exact h | assumption | (intro) | apply ite_quiet | apply pair_quiet | apply wr_quiet | apply evS_quiet
    | apply changeLog_quiet | apply closeConns_quiet | split | dsimp only | (apply Quiet.upd; exact h)

theorem paramConfirm_kept {a0 s : State} (h : Kept a0 s) : Kept a0 (State.paramConfirm s) :=
  h.quiet (paramConfirm_quiet (Quiet.refl _) ..)

theorem confirmPair_quiet {a0 s : State} (h : Quiet a0 s) : Quiet a0 (State.confirmPair s) := by
  unfold State.confirmPair
  with_reducible repeat' first
    | exact h | assumption | (intro) | apply ite_quiet | apply pair_quiet | apply paramConfirm_quiet | split | dsimp only
    | (apply Quiet.upd; exact h)

theorem confirmPair_kept {a0 s : State} (h : Kept a0 s) : Kept a0 (State.confirmPair s) :=
  h.quiet (confirmPair_quiet (Quiet.refl _) ..)

theorem rindOut_quiet {a0 s : State} (h : Quiet a0 s) : Quiet a0 (State.rindOut s) := by
  unfold State.rindOut
  with_reducible repeat' first
    | exact h | assumption | (intro) | apply ite_quiet | apply pair_quiet | apply driveSo_quiet | apply setHold_quiet
    | apply mirror_quiet | apply publish_quiet

theorem rindOut_kept {a0 s : State} (h : Kept a0 s) : Kept a0 (State.rindOut s) :=
  h.quiet (rindOut_quiet (Quiet.refl _) ..)

theorem rindBegin_quiet {a0 s : State} (h : Quiet a0 s) (x : RindIn) : Quiet a0 (State.rindBegin s x) := by
  unfold State.rindBegin
  with_reducible repeat' first
    | exact h | assumption | (intro) | apply ite_quiet | apply pair_quiet | apply waitTill_quiet | split | dsimp only
    | (apply Quiet.upd; first | exact h | assumption | (intro) | apply ite_quiet | apply pair_quiet | apply waitTill_quiet)

theorem rindBegin_kept {a0 s : State} (h : Kept a0 s) (x : RindIn) : Kept a0 (State.rindBegin s x) :=
  h.quiet (rindBegin_quiet (Quiet.refl _) ..)

theorem rindPairs_quiet {a0 s : State} (h : Quiet a0 s) (x : RindIn) : Quiet a0 (State.rindPairs s x).1 := by
  unfold State.rindPairs
  with_reducible repeat' first
    | exact h | assumption | (intro) | apply ite_quiet | apply ite_quiet_fst | apply pair_quiet | apply scanTerms_quiet
    | apply scanPair_quiet | apply foldl_quiet | apply foldl_quiet_fst

theorem rindPairs_quiet_eq {a0 s s1 : State} {b0} {x : RindIn} (h : Quiet a0 s) (hE : State.rindPairs s x = (s1, b0)) : Quiet a0 s1 := by
  have := rindPairs_quiet h x 
  rw [hE] at this
  exact this

theorem rindPairs_kept {a0 s : State} (h : Kept a0 s) (x : RindIn) : Kept a0 (State.rindPairs s x).1 :=
  h.quiet (rindPairs_quiet (Quiet.refl _) ..)

theorem rindPairs_kept_eq {a0 s s1 : State} {b0} {x : RindIn} (h : Kept a0 s) (hE : State.rindPairs s x = (s1, b0)) : Kept a0 s1 :=
  h.quiet (rindPairs_quiet_eq (Quiet.refl _) hE)

theorem rindWatch_quiet {a0 s : State} (h : Quiet a0 s) (x : RindIn) : Quiet a0 (s.rindWatch x) := by
  unfold State.rindWatch
  extract_lets s4 m s5 c s6 s7 s8 s9 s10
  have h4 : Quiet a0 s4 := foldl_quiet (fun u i hu => pairTrips_quiet hu i) h
  have h5 : Quiet a0 s5 := ite_quiet h4 (condition_quiet h4 _ _ _ _ _ _ (fun u hu => tripScope_quiet hu ..))
  have h6 : Quiet a0 s6 := foldl_quiet (fun u p hu => by
    split
    · exact portSilent_quiet hu p
    · exact ite_quiet (portSilent_quiet hu p) (portCycle_quiet hu ..)) h5
  have h7 : Quiet a0 s7 := foldl_quiet (fun u k hu => convCycle_quiet hu ..) h6
  have h8 : Quiet a0 s8 := foldl_quiet (fun u y hu => axisCycle_quiet hu ..) h7
  have h9 : Quiet a0 s9 := foldl_quiet (fun u y hu => tempCycle_quiet hu ..) h8
  have h10 : Quiet a0 s10 := condition_quiet h9 _ _ _ _ _ _ (fun u hu => trip_quiet hu ..)
  exact foldl_quiet (fun u i hu => ite_quiet (cause_quiet hu ..) hu) h10

theorem rindWatch_kept {a0 s : State} (h : Kept a0 s) (x : RindIn) : Kept a0 (State.rindWatch s x) :=
  h.quiet (rindWatch_quiet (Quiet.refl _) ..)

theorem rindDecide_quiet {a0 s : State} (h : Quiet a0 s) (x : RindIn) (ack : Bool) (short : Bool) : Quiet a0 (State.rindDecide s x ack short) := by
  unfold State.rindDecide
  with_reducible repeat' first
    | exact h | assumption | (intro) | apply ite_quiet | apply ite_quiet_fst | apply pair_quiet | apply cause_quiet
    | apply edmCycle_quiet | apply rindFault_quiet | apply acknowledge_quiet | apply actLate_quiet | apply graceCheck_quiet
    | apply haltCheck_quiet | apply confirmPair_quiet | apply rindOut_quiet | apply foldl_quiet

theorem rindDecide_kept {a0 s : State} (h : Kept a0 s) (x : RindIn) (ack : Bool) (short : Bool) : Kept a0 (State.rindDecide s x ack short) :=
  h.quiet (rindDecide_quiet (Quiet.refl _) ..)

theorem rindCycle_quiet {a0 s : State} (h : Quiet a0 s) (x : RindIn) : Quiet a0 (State.rindCycle s x) := by
  unfold State.rindCycle
  with_reducible repeat' first
    | exact h | assumption | (intro) | apply ite_quiet | apply pair_quiet | apply rindFault_quiet | apply readbackOff_quiet
    | apply rindBegin_quiet | apply rindPairs_quiet | apply rindWatch_quiet | apply rindDecide_quiet
    | exact readbackOff_quiet_eq (by assumption) (by assumption) | exact rindPairs_quiet_eq (by assumption) (by assumption)
    | split

theorem rindCycle_kept {a0 s : State} (h : Kept a0 s) (x : RindIn) : Kept a0 (State.rindCycle s x) :=
  h.quiet (rindCycle_quiet (Quiet.refl _) ..)

theorem connCan_quiet {a0 s : State} (h : Quiet a0 s) (c : Nat) (bytes : List Nat) : Quiet a0 (State.connCan s c bytes) := by
  unfold State.connCan
  with_reducible repeat' first
    | exact h | assumption | (intro) | apply ite_quiet | apply pair_quiet | apply modCan_quiet | apply canFill_quiet
    | apply canWithdrawAll_quiet

theorem connCan_kept {a0 s : State} (h : Kept a0 s) (c : Nat) (bytes : List Nat) : Kept a0 (State.connCan s c bytes) :=
  h.quiet (connCan_quiet (Quiet.refl _) ..)

theorem connSend_quiet {a0 s : State} (h : Quiet a0 s) (c : Nat) : Quiet a0 (State.connSend s c) := by
  unfold State.connSend
  with_reducible repeat' first
    | exact h | assumption | (intro) | apply ite_quiet | apply pair_quiet | apply fresh_quiet | apply send_quiet
    | apply setConn_quiet | apply evS_quiet | apply connCan_quiet

theorem connSend_kept {a0 s : State} (h : Kept a0 s) (c : Nat) : Kept a0 (State.connSend s c) :=
  h.quiet (connSend_quiet (Quiet.refl _) ..)

theorem connFault_quiet {a0 s : State} (h : Quiet a0 s) (c : Nat) (check : Nat) : Quiet a0 (State.connFault s c check) := by
  unfold State.connFault
  with_reducible repeat' first
    | exact h | assumption | (intro) | apply ite_quiet | apply pair_quiet | apply check_quiet | apply setConn_quiet
    | apply evS_quiet | apply tripScope_quiet | exact check_quiet_eq (by assumption) (by assumption) | split | dsimp only
    | (apply Quiet.upd; first | exact h | assumption | (intro) | apply ite_quiet | apply pair_quiet | apply check_quiet | apply setConn_quiet | apply evS_quiet)

theorem connFault_kept {a0 s : State} (h : Kept a0 s) (c : Nat) (check : Nat) : Kept a0 (State.connFault s c check) :=
  h.quiet (connFault_quiet (Quiet.refl _) ..)

theorem peerFrame_quiet {a0 s : State} (h : Quiet a0 s) (payload : List Nat) : Quiet a0 (State.peerFrame s payload) := by
  unfold State.peerFrame
  with_reducible repeat' first
    | exact h | assumption | (intro) | apply ite_quiet | apply pair_quiet | split | dsimp only | (apply Quiet.upd; exact h)

theorem peerFrame_kept {a0 s : State} (h : Kept a0 s) (payload : List Nat) : Kept a0 (State.peerFrame s payload) :=
  h.quiet (peerFrame_quiet (Quiet.refl _) ..)

theorem connReceive_quiet {a0 s : State} (h : Quiet a0 s) (c : Nat) (b : List Nat) : Quiet a0 (State.connReceive s c b) := by
  unfold State.connReceive
  with_reducible repeat' first
    | exact h | assumption | (intro) | apply ite_quiet | apply pair_quiet | apply setConn_quiet | apply evS_quiet
    | apply driveSo_quiet | apply acknowledge_quiet | apply mirror_quiet | apply connFault_quiet | apply peerFrame_quiet

theorem connReceive_kept {a0 s : State} (h : Kept a0 s) (c : Nat) (b : List Nat) : Kept a0 (State.connReceive s c b) :=
  h.quiet (connReceive_quiet (Quiet.refl _) ..)

end Sys2Proof.Laws
end

