-- ==== Sys2Proof/Laws/QLoadSwitch.lean ====
section
/-!
SUPPORT. Machine/LoadSwitch.lean leaves grade, queue and mode alone and keeps register file and event log sound.
-/
namespace Sys2Proof.Laws

open Sys2Proof.Machine

variable {a0 : State}

theorem showLsw_quiet {a0 s : State} (h : Quiet a0 s) (n : Nat) : Quiet a0 (State.showLsw s n) := by
  unfold State.showLsw
  with_reducible repeat' first
    | exact h | assumption | (intro) | apply ite_quiet | apply pair_quiet | apply wr_quiet | apply wrBit_quiet

theorem showLsw_kept {a0 s : State} (h : Kept a0 s) (n : Nat) : Kept a0 (State.showLsw s n) :=
  h.quiet (showLsw_quiet (Quiet.refl _) ..)

theorem setLsw_quiet {a0 s : State} (h : Quiet a0 s) (n : Nat) (x : Lsw) : Quiet a0 (State.setLsw s n x) := by
  unfold State.setLsw
  with_reducible repeat' first
    | exact h | assumption | (intro) | apply ite_quiet | apply pair_quiet | apply showLsw_quiet | split | dsimp only
    | (apply Quiet.upd; exact h)

theorem setLsw_kept {a0 s : State} (h : Kept a0 s) (n : Nat) (x : Lsw) : Kept a0 (State.setLsw s n x) :=
  h.quiet (setLsw_quiet (Quiet.refl _) ..)

theorem driveLsw_quiet {a0 s : State} (h : Quiet a0 s) (n : Nat) : Quiet a0 (State.driveLsw s n) := by
  unfold State.driveLsw
  with_reducible repeat' first
    | exact h | assumption | (intro) | apply ite_quiet | apply pair_quiet | apply showLsw_quiet | apply setLsw_quiet

theorem driveLsw_kept {a0 s : State} (h : Kept a0 s) (n : Nat) : Kept a0 (State.driveLsw s n) :=
  h.quiet (driveLsw_quiet (Quiet.refl _) ..)

theorem driveAll_quiet {a0 s : State} (h : Quiet a0 s) : Quiet a0 (State.driveAll s) := by
  unfold State.driveAll
  with_reducible repeat' first
    | exact h | assumption | (intro) | apply ite_quiet | apply ite_quiet_fst | apply pair_quiet | apply driveLsw_quiet
    | apply foldl_quiet

theorem driveAll_kept {a0 s : State} (h : Kept a0 s) : Kept a0 (State.driveAll s) :=
  h.quiet (driveAll_quiet (Quiet.refl _) ..)

theorem setLsbOn_quiet {a0 s : State} (h : Quiet a0 s) (v : Nat) : Quiet a0 (State.setLsbOn s v) := by
  unfold State.setLsbOn
  with_reducible repeat' first
    | exact h | assumption | (intro) | apply ite_quiet | apply ite_quiet_fst | apply pair_quiet | apply wr_quiet
    | apply setLsw_quiet | apply driveLsw_quiet | apply foldl_quiet

theorem setLsbOn_kept {a0 s : State} (h : Kept a0 s) (v : Nat) : Kept a0 (State.setLsbOn s v) :=
  h.quiet (setLsbOn_quiet (Quiet.refl _) ..)

theorem hostLsbOn_quiet {a0 s : State} (h : Quiet a0 s) (v : Nat) : Quiet a0 (State.hostLsbOn s v) := by
  unfold State.hostLsbOn
  with_reducible repeat' first
    | exact h | assumption | (intro) | apply ite_quiet | apply pair_quiet | apply shadow_quiet | apply setLsbOn_quiet

theorem hostLsbOn_kept {a0 s : State} (h : Kept a0 s) (v : Nat) : Kept a0 (State.hostLsbOn s v) :=
  h.quiet (hostLsbOn_quiet (Quiet.refl _) ..)

theorem tripLsw_quiet {a0 s : State} (h : Quiet a0 s) (n : Nat) (cause : Nat) (paused : Bool) : Quiet a0 (State.tripLsw s n cause paused) := by
  unfold State.tripLsw
  with_reducible repeat' first
    | exact h | assumption | (intro) | apply ite_quiet | apply pair_quiet | apply bump_quiet | apply ev_quiet
    | apply run_quiet | apply cause_quiet | apply setLsw_quiet

theorem tripLsw_kept {a0 s : State} (h : Kept a0 s) (n : Nat) (cause : Nat) (paused : Bool) : Kept a0 (State.tripLsw s n cause paused) :=
  h.quiet (tripLsw_quiet (Quiet.refl _) ..)

theorem clearUsed_quiet {a0 s : State} (h : Quiet a0 s) (n : Nat) : Quiet a0 (State.clearUsed s n) := by
  unfold State.clearUsed
  with_reducible repeat' first | exact h | assumption | (intro) | apply ite_quiet | apply pair_quiet | apply setLsw_quiet

theorem clearUsed_kept {a0 s : State} (h : Kept a0 s) (n : Nat) : Kept a0 (State.clearUsed s n) :=
  h.quiet (clearUsed_quiet (Quiet.refl _) ..)

theorem endInrush_quiet {a0 s : State} (h : Quiet a0 s) (n : Nat) : Quiet a0 (State.endInrush s n) := by
  unfold State.endInrush
  with_reducible repeat' first | exact h | assumption | (intro) | apply ite_quiet | apply pair_quiet | apply setLsw_quiet

theorem endInrush_kept {a0 s : State} (h : Kept a0 s) (n : Nat) : Kept a0 (State.endInrush s n) :=
  h.quiet (endInrush_quiet (Quiet.refl _) ..)

theorem unlockLsb_quiet {a0 s : State} (h : Quiet a0 s) (v : Nat) : Quiet a0 (State.unlockLsb s v) := by
  unfold State.unlockLsb
  with_reducible repeat' first
    | exact h | assumption | (intro) | apply ite_quiet | apply ite_quiet_fst | apply pair_quiet | apply ev_quiet
    | apply setLsw_quiet | apply driveLsw_quiet | apply foldl_quiet

theorem unlockLsb_kept {a0 s : State} (h : Kept a0 s) (v : Nat) : Kept a0 (State.unlockLsb s v) :=
  h.quiet (unlockLsb_quiet (Quiet.refl _) ..)

theorem clearLsbCounts_quiet {a0 s : State} (h : Quiet a0 s) : Quiet a0 (State.clearLsbCounts s) := by
  unfold State.clearLsbCounts
  with_reducible repeat' first
    | exact h | assumption | (intro) | apply ite_quiet | apply ite_quiet_fst | apply pair_quiet | apply wr_quiet
    | apply foldl_quiet

theorem clearLsbCounts_kept {a0 s : State} (h : Kept a0 s) : Kept a0 (State.clearLsbCounts s) :=
  h.quiet (clearLsbCounts_quiet (Quiet.refl _) ..)

theorem thermLsw_quiet {a0 s : State} (h : Quiet a0 s) (n : Nat) : Quiet a0 (State.thermLsw s n) := by
  unfold State.thermLsw
  with_reducible repeat' first
    | exact h | assumption | (intro) | apply ite_quiet | apply pair_quiet | apply ev_quiet | apply setLsw_quiet
    | apply tripLsw_quiet

theorem thermLsw_kept {a0 s : State} (h : Kept a0 s) (n : Nat) : Kept a0 (State.thermLsw s n) :=
  h.quiet (thermLsw_quiet (Quiet.refl _) ..)

theorem thermEnd_quiet {a0 s : State} (h : Quiet a0 s) (n : Nat) : Quiet a0 (State.thermEnd s n) := by
  unfold State.thermEnd
  with_reducible repeat' first
    | exact h | assumption | (intro) | apply ite_quiet | apply pair_quiet | apply ev_quiet | apply setLsw_quiet
    | apply driveLsw_quiet

theorem thermEnd_kept {a0 s : State} (h : Kept a0 s) (n : Nat) : Kept a0 (State.thermEnd s n) :=
  h.quiet (thermEnd_quiet (Quiet.refl _) ..)

theorem retryLsw_quiet {a0 s : State} (h : Quiet a0 s) (n : Nat) : Quiet a0 (State.retryLsw s n) := by
  unfold State.retryLsw
  with_reducible repeat' first
    | exact h | assumption | (intro) | apply ite_quiet | apply pair_quiet | apply waitTill_quiet | apply ev_quiet
    | apply setLsw_quiet | apply driveLsw_quiet | split

theorem retryLsw_kept {a0 s : State} (h : Kept a0 s) (n : Nat) : Kept a0 (State.retryLsw s n) :=
  h.quiet (retryLsw_quiet (Quiet.refl _) ..)

theorem vswLow_quiet {a0 s : State} (h : Quiet a0 s) (mv : Nat) : Quiet a0 (State.vswLow s mv) := by
  unfold State.vswLow
  with_reducible repeat' first
    | exact h | assumption | (intro) | apply ite_quiet | apply ite_quiet_fst | apply pair_quiet | apply wr_quiet
    | apply ev_quiet | apply setLsw_quiet | apply foldl_quiet | apply foldl_quiet_fst | apply foldl_quiet_snd | split
    | dsimp only | (apply Quiet.upd; exact h)

theorem vswLow_kept {a0 s : State} (h : Kept a0 s) (mv : Nat) : Kept a0 (State.vswLow s mv) :=
  h.quiet (vswLow_quiet (Quiet.refl _) ..)

theorem vswOff_quiet {a0 s : State} (h : Quiet a0 s) : Quiet a0 (State.vswOff s) := by
  unfold State.vswOff
  with_reducible repeat' first
    | exact h | assumption | (intro) | apply ite_quiet | apply pair_quiet | apply wr_quiet | apply waitTill_quiet
    | apply ev_quiet | apply driveAll_quiet | split

theorem vswOff_kept {a0 s : State} (h : Kept a0 s) : Kept a0 (State.vswOff s) :=
  h.quiet (vswOff_quiet (Quiet.refl _) ..)

theorem vswBack_quiet {a0 s : State} (h : Quiet a0 s) (mv : Nat) : Quiet a0 (State.vswBack s mv) := by
  unfold State.vswBack
  with_reducible repeat' first
    | exact h | assumption | (intro) | apply ite_quiet | apply ite_quiet_fst | apply pair_quiet | apply wr_quiet
    | apply ev_quiet | apply setLsw_quiet | apply driveLsw_quiet | apply foldl_quiet | apply foldl_quiet_fst
    | apply foldl_quiet_snd | split | dsimp only | (apply Quiet.upd; exact h)

theorem vswBack_kept {a0 s : State} (h : Kept a0 s) (mv : Nat) : Kept a0 (State.vswBack s mv) :=
  h.quiet (vswBack_quiet (Quiet.refl _) ..)

end Sys2Proof.Laws
end

