-- ==== Sys2Proof/Laws/QThermal.lean ====
section
/-!
SUPPORT. Machine/Thermal.lean leaves grade, queue and mode alone and keeps register file and event log sound.
-/
namespace Sys2Proof.Laws

open Sys2Proof.Machine

variable {a0 : State}

theorem setChan_quiet {a0 s : State} (h : Quiet a0 s) (c : Nat) (x : Chan) : Quiet a0 (State.setChan s c x) := by
  unfold State.setChan
  with_reducible repeat' first
    | exact h | assumption | (intro) | apply ite_quiet | apply pair_quiet | split | dsimp only | (apply Quiet.upd; exact h)

theorem setChan_kept {a0 s : State} (h : Kept a0 s) (c : Nat) (x : Chan) : Kept a0 (State.setChan s c x) :=
  h.quiet (setChan_quiet (Quiet.refl _) ..)

theorem showChan_quiet {a0 s : State} (h : Quiet a0 s) (c : Nat) : Quiet a0 (State.showChan s c) := by
  unfold State.showChan
  with_reducible repeat' first | exact h | assumption | (intro) | apply ite_quiet | apply pair_quiet | apply wr_quiet

theorem showChan_kept {a0 s : State} (h : Kept a0 s) (c : Nat) : Kept a0 (State.showChan s c) :=
  h.quiet (showChan_quiet (Quiet.refl _) ..)

theorem updateThrottle_quiet {a0 s : State} (h : Quiet a0 s) (target : Nat) : Quiet a0 (State.updateThrottle s target) := by
  unfold State.updateThrottle
  with_reducible repeat' first
    | exact h | assumption | (intro) | apply ite_quiet | apply pair_quiet | apply wr_quiet | apply start_quiet
    | apply setEntry_quiet | split

theorem updateThrottle_kept {a0 s : State} (h : Kept a0 s) (target : Nat) : Kept a0 (State.updateThrottle s target) :=
  h.quiet (updateThrottle_quiet (Quiet.refl _) ..)

theorem promote96_quiet {a0 s : State} (h : Quiet a0 s) : Quiet a0 (State.promote96 s) := by
  unfold State.promote96
  with_reducible repeat' first
    | exact h | assumption | (intro) | apply ite_quiet | apply ite_quiet_fst | apply pair_quiet | apply wr_quiet
    | apply ev_quiet | apply showChan_quiet | apply foldl_quiet | apply foldl_quiet_fst | apply foldl_quiet_snd | split
    | dsimp only | (apply Quiet.upd; exact h)

theorem promote96_kept {a0 s : State} (h : Kept a0 s) : Kept a0 (State.promote96 s) :=
  h.quiet (promote96_quiet (Quiet.refl _) ..)

theorem qualify_quiet {a0 s : State} (h : Quiet a0 s) (c : Nat) (v : Option Int) : Quiet a0 (State.qualify s c v) := by
  unfold State.qualify
  with_reducible repeat' first
    | exact h | assumption | (intro) | apply ite_quiet | apply pair_quiet | apply setChan_quiet | apply promote96_quiet
    | split

theorem qualify_kept {a0 s : State} (h : Kept a0 s) (c : Nat) (v : Option Int) : Kept a0 (State.qualify s c v) :=
  h.quiet (qualify_quiet (Quiet.refl _) ..)

theorem levels_quiet {a0 s : State} (h : Quiet a0 s) (c : Nat) (v : Int) : Quiet a0 (State.levels s c v) := by
  unfold State.levels
  with_reducible repeat' first
    | exact h | assumption | (intro) | apply ite_quiet | apply pair_quiet | apply ev_quiet | apply setChan_quiet
    | apply updateThrottle_quiet

theorem levels_kept {a0 s : State} (h : Kept a0 s) (c : Nat) (v : Int) : Kept a0 (State.levels s c v) :=
  h.quiet (levels_quiet (Quiet.refl _) ..)

theorem chanFault_quiet {a0 s : State} (h : Quiet a0 s) (c : Nat) (pin : Nat) : Quiet a0 (State.chanFault s c pin) := by
  unfold State.chanFault
  with_reducible repeat' first
    | exact h | assumption | (intro) | apply ite_quiet | apply pair_quiet | apply ev_quiet | apply setChan_quiet
    | apply updateThrottle_quiet | apply qualify_quiet

theorem chanFault_kept {a0 s : State} (h : Kept a0 s) (c : Nat) (pin : Nat) : Kept a0 (State.chanFault s c pin) :=
  h.quiet (chanFault_quiet (Quiet.refl _) ..)

theorem chanReading_quiet {a0 s : State} (h : Quiet a0 s) (c : Nat) (t : Int) (pin : Nat) : Quiet a0 (State.chanReading s c t pin) := by
  unfold State.chanReading
  with_reducible repeat' first
    | exact h | assumption | (intro) | apply ite_quiet | apply pair_quiet | apply ev_quiet | apply pressTemp_quiet
    | apply setChan_quiet | apply showChan_quiet | apply qualify_quiet | apply levels_quiet | apply chanFault_quiet | split
    | dsimp only

theorem chanReading_kept {a0 s : State} (h : Kept a0 s) (c : Nat) (t : Int) (pin : Nat) : Kept a0 (State.chanReading s c t pin) :=
  h.quiet (chanReading_quiet (Quiet.refl _) ..)

theorem refReading_quiet {a0 s : State} (h : Quiet a0 s) (g : Nat) (v : Int) : Quiet a0 (State.refReading s g v) := by
  unfold State.refReading
  with_reducible repeat' first
    | exact h | assumption | (intro) | apply ite_quiet | apply ite_quiet_fst | apply pair_quiet | apply wrBit_quiet
    | apply ev_quiet | apply pressTemp_quiet | apply showChan_quiet | apply chanFault_quiet | apply foldl_quiet
    | apply foldl_quiet_fst | apply foldl_quiet_snd | split | dsimp only | (apply Quiet.upd; exact h)

theorem refReading_kept {a0 s : State} (h : Kept a0 s) (g : Nat) (v : Int) : Kept a0 (State.refReading s g v) :=
  h.quiet (refReading_quiet (Quiet.refl _) ..)

theorem slowConversion_quiet {a0 s : State} (h : Quiet a0 s) (k : Nat) (value : Nat) (pin : Nat) : Quiet a0 (State.slowConversion s k value pin) := by
  unfold State.slowConversion
  with_reducible repeat' first
    | exact h | assumption | (intro) | apply ite_quiet | apply pair_quiet | apply wr_quiet | apply bumpWrap_quiet
    | apply chanReading_quiet | apply refReading_quiet | split | dsimp only
    | (apply Quiet.upd; first | exact h | assumption | (intro) | apply ite_quiet | apply pair_quiet | apply wr_quiet | apply bumpWrap_quiet | apply chanReading_quiet | apply refReading_quiet)

theorem slowConversion_kept {a0 s : State} (h : Kept a0 s) (k : Nat) (value : Nat) (pin : Nat) : Kept a0 (State.slowConversion s k value pin) :=
  h.quiet (slowConversion_quiet (Quiet.refl _) ..)

theorem slotWait_quiet {a0 s : State} (h : Quiet a0 s) : Quiet a0 (State.slotWait s) := by
  unfold State.slotWait
  with_reducible repeat' first
    | exact h | assumption | (intro) | apply ite_quiet | apply pair_quiet | apply waitTill_quiet | apply waitSite_quiet

theorem slotWait_kept {a0 s : State} (h : Kept a0 s) : Kept a0 (State.slotWait s) :=
  h.quiet (slotWait_quiet (Quiet.refl _) ..)

theorem hkaSlot_quiet {a0 s : State} (h : Quiet a0 s) (value : Nat) (pin : Nat) : Quiet a0 (State.hkaSlot s value pin) := by
  unfold State.hkaSlot
  with_reducible repeat' first
    | exact h | assumption | (intro) | apply ite_quiet | apply pair_quiet | apply chanReading_quiet
    | apply slowConversion_quiet | apply slotWait_quiet | split | dsimp only

theorem hkaSlot_kept {a0 s : State} (h : Kept a0 s) (value : Nat) (pin : Nat) : Kept a0 (State.hkaSlot s value pin) :=
  h.quiet (hkaSlot_quiet (Quiet.refl _) ..)

theorem thermalCheck_quiet {a0 s : State} (h : Quiet a0 s) : Quiet a0 (State.thermalCheck s) := by
  unfold State.thermalCheck
  with_reducible repeat' first
    | exact h | assumption | (intro) | apply ite_quiet | apply ite_quiet_fst | apply pair_quiet | apply ev_quiet
    | apply updateThrottle_quiet | apply foldl_quiet | apply foldl_quiet_fst | apply foldl_quiet_snd | split | dsimp only
    | (apply Quiet.upd; first | exact h | assumption | (intro) | apply ite_quiet | apply ite_quiet_fst | apply pair_quiet | apply ev_quiet | apply updateThrottle_quiet | apply foldl_quiet | apply foldl_quiet_fst)

theorem thermalCheck_kept {a0 s : State} (h : Kept a0 s) : Kept a0 (State.thermalCheck s) :=
  h.quiet (thermalCheck_quiet (Quiet.refl _) ..)

theorem dieReading_quiet {a0 s : State} (h : Quiet a0 s) (i : Nat) (t : Int) : Quiet a0 (State.dieReading s i t) := by
  unfold State.dieReading
  with_reducible repeat' first
    | exact h | assumption | (intro) | apply ite_quiet | apply pair_quiet | apply wrS_quiet | apply ev_quiet | split
    | dsimp only
    | (apply Quiet.upd; first | exact h | assumption | (intro) | apply ite_quiet | apply pair_quiet | apply wrS_quiet)

theorem dieReading_kept {a0 s : State} (h : Kept a0 s) (i : Nat) (t : Int) : Kept a0 (State.dieReading s i t) :=
  h.quiet (dieReading_quiet (Quiet.refl _) ..)

theorem clearDiePeaks_quiet {a0 s : State} (h : Quiet a0 s) : Quiet a0 (State.clearDiePeaks s) := by
  unfold State.clearDiePeaks
  with_reducible repeat' first
    | exact h | assumption | (intro) | apply ite_quiet | apply ite_quiet_fst | apply pair_quiet | apply wr_quiet
    | apply foldl_quiet

theorem clearDiePeaks_kept {a0 s : State} (h : Kept a0 s) : Kept a0 (State.clearDiePeaks s) :=
  h.quiet (clearDiePeaks_quiet (Quiet.refl _) ..)

theorem slowStart_quiet {a0 s : State} (h : Quiet a0 s) : Quiet a0 (State.slowStart s) := by
  unfold State.slowStart
  with_reducible repeat' first
    | exact h | assumption | (intro) | apply ite_quiet | apply pair_quiet | split | dsimp only | (apply Quiet.upd; exact h)

theorem slowStart_kept {a0 s : State} (h : Kept a0 s) : Kept a0 (State.slowStart s) :=
  h.quiet (slowStart_quiet (Quiet.refl _) ..)

end Sys2Proof.Laws
end

