-- ==== Sys2Proof/Laws/QReset.lean ====
section
/-!
SUPPORT. Machine/Reset.lean leaves grade, queue and mode alone and keeps register file and event log sound.
-/
namespace Sys2Proof.Laws

open Sys2Proof.Machine

variable {a0 : State}

theorem mainReset_kept {a0 s0 : State} (h : Kept a0 s0) : Kept a0 s0.mainReset := by
  unfold State.mainReset
  have hs : Kept a0 (if s0.glb.mode = .commission && s0.confirming then s0.paramRefuse 5 0 else s0) :=
    ite_kept (paramRefuse_kept h 5 0) h
  with_reducible
    apply wr_kept
    exact Kept.restart hs rfl

theorem goingDown_quiet {a0 s : State} (h : Quiet a0 s) (cause : Nat) : Quiet a0 (State.goingDown s cause) := by
  unfold State.goingDown
  with_reducible repeat' first | exact h | assumption | (intro) | apply ite_quiet | apply pair_quiet | apply yokeSend_quiet

theorem goingDown_kept {a0 s : State} (h : Kept a0 s) (cause : Nat) : Kept a0 (State.goingDown s cause) :=
  h.quiet (goingDown_quiet (Quiet.refl _) ..)

theorem rindDown_quiet {a0 s : State} (h : Quiet a0 s) : Quiet a0 (State.rindDown s) := by
  unfold State.rindDown
  with_reducible repeat' first
    | exact h | assumption | (intro) | apply ite_quiet | apply pair_quiet | apply wr_quiet | split | dsimp only
    | (apply Quiet.upd; exact h)

theorem rindDown_kept {a0 s : State} (h : Kept a0 s) : Kept a0 (State.rindDown s) :=
  h.quiet (rindDown_quiet (Quiet.refl _) ..)

theorem vaonLost_kept {a0 s : State} (h : Kept a0 s) : Kept a0 s.vaonLost :=
  ⟨h.grade, h.pending, fun _ => rfl, fun _ => rfl, h.now, fun _ => Bool.or_true _⟩

theorem turnRefresh_quiet {a0 s : State} (h : Quiet a0 s) : Quiet a0 (State.turnRefresh s) := by
  unfold State.turnRefresh
  with_reducible repeat' first
    | exact h | assumption | (intro) | apply ite_quiet | apply pair_quiet | split | dsimp only | (apply Quiet.upd; exact h)

theorem turnRefresh_kept {a0 s : State} (h : Kept a0 s) : Kept a0 (State.turnRefresh s) :=
  h.quiet (turnRefresh_quiet (Quiet.refl _) ..)

theorem vaonOff_kept {a0 s : State} (h : Kept a0 s) : Kept a0 s.vaonOff := by
  unfold State.vaonOff
  exact Kept.upd (vaonLost_kept (ite_kept (turnRefresh_kept h) h)) rfl

theorem showGood_quiet {a0 s : State} (h : Quiet a0 s) : Quiet a0 (State.showGood s) := by
  unfold State.showGood
  with_reducible repeat' first | exact h | assumption | (intro) | apply ite_quiet | apply pair_quiet | apply wr_quiet

theorem showGood_kept {a0 s : State} (h : Kept a0 s) : Kept a0 (State.showGood s) :=
  h.quiet (showGood_quiet (Quiet.refl _) ..)

theorem setGood_kept {a0 s : State} (h : Kept a0 s) (i : Nat) (on : Bool) : Kept a0 (State.setGood s i on) := by
  unfold State.setGood
  with_reducible repeat' first
    | exact h | assumption | contradiction | (intro) | apply ite_kept | apply pair_kept | apply showGood_kept
    | apply wrBit_kept | split | dsimp only | (refine Kept.upd ?_ rfl; exact h)

theorem violation_kept {a0 s : State} (h : Kept a0 s) (who : Nat) : Kept a0 (State.violation s who) := by
  unfold State.violation
  with_reducible repeat' first
    | exact h | assumption | contradiction | (intro) | apply ite_kept | apply pair_kept | apply mainReset_kept
    | apply driveAll_kept | apply setHold_kept | apply driveSo_kept | apply ev_kept | apply fresh_kept | apply wr_kept
    | exact fresh_kept_eq (by assumption) (by assumption) | split | dsimp only
    | (refine Kept.upd ?_ rfl; first | exact h | assumption | contradiction | (intro) | apply ite_kept | apply pair_kept | apply mainReset_kept | apply driveAll_kept | apply setHold_kept | apply driveSo_kept | apply ev_kept | apply fresh_kept)

theorem orderEnd_kept {a0 s : State} (h : Kept a0 s) : Kept a0 (State.orderEnd s) := by
  unfold State.orderEnd
  with_reducible repeat' first
    | exact h | assumption | contradiction | (intro) | apply ite_kept | apply pair_kept | apply driveAll_kept
    | apply wr_kept | split | dsimp only | (refine Kept.upd ?_ rfl; exact h)

theorem supplyAbove_kept {a0 s : State} (h : Kept a0 s) (i : Nat) (g : Nat) : Kept a0 (State.supplyAbove s i g) := by
  unfold State.supplyAbove
  with_reducible repeat' first
    | exact h | assumption | contradiction | (intro) | apply ite_kept | apply pair_kept | apply violation_kept | split
    | dsimp only | (refine Kept.upd ?_ rfl; exact h)

theorem supplyGood_kept {a0 s : State} (h : Kept a0 s) (i : Nat) (g : Nat) : Kept a0 (State.supplyGood s i g) := by
  unfold State.supplyGood
  with_reducible repeat' first
    | exact h | assumption | contradiction | (intro) | apply ite_kept | apply pair_kept | apply orderEnd_kept
    | apply setGood_kept | apply turnRefresh_kept | apply vaonLost_kept | split | dsimp only
    | (refine Kept.upd ?_ rfl; first | exact h | assumption | contradiction | (intro) | apply ite_kept | apply pair_kept | apply orderEnd_kept | apply setGood_kept)

theorem coreReset_kept {a0 s : State} (h : Kept a0 s) : Kept a0 (State.coreReset s) := by
  unfold State.coreReset
  with_reducible repeat' first
    | exact h | assumption | contradiction | (intro) | apply ite_kept | apply pair_kept | apply setGood_kept
    | apply mainReset_kept | apply ev_kept | apply wr_kept | split | dsimp only
    | (refine Kept.upd ?_ rfl; first | exact h | assumption | contradiction | (intro) | apply ite_kept | apply pair_kept | apply setGood_kept | apply mainReset_kept | apply ev_kept | apply wr_kept)

theorem supplyLow_kept {a0 s : State} (h : Kept a0 s) (i : Nat) (g : Nat) : Kept a0 (State.supplyLow s i g) := by
  unfold State.supplyLow
  with_reducible repeat' first
    | exact h | assumption | contradiction | (intro) | apply ite_kept | apply pair_kept | apply violation_kept
    | apply setGood_kept | apply rindDown_kept | apply mainReset_kept | apply driveAll_kept

theorem supplyOff_kept {a0 s : State} (h : Kept a0 s) (i : Nat) : Kept a0 (State.supplyOff s i) := by
  unfold State.supplyOff
  with_reducible repeat' first
    | exact h | assumption | contradiction | (intro) | apply ite_kept | apply pair_kept | apply coreReset_kept
    | apply setGood_kept | apply vaonOff_kept | apply mainReset_kept | split | dsimp only
    | (refine Kept.upd ?_ rfl; first | exact h | assumption | contradiction | (intro) | apply ite_kept | apply pair_kept | apply coreReset_kept | apply setGood_kept | apply vaonOff_kept | apply mainReset_kept)

theorem swrst_kept {a0 s : State} (h : Kept a0 s) (v : Nat) : Kept a0 (State.swrst s v) := by
  unfold State.swrst
  with_reducible repeat' first
    | exact h | assumption | contradiction | (intro) | apply ite_kept | apply pair_kept | apply goingDown_kept
    | apply mainReset_kept | apply refuseMode_kept | apply fresh_kept | apply wr_kept

theorem regs_foldl {l : List (Nat × BitVec 32)} {r : Tab (BitVec 32)} (h : tabWf regReset r = true) :
    tabWf regReset (l.foldl (fun r (p : Nat × BitVec 32) => tset regReset r p.1 p.2) r) = true := by
  induction l generalizing r with
  | nil => exact h
  | cons x l ih => exact ih (tabWf_tset x.1 x.2 h)

theorem loadSealed_kept {a0 s : State} (h : Kept a0 s) : Kept a0 s.loadSealed := by
  unfold State.loadSealed
  split
  · exact h
  · exact ⟨h.grade, h.pending, fun x => regs_foldl (h.regs x), h.log, h.now, h.mode⟩

theorem bootLoad_kept {a0 s : State} (h : Kept a0 s) (tries bits : Nat) (meas : List Nat) (bad : List MramPart) :
    Kept a0 (s.bootLoad tries bits meas bad) := by
  unfold State.bootLoad
  have h0 := foldl_kept (fun u f hu => wr_kept hu f 1) (loadMram_kept h bad)
    (l := [CKG_STAT.MAIN_LOCK, CKG_STAT.SER_CAB_LOCK, CKG_STAT.MEM_LOCK, CKG_STAT.REF_OK])
  with_reducible
    apply rslRecover_kept
    apply mteResume_kept
    apply wr_kept
    apply wr_kept
    apply loadSealed_kept
    apply bootRoot_kept
  exact ite_kept h0 (wr_kept h0 ..)

theorem bootLanes_kept {a0 s : State} (h : Kept a0 s) : Kept a0 (State.bootLanes s) := by
  unfold State.bootLanes
  with_reducible repeat' first
    | exact h | assumption | contradiction | (intro) | apply ite_kept | apply ite_kept_fst | apply pair_kept
    | apply releaseDreak_kept | apply modLane_kept | apply foldl_kept | split | dsimp only
    | (refine Kept.upd ?_ rfl; exact h)

theorem logKept_kept {a0 s : State} (h : Kept a0 s) : Kept a0 s.logKept := by
  unfold State.logKept
  exact foldl_kept (fun u e hu => pushEvent_kept hu e) (Kept.keep h)

theorem bootEnd_kept {a0 s : State} (h : Kept a0 s) : Kept a0 (State.bootEnd s) := by
  unfold State.bootEnd
  with_reducible repeat' first
    | exact h | assumption | contradiction | (intro) | apply ite_kept | apply pair_kept | apply logKept_kept
    | apply cause_kept | apply canRoles_kept | apply ev_kept | apply wr_kept | split | dsimp only
    | (refine Kept.upd ?_ rfl; exact h)

theorem boot_kept {a0 s : State} (h : Kept a0 s) (tries : Nat) (bits : Nat) (meas : List Nat) (bad : List MramPart) : Kept a0 (State.boot s tries bits meas bad) := by
  unfold State.boot
  with_reducible repeat' first
    | exact h | assumption | contradiction | (intro) | apply ite_kept | apply pair_kept | apply bootEnd_kept
    | apply bootLanes_kept | apply bootLoad_kept

theorem wake_kept {a0 s : State} (h : Kept a0 s) (bit : Nat) : Kept a0 (s.wake bit) := by
  unfold State.wake
  extract_lets e s1
  have h1 : Kept a0 s1 := wrBit_kept h ..
  exact ⟨h1.grade, h1.pending, h1.regs, h1.log, h1.now, h1.mode⟩

theorem refFault_kept {a0 s : State} (h : Kept a0 s) (cause : Nat) : Kept a0 (State.refFault s cause) := by
  unfold State.refFault
  with_reducible repeat' first
    | exact h | assumption | contradiction | (intro) | apply ite_kept | apply pair_kept | apply goingDown_kept
    | apply mainReset_kept | apply cause_kept | split | dsimp only
    | (refine Kept.upd ?_ rfl; first | exact h | assumption | contradiction | (intro) | apply ite_kept | apply pair_kept | apply goingDown_kept | apply mainReset_kept)

theorem dieTripped_kept {a0 s : State} (h : Kept a0 s) (i : Nat) (t : Int) : Kept a0 (State.dieTripped s i t) := by
  unfold State.dieTripped
  with_reducible repeat' first
    | exact h | assumption | contradiction | (intro) | apply ite_kept | apply pair_kept | apply goingDown_kept
    | apply mainReset_kept | apply wr_kept | split | dsimp only
    | (refine Kept.upd ?_ rfl; first | exact h | assumption | contradiction | (intro) | apply ite_kept | apply pair_kept | apply goingDown_kept | apply mainReset_kept | apply wr_kept)

theorem dieRelease_kept {a0 s : State} (h : Kept a0 s) (t0 : Nat) (peak : Int) : Kept a0 (State.dieRelease s t0 peak) := by
  unfold State.dieRelease
  with_reducible repeat' first
    | exact h | assumption | contradiction | (intro) | apply ite_kept | apply pair_kept | apply peak_kept | apply ev_kept
    | split | dsimp only
    | (refine Kept.upd ?_ rfl; first | exact h | assumption | contradiction | (intro) | apply ite_kept | apply pair_kept | apply peak_kept | apply ev_kept)

end Sys2Proof.Laws
end

