-- ==== Sys2Proof/Laws/QReplica.lean ====
section
/-!
SUPPORT. Machine/Replica.lean leaves grade, queue and mode alone and keeps register file and event log sound.
-/
namespace Sys2Proof.Laws

open Sys2Proof.Machine

variable {a0 : State}

theorem takeItem_quiet {a0 s : State} (h : Quiet a0 s) (x : RepItem) : Quiet a0 (s.takeItem x) := by
  unfold State.takeItem
  split
  · exact ite_quiet (setEntry_quiet h ..) h
  · exact Quiet.upd h
  · exact Quiet.upd h
  · exact ite_quiet h (modPort_quiet (Quiet.upd (foldl_quiet (fun u w hu => wr_quiet hu ..) h)) ..)
  · exact ite_quiet (setHead_quiet h ..) h
  · refine ite_quiet h (ite_quiet ?_ (ite_quiet (Quiet.upd h) (Quiet.upd h)))
    exact Quiet.upd (sessionReading_quiet (Quiet.upd h) _ 1)
  · exact ite_quiet (setStr_quiet h ..) h
  · exact ite_quiet (modCv_quiet (wr_quiet h ..) ..) h
  · exact Quiet.upd (setLsbOn_quiet h _)

theorem takeItem_kept {a0 s : State} (h : Kept a0 s) (x : RepItem) : Kept a0 (State.takeItem s x) :=
  h.quiet (takeItem_quiet (Quiet.refl _) ..)

theorem takeDelta_quiet {a0 s : State} (h : Quiet a0 s) (d : List RepItem) : Quiet a0 (State.takeDelta s d) := by
  unfold State.takeDelta
  with_reducible repeat' first
    | exact h | assumption | (intro) | apply ite_quiet | apply ite_quiet_fst | apply pair_quiet | apply takeItem_quiet
    | apply foldl_quiet | apply foldl_quiet_fst | apply foldl_quiet_snd | split | dsimp only | (apply Quiet.upd; exact h)

theorem takeDelta_kept {a0 s : State} (h : Kept a0 s) (d : List RepItem) : Kept a0 (State.takeDelta s d) :=
  h.quiet (takeDelta_quiet (Quiet.refl _) ..)

theorem takeCopy_quiet {a0 s : State} (h : Quiet a0 s) (l : List RepItem) : Quiet a0 (State.takeCopy s l) := by
  unfold State.takeCopy
  with_reducible repeat' first
    | exact h | assumption | (intro) | apply ite_quiet | apply pair_quiet | apply takeDelta_quiet | split | dsimp only
    | (apply Quiet.upd; exact h)

theorem takeCopy_kept {a0 s : State} (h : Kept a0 s) (l : List RepItem) : Kept a0 (State.takeCopy s l) :=
  h.quiet (takeCopy_quiet (Quiet.refl _) ..)

end Sys2Proof.Laws
end

