-- ==== Sys2Proof/Laws/QModes.lean ====
section
/-!
SUPPORT. Machine/Modes.lean leaves grade, queue and mode alone and keeps register file and event log sound.
-/
namespace Sys2Proof.Laws

open Sys2Proof.Machine

variable {a0 : State}

theorem seal_kept {a0 s : State} (h : Kept a0 s) : Kept a0 (State.seal s) := by
  unfold State.seal
  with_reducible repeat' first
    | exact h | assumption | contradiction | (intro) | apply ite_kept | apply pair_kept | apply changeLog_kept
    | apply seeSeal_kept | apply sealCal_kept | apply holdDreak_kept | apply releaseDreak_kept | split | dsimp only
    | (refine Kept.upd ?_ rfl; exact h)

theorem raiseEpoch_quiet {a0 s : State} (h : Quiet a0 s) : Quiet a0 (State.raiseEpoch s) := by
  unfold State.raiseEpoch
  with_reducible repeat' first | exact h | assumption | (intro) | apply ite_quiet | apply pair_quiet | apply wr_quiet

theorem raiseEpoch_kept {a0 s : State} (h : Kept a0 s) : Kept a0 (State.raiseEpoch s) :=
  h.quiet (raiseEpoch_quiet (Quiet.refl _) ..)

theorem shadowClaim_quiet {a0 s : State} (h : Quiet a0 s) : Quiet a0 (State.shadowClaim s) := by
  unfold State.shadowClaim
  with_reducible repeat' first | exact h | assumption | (intro) | apply ite_quiet | apply pair_quiet | apply wr_quiet

theorem shadowClaim_kept {a0 s : State} (h : Kept a0 s) : Kept a0 (State.shadowClaim s) :=
  h.quiet (shadowClaim_quiet (Quiet.refl _) ..)

theorem enterSync_quiet {a0 s : State} (h : Quiet a0 s) : Quiet a0 (State.enterSync s) := by
  unfold State.enterSync
  with_reducible repeat' first
    | exact h | assumption | (intro) | apply ite_quiet | apply pair_quiet | apply wr_quiet | split | dsimp only
    | (apply Quiet.upd; exact h)

theorem enterSync_kept {a0 s : State} (h : Kept a0 s) : Kept a0 (State.enterSync s) :=
  h.quiet (enterSync_quiet (Quiet.refl _) ..)

theorem endSessions_quiet {a0 s : State} (h : Quiet a0 s) : Quiet a0 (State.endSessions s) := by
  unfold State.endSessions
  with_reducible repeat' first
    | exact h | assumption | (intro) | apply ite_quiet | apply ite_quiet_fst | apply pair_quiet | apply guardExit_quiet
    | apply foldl_quiet

theorem endSessions_kept {a0 s : State} (h : Kept a0 s) : Kept a0 (State.endSessions s) :=
  h.quiet (endSessions_quiet (Quiet.refl _) ..)

theorem onEntry_kept {a0 s : State} (h : Kept a0 s) (prev : Mode) (new : Mode) : Kept a0 (State.onEntry s prev new) := by
  unfold State.onEntry
  with_reducible repeat' first
    | exact h | assumption | contradiction | (intro) | apply ite_kept | apply ite_kept_fst | apply pair_kept
    | apply endSessions_kept | apply enterSync_kept | apply shadowClaim_kept | apply raiseEpoch_kept | apply changeLog_kept
    | apply seeEnter_kept | apply authAll_kept | apply armPress_kept | apply lanesWake_kept | apply abortMig_kept
    | apply shadow_kept | apply attn_kept | apply wr_kept | apply foldl_kept | split | dsimp only
    | (refine Kept.upd ?_ rfl; exact h)

theorem leaveMode_quiet {a0 s : State} (h : Quiet a0 s) (new : Mode) : Quiet a0 (State.leaveMode s new) := by
  unfold State.leaveMode
  with_reducible repeat' first
    | exact h | assumption | (intro) | apply ite_quiet | apply pair_quiet | apply sendHeartbeat_quiet
    | apply paramRefuse_quiet

theorem leaveMode_kept {a0 s : State} (h : Kept a0 s) (new : Mode) : Kept a0 (State.leaveMode s new) :=
  h.quiet (leaveMode_quiet (Quiet.refl _) ..)

theorem showMode_kept {a0 s : State} (h : Kept a0 s) {new : Mode} (cause : Nat) (hm : new = .shadow → s.grade ≠ .ph4812) :
    Kept a0 (s.showMode new cause) := by
  unfold State.showMode
  have h3 (g : Glb) (hg : g.mode = new) (w a1 a2 : Nat) :
      Kept a0 ((({ s with glb := g } : State).wr GLB_MODE_STAT.REQ_PEND w).ev 0x0100 0 a1 a2) :=
    ev_kept (wr_kept (Kept.enter h (fun e => hm (hg ▸ e))) ..) ..
  exact ite_kept (retick_kept (h3 _ rfl _ _ _)) (h3 _ rfl _ _ _)

theorem twinMarks_quiet {a0 s : State} (h : Quiet a0 s) (new : Mode) : Quiet a0 (State.twinMarks s new) := by
  unfold State.twinMarks
  with_reducible repeat' first | exact h | assumption | (intro) | apply ite_quiet | apply pair_quiet | apply wr_quiet

theorem twinMarks_kept {a0 s : State} (h : Kept a0 s) (new : Mode) : Kept a0 (State.twinMarks s new) :=
  h.quiet (twinMarks_quiet (Quiet.refl _) ..)

theorem repStart_quiet {a0 s : State} (h : Quiet a0 s) (prev : Mode) (new : Mode) : Quiet a0 (State.repStart s prev new) := by
  unfold State.repStart
  with_reducible repeat' first
    | exact h | assumption | (intro) | apply ite_quiet | apply pair_quiet | split | dsimp only | (apply Quiet.upd; exact h)

theorem repStart_kept {a0 s : State} (h : Kept a0 s) (prev : Mode) (new : Mode) : Kept a0 (State.repStart s prev new) :=
  h.quiet (repStart_quiet (Quiet.refl _) ..)

theorem setMode_kept {a0 s : State} (h : Kept a0 s) {new : Mode} (cause : Nat) (hm : new = .shadow → s.grade ≠ .ph4812) :
    Kept a0 (s.setMode new cause) := by
  unfold State.setMode
  have q := leaveMode_quiet (Quiet.refl s) new
  with_reducible
    apply selectSource_kept
    apply canRoles_kept
    apply repStart_kept
    apply onEntry_kept
    apply twinMarks_kept
    exact showMode_kept (h.quiet q) _ (fun e => by rw [q.grade]; exact hm e)

theorem haltTrigger_kept {a0 s : State} (h : Kept a0 s) (cause : Nat) : Kept a0 (State.haltTrigger s cause) := by
  unfold State.haltTrigger
  with_reducible repeat' first
    | exact h | assumption | contradiction | (intro) | apply ite_kept | apply pair_kept | apply setMode_kept
    | apply cause_kept | apply preempt_kept

theorem limpNow_kept {a0 s : State} (h : Kept a0 s) : Kept a0 (State.limpNow s) := by
  unfold State.limpNow
  with_reducible repeat' first
    | exact h | assumption | contradiction | (intro) | apply ite_kept | apply pair_kept | apply setMode_kept
    | apply cause_kept | split | dsimp only | (refine Kept.upd ?_ rfl; exact h)

theorem request_quiet {a0 s : State} (h : Quiet a0 s) (target : Nat) (key : Nat) (k : State → State) (hk : ∀ u, Quiet a0 u → Quiet a0 (k u)) : Quiet a0 (State.request s target key k) := by
  unfold State.request
  with_reducible repeat' first
    | exact h | assumption | (intro) | apply ite_quiet | apply pair_quiet | apply refuseMode_quiet | apply hk

theorem request_kept {a0 s : State} (h : Kept a0 s) (target : Nat) (key : Nat) (k : State → State) (hk : ∀ u, Kept a0 u → Kept a0 (k u)) : Kept a0 (State.request s target key k) := by
  unfold State.request
  with_reducible repeat' first
    | exact h | assumption | contradiction | (intro) | apply ite_kept | apply pair_kept | apply refuseMode_kept | apply hk

theorem blockChecks_quiet {a0 s : State} (h : Quiet a0 s) : Quiet a0 (State.blockChecks s) := by
  unfold State.blockChecks
  with_reducible repeat' first
    | exact h | assumption | (intro) | apply ite_quiet | apply pair_quiet | apply canCheck_quiet | apply pressCheck_quiet
    | apply tableCheck_quiet | apply seeCheck_quiet | apply thermalCheck_quiet

theorem blockChecks_kept {a0 s : State} (h : Kept a0 s) : Kept a0 (State.blockChecks s) :=
  h.quiet (blockChecks_quiet (Quiet.refl _) ..)

theorem refuseRun_kept {a0 s : State} (h : Kept a0 s) (target : Mode) (code : Nat) : Kept a0 (State.refuseRun s target code) := by
  unfold State.refuseRun
  with_reducible repeat' first
    | exact h | assumption | contradiction | (intro) | apply ite_kept | apply pair_kept | apply blockChecks_kept
    | apply refuseMode_kept | apply ev_kept | split

theorem beginRun_kept {a0 s : State} (h : Kept a0 s) {target : Mode} (cold sealing : Bool)
    (hm : target = .shadow → s.grade ≠ .ph4812) : Kept a0 (s.beginRun target cold sealing) := by
  unfold State.beginRun
  extract_lets s2 adopt
  have h0 : Kept s (if sealing = true then s.seal else s) := ite_kept (seal_kept (Kept.refl s)) (Kept.refl s)
  have h2 : Kept s s2 := blockChecks_kept h0
  have h3 : Kept s (if (cold && (decide (adopt = 0) || decide (adopt = 3))) = true then s2.coldAll else s2) :=
    ite_kept (coldAll_kept h2) h2
  exact setMode_kept (h.trans h3) _ (fun e => by rw [h3.grade]; exact hm e)

theorem decideRun_kept {a0 s : State} (h : Kept a0 s) {target : Mode} (cold sealing : Bool) (failed : Option Nat)
    (hm : target = .shadow → failed = none → s.grade ≠ .ph4812) : Kept a0 (s.decideRun target cold sealing failed) := by
  unfold State.decideRun
  split
  · exact refuseRun_kept h ..
  · exact beginRun_kept h _ _ (fun e => hm e rfl)

theorem requestRun_kept {a0 s : State} (h : Kept a0 s) (target : Mode) (cold : Bool) : Kept a0 (s.requestRun target cold) := by
  unfold State.requestRun
  extract_lets m ok sealing l s1
  refine ite_kept (refuseMode_kept (blockChecks_kept h ..) ..) ?_
  refine decideRun_kept (wr_kept h ..) _ _ _ (fun e hn => ?_)
  have hl := List.find?_eq_none.mp (Option.map_eq_none_iff.mp hn)
  have h8 := hl (!(target == .shadow) || (s.twinSite && s.grade == .ph4800), 8) (by simp [l, State.preconditions])
  subst e
  have hg : s.grade = .ph4800 := by
    simp at h8
    exact h8.2
  have : s1.grade = s.grade := (wr_quiet (Quiet.refl s) ..).grade
  rw [this, hg]
  decide

theorem requestDormant_kept {a0 s : State} (h : Kept a0 s) : Kept a0 (State.requestDormant s) := by
  unfold State.requestDormant
  with_reducible repeat' first
    | exact h | assumption | contradiction | (intro) | apply ite_kept | apply pair_kept | apply setMode_kept
    | apply seal_kept | apply refuseMode_kept | apply ev_kept | split

theorem password_quiet {a0 s : State} (h : Quiet a0 s) : Quiet a0 (State.password s).1 := by
  unfold State.password
  with_reducible repeat' first
    | exact h | assumption | (intro) | apply ite_quiet | apply ite_quiet_fst | apply pair_quiet | apply wr_quiet
    | apply evS_quiet | apply changeLog_quiet | split | dsimp only
    | (apply Quiet.upd; first | exact h | assumption | (intro) | apply ite_quiet | apply ite_quiet_fst | apply pair_quiet | apply wr_quiet)

theorem password_quiet_eq {a0 s s1 : State} {b0}  (h : Quiet a0 s) (hE : State.password s = (s1, b0)) : Quiet a0 s1 := by
  have := password_quiet h  
  rw [hE] at this
  exact this

theorem password_kept {a0 s : State} (h : Kept a0 s) : Kept a0 (State.password s).1 :=
  h.quiet (password_quiet (Quiet.refl _) ..)

theorem password_kept_eq {a0 s s1 : State} {b0}  (h : Kept a0 s) (hE : State.password s = (s1, b0)) : Kept a0 s1 :=
  h.quiet (password_quiet_eq (Quiet.refl _) hE)

theorem requestCommission_kept {a0 s : State} (h : Kept a0 s) : Kept a0 (State.requestCommission s) := by
  unfold State.requestCommission
  with_reducible repeat' first
    | exact h | assumption | contradiction | (intro) | apply ite_kept | apply pair_kept | apply password_kept
    | apply setMode_kept | apply refuseMode_kept

theorem requestLimp_kept {a0 s : State} (h : Kept a0 s) : Kept a0 (State.requestLimp s) := by
  unfold State.requestLimp
  with_reducible repeat' first
    | exact h | assumption | contradiction | (intro) | apply ite_kept | apply pair_kept | apply refuseMode_kept
    | apply wr_kept | split | dsimp only | (refine Kept.upd ?_ rfl; exact h)

theorem requestHalt_kept {a0 s : State} (h : Kept a0 s) : Kept a0 (State.requestHalt s) := by
  unfold State.requestHalt
  with_reducible repeat' first
    | exact h | assumption | contradiction | (intro) | apply ite_kept | apply pair_kept | apply setMode_kept
    | apply refuseMode_kept

theorem kick_kept {a0 s : State} (h : Kept a0 s) : Kept a0 (State.kick s) := by
  unfold State.kick
  with_reducible repeat' first
    | exact h | assumption | contradiction | (intro) | apply ite_kept | apply pair_kept | split | dsimp only
    | (refine Kept.upd ?_ rfl; exact h)

theorem wdogExpire_kept {a0 s : State} (h : Kept a0 s) : Kept a0 (State.wdogExpire s) := by
  unfold State.wdogExpire
  with_reducible repeat' first
    | exact h | assumption | contradiction | (intro) | apply ite_kept | apply pair_kept | apply shadow_kept
    | apply limpTrigger_kept | apply ev_kept | split | dsimp only | (refine Kept.upd ?_ rfl; exact h)

end Sys2Proof.Laws
end

