-- ==== Sys2Proof/Laws/QTwin.lean ====
section
/-!
SUPPORT. Machine/Twin.lean leaves grade, queue and mode alone and keeps register file and event log sound.
-/
namespace Sys2Proof.Laws

open Sys2Proof.Machine

variable {a0 : State}

theorem closeWindow_quiet {a0 s : State} (h : Quiet a0 s) (n : Nat) : Quiet a0 (State.closeWindow s n) := by
  unfold State.closeWindow
  with_reducible repeat' first
    | exact h | assumption | (intro) | apply ite_quiet | apply pair_quiet | split | dsimp only | (apply Quiet.upd; exact h)

theorem closeWindow_kept {a0 s : State} (h : Kept a0 s) (n : Nat) : Kept a0 (State.closeWindow s n) :=
  h.quiet (closeWindow_quiet (Quiet.refl _) ..)

theorem startCopy_quiet {a0 s : State} (h : Quiet a0 s) (n : Nat) : Quiet a0 (State.startCopy s n) := by
  unfold State.startCopy
  with_reducible repeat' first
    | exact h | assumption | (intro) | apply ite_quiet | apply pair_quiet | apply wr_quiet | split | dsimp only
    | (apply Quiet.upd; first | exact h | assumption | (intro) | apply ite_quiet | apply pair_quiet | apply wr_quiet)

theorem startCopy_kept {a0 s : State} (h : Kept a0 s) (n : Nat) : Kept a0 (State.startCopy s n) :=
  h.quiet (startCopy_quiet (Quiet.refl _) ..)

theorem sendChunk_quiet {a0 s : State} (h : Quiet a0 s) (x : SCopy) : Quiet a0 (State.sendChunk s x) := by
  unfold State.sendChunk
  with_reducible repeat' first
    | exact h | assumption | (intro) | apply ite_quiet | apply pair_quiet | apply yokeSend_quiet | split

theorem sendChunk_kept {a0 s : State} (h : Kept a0 s) (x : SCopy) : Kept a0 (State.sendChunk s x) :=
  h.quiet (sendChunk_quiet (Quiet.refl _) ..)

theorem sendCopy_quiet {a0 s : State} (h : Quiet a0 s) : Quiet a0 (State.sendCopy s) := by
  unfold State.sendCopy
  with_reducible repeat' first
    | exact h | assumption | (intro) | apply ite_quiet | apply pair_quiet | apply yokeSend_quiet | apply sendChunk_quiet
    | split | dsimp only
    | (apply Quiet.upd; first | exact h | assumption | (intro) | apply ite_quiet | apply pair_quiet | apply yokeSend_quiet | apply sendChunk_quiet)

theorem sendCopy_kept {a0 s : State} (h : Kept a0 s) : Kept a0 (State.sendCopy s) :=
  h.quiet (sendCopy_quiet (Quiet.refl _) ..)

theorem twinAfterSeal_quiet {a0 s : State} (h : Quiet a0 s) (n : Nat) : Quiet a0 (State.twinAfterSeal s n) := by
  unfold State.twinAfterSeal
  with_reducible repeat' first
    | exact h | assumption | (intro) | apply ite_quiet | apply pair_quiet | apply yokeSend_quiet | apply sendCopy_quiet
    | split

theorem twinAfterSeal_kept {a0 s : State} (h : Kept a0 s) (n : Nat) : Kept a0 (State.twinAfterSeal s n) :=
  h.quiet (twinAfterSeal_quiet (Quiet.refl _) ..)

theorem sendDelta_quiet {a0 s : State} (h : Quiet a0 s) : Quiet a0 (State.sendDelta s) := by
  unfold State.sendDelta
  with_reducible repeat' first
    | exact h | assumption | (intro) | apply ite_quiet | apply ite_quiet_fst | apply pair_quiet | apply yokeSend_quiet
    | apply foldl_quiet | apply foldl_quiet_fst | apply foldl_quiet_snd | split | dsimp only | (apply Quiet.upd; exact h)

theorem sendDelta_kept {a0 s : State} (h : Kept a0 s) : Kept a0 (State.sendDelta s) :=
  h.quiet (sendDelta_quiet (Quiet.refl _) ..)

theorem breakRun_quiet {a0 s : State} (h : Quiet a0 s) : Quiet a0 (State.breakRun s) := by
  unfold State.breakRun
  with_reducible repeat' first
    | exact h | assumption | (intro) | apply ite_quiet | apply pair_quiet | apply wr_quiet | apply ev_quiet

theorem breakRun_kept {a0 s : State} (h : Kept a0 s) : Kept a0 (State.breakRun s) :=
  h.quiet (breakRun_quiet (Quiet.refl _) ..)

theorem hearClaim_quiet {a0 s : State} (h : Quiet a0 s) (claim : Nat) : Quiet a0 (State.hearClaim s claim) := by
  unfold State.hearClaim
  with_reducible repeat' first
    | exact h | assumption | (intro) | apply ite_quiet | apply pair_quiet | apply wr_quiet | apply shadowClaim_quiet

theorem hearClaim_kept {a0 s : State} (h : Kept a0 s) (claim : Nat) : Kept a0 (State.hearClaim s claim) :=
  h.quiet (hearClaim_quiet (Quiet.refl _) ..)

theorem twinRx_quiet {a0 s : State} (h : Quiet a0 s) (hd : TwinHead) : Quiet a0 (State.twinRx s hd).1 := by
  unfold State.twinRx
  with_reducible repeat' first
    | exact h | assumption | (intro) | apply ite_quiet | apply ite_quiet_fst | apply pair_quiet | apply laneRx_quiet
    | apply yokeRx_quiet | apply breakRun_quiet | apply hearClaim_quiet
    | exact yokeRx_quiet_eq (by assumption) (by assumption) | split | dsimp only
    | (apply Quiet.upd; first | exact h | assumption | (intro) | apply ite_quiet | apply ite_quiet_fst | apply pair_quiet | apply laneRx_quiet | apply yokeRx_quiet | apply breakRun_quiet)

theorem twinRx_quiet_eq {a0 s s1 : State} {b0} {hd : TwinHead} (h : Quiet a0 s) (hE : State.twinRx s hd = (s1, b0)) : Quiet a0 s1 := by
  have := twinRx_quiet h hd 
  rw [hE] at this
  exact this

theorem twinRx_kept {a0 s : State} (h : Kept a0 s) (hd : TwinHead) : Kept a0 (State.twinRx s hd).1 :=
  h.quiet (twinRx_quiet (Quiet.refl _) ..)

theorem twinRx_kept_eq {a0 s s1 : State} {b0} {hd : TwinHead} (h : Kept a0 s) (hE : State.twinRx s hd = (s1, b0)) : Kept a0 s1 :=
  h.quiet (twinRx_quiet_eq (Quiet.refl _) hE)

theorem twinTake_quiet {a0 s : State} (h : Quiet a0 s) (hd : TwinHead) (k : State → State) (hk : ∀ u, Quiet a0 u → Quiet a0 (k u)) : Quiet a0 (State.twinTake s hd k) := by
  unfold State.twinTake
  with_reducible repeat' first
    | exact h | assumption | (intro) | apply ite_quiet | apply pair_quiet | apply twinRx_quiet
    | exact twinRx_quiet_eq (by assumption) (by assumption) | apply hk

theorem twinTake_kept {a0 s : State} (h : Kept a0 s) (hd : TwinHead) (k : State → State) (hk : ∀ u, Kept a0 u → Kept a0 (k u)) : Kept a0 (State.twinTake s hd k) := by
  unfold State.twinTake
  with_reducible repeat' first
    | exact h | assumption | contradiction | (intro) | apply ite_kept | apply pair_kept | apply twinRx_kept
    | exact twinRx_kept_eq (by assumption) (by assumption) | apply hk

theorem applyDeltas_quiet {a0 s : State} (h : Quiet a0 s) (k : Nat) : Quiet a0 (s.applyDeltas k) := by
  induction k generalizing s with
  | zero => exact h
  | succ k ih =>
    unfold State.applyDeltas
    dsimp only
    split
    · exact h
    · split
      · exact h
      · exact ih (wr_quiet (takeDelta_quiet h ..) ..)

theorem deltaRx_quiet {a0 s : State} (h : Quiet a0 s) (f : DeltaFrame) : Quiet a0 (State.deltaRx s f) := by
  unfold State.deltaRx
  with_reducible repeat' first
    | exact h | assumption | (intro) | apply ite_quiet | apply pair_quiet | apply shadow_quiet | apply breakRun_quiet
    | apply applyDeltas_quiet | exact applyDeltas_quiet_eq (by assumption) (by assumption) | split | dsimp only
    | (apply Quiet.upd; exact h)

theorem deltaRx_kept {a0 s : State} (h : Kept a0 s) (f : DeltaFrame) : Kept a0 (State.deltaRx s f) :=
  h.quiet (deltaRx_quiet (Quiet.refl _) ..)

theorem dropCopy_quiet {a0 s : State} (h : Quiet a0 s) (reason : Nat) : Quiet a0 (State.dropCopy s reason) := by
  unfold State.dropCopy
  with_reducible repeat' first
    | exact h | assumption | (intro) | apply ite_quiet | apply pair_quiet | apply bump_quiet | apply ev_quiet | split
    | dsimp only | (apply Quiet.upd; exact h)

theorem dropCopy_kept {a0 s : State} (h : Kept a0 s) (reason : Nat) : Kept a0 (State.dropCopy s reason) :=
  h.quiet (dropCopy_quiet (Quiet.refl _) ..)

theorem chunkTake_quiet {a0 s : State} (h : Quiet a0 s) (e : Nat) (f : ChunkFrame) (held : Option ECopy) : Quiet a0 (State.chunkTake s e f held) := by
  unfold State.chunkTake
  with_reducible repeat' first
    | exact h | assumption | (intro) | apply ite_quiet | apply pair_quiet | split | dsimp only | (apply Quiet.upd; exact h)

theorem chunkTake_kept {a0 s : State} (h : Kept a0 s) (e : Nat) (f : ChunkFrame) (held : Option ECopy) : Kept a0 (State.chunkTake s e f held) :=
  h.quiet (chunkTake_quiet (Quiet.refl _) ..)

theorem chunkRx_quiet {a0 s : State} (h : Quiet a0 s) (f : ChunkFrame) : Quiet a0 (State.chunkRx s f) := by
  unfold State.chunkRx
  with_reducible repeat' first
    | exact h | assumption | (intro) | apply ite_quiet | apply pair_quiet | apply shadow_quiet | apply dropCopy_quiet
    | apply chunkTake_quiet

theorem chunkRx_kept {a0 s : State} (h : Kept a0 s) (f : ChunkFrame) : Kept a0 (State.chunkRx s f) :=
  h.quiet (chunkRx_quiet (Quiet.refl _) ..)

theorem adoptCopy_quiet {a0 s : State} (h : Quiet a0 s) (c : ECopy) : Quiet a0 (State.adoptCopy s c) := by
  unfold State.adoptCopy
  with_reducible repeat' first
    | exact h | assumption | (intro) | apply ite_quiet | apply pair_quiet | apply wr_quiet | apply ev_quiet
    | apply takeCopy_quiet | apply applyDeltas_quiet | exact applyDeltas_quiet_eq (by assumption) (by assumption) | split
    | dsimp only
    | (apply Quiet.upd; first | exact h | assumption | (intro) | apply ite_quiet | apply pair_quiet | apply wr_quiet)

theorem adoptCopy_kept {a0 s : State} (h : Kept a0 s) (c : ECopy) : Kept a0 (State.adoptCopy s c) :=
  h.quiet (adoptCopy_quiet (Quiet.refl _) ..)

theorem commitRx_quiet {a0 s : State} (h : Quiet a0 s) (f : CommitFrame) : Quiet a0 (State.commitRx s f) := by
  unfold State.commitRx
  with_reducible repeat' first
    | exact h | assumption | (intro) | apply ite_quiet | apply pair_quiet | apply shadow_quiet | apply dropCopy_quiet
    | apply adoptCopy_quiet | split

theorem commitRx_kept {a0 s : State} (h : Kept a0 s) (f : CommitFrame) : Kept a0 (State.commitRx s f) :=
  h.quiet (commitRx_quiet (Quiet.refl _) ..)

theorem replayed_quiet {a0 s : State} (h : Quiet a0 s) (agrees : Bool) : Quiet a0 (State.replayed s agrees) := by
  unfold State.replayed
  with_reducible repeat' first
    | exact h | assumption | (intro) | apply ite_quiet | apply pair_quiet | apply wr_quiet | apply bump_quiet | split
    | dsimp only
    | (apply Quiet.upd; first | exact h | assumption | (intro) | apply ite_quiet | apply pair_quiet | apply wr_quiet | apply bump_quiet)

theorem replayed_kept {a0 s : State} (h : Kept a0 s) (agrees : Bool) : Kept a0 (State.replayed s agrees) :=
  h.quiet (replayed_quiet (Quiet.refl _) ..)

theorem snapRx_quiet {a0 s : State} (h : Quiet a0 s) (part : Nat) (tick : Nat) (cmp : Nat) (data : List Nat) : Quiet a0 (State.snapRx s part tick cmp data) := by
  unfold State.snapRx
  with_reducible repeat' first
    | exact h | assumption | (intro) | apply ite_quiet | apply pair_quiet | apply shadow_quiet | apply replayed_quiet
    | split | dsimp only | (apply Quiet.upd; exact h)

theorem snapRx_kept {a0 s : State} (h : Kept a0 s) (part : Nat) (tick : Nat) (cmp : Nat) (data : List Nat) : Kept a0 (State.snapRx s part tick cmp data) :=
  h.quiet (snapRx_quiet (Quiet.refl _) ..)

theorem promote_kept {a0 s : State} (h : Kept a0 s) (trigger : Nat) : Kept a0 (State.promote s trigger) := by
  unfold State.promote
  with_reducible repeat' first
    | exact h | assumption | contradiction | (intro) | apply ite_kept | apply pair_kept | apply dropCopy_kept
    | apply setMode_kept | apply guardRestart_kept | apply takeHeld_kept | apply startTakeover_kept | apply attn_kept
    | apply ev_kept | apply fresh_kept | apply wr_kept | exact fresh_kept_eq (by assumption) (by assumption) | split
    | dsimp only
    | (refine Kept.upd ?_ rfl; first | exact h | assumption | contradiction | (intro) | apply ite_kept | apply pair_kept | apply dropCopy_kept)

theorem tryPromote_kept {a0 s : State} (h : Kept a0 s) (trigger : Nat) : Kept a0 (State.tryPromote s trigger) := by
  unfold State.tryPromote
  with_reducible repeat' first
    | exact h | assumption | contradiction | (intro) | apply ite_kept | apply pair_kept | apply promote_kept
    | apply shadow_kept | apply ev_kept | split | dsimp only | (refine Kept.upd ?_ rfl; exact h)

theorem demoteCheck_kept {a0 s : State} (h : Kept a0 s) : Kept a0 s.demoteCheck := by
  unfold State.demoteCheck
  split
  · exact h
  · next c =>
    have hg : s.grade ≠ .ph4812 := by
      intro e
      simp [e] at c
    have q : Quiet s (s.preempt.ev 0x0112 0 s.claim (s.follows.foldl max 0)) := ev_quiet (preempt_quiet (Quiet.refl s)) ..
    exact ite_kept h (setMode_kept (h.quiet q) _ (fun _ => by rw [q.grade]; exact hg))

theorem unfitEvent_quiet {a0 s : State} (h : Quiet a0 s) (c : Nat) : Quiet a0 (State.unfitEvent s c) := by
  unfold State.unfitEvent
  with_reducible repeat' first
    | exact h | assumption | (intro) | apply ite_quiet | apply pair_quiet | apply fresh_quiet | apply ev_quiet

theorem unfitEvent_kept {a0 s : State} (h : Kept a0 s) (c : Nat) : Kept a0 (State.unfitEvent s c) :=
  h.quiet (unfitEvent_quiet (Quiet.refl _) ..)

theorem orphanWatch_quiet {a0 s : State} (h : Quiet a0 s) : Quiet a0 (State.orphanWatch s) := by
  unfold State.orphanWatch
  with_reducible repeat' first
    | exact h | assumption | (intro) | apply ite_quiet | apply pair_quiet | apply wr_quiet | apply ev_quiet
    | apply selectSource_quiet

theorem orphanWatch_kept {a0 s : State} (h : Kept a0 s) : Kept a0 (State.orphanWatch s) :=
  h.quiet (orphanWatch_quiet (Quiet.refl _) ..)

theorem twinWatch_kept {a0 s : State} (h : Kept a0 s) : Kept a0 (State.twinWatch s) := by
  unfold State.twinWatch
  with_reducible repeat' first
    | exact h | assumption | contradiction | (intro) | apply ite_kept | apply ite_kept_fst | apply pair_kept
    | apply orphanWatch_kept | apply unfitEvent_kept | apply tryPromote_kept | apply run_kept | apply shadow_kept
    | apply ev_kept | apply wr_kept | apply foldl_kept | split | dsimp only
    | (refine Kept.upd ?_ rfl; first | exact h | assumption | contradiction | (intro) | apply ite_kept | apply ite_kept_fst | apply pair_kept | apply orphanWatch_kept | apply unfitEvent_kept | apply tryPromote_kept | apply run_kept | apply shadow_kept | apply ev_kept | apply wr_kept)

theorem healthRx_kept {a0 s : State} (h : Kept a0 s) (words : List Nat) : Kept a0 (State.healthRx s words) := by
  unfold State.healthRx
  with_reducible repeat' first
    | exact h | assumption | contradiction | (intro) | apply ite_kept | apply ite_kept_fst | apply pair_kept
    | apply twinWatch_kept | apply ev_kept | apply wr_kept | apply foldl_kept | split | dsimp only
    | (refine Kept.upd ?_ rfl; first | exact h | assumption | contradiction | (intro) | apply ite_kept | apply ite_kept_fst | apply pair_kept | apply twinWatch_kept | apply ev_kept | apply wr_kept | apply foldl_kept)

theorem resync_kept {a0 s : State} (h : Kept a0 s) (v : Nat) : Kept a0 (State.resync s v) := by
  unfold State.resync
  with_reducible repeat' first
    | exact h | assumption | contradiction | (intro) | apply ite_kept | apply pair_kept | apply twinWatch_kept
    | apply enterSync_kept | apply takeCopy_kept | apply shadow_kept | apply wr_kept | split | dsimp only
    | (refine Kept.upd ?_ rfl; first | exact h | assumption | contradiction | (intro) | apply ite_kept | apply pair_kept | apply twinWatch_kept | apply enterSync_kept)

theorem admitPeer_quiet {a0 s : State} (h : Quiet a0 s) (d : Nat) (claim : Nat) (digest : Nat) : Quiet a0 (State.admitPeer s d claim digest) := by
  unfold State.admitPeer
  with_reducible repeat' first
    | exact h | assumption | (intro) | apply ite_quiet | apply pair_quiet | apply wr_quiet | apply ev_quiet
    | apply shadowClaim_quiet | split | dsimp only
    | (apply Quiet.upd; first | exact h | assumption | (intro) | apply ite_quiet | apply pair_quiet | apply wr_quiet | apply ev_quiet | apply shadowClaim_quiet)

theorem admitPeer_kept {a0 s : State} (h : Kept a0 s) (d : Nat) (claim : Nat) (digest : Nat) : Kept a0 (State.admitPeer s d claim digest) :=
  h.quiet (admitPeer_quiet (Quiet.refl _) ..)

theorem healthOut_quiet {a0 s : State} (h : Quiet a0 s) (k : Nat) : Quiet a0 (State.healthOut s k) := by
  unfold State.healthOut
  with_reducible repeat' first
    | exact h | assumption | (intro) | apply ite_quiet | apply pair_quiet | apply yokeSend_quiet | split | dsimp only
    | (apply Quiet.upd; exact h)

theorem healthOut_kept {a0 s : State} (h : Kept a0 s) (k : Nat) : Kept a0 (State.healthOut s k) :=
  h.quiet (healthOut_quiet (Quiet.refl _) ..)

theorem healthLost_quiet {a0 s : State} (h : Quiet a0 s) : Quiet a0 (State.healthLost s) := by
  unfold State.healthLost
  with_reducible repeat' first
    | exact h | assumption | (intro) | apply ite_quiet | apply pair_quiet | apply ev_quiet | split | dsimp only
    | (apply Quiet.upd; exact h)

theorem healthLost_kept {a0 s : State} (h : Kept a0 s) : Kept a0 (State.healthLost s) :=
  h.quiet (healthLost_quiet (Quiet.refl _) ..)

theorem march_quiet {a0 s : State} (h : Quiet a0 s) (corrected : Nat) (uncorrectable : Bool) : Quiet a0 (State.march s corrected uncorrectable) := by
  unfold State.march
  with_reducible repeat' first
    | exact h | assumption | (intro) | apply ite_quiet | apply pair_quiet | apply shadow_quiet | split | dsimp only
    | (apply Quiet.upd; exact h)

theorem march_kept {a0 s : State} (h : Kept a0 s) (corrected : Nat) (uncorrectable : Bool) : Kept a0 (State.march s corrected uncorrectable) :=
  h.quiet (march_quiet (Quiet.refl _) ..)

end Sys2Proof.Laws
end

