-- ==== Sys2Proof/Laws/QModeExec.lean ====
section
/-!
SUPPORT. Machine/ModeExec.lean leaves grade, queue and mode alone and keeps register file and event log sound.
-/
namespace Sys2Proof.Laws

open Sys2Proof.Machine

variable {a0 : State}

theorem rideOver_kept {a0 s : State} (h : Kept a0 s) (t : Nat) : Kept a0 (State.rideOver s t) := by
  unfold State.rideOver
  with_reducible repeat' first
    | exact h | assumption | contradiction | (intro) | apply ite_kept | apply pair_kept | apply twinWatch_kept
    | apply haltTrigger_kept | apply ev_kept | apply waitTill_kept | split | dsimp only
    | (refine Kept.upd ?_ rfl; first | exact h | assumption | contradiction | (intro) | apply ite_kept | apply pair_kept | apply twinWatch_kept | apply haltTrigger_kept | apply ev_kept | apply waitTill_kept)

end Sys2Proof.Laws
end

