-- ==== Sys2Proof/Laws/QLaunch.lean ====
section
/-!
SUPPORT. Machine/Launch.lean leaves grade, queue and mode alone and keeps register file and event log sound.
-/
namespace Sys2Proof.Laws

open Sys2Proof.Machine

variable {a0 : State}

theorem sendSetpoints_quiet {a0 s : State} (h : Quiet a0 s) (copy : Nat) : Quiet a0 (State.sendSetpoints s copy) := by
  unfold State.sendSetpoints
  with_reducible repeat' first
    | exact h | assumption | (intro) | apply ite_quiet | apply ite_quiet_fst | apply pair_quiet | apply waitSite_quiet
    | apply send_quiet | apply foldl_quiet | apply foldl_quiet_fst | apply foldl_quiet_snd | split

theorem sendSetpoints_kept {a0 s : State} (h : Kept a0 s) (copy : Nat) : Kept a0 (State.sendSetpoints s copy) :=
  h.quiet (sendSetpoints_quiet (Quiet.refl _) ..)

theorem sendSlow_quiet {a0 s : State} (h : Quiet a0 s) : Quiet a0 (State.sendSlow s) := by
  unfold State.sendSlow
  with_reducible repeat' first
    | exact h | assumption | (intro) | apply ite_quiet | apply ite_quiet_fst | apply pair_quiet | apply waitSite_quiet
    | apply canRequest_quiet | apply foldl_quiet | apply foldl_quiet_fst | apply foldl_quiet_snd | split

theorem sendSlow_kept {a0 s : State} (h : Kept a0 s) : Kept a0 (State.sendSlow s) :=
  h.quiet (sendSlow_quiet (Quiet.refl _) ..)

theorem noteMiss_quiet {a0 s : State} (h : Quiet a0 s) (l : Nat) (miss : Nat) (applied : Nat) : Quiet a0 (State.noteMiss s l miss applied) := by
  unfold State.noteMiss
  with_reducible repeat' first
    | exact h | assumption | (intro) | apply ite_quiet | apply pair_quiet | apply bump_quiet | apply ev_quiet
    | apply modLane_quiet | split

theorem noteMiss_kept {a0 s : State} (h : Kept a0 s) (l : Nat) (miss : Nat) (applied : Nat) : Kept a0 (State.noteMiss s l miss applied) :=
  h.quiet (noteMiss_quiet (Quiet.refl _) ..)

theorem noteFollow_quiet {a0 s : State} (h : Quiet a0 s) (l : Nat) (follow : Nat) (flags : Nat) : Quiet a0 (State.noteFollow s l follow flags) := by
  unfold State.noteFollow
  with_reducible repeat' first | exact h | assumption | (intro) | apply ite_quiet | apply pair_quiet | apply modLane_quiet

theorem noteFollow_kept {a0 s : State} (h : Kept a0 s) (l : Nat) (follow : Nat) (flags : Nat) : Kept a0 (State.noteFollow s l follow flags) :=
  h.quiet (noteFollow_quiet (Quiet.refl _) ..)

theorem slotReport_quiet {a0 s : State} (h : Quiet a0 s) (l : Nat) (flags : Nat) (k : Nat) (r : StatusSlot) : Quiet a0 (State.slotReport s l flags k r) := by
  unfold State.slotReport
  with_reducible repeat' first
    | exact h | assumption | (intro) | apply ite_quiet | apply pair_quiet | apply ev_quiet | split | dsimp only
    | (apply Quiet.upd; exact h)

theorem slotReport_kept {a0 s : State} (h : Kept a0 s) (l : Nat) (flags : Nat) (k : Nat) (r : StatusSlot) : Kept a0 (State.slotReport s l flags k r) :=
  h.quiet (slotReport_quiet (Quiet.refl _) ..)

theorem statusRx_quiet {a0 s : State} (h : Quiet a0 s) (l : Nat) (fseq : Nat) (f : StatusFrame) : Quiet a0 (State.statusRx s l fseq f) := by
  unfold State.statusRx
  with_reducible repeat' first
    | exact h | assumption | (intro) | apply ite_quiet | apply pair_quiet | apply laneRx_quiet | apply noteMiss_quiet
    | apply noteFollow_quiet | apply slotReport_quiet

theorem statusRx_kept {a0 s : State} (h : Kept a0 s) (l : Nat) (fseq : Nat) (f : StatusFrame) : Kept a0 (State.statusRx s l fseq f) :=
  h.quiet (statusRx_quiet (Quiet.refl _) ..)

theorem phaseRx_quiet {a0 s : State} (h : Quiet a0 s) (l : Nat) (fseq : Nat) (f : PhaseStatus) : Quiet a0 (State.phaseRx s l fseq f) := by
  unfold State.phaseRx
  with_reducible repeat' first
    | exact h | assumption | (intro) | apply ite_quiet | apply pair_quiet | apply ev_quiet | apply laneRx_quiet
    | apply selectorRestart_quiet | apply noteMiss_quiet | apply noteFollow_quiet

theorem phaseRx_kept {a0 s : State} (h : Kept a0 s) (l : Nat) (fseq : Nat) (f : PhaseStatus) : Kept a0 (State.phaseRx s l fseq f) :=
  h.quiet (phaseRx_quiet (Quiet.refl _) ..)

theorem higherSlow_quiet {a0 s : State} (h : Quiet a0 s) (j : Nat) (follow : Nat) : Quiet a0 (State.higherSlow s j follow) := by
  unfold State.higherSlow
  with_reducible repeat' first
    | exact h | assumption | (intro) | apply ite_quiet | apply pair_quiet | apply wr_quiet | apply ev_quiet

theorem higherSlow_kept {a0 s : State} (h : Kept a0 s) (j : Nat) (follow : Nat) : Kept a0 (State.higherSlow s j follow) :=
  h.quiet (higherSlow_quiet (Quiet.refl _) ..)

theorem slowRx_kept {a0 s : State} (h : Kept a0 s) (j : Nat) (code : Nat) (follow : Nat) : Kept a0 (State.slowRx s j code follow) := by
  unfold State.slowRx
  with_reducible repeat' first
    | exact h | assumption | contradiction | (intro) | apply ite_kept | apply pair_kept | apply higherSlow_kept
    | apply twinWatch_kept | apply demoteCheck_kept | apply wrBit_kept | split | dsimp only
    | (refine Kept.upd ?_ rfl; exact h)

theorem noteClaims_quiet {a0 s : State} (h : Quiet a0 s) (tN : Nat) : Quiet a0 (State.noteClaims s tN) := by
  unfold State.noteClaims
  with_reducible repeat' first
    | exact h | assumption | (intro) | apply ite_quiet | apply ite_quiet_fst | apply pair_quiet | apply wr_quiet
    | apply wrBit_quiet | apply ev_quiet | apply foldl_quiet

theorem noteClaims_kept {a0 s : State} (h : Kept a0 s) (tN : Nat) : Kept a0 (State.noteClaims s tN) :=
  h.quiet (noteClaims_quiet (Quiet.refl _) ..)

theorem clearLch_quiet {a0 s : State} (h : Quiet a0 s) : Quiet a0 (State.clearLch s) := by
  unfold State.clearLch
  with_reducible repeat' first | exact h | assumption | (intro) | apply ite_quiet | apply pair_quiet | apply wr_quiet

theorem clearLch_kept {a0 s : State} (h : Kept a0 s) : Kept a0 (State.clearLch s) :=
  h.quiet (clearLch_quiet (Quiet.refl _) ..)

end Sys2Proof.Laws
end

