-- ==== Sys2Proof/Laws/QLaneEvents.lean ====
section
/-!
SUPPORT. Machine/LaneEvents.lean leaves grade, queue and mode alone and keeps register file and event log sound.
-/
namespace Sys2Proof.Laws

open Sys2Proof.Machine

variable {a0 : State}

theorem onLane_kept {a0 s : State} (h : Kept a0 s) (k : State → State) (hk : ∀ u, Kept a0 u → Kept a0 (k u)) : Kept a0 (State.onLane s k) := by
  unfold State.onLane
  with_reducible repeat' first
    | exact h | assumption | contradiction | (intro) | apply ite_kept | apply pair_kept | apply twinWatch_kept
    | apply scanReports_kept | apply hk

theorem resendCaps_quiet {a0 s : State} (h : Quiet a0 s) (l : Nat) : Quiet a0 (State.resendCaps s l) := by
  unfold State.resendCaps
  with_reducible repeat' first
    | exact h | assumption | (intro) | apply ite_quiet | apply pair_quiet | apply waitTill_quiet | apply sendCaps_quiet

theorem resendCaps_kept {a0 s : State} (h : Kept a0 s) (l : Nat) : Kept a0 (State.resendCaps s l) :=
  h.quiet (resendCaps_quiet (Quiet.refl _) ..)

theorem capsFrame_quiet {a0 s : State} (h : Quiet a0 s) (l : Nat) (fseq : Nat) (f : CapsFrame) : Quiet a0 (State.capsFrame s l fseq f) := by
  unfold State.capsFrame
  with_reducible repeat' first
    | exact h | assumption | (intro) | apply ite_quiet | apply pair_quiet | apply laneRx_quiet | apply capsRx_quiet
    | apply admitPeer_quiet

theorem capsFrame_kept {a0 s : State} (h : Kept a0 s) (l : Nat) (fseq : Nat) (f : CapsFrame) : Kept a0 (State.capsFrame s l fseq f) :=
  h.quiet (capsFrame_quiet (Quiet.refl _) ..)

theorem discard_quiet {a0 s : State} (h : Quiet a0 s) (l : Nat) : Quiet a0 (State.discard s l) := by
  unfold State.discard
  with_reducible repeat' first | exact h | assumption | (intro) | apply ite_quiet | apply pair_quiet | apply modLane_quiet

theorem discard_kept {a0 s : State} (h : Kept a0 s) (l : Nat) : Kept a0 (State.discard s l) :=
  h.quiet (discard_quiet (Quiet.refl _) ..)

theorem badFrame_quiet {a0 s : State} (h : Quiet a0 s) (l : Nat) (blocks : List LaneBlock) : Quiet a0 (State.badFrame s l blocks) := by
  unfold State.badFrame
  with_reducible repeat' first
    | exact h | assumption | (intro) | apply ite_quiet | apply pair_quiet | apply bump_quiet | apply laneRx_quiet
    | apply discard_quiet | split

theorem badFrame_kept {a0 s : State} (h : Kept a0 s) (l : Nat) (blocks : List LaneBlock) : Kept a0 (State.badFrame s l blocks) :=
  h.quiet (badFrame_quiet (Quiet.refl _) ..)

theorem errorLimit_quiet {a0 s : State} (h : Quiet a0 s) (l : Nat) : Quiet a0 (State.errorLimit s l) := by
  unfold State.errorLimit
  with_reducible repeat' first | exact h | assumption | (intro) | apply ite_quiet | apply pair_quiet | apply laneDown_quiet

theorem errorLimit_kept {a0 s : State} (h : Kept a0 s) (l : Nat) : Kept a0 (State.errorLimit s l) :=
  h.quiet (errorLimit_quiet (Quiet.refl _) ..)

theorem lockLoss_quiet {a0 s : State} (h : Quiet a0 s) (l : Nat) : Quiet a0 (State.lockLoss s l) := by
  unfold State.lockLoss
  with_reducible repeat' first
    | exact h | assumption | (intro) | apply ite_quiet | apply pair_quiet | apply bump_quiet | apply laneDown_quiet

theorem lockLoss_kept {a0 s : State} (h : Kept a0 s) (l : Nat) : Kept a0 (State.lockLoss s l) :=
  h.quiet (lockLoss_quiet (Quiet.refl _) ..)

theorem frameTimeout_quiet {a0 s : State} (h : Quiet a0 s) (l : Nat) : Quiet a0 (State.frameTimeout s l) := by
  unfold State.frameTimeout
  with_reducible repeat' first
    | exact h | assumption | (intro) | apply ite_quiet | apply pair_quiet | apply waitTill_quiet | apply laneDown_quiet

theorem frameTimeout_kept {a0 s : State} (h : Kept a0 s) (l : Nat) : Kept a0 (State.frameTimeout s l) :=
  h.quiet (frameTimeout_quiet (Quiet.refl _) ..)

theorem signalLoss_quiet {a0 s : State} (h : Quiet a0 s) (l : Nat) : Quiet a0 (State.signalLoss s l) := by
  unfold State.signalLoss
  with_reducible repeat' first
    | exact h | assumption | (intro) | apply ite_quiet | apply pair_quiet | apply cycles_quiet | apply laneDown_quiet
    | apply toDetect_quiet

theorem signalLoss_kept {a0 s : State} (h : Kept a0 s) (l : Nat) : Kept a0 (State.signalLoss s l) :=
  h.quiet (signalLoss_quiet (Quiet.refl _) ..)

theorem sendAlive_quiet {a0 s : State} (h : Quiet a0 s) (l : Nat) : Quiet a0 (State.sendAlive s l) := by
  unfold State.sendAlive
  with_reducible repeat' first
    | exact h | assumption | (intro) | apply ite_quiet | apply pair_quiet | apply waitTill_quiet | apply laneTx_quiet

theorem sendAlive_kept {a0 s : State} (h : Kept a0 s) (l : Nat) : Kept a0 (State.sendAlive s l) :=
  h.quiet (sendAlive_quiet (Quiet.refl _) ..)

theorem clearLane_quiet {a0 s : State} (h : Quiet a0 s) (l : Nat) : Quiet a0 (State.clearLane s l) := by
  unfold State.clearLane
  with_reducible repeat' first | exact h | assumption | (intro) | apply ite_quiet | apply pair_quiet | apply setReg_quiet

theorem clearLane_kept {a0 s : State} (h : Kept a0 s) (l : Nat) : Kept a0 (State.clearLane s l) :=
  h.quiet (clearLane_quiet (Quiet.refl _) ..)

theorem clearClc_quiet {a0 s : State} (h : Quiet a0 s) : Quiet a0 (State.clearClc s) := by
  unfold State.clearClc
  with_reducible repeat' first
    | exact h | assumption | (intro) | apply ite_quiet | apply ite_quiet_fst | apply pair_quiet | apply clearLane_quiet
    | apply foldl_quiet

theorem clearClc_kept {a0 s : State} (h : Kept a0 s) : Kept a0 (State.clearClc s) :=
  h.quiet (clearClc_quiet (Quiet.refl _) ..)

theorem clearDlc_quiet {a0 s : State} (h : Quiet a0 s) : Quiet a0 (State.clearDlc s) := by
  unfold State.clearDlc
  with_reducible repeat' first
    | exact h | assumption | (intro) | apply ite_quiet | apply pair_quiet | apply wr_quiet | apply gradeLimit_quiet
    | apply clearLane_quiet

theorem clearDlc_kept {a0 s : State} (h : Kept a0 s) : Kept a0 (State.clearDlc s) :=
  h.quiet (clearDlc_quiet (Quiet.refl _) ..)

theorem askScan_quiet {a0 s : State} (h : Quiet a0 s) (d : DescRef) (a : ScanArg) : Quiet a0 (State.askScan s d a) := by
  unfold State.askScan
  with_reducible repeat' first
    | exact h | assumption | (intro) | apply ite_quiet | apply pair_quiet | apply fail_quiet | apply waitShared_quiet
    | apply checkEntity_quiet | apply startScan_quiet | split | dsimp only | (apply Quiet.upd; first | exact h | assumption)

theorem askScan_kept {a0 s : State} (h : Kept a0 s) (d : DescRef) (a : ScanArg) : Kept a0 (State.askScan s d a) :=
  h.quiet (askScan_quiet (Quiet.refl _) ..)

theorem scanDone_quiet {a0 s : State} (h : Quiet a0 s) (l : Nat) (counts : List Nat) : Quiet a0 (State.scanDone s l counts) := by
  unfold State.scanDone
  with_reducible repeat' first
    | exact h | assumption | (intro) | apply ite_quiet | apply pair_quiet | apply waitTill_quiet | apply emit_quiet
    | apply complete_quiet | apply start_quiet | apply nextScan_quiet | split | dsimp only
    | (apply Quiet.upd; first | exact h | assumption | (intro) | apply ite_quiet | apply pair_quiet | apply waitTill_quiet)

theorem scanDone_kept {a0 s : State} (h : Kept a0 s) (l : Nat) (counts : List Nat) : Kept a0 (State.scanDone s l counts) :=
  h.quiet (scanDone_quiet (Quiet.refl _) ..)

theorem laneCtl_kept {a0 s : State} (h : Kept a0 s) (l : Nat) (k : State → State) (hk : ∀ u, Kept a0 u → Kept a0 (k u)) : Kept a0 (State.laneCtl s l k) := by
  unfold State.laneCtl
  with_reducible repeat' first
    | exact h | assumption | contradiction | (intro) | apply ite_kept | apply pair_kept | apply twinWatch_kept
    | apply gradeLimit_kept | apply hk

end Sys2Proof.Laws
end

