-- ==== Sys2Proof/Laws/QRindExec.lean ====
section
/-!
SUPPORT. Machine/RindExec.lean leaves grade, queue and mode alone and keeps register file and event log sound.
-/
namespace Sys2Proof.Laws

open Sys2Proof.Machine

variable {a0 : State}

theorem rindEffects_kept {a0 s : State} (h : Kept a0 s) : Kept a0 (State.rindEffects s) := by
  unfold State.rindEffects
  with_reducible repeat' first
    | exact h | assumption | contradiction | (intro) | apply ite_kept | apply ite_kept_fst | apply pair_kept
    | apply twinWatch_kept | apply haltTrigger_kept | apply guardExit_kept | apply limpTrigger_kept | apply foldl_kept

theorem rindActs_kept {a0 s : State} (h : Kept a0 s) : Kept a0 (State.rindActs s) := by
  unfold State.rindActs
  with_reducible repeat' first
    | exact h | assumption | contradiction | (intro) | apply ite_kept | apply pair_kept | apply rindEffects_kept
    | apply rindOut_kept | apply actLate_kept

theorem heartbeat_quiet {a0 s : State} (h : Quiet a0 s) (w : Nat) : Quiet a0 (State.heartbeat s w) := by
  unfold State.heartbeat
  with_reducible repeat' first
    | exact h | assumption | (intro) | apply ite_quiet | apply pair_quiet | apply driveSo_quiet | apply setHold_quiet
    | apply mirror_quiet | split | dsimp only | (apply Quiet.upd; exact h)

theorem heartbeat_kept {a0 s : State} (h : Kept a0 s) (w : Nat) : Kept a0 (State.heartbeat s w) :=
  h.quiet (heartbeat_quiet (Quiet.refl _) ..)

theorem functionExpire_kept {a0 s : State} (h : Kept a0 s) (which idx : Nat) : Kept a0 (s.functionExpire which idx) := by
  unfold State.functionExpire
  split
  · exact h
  · next key need act e =>
    have hact : ∀ u, Kept a0 u → Kept a0 (act u) := by
      intro u hu
      unfold State.functionOf at e
      dsimp only at e
      repeat' split at e
      all_goals first
        | (cases e; done)
        | (injection e with e; injection e with e1 e; injection e with e2 e; subst e; first
            | exact hu.quiet (trip_quiet (Quiet.refl _) ..)
            | exact hu.quiet (tripScope_quiet (Quiet.refl _) ..))
    exact ite_kept h (rindActs_kept (hact _ (Kept.upd (waitTill_kept h ..) rfl)))

theorem offConfirm_kept {a0 s : State} (h : Kept a0 s) (p : Nat) : Kept a0 (State.offConfirm s p) := by
  unfold State.offConfirm
  with_reducible repeat' first
    | exact h | assumption | contradiction | (intro) | apply ite_kept | apply pair_kept | apply rindActs_kept
    | apply waitTill_kept | split | dsimp only
    | (refine Kept.upd ?_ rfl; first | exact h | assumption | contradiction | (intro) | apply ite_kept | apply pair_kept | apply rindActs_kept | apply waitTill_kept)

theorem pulseAt_quiet {a0 s : State} (h : Quiet a0 s) (src : Nat) : Quiet a0 (State.pulseAt s src) := by
  unfold State.pulseAt
  with_reducible repeat' first
    | exact h | assumption | (intro) | apply ite_quiet | apply pair_quiet | apply waitTill_quiet | split | dsimp only
    | (apply Quiet.upd; first | exact h | assumption | (intro) | apply ite_quiet | apply pair_quiet | apply waitTill_quiet)

theorem pulseAt_kept {a0 s : State} (h : Kept a0 s) (src : Nat) : Kept a0 (State.pulseAt s src) :=
  h.quiet (pulseAt_quiet (Quiet.refl _) ..)

theorem testPulse_kept {a0 s : State} (h : Kept a0 s) (src : Nat) (follows : BitVec 16) (read : BitVec 8) (stuck : Bool) : Kept a0 (State.testPulse s src follows read stuck) := by
  unfold State.testPulse
  with_reducible repeat' first
    | exact h | assumption | contradiction | (intro) | apply ite_kept | apply ite_kept_fst | apply pair_kept
    | apply rindActs_kept | apply readbackOff_kept | apply rindFault_kept | apply limpCause_kept | apply evS_kept
    | apply setTerm_kept | apply foldl_kept | exact readbackOff_kept_eq (by assumption) (by assumption) | split | dsimp only
    | (refine Kept.upd ?_ rfl; first | exact h | assumption | contradiction | (intro) | apply ite_kept | apply ite_kept_fst | apply pair_kept | apply rindActs_kept | apply readbackOff_kept | apply rindFault_kept | apply limpCause_kept | apply evS_kept | apply setTerm_kept | apply foldl_kept)

theorem pdataWrite_quiet {a0 s : State} (h : Quiet a0 s) (v : Nat) : Quiet a0 (State.pdataWrite s v) := by
  unfold State.pdataWrite
  with_reducible repeat' first
    | exact h | assumption | (intro) | apply ite_quiet | apply pair_quiet | apply wr_quiet | apply ev_quiet
    | apply paramRefuse_quiet | split | dsimp only
    | (apply Quiet.upd; first | exact h | assumption | (intro) | apply ite_quiet | apply pair_quiet | apply wr_quiet)

theorem pdataWrite_kept {a0 s : State} (h : Kept a0 s) (v : Nat) : Kept a0 (State.pdataWrite s v) :=
  h.quiet (pdataWrite_quiet (Quiet.refl _) ..)

theorem cvReq_quiet {a0 s : State} (h : Quiet a0 s) (v : Nat) : Quiet a0 (State.cvReq s v) := by
  unfold State.cvReq
  with_reducible repeat' first
    | exact h | assumption | (intro) | apply ite_quiet | apply pair_quiet | apply wr_quiet | apply paramRefuse_quiet | split
    | dsimp only | (apply Quiet.upd; exact h)

theorem cvReq_kept {a0 s : State} (h : Kept a0 s) (v : Nat) : Kept a0 (State.cvReq s v) :=
  h.quiet (cvReq_quiet (Quiet.refl _) ..)

theorem cvDone_quiet {a0 s : State} (h : Quiet a0 s) : Quiet a0 (State.cvDone s) := by
  unfold State.cvDone
  with_reducible repeat' first
    | exact h | assumption | (intro) | apply ite_quiet | apply pair_quiet | apply wr_quiet | apply paramRefuse_quiet | split

theorem cvDone_kept {a0 s : State} (h : Kept a0 s) : Kept a0 (State.cvDone s) :=
  h.quiet (cvDone_quiet (Quiet.refl _) ..)

theorem confirm_quiet {a0 s : State} (h : Quiet a0 s) (v : Nat) : Quiet a0 (State.confirm s v) := by
  unfold State.confirm
  with_reducible repeat' first
    | exact h | assumption | (intro) | apply ite_quiet | apply pair_quiet | apply wr_quiet | apply paramRefuse_quiet | split
    | dsimp only | (apply Quiet.upd; exact h)

theorem confirm_kept {a0 s : State} (h : Kept a0 s) (v : Nat) : Kept a0 (State.confirm s v) :=
  h.quiet (confirm_quiet (Quiet.refl _) ..)

theorem setPassword_quiet {a0 s : State} (h : Quiet a0 s) (v : Nat) : Quiet a0 (State.setPassword s v) := by
  unfold State.setPassword
  with_reducible repeat' first
    | exact h | assumption | (intro) | apply ite_quiet | apply pair_quiet | apply wr_quiet | apply freshBytes_quiet
    | apply changeLog_quiet | exact freshBytes_quiet_eq (by assumption) (by assumption) | split | dsimp only
    | (apply Quiet.upd; first | exact h | assumption | (intro) | apply ite_quiet | apply pair_quiet | apply wr_quiet | apply freshBytes_quiet)

theorem setPassword_kept {a0 s : State} (h : Kept a0 s) (v : Nat) : Kept a0 (State.setPassword s v) :=
  h.quiet (setPassword_quiet (Quiet.refl _) ..)

theorem hbLost_quiet {a0 s : State} (h : Quiet a0 s) : Quiet a0 (State.hbLost s) := by
  unfold State.hbLost
  with_reducible repeat' first
    | exact h | assumption | (intro) | apply ite_quiet | apply pair_quiet | apply mirror_quiet | split | dsimp only
    | (apply Quiet.upd; exact h)

theorem hbLost_kept {a0 s : State} (h : Kept a0 s) : Kept a0 (State.hbLost s) :=
  h.quiet (hbLost_quiet (Quiet.refl _) ..)

theorem discExpire_kept {a0 s : State} (h : Kept a0 s) (i : Nat) : Kept a0 (State.discExpire s i) := by
  unfold State.discExpire
  with_reducible repeat' first
    | exact h | assumption | contradiction | (intro) | apply ite_kept | apply pair_kept | apply rindActs_kept
    | apply pairTrips_kept | apply discFault_kept | apply setPair_kept

theorem aliveUp_kept {a0 s : State} (h : Kept a0 s) : Kept a0 (State.aliveUp s) := by
  unfold State.aliveUp
  with_reducible repeat' first
    | exact h | assumption | contradiction | (intro) | apply ite_kept | apply pair_kept | apply twinWatch_kept
    | apply mirror_kept | split | dsimp only | (refine Kept.upd ?_ rfl; exact h)

theorem unlockPwd_quiet {a0 s : State} (h : Quiet a0 s) : Quiet a0 (State.unlockPwd s) := by
  unfold State.unlockPwd
  with_reducible repeat' first
    | exact h | assumption | (intro) | apply ite_quiet | apply pair_quiet | apply wr_quiet | split | dsimp only
    | (apply Quiet.upd; exact h)

theorem unlockPwd_kept {a0 s : State} (h : Kept a0 s) : Kept a0 (State.unlockPwd s) :=
  h.quiet (unlockPwd_quiet (Quiet.refl _) ..)

theorem storesFresh_quiet {a0 s : State} (h : Quiet a0 s) : Quiet a0 (State.storesFresh s) := by
  unfold State.storesFresh
  with_reducible repeat' first
    | exact h | assumption | (intro) | apply ite_quiet | apply pair_quiet | split | dsimp only | (apply Quiet.upd; exact h)

theorem storesFresh_kept {a0 s : State} (h : Kept a0 s) : Kept a0 (State.storesFresh s) :=
  h.quiet (storesFresh_quiet (Quiet.refl _) ..)

end Sys2Proof.Laws
end

