-- ==== Sys2Proof/Laws/QHostWrite.lean ====
section
/-!
SUPPORT. Machine/HostWrite.lean leaves grade, queue and mode alone and keeps register file and event log sound.
-/
namespace Sys2Proof.Laws

open Sys2Proof.Machine

variable {a0 : State}

theorem storeField_quiet {a0 s : State} (h : Quiet a0 s) (off : Nat) (v : Nat) (f : FieldDef) : Quiet a0 (State.storeField s off v f) := by
  unfold State.storeField
  with_reducible repeat' first | exact h | assumption | (intro) | apply ite_quiet | apply pair_quiet | apply wr_quiet

theorem storeField_kept {a0 s : State} (h : Kept a0 s) (off : Nat) (v : Nat) (f : FieldDef) : Kept a0 (State.storeField s off v f) :=
  h.quiet (storeField_quiet (Quiet.refl _) ..)

theorem writeSealed_quiet {a0 s : State} (h : Quiet a0 s) (r : RegDef) (off : Nat) (v : Nat) (raw : Nat) : Quiet a0 (State.writeSealed s r off v raw) := by
  unfold State.writeSealed
  with_reducible repeat' first
    | exact h | assumption | (intro) | apply ite_quiet | apply ite_quiet_fst | apply pair_quiet | apply ev_quiet
    | apply storeField_quiet | apply foldl_quiet

theorem writeSealed_kept {a0 s : State} (h : Kept a0 s) (r : RegDef) (off : Nat) (v : Nat) (raw : Nat) : Kept a0 (State.writeSealed s r off v raw) :=
  h.quiet (writeSealed_quiet (Quiet.refl _) ..)

theorem writeOpen_quiet {a0 s : State} (h : Quiet a0 s) (r : RegDef) (off : Nat) (v : Nat) : Quiet a0 (State.writeOpen s r off v) := by
  unfold State.writeOpen
  with_reducible repeat' first
    | exact h | assumption | (intro) | apply ite_quiet | apply ite_quiet_fst | apply pair_quiet | apply wr_quiet
    | apply storeField_quiet | apply foldl_quiet | apply foldl_quiet_fst | apply foldl_quiet_snd | split

theorem writeOpen_kept {a0 s : State} (h : Kept a0 s) (r : RegDef) (off : Nat) (v : Nat) : Kept a0 (State.writeOpen s r off v) :=
  h.quiet (writeOpen_quiet (Quiet.refl _) ..)

theorem modeReq_kept {a0 s : State} (h : Kept a0 s) (v : Nat) : Kept a0 (State.modeReq s v) := by
  unfold State.modeReq
  with_reducible repeat' first
    | exact h | assumption | contradiction | (intro) | apply ite_kept | apply pair_kept | apply twinWatch_kept
    | apply requestHalt_kept | apply requestLimp_kept | apply requestCommission_kept | apply requestDormant_kept
    | apply requestRun_kept | apply request_kept | apply shadow_kept | apply refuseMode_kept | split

theorem writeLaneCtl_kept {a0 s : State} (h : Kept a0 s) (l : Nat) (v : Nat) : Kept a0 (State.writeLaneCtl s l v) := by
  unfold State.writeLaneCtl
  with_reducible repeat' first
    | exact h | assumption | contradiction | (intro) | apply ite_kept | apply pair_kept | apply laneCtl_kept
    | apply lpOff_kept | apply lpLow_kept | apply lpUp_kept | apply laneDown_kept | split

theorem writeCceCtl_quiet {a0 s : State} (h : Quiet a0 s) (k : Nat) (v : Nat) : Quiet a0 (State.writeCceCtl s k v) := by
  unfold State.writeCceCtl
  with_reducible repeat' first
    | exact h | assumption | (intro) | apply ite_quiet | apply pair_quiet | apply connectCv_quiet | apply disconnectCv_quiet
    | apply unlatchCv_quiet

theorem writeCceCtl_kept {a0 s : State} (h : Kept a0 s) (k : Nat) (v : Nat) : Kept a0 (State.writeCceCtl s k v) :=
  h.quiet (writeCceCtl_quiet (Quiet.refl _) ..)

theorem writeCanCtl_quiet {a0 s : State} (h : Quiet a0 s) (n : Nat) (v : Nat) : Quiet a0 (State.writeCanCtl s n v) := by
  unfold State.writeCanCtl
  with_reducible repeat' first
    | exact h | assumption | (intro) | apply ite_quiet | apply pair_quiet | apply wr_quiet | apply canSleep_quiet
    | apply canAwake_quiet | apply canRecReq_quiet

theorem writeCanCtl_kept {a0 s : State} (h : Kept a0 s) (n : Nat) (v : Nat) : Kept a0 (State.writeCanCtl s n v) :=
  h.quiet (writeCanCtl_quiet (Quiet.refl _) ..)

theorem writeCan_quiet {a0 s : State} (h : Quiet a0 s) (r : RegDef) (off : Nat) (v : Nat) (raw : Nat) : Quiet a0 (State.writeCan s r off v raw) := by
  unfold State.writeCan
  with_reducible repeat' first
    | exact h | assumption | (intro) | apply ite_quiet | apply pair_quiet | apply canClear_quiet | apply writeSealed_quiet
    | apply writeOpen_quiet | apply writeCanCtl_quiet

theorem writeCan_kept {a0 s : State} (h : Kept a0 s) (r : RegDef) (off : Nat) (v : Nat) (raw : Nat) : Kept a0 (State.writeCan s r off v raw) :=
  h.quiet (writeCan_quiet (Quiet.refl _) ..)

theorem writeRing_quiet {a0 s : State} (h : Quiet a0 s) (r : RegDef) (off : Nat) (v : Nat) : Quiet a0 (State.writeRing s r off v) := by
  unfold State.writeRing
  with_reducible repeat' first
    | exact h | assumption | (intro) | apply ite_quiet | apply pair_quiet | apply enableRing_quiet | apply ringOff_quiet
    | apply writeOpen_quiet | split

theorem writeRing_kept {a0 s : State} (h : Kept a0 s) (r : RegDef) (off : Nat) (v : Nat) : Kept a0 (State.writeRing s r off v) :=
  h.quiet (writeRing_quiet (Quiet.refl _) ..)

theorem writeAttnEn_quiet {a0 s : State} (h : Quiet a0 s) (v : Nat) : Quiet a0 (State.writeAttnEn s v) := by
  unfold State.writeAttnEn
  with_reducible repeat' first
    | exact h | assumption | (intro) | apply ite_quiet | apply pair_quiet | apply wr_quiet | apply message_quiet

theorem writeAttnEn_kept {a0 s : State} (h : Kept a0 s) (v : Nat) : Kept a0 (State.writeAttnEn s v) :=
  h.quiet (writeAttnEn_quiet (Quiet.refl _) ..)

theorem portsChanged_quiet {a0 s : State} (h : Quiet a0 s) (old : State) : Quiet a0 (State.portsChanged s old) := by
  unfold State.portsChanged
  with_reducible repeat' first
    | exact h | assumption | (intro) | apply ite_quiet | apply ite_quiet_fst | apply pair_quiet | apply slacArm_quiet
    | apply portDisabled_quiet | apply foldl_quiet

theorem portsChanged_kept {a0 s : State} (h : Kept a0 s) (old : State) : Kept a0 (State.portsChanged s old) :=
  h.quiet (portsChanged_quiet (Quiet.refl _) ..)

theorem writePlain_quiet {a0 s : State} (h : Quiet a0 s) (r : RegDef) (off : Nat) (v : Nat) (raw : Nat) : Quiet a0 (State.writePlain s r off v raw) := by
  unfold State.writePlain
  with_reducible repeat' first
    | exact h | assumption | (intro) | apply ite_quiet | apply pair_quiet | apply wr_quiet | apply retick_quiet
    | apply selectSource_quiet | apply showJrnl_quiet | apply typeChanged_quiet | apply writeSealed_quiet
    | apply writeOpen_quiet | apply portsChanged_quiet | split

theorem writePlain_kept {a0 s : State} (h : Kept a0 s) (r : RegDef) (off : Nat) (v : Nat) (raw : Nat) : Kept a0 (State.writePlain s r off v raw) :=
  h.quiet (writePlain_quiet (Quiet.refl _) ..)

theorem writeReg_kept {a0 s : State} (h : Kept a0 s) (r : RegDef) (off : Nat) (v : Nat) (raw : Nat) : Kept a0 (State.writeReg s r off v raw) := by
  unfold State.writeReg
  with_reducible repeat' first
    | exact h | assumption | contradiction | (intro) | apply ite_kept | apply pair_kept | apply writePlain_kept
    | apply writeAttnEn_kept | apply writeRing_kept | apply writeCan_kept | apply writeCceCtl_kept | apply writeLaneCtl_kept
    | apply modeReq_kept | apply writeSealed_kept | apply setPassword_kept | apply confirm_kept | apply cvReq_kept
    | apply pdataWrite_kept | apply clearDlc_kept | apply clearClc_kept | apply clearLch_kept | apply resync_kept
    | apply twinWatch_kept | apply kick_kept | apply swrst_kept | apply clearDiePeaks_kept | apply clearLsbCounts_kept
    | apply unlockLsb_kept | apply hostLsbOn_kept | apply pluClear_kept | apply pilotControl_kept | apply seeCommit_kept
    | apply clearCceCounts_kept | apply clearCcePeaks_kept | apply restartWhey_kept | apply clearAlpCounts_kept
    | apply clearStages_kept | apply writeTickLen_kept | apply hifClear_kept | apply attnWrite_kept | apply armLabel_kept
    | apply setTime_kept | split | dsimp only | (refine Kept.upd ?_ rfl; exact h)

theorem writeMsix_quiet {a0 s : State} (h : Quiet a0 s) (off : Nat) (v : Nat) : Quiet a0 (State.writeMsix s off v) := by
  unfold State.writeMsix
  with_reducible repeat' first
    | exact h | assumption | (intro) | apply ite_quiet | apply pair_quiet | apply wr_quiet | apply msixVec_quiet

theorem writeMsix_kept {a0 s : State} (h : Kept a0 s) (off : Nat) (v : Nat) : Kept a0 (State.writeMsix s off v) :=
  h.quiet (writeMsix_quiet (Quiet.refl _) ..)

theorem hostWrite_kept {a0 s : State} (h : Kept a0 s) (off : Nat) (size : Nat) (v : Nat) : Kept a0 (State.hostWrite s off size v) := by
  unfold State.hostWrite
  with_reducible repeat' first
    | exact h | assumption | contradiction | (intro) | apply ite_kept | apply pair_kept | apply writeMsix_kept
    | apply writeReg_kept | apply writeGroup_kept | apply gradeCut_kept | apply gradeLimit_kept
    | exact gradeCut_kept_eq (by assumption) (by assumption) | split

theorem dropJob_quiet {a0 s : State} (h : Quiet a0 s) (r : Nat) (idx : Nat) : Quiet a0 (State.dropJob s r idx) := by
  unfold State.dropJob
  with_reducible repeat' first
    | exact h | assumption | (intro) | apply ite_quiet | apply pair_quiet | apply nextScan_quiet | apply nextMcap_quiet
    | split | dsimp only | (apply Quiet.upd; exact h)

theorem dropJob_kept {a0 s : State} (h : Kept a0 s) (r : Nat) (idx : Nat) : Kept a0 (State.dropJob s r idx) :=
  h.quiet (dropJob_quiet (Quiet.refl _) ..)

end Sys2Proof.Laws
end

