-- ==== Sys2Proof/Laws/QTick.lean ====
section
/-!
SUPPORT. Machine/Tick.lean leaves grade, queue and mode alone and keeps register file and event log sound.
-/
namespace Sys2Proof.Laws

open Sys2Proof.Machine

variable {a0 : State}

theorem countSilent_quiet {a0 s : State} (h : Quiet a0 s) : Quiet a0 (State.countSilent s) := by
  unfold State.countSilent
  with_reducible repeat' first
    | exact h | assumption | (intro) | apply ite_quiet | apply pair_quiet | apply shadow_quiet | split | dsimp only
    | (apply Quiet.upd; exact h)

theorem countSilent_kept {a0 s : State} (h : Kept a0 s) : Kept a0 (State.countSilent s) :=
  h.quiet (countSilent_quiet (Quiet.refl _) ..)

theorem forgetSess_quiet {a0 s : State} (h : Quiet a0 s) (tN : Nat) : Quiet a0 (State.forgetSess s tN) := by
  unfold State.forgetSess
  with_reducible repeat' first
    | exact h | assumption | (intro) | apply ite_quiet | apply pair_quiet | split | dsimp only | (apply Quiet.upd; exact h)

theorem forgetSess_kept {a0 s : State} (h : Kept a0 s) (tN : Nat) : Kept a0 (State.forgetSess s tN) :=
  h.quiet (forgetSess_quiet (Quiet.refl _) ..)

theorem strobe_kept {a0 s : State} (h : Kept a0 s) : Kept a0 (State.strobe s).1 := by
  unfold State.strobe
  with_reducible repeat' first
    | exact h | assumption | contradiction | (intro) | apply ite_kept | apply ite_kept_fst | apply pair_kept
    | apply forgetSess_kept | apply countSilent_kept | apply noteClaims_kept | apply demoteCheck_kept | apply startCopy_kept
    | apply closeWindow_kept | apply limpNow_kept | apply guardStrobe_kept | apply takeHeld_kept | apply pressPublish_kept
    | apply hideLate_kept | apply waitSite_kept | split | dsimp only
    | (refine Kept.upd ?_ rfl; first | exact h | assumption | contradiction | (intro) | apply ite_kept | apply ite_kept_fst | apply pair_kept | apply forgetSess_kept | apply countSilent_kept | apply noteClaims_kept | apply demoteCheck_kept | apply startCopy_kept)

theorem strobe_kept_eq {a0 s s1 : State} {b0}  (h : Kept a0 s) (hE : State.strobe s = (s1, b0)) : Kept a0 s1 := by
  have := strobe_kept h  
  rw [hE] at this
  exact this

theorem stages_quiet {a0 s : State} (h : Quiet a0 s) (g : Snap) (times : List Nat) : Quiet a0 (State.stages s g times) := by
  unfold State.stages
  with_reducible repeat' first
    | exact h | assumption | (intro) | apply ite_quiet | apply pair_quiet | apply shadow_quiet | apply pipeline_quiet
    | split | dsimp only
    | (apply Quiet.upd; first | exact h | assumption | (intro) | apply ite_quiet | apply pair_quiet | apply shadow_quiet | apply pipeline_quiet)

theorem stages_kept {a0 s : State} (h : Kept a0 s) (g : Snap) (times : List Nat) : Kept a0 (State.stages s g times) :=
  h.quiet (stages_quiet (Quiet.refl _) ..)

theorem tick_kept {a0 s : State} (h : Kept a0 s) (times : List Nat) : Kept a0 (State.tick s times) := by
  unfold State.tick
  with_reducible repeat' first
    | exact h | assumption | contradiction | (intro) | apply ite_kept | apply pair_kept | apply stages_kept
    | apply strobe_kept | apply twinWatch_kept | apply twinAfterSeal_kept | apply showLate_kept

theorem passBoundary_quiet {a0 s : State} (h : Quiet a0 s) : Quiet a0 (State.passBoundary s) := by
  unfold State.passBoundary
  with_reducible repeat' first
    | exact h | assumption | (intro) | apply ite_quiet | apply pair_quiet | apply waitSite_quiet | apply pressPublish_quiet
    | apply forgetSess_quiet | split | dsimp only
    | (apply Quiet.upd; first | exact h | assumption | (intro) | apply ite_quiet | apply pair_quiet | apply waitSite_quiet | apply pressPublish_quiet | apply forgetSess_quiet)

theorem passBoundary_kept {a0 s : State} (h : Kept a0 s) : Kept a0 (State.passBoundary s) :=
  h.quiet (passBoundary_quiet (Quiet.refl _) ..)

theorem overrunEvent_quiet {a0 s : State} (h : Quiet a0 s) (tick : Nat) (stage : Nat) (cycles : Nat) (mem : Option (BitVec 16 × Fin 3)) : Quiet a0 (State.overrunEvent s tick stage cycles mem) := by
  unfold State.overrunEvent
  with_reducible repeat' first
    | exact h | assumption | (intro) | apply ite_quiet | apply pair_quiet | apply cycles_quiet | apply ev_quiet
    | apply tick_quiet | split

theorem overrunEvent_kept {a0 s : State} (h : Kept a0 s) (tick : Nat) (stage : Nat) (cycles : Nat) (mem : Option (BitVec 16 × Fin 3)) : Kept a0 (State.overrunEvent s tick stage cycles mem) :=
  h.quiet (overrunEvent_quiet (Quiet.refl _) ..)

theorem overrun_kept {a0 s : State} (h : Kept a0 s) (stage cycles : Nat) (mem : Option (BitVec 16 × Fin 3)) :
    Kept a0 (s.overrun stage cycles mem) := by
  unfold State.overrun
  with_reducible
    apply twinWatch_kept
    apply afterOverrun_kept
    apply showLate_kept
    apply repeatCurd_kept
    apply overrunEvent_kept
    apply waitSite_kept
    apply storeSnap_kept
    exact strobe_kept h

end Sys2Proof.Laws
end

