-- ==== Sys2Proof/Laws/Reset.lean ====
section
/-!
SUPPORT. What a reset of the main domains, a change of mode and the end of boot leave in the fields they decide.
-/
namespace Sys2Proof.Laws

open Sys2Proof.Machine

/-- A read of a table with some indices dropped. -/
theorem tget_filter {α : Type} (d : Nat → α) (t : Tab α) (p : Nat → Bool) (k : Nat) :
    tget d (t.filter (fun x => p x.1)) k = if p k then tget d t k else d k := by
  induction t with
  | nil => simp [tget]
  | cons x r ih =>
    obtain ⟨i, u⟩ := x
    by_cases hk : i = k
    · subst hk
      by_cases hp : p i = true
      · simp [hp, tget]
      · simp only [Bool.not_eq_true] at hp
        simp only [List.filter_cons, hp, Bool.false_eq_true, if_false] at ih ⊢
        exact ih
    · by_cases hp : p i = true
      · simp only [List.filter_cons, hp, if_true, tget, hk, if_false]; exact ih
      · simp only [Bool.not_eq_true] at hp
        simp only [List.filter_cons, hp, Bool.false_eq_true, if_false, tget, hk]; exact ih

/-- Every field of Glb but limpPend comes through ordinary work. -/
theorem Quiet.glbField {a s : State} (h : Quiet a s) {α : Type} (g : Glb → α) (hg : ∀ x : Glb, g { x with limpPend := none } = g x) :
    g s.glb = g a.glb := by
  rw [← hg s.glb, ← hg a.glb, h.glb]

/-- The state of the Rind's parameter refusal. -/
theorem rd_paramRefuse (s : State) {f : Fld} (c o : Nat) (h2 : f.off ≠ SFI_CONFIRM_STAT.STATE.off) :
    (s.paramRefuse c o).rd f = s.rd f := by
  have he : ∀ u : State, (u.evS 0x0E0B 0 c o).rd f = u.rd f := fun u => by
    apply rd_regs
    unfold State.evS State.logFrom; dsimp only; split <;> rfl
  unfold State.paramRefuse
  dsimp only
  rw [he, rd_wr_other _ _ (by exact h2.symm), rd_wr_other _ _ (by exact h2.symm), rd_wr_other _ _ (by exact h2.symm)]
  rfl

theorem mainReset_holds (s : State) : s.mainReset.glb.holds = s.glb.holds := by
  unfold State.mainReset
  dsimp only [wr_glb]
  split
  · exact (paramRefuse_quiet (Quiet.refl s) 5 0).holds
  · rfl

/-- A register of VAON comes through a reset of the main domains. -/
theorem rd_mainReset (s : State) {f : Fld} (hv : vaonReg f.off = true) (h1 : f.off ≠ THM_STAT.DIE_TRIP.off)
    (h2 : f.off ≠ SFI_CONFIRM_STAT.STATE.off) : s.mainReset.rd f = s.rd f := by
  have e : ∀ z u : State, z.regs = u.regs.filter (fun p => vaonReg p.1) → z.rd f = u.rd f := fun z u hz => by
    unfold State.rd State.reg
    rw [hz, tget_filter, hv]
    rfl
  unfold State.mainReset
  refine (rd_wr_other _ _ (Ne.symm h1)).trans ?_
  refine (e _ _ rfl).trans ?_
  split
  · exact rd_paramRefuse s 5 0 h2
  · rfl

/-! ### A change of mode -/

/-- The mode, its cause and the mode before it. -/
def shown (g : Glb) : Mode × Nat × Mode := (g.mode, g.lastCause, g.prevMode)

theorem Quiet.shown {a s : State} (h : Quiet a s) : shown s.glb = shown a.glb := h.glbField Laws.shown (fun _ => rfl)

theorem onEntry_shown (s : State) (p n : Mode) : shown (s.onEntry p n).glb = shown s.glb := by
  cases n with
  | dormant => rfl
  | commission =>
    unfold State.onEntry
    exact (changeLog_quiet (Quiet.upd (Quiet.refl s)) 5).shown
  | active =>
    unfold State.onEntry
    have h : Quiet s ((s.lanesWake.armPress.seeEnter.authAll).wr ALP_SHORT_CNT.CNT 0) :=
      wr_quiet (authAll_quiet (seeEnter_quiet (armPress_quiet (lanesWake_quiet (Quiet.refl s))))) _ _
    dsimp only
    split
    · exact h.shown
    · exact (raiseEpoch_quiet h).shown
  | shadow =>
    unfold State.onEntry
    exact (shadowClaim_quiet (enterSync_quiet (wr_quiet (seeEnter_quiet (armPress_quiet (lanesWake_quiet (Quiet.refl s)))) _ _))).shown
  | limp =>
    unfold State.onEntry
    exact (lanesWake_quiet (attn_quiet (foldl_quiet (fun u x h => abortMig_quiet h x 0x4B) (Quiet.upd (Quiet.refl s))) 0)).shown
  | halt =>
    unfold State.onEntry
    exact (lanesWake_quiet (attn_quiet (endSessions_quiet
      (foldl_quiet (fun u x h => abortMig_quiet h x 0x4B) (Quiet.upd (Quiet.refl s)))) 1)).shown

/-- After a transition the mode is the new one, with its cause and the mode before it (R39, R46). -/
theorem setMode_shown (s : State) (new : Mode) (cause : Nat) : shown (s.setMode new cause).glb = (new, cause, s.glb.mode) := by
  have hl : Quiet s (s.leaveMode new) := by
    unfold State.leaveMode
    exact ite_quiet (paramRefuse_quiet (ite_quiet (sendHeartbeat_quiet (Quiet.refl s) _) (Quiet.refl s)) 5 0)
      (ite_quiet (sendHeartbeat_quiet (Quiet.refl s) _) (Quiet.refl s))
  have hs : ∀ u : State, u.glb.mode = s.glb.mode → shown (u.showMode new cause).glb = (new, cause, s.glb.mode) := fun u hu => by
    unfold State.showMode
    extract_lets p fresh g s2 s3
    have h3 : shown s3.glb = (new, cause, s.glb.mode) := by
      have : Quiet s2 s3 := ev_quiet (wr_quiet (Quiet.refl s2) _ _) _ _ _ _
      rw [this.shown]
      show (new, cause, u.glb.mode) = _
      rw [hu]
    split
    · rw [(retick_quiet (Quiet.refl s3)).shown, h3]
    · exact h3
  have ht : ∀ u : State, Quiet u (u.twinMarks new) := fun u => by
    unfold State.twinMarks
    exact wr_quiet (ite_quiet (Quiet.refl u) (wr_quiet (wr_quiet (wr_quiet (Quiet.refl u) _ _) _ _) _ _)) _ _
  have hr : ∀ u : State, ∀ p, Quiet u (u.repStart p new) := fun u p => by
    unfold State.repStart
    exact ite_quiet (Quiet.upd (Quiet.refl u)) (Quiet.refl u)
  unfold State.setMode
  dsimp only
  rw [(selectSource_quiet (canRoles_quiet (hr _ _))).shown, onEntry_shown, (ht _).shown]
  exact hs _ hl.mode

theorem setMode_mode (s : State) (new : Mode) (cause : Nat) :
    (s.setMode new cause).glb.mode = new ∧ (s.setMode new cause).glb.lastCause = cause ∧
    (s.setMode new cause).glb.prevMode = s.glb.mode := by
  have h := setMode_shown s new cause
  unfold shown at h
  simp only [Prod.mk.injEq] at h
  exact h

/-- Outside SHADOW the standby's watch does nothing. -/
theorem twinWatch_of_mode {s : State} (h : s.glb.mode ≠ .shadow) : s.twinWatch = s := by
  unfold State.twinWatch
  simp [h]

/-! ### A power-order violation, and the end of boot -/

theorem mainReset_pwr (s : State) : s.mainReset.glb.pwrEn = s.glb.pwrEn ∧ s.mainReset.glb.window = s.glb.window := by
  unfold State.mainReset
  dsimp only [wr_glb]
  split
  · exact ⟨(paramRefuse_quiet (Quiet.refl s) 5 0).glbField (·.pwrEn) (fun _ => rfl),
      (paramRefuse_quiet (Quiet.refl s) 5 0).glbField (·.window) (fun _ => rfl)⟩
  · exact ⟨rfl, rfl⟩

/-- A violation holds the order, takes PWR_EN low and resets the main domains (R29, R30). -/
theorem violation_glb (s : State) (who : Nat) :
    (s.violation who).glb.holds.order = true ∧ (s.violation who).glb.pwrEn = false ∧ (s.violation who).glb.window = none ∧
    (s.violation who).glb.mode = .dormant ∧ (s.violation who).glb.booting = true := by
  unfold State.violation
  dsimp only
  generalize hu : State.wr _ GLB_RST_CAUSE.ORDER 1 = u
  have hq : ∀ len, Quiet u.mainReset (((u.mainReset.ev 0x0102 0 who len).driveSo.setHold false).driveAll) := fun len =>
    driveAll_quiet (setHold_quiet (driveSo_quiet (ev_quiet (Quiet.refl _) _ _ _ _)) _)
  have hp := mainReset_pwr u
  refine ⟨?_, ?_, ?_, ?_, ?_⟩
  · rw [(hq _).holds, mainReset_holds, ← hu]; rfl
  · rw [(hq _).glbField (·.pwrEn) (fun _ => rfl), hp.1, ← hu]; rfl
  · rw [(hq _).glbField (·.window) (fun _ => rfl), hp.2, ← hu]; rfl
  · rw [(hq _).mode]; rfl
  · rw [(hq _).booting]; rfl

theorem logKept_glb (s : State) : s.logKept.glb = s.glb := by
  unfold State.logKept
  have : ∀ (l : List Event) (u : State), (l.foldl (fun a e => a.pushEvent e) u).glb = u.glb := fun l => by
    induction l with
    | nil => exact fun _ => rfl
    | cons e r ih => exact fun u => (ih (u.pushEvent e)).trans rfl
  exact this _ _

/-- Boot ends with BOOTING clear (R45). -/
theorem boot_booting (s : State) (tries bits : Nat) (meas : List Nat) (bad : List MramPart) :
    (s.boot tries bits meas bad).glb.booting = false := by
  unfold State.boot
  generalize State.bootLanes _ = u
  unfold State.bootEnd
  extract_lets cause g s8 s9
  rw [ev_glb, logKept_glb]
  have : Quiet s8 s9 := canRoles_quiet (wr_quiet (Quiet.refl s8) _ _)
  rw [this.booting]

end Sys2Proof.Laws
end

