-- ==== Sys2Proof/Laws/F01.lean ====
section
/-!
SUPPORT. Laws of the operations that the statements of the family SuppliesResetAndBoot meet.
-/
namespace Sys2Proof.Laws.SuppliesResetAndBoot

open Sys2Proof Sys2Proof.Machine Sys2Proof.Laws

set_option linter.all false

theorem setGood_on (s : State) (i : Nat) (h : s.glb.inReg.testBit 0 = true) :
    s.setGood i true = { s with glb := { s.glb with inReg := setBit s.glb.inReg i true } }.wr GLB_PWR_STAT.PGOOD (setBit s.glb.inReg i true) := by
  unfold State.setGood
  dsimp only
  rw [if_neg (by simp)]
  unfold State.showGood
  rw [if_pos]
  show (setBit s.glb.inReg i true).testBit 0 = true
  unfold setBit
  simp only [if_true]
  rw [Nat.testBit_or, h]; rfl
theorem setGood_off (s : State) (i : Nat) (h0 : i ≠ 0) (h : s.glb.inReg.testBit 0 = true) :
    s.setGood i false = { s with glb := { s.glb with inReg := setBit s.glb.inReg i false } }.wr GLB_PWR_STAT.PGOOD (setBit s.glb.inReg i false) := by
  unfold State.setGood
  dsimp only
  rw [if_neg (by simp [h0])]
  unfold State.showGood
  rw [if_pos]
  show (setBit s.glb.inReg i false).testBit 0 = true
  unfold setBit
  simp only [Bool.false_eq_true, if_false]
  split
  · next hb =>
    have h1 : s.glb.inReg % 2 = 1 := by simpa [Nat.testBit_zero] using h
    have h2 : 2 ^ i % 2 = 0 := by obtain ⟨k, rfl⟩ := Nat.exists_eq_succ_of_ne_zero h0; rw [Nat.pow_succ]; omega
    have h3 : 2 ^ i ≤ s.glb.inReg := Nat.ge_two_pow_of_testBit hb
    rw [Nat.testBit_zero, Nat.one_shiftLeft]
    simp only [decide_eq_true_eq]
    omega
  · exact h

end Sys2Proof.Laws.SuppliesResetAndBoot
end

