-- ==== Sys2Proof/Laws/F02.lean ====
section
/-!
SUPPORT. Laws of the operations that the statements of the family RegisterWritesAndModes meet.
-/
namespace Sys2Proof.Laws.RegisterWritesAndModes

open Sys2Proof Sys2Proof.Machine Sys2Proof.Laws

set_option linter.all false

theorem hw (s : State) (off v : Nat) (r : RegDef) (ha : absentReg off = none) (hb : absentBits off = (0, entPort)) (h1 : off % 4 = 0) (h2 : off < 0x10000) (h3 : regFind off = some r) (h4 : off ≠ 0x10) :
    s.hostWrite off 4 v = s.writeReg r off v v := by
  unfold State.hostWrite
  have e2 : ¬ (0x7F000 ≤ off ∧ off < 0x7F010) := by omega
  have e3 : ¬ (0x10300 ≤ off ∧ off < 0x10400) := by omega
  simp only [h1, h3, ha, State.gradeCut, hb, e2, e3, h4]
  simp
  rw [if_neg e2, if_neg e3]
theorem limpNow_eq (u : State) (c : Nat) (h : u.glb.limpPend = some c) (hm : u.glb.mode = .active) : u.limpNow = u.setMode .limp c := by
  unfold State.limpNow
  simp only [h, hm, if_true]
def withLimp (u : State) (c : Nat) : State := { u with glb := { u.glb with limpPend := some c } }
theorem limpTrigger_active (u : State) (c : Nat) (h : u.glb.mode = .active) (hl : u.glb.limpPend = none) : u.limpTrigger c = withLimp u c := by
  unfold State.limpTrigger State.preempt withLimp
  simp [h, hl]
theorem wdogExpire_active (u : State) (h : u.glb.mode = .active) (hl : u.glb.limpPend = none) :
    u.wdogExpire = withLimp ({ u with glb := { u.glb with wdogOut := true } }.ev 0x0105 0 (u.rd GLB_HOST_WDOG.PERIOD) 2) 2 := by
  unfold State.wdogExpire
  simp only [h]
  rw [limpTrigger_active _ _ (by simp [h]) (by simp [hl])]
theorem wake_glb (s : State) (b : Nat) : (s.wake b).glb = { s.glb with pwrEn := true } := rfl
theorem wake_regs (s : State) (b : Nat) : (s.wake b).regs = (s.wrBit GLB_WAKE_STAT.SOURCE b true).regs := rfl
theorem wake_rdBit (s : State) (b : Nat) (h : b < 4) : (s.wake b).rdBit GLB_WAKE_STAT.SOURCE b = true := by
  unfold State.rdBit
  rw [rd_regs (wake_regs s b)]
  exact rdBit_wrBit_same s (f := GLB_WAKE_STAT.SOURCE) true (by decide) h
theorem wake_rd (s : State) (b : Nat) (f : Fld) (h : f.off ≠ 0x70) : (s.wake b).rd f = s.rd f := by
  rw [rd_regs (wake_regs s b)]
  exact rd_wr_other _ _ (Ne.symm h)
theorem find_none (l : List (Bool × Nat)) (h : l.all (·.1) = true) : l.find? (fun x => !x.1) = none := by
  rw [List.find?_eq_none]; intro x hx
  have := List.all_eq_true.mp h x hx
  simp [this]
theorem beginRun_mode (s : State) (m : Mode) (c b : Bool) : (s.beginRun m c b).glb.mode = m ∧ (s.beginRun m c b).glb.lastCause = 1 := by
  unfold State.beginRun
  exact ⟨(setMode_mode _ _ _).1, (setMode_mode _ _ _).2.1⟩

end Sys2Proof.Laws.RegisterWritesAndModes
end

