-- ==== Sys2Proof/Laws/F03.lean ====
section
/-!
SUPPORT. Laws of the operations that the statements of the family ClocksAndSiteTime meet.
-/
namespace Sys2Proof.Laws.ClocksAndSiteTime

open Sys2Proof Sys2Proof.Machine Sys2Proof.Laws

set_option linter.all false

theorem refFault_hold (s : State) (c : Nat) (h : s.glb.holds.ref = false) : (s.refFault c).glb.holds.ref = true ∧ (s.refFault c).glb.mode = .dormant ∧ (s.refFault c).glb.booting = true ∧ (s.refFault c).stu.refHold = some (s.now, c) := by
  unfold State.refFault
  simp only [h, Bool.false_eq_true, if_false]
  refine ⟨?_, ?_, ?_, ?_⟩ <;> first | rfl | trivial
theorem acquire_valid (s : State) (a b : Nat) : (s.acquire a b).flag STU_DISC_STAT.VALID = true := by
  unfold State.acquire State.flag
  rw [rd_regs (retick_regs _), rd_ev]
  exact flag_wr_one _ (f := STU_DISC_STAT.VALID) (by decide) (by decide)
theorem acquire_stu (s : State) (a b : Nat) : (s.acquire a b).stu.site = a % 2 ^ 64 * 2 ^ 32 := by
  unfold State.acquire
  rw [retick_site, ev_stu, wr_stu]
theorem acquire_site (s : State) (a b : Nat) : (s.acquire a b).siteNs = a % 2 ^ 64 := by
  unfold State.siteNs
  rw [acquire_stu, Nat.mul_div_cancel _ (by decide), Nat.mod_mod]
theorem logOne_congr {s t u v : State} {c e a b : Nat} (hs : v.log = s.log) (ht : u.log = t.log) (h : s.logOne t c e a b) : v.logOne u c e a b := by
  unfold State.logOne State.newest at *
  rw [hs, ht]; exact h
theorem acquire_log (s : State) (a b : Nat) (h : s.mainUp = true) : s.logOne (s.acquire a b) 0x0214 0 (b % 2 ^ 64) (a % 2 ^ 64) := by
  unfold State.acquire
  generalize hu : State.wr _ STU_DISC_STAT.VALID 1 = u
  have hm : u.mainUp = true := by rw [← hu, mainUp_wr _ _ (by decide)]; simpa using h
  exact logOne_congr (by rw [← hu]; simp) (retick_log _) (ev_logOne u 0x0214 0 b a hm)
theorem siteNs_stu {t : State} (u : State) (h : t.stu.site = u.stu.site) : t.siteNs = u.siteNs := by
  unfold State.siteNs; rw [h]
theorem rtcAlign_run (s : State) (h1 : s.mainUp = true) (h2 : s.flag STU_DISC_STAT.VALID = true) :
    ∃ u : State, exec .rtcAlign s = .next { (u.wr STU_RTC_SEC.SEC (u.siteNs / 1000000000)) with stu := { (u.wr STU_RTC_SEC.SEC (u.siteNs / 1000000000)).stu with rtcBase := u.siteNs, rtcAt := u.now } } := by
  refine ⟨s.waitSite (divUp s.siteNs 1000000000 * 1000000000), ?_⟩
  show execRtcAlign s = _
  unfold execRtcAlign
  rw [if_pos (by simp [h1, h2])]
theorem rtcAlign_site (v u : State) (n : Nat) (hs : v.stu = u.stu) (hn : u.siteNs = n) :
    ({ v with stu := { v.stu with rtcBase := n, rtcAt := u.now } } : State).siteNs = n := by
  have h0 : v.stu.site = u.stu.site := congrArg Stu.site hs
  exact (siteNs_stu (t := { v with stu := { v.stu with rtcBase := n, rtcAt := u.now } }) u h0).trans hn
def withPps (u : State) (n : Nat) : State := { u with stu := { u.stu with ppsLast := some n } }

end Sys2Proof.Laws.ClocksAndSiteTime
end

