-- ==== Sys2Proof/Laws/F04.lean ====
section
/-!
SUPPORT. Laws of the operations that the statements of the family Churn meet.
-/
namespace Sys2Proof.Laws.Churn

open Sys2Proof Sys2Proof.Machine Sys2Proof.Laws

set_option linter.all false

theorem gather_tick (s : State) (n : Nat) : (s.gather n).tick = n := rfl
theorem strobe_tick (s : State) : s.strobe.2.tick = s.stu.nextTick := by
  unfold State.strobe
  dsimp only
  rw [gather_tick]
theorem capture_run (s : State) (d : DescRef) (first : BitVec 32) (count : BitVec 16) (kind : Fin 3) (addr : BitVec 64) (len : BitVec 32) (h1 : s.ready d 0x0303 = true)
    (h2 : -63 ≤ diff32 first.toNat s.curTick ∧ diff32 first.toNat s.curTick ≤ 64) (h3 : 1 ≤ count.toNat ∧ count.toNat ≤ 64)
    (h4 : count.toNat * (if kind.val = 0 then 4096 else if kind.val = 1 then 2048 else 6144) ≤ len.toNat) :
    exec (.capture d first count kind addr len) s = .next { s.start d with alp := { s.alp with captures := s.alp.captures ++
      [{ ring := d.ring.val, idx := d.idx.toNat, first := ((s.curTick : Int) + diff32 first.toNat s.curTick).toNat, count := count.toNat, kind := kind.val, addr := addr.toNat }] } } := by
  show execCapture d first count kind addr len s = _
  unfold execCapture
  rw [run_ready h1]
  have hc : (s.start d).curTick = s.curTick := by unfold State.curTick; simp
  dsimp only
  rw [hc, if_neg (by omega), if_neg (by have := h3.1; have := h3.2; simp; omega), if_neg (by omega)]
  rfl
theorem edit_ready {s : State} {d : DescRef} (h1 : s.ready d 0x0301 = true) (h2 : s.editMode = true) (k : State → State) :
    s.edit d true k = k (s.start d) := by
  unfold State.edit
  rw [run_ready h1]
  have : (s.start d).editMode = true := by unfold State.editMode at *; simpa using h2
  simp [this]
theorem publish_keep (s : State) (k : Nat) : (s.publishCv k).log = s.log ∧ (s.publishCv k).con = s.con ∧ (s.publishCv k).glb = s.glb ∧ (s.publishCv k).alp.curds = s.alp.curds := by
  unfold State.publishCv
  dsimp only
  generalize (s.cv k).sum = m
  split
  · exact ⟨rfl, rfl, rfl, rfl⟩
  · simp [State.modCv, State.setCv]
theorem pressPublish_keep (s : State) : s.pressPublish.log = s.log ∧ s.pressPublish.con = s.con ∧ s.pressPublish.glb = s.glb ∧ s.pressPublish.alp.curds = s.alp.curds :=
  ⟨foldl_keep (·.log) (fun u x => (publish_keep u x).1) _ s, foldl_keep (·.con) (fun u x => (publish_keep u x).2.1) _ s,
    foldl_keep (·.glb) (fun u x => (publish_keep u x).2.2.1) _ s, foldl_keep (·.alp.curds) (fun u x => (publish_keep u x).2.2.2) _ s⟩

end Sys2Proof.Laws.Churn
end

