-- ==== Sys2Proof/Laws/F05.lean ====
section
/-!
SUPPORT. Laws of the operations that the statements of the family ConstraintsAndMigration meet.
-/
namespace Sys2Proof.Laws.ConstraintsAndMigration

open Sys2Proof Sys2Proof.Machine Sys2Proof.Laws

set_option linter.all false

theorem edit_ready {s : State} {d : DescRef} (h1 : s.ready d 0x0301 = true) (h2 : s.editMode = true) (k : State → State) :
    s.edit d true k = k (s.start d) := by
  unfold State.edit
  rw [run_ready h1]
  have : (s.start d).editMode = true := by unfold State.editMode at *; simpa using h2
  simp [this]
theorem entryMax_start (s : State) (d : DescRef) : (s.start d).entryMax = s.entryMax := by
  unfold State.entryMax State.tickUs; simp
theorem countOk_start (s : State) (d : DescRef) (t : Tab Entry) : (s.start d).countOk t = s.countOk t := by
  unfold State.countOk; rw [entryMax_start]
theorem targetOk_start (s : State) (d : DescRef) (a b : Nat) : (s.start d).targetOk a b = s.targetOk a b := by
  unfold State.targetOk; simp
theorem entryCheck_start (s : State) (d : DescRef) (i : Nat) (e : EntryArg) : (s.start d).entryCheck i e = s.entryCheck i e := by
  unfold State.entryCheck; simp only [targetOk_start]
theorem commitCheck_start (s : State) (d : DescRef) (t : Tab Entry) (l : List (Nat × Entry)) : (s.start d).commitCheck t l = s.commitCheck t l := by
  induction l generalizing t with
  | nil => rfl
  | cons x l ih => unfold State.commitCheck; simp only [targetOk_start, countOk_start, ih]
theorem setEntries_facts (l : List (Nat × Entry)) (s : State) :
    (l.foldl (fun (a : State) x => a.setEntry x.1 x.2) s).con.table = applyStaged s.con.table l ∧
    (l.foldl (fun (a : State) x => a.setEntry x.1 x.2) s).con.staged = s.con.staged ∧
    (l.foldl (fun (a : State) x => a.setEntry x.1 x.2) s).con.migs = s.con.migs ∧
    (l.foldl (fun (a : State) x => a.setEntry x.1 x.2) s).regs = s.regs ∧
    (l.foldl (fun (a : State) x => a.setEntry x.1 x.2) s).log = s.log ∧
    (l.foldl (fun (a : State) x => a.setEntry x.1 x.2) s).hif = s.hif := by
  induction l generalizing s with
  | nil => exact ⟨rfl, rfl, rfl, rfl, rfl, rfl⟩
  | cons x l ih => exact ih (s.setEntry x.1 x.2)

end Sys2Proof.Laws.ConstraintsAndMigration
end

