-- ==== Sys2Proof/Laws/F06.lean ====
section
/-!
SUPPORT. Laws of the operations that the statements of the family LaunchAndFrames meet.
-/
namespace Sys2Proof.Laws.LaunchAndFrames

open Sys2Proof Sys2Proof.Machine Sys2Proof.Laws

set_option linter.all false

theorem tget_tput_ne {α : Type} {d : Nat → α} {t : Tab α} {k j : Nat} {v : α} (h : k ≠ j) : tget d (tput t k v) j = tget d t j := tget_tput_other d t v h
theorem slotReport_alp (s : State) (l fl k : Nat) (r : StatusSlot) : (s.slotReport l fl k r).alp = { s.alp with inBlock := tput s.alp.inBlock (4 * l + k) (mailPost (tget (fun _ => []) s.alp.inBlock (4 * l + k)) s.siteNs { state := r.state.toNat, path := r.path.toNat, availP := (r.availP.toNat : Nat), outI := r.outI.toInt, outV := r.outV.toInt, temp := r.temp.toInt }) } := by
  unfold State.slotReport; dsimp only; split
  · rw [ev_alp]
  · rfl
theorem slotReport_stu (s : State) (l fl k : Nat) (r : StatusSlot) : (s.slotReport l fl k r).stu = s.stu := by
  unfold State.slotReport; dsimp only; split
  · rw [ev_stu]
  · rfl
theorem slotReport_siteNs (s : State) (l fl k : Nat) (r : StatusSlot) : (s.slotReport l fl k r).siteNs = s.siteNs := by
  unfold State.siteNs; rw [slotReport_stu]
theorem slotReport_link (s : State) (l fl k : Nat) (r : StatusSlot) : (s.slotReport l fl k r).link = s.link := by
  unfold State.slotReport; dsimp only; split
  · rw [ev_link]
  · rfl
theorem noteMiss_keep (s : State) (l m a : Nat) : (s.noteMiss l m a).alp = s.alp ∧ (s.noteMiss l m a).stu = s.stu ∧ (s.noteMiss l m a).lane l = { s.lane l with miss := some (m % 65536) } := by
  unfold State.noteMiss
  dsimp only
  split
  · exact ⟨rfl, rfl, lane_modLane _ _ _⟩
  · split
    · exact ⟨rfl, rfl, lane_modLane _ _ _⟩
    · refine ⟨by rw [ev_alp]; rfl, by rw [ev_stu]; rfl, ?_⟩
      rw [lane_ev, lane_bump, lane_modLane]
theorem noteFollow_keep (s : State) (l f fl : Nat) : (s.noteFollow l f fl).alp = s.alp ∧ (s.noteFollow l f fl).stu = s.stu ∧ (s.noteFollow l f fl).lane l = { s.lane l with follow := (f, s.siteNs, fl) :: (s.lane l).follow.take 15 } := by
  unfold State.noteFollow
  exact ⟨rfl, rfl, lane_modLane _ _ _⟩
theorem frameTaken (s : State) (l q f fl m a : Nat) : (((s.laneRx l q).noteFollow l f fl).noteMiss l m a).alp = s.alp ∧ (((s.laneRx l q).noteFollow l f fl).noteMiss l m a).stu = s.stu ∧
    (((s.laneRx l q).noteFollow l f fl).noteMiss l m a).lane l = { s.lane l with fseqRx := some q, rxAt := s.now, follow := (f, s.siteNs, fl) :: (s.lane l).follow.take 15, miss := some (m % 65536) } := by
  have h1 := laneRx_keep (l := l) s q
  have h2 := noteFollow_keep (s.laneRx l q) l f fl
  have h3 := noteMiss_keep ((s.laneRx l q).noteFollow l f fl) l m a
  have hs : (s.laneRx l q).siteNs = s.siteNs := by unfold State.siteNs; rw [h1.2.2.2.2.2.1]
  refine ⟨h3.1.trans (h2.1.trans h1.2.2.2.2.1), h3.2.1.trans (h2.2.1.trans h1.2.2.2.2.2.1), ?_⟩
  rw [h3.2.2, h2.2.2, lane_laneRx, hs]

end Sys2Proof.Laws.LaunchAndFrames
end

