-- ==== Sys2Proof/Laws/F08.lean ====
section
/-!
SUPPORT. Laws of the operations that the statements of the family LaneLossAndPower meet.
-/
namespace Sys2Proof.Laws.LaneLossAndPower

open Sys2Proof Sys2Proof.Machine Sys2Proof.Laws

set_option linter.all false

theorem lpActive (s : State) {l : Nat} (hl : l < 14) (v : Nat) : (s.wr (LN.LP l) v).laneActive l = s.laneActive l := by
  unfold State.laneActive State.laneState
  rw [rd_wr_other _ _ (by show laneBase l + 0 ≠ laneBase l + 4; omega)]
theorem clearLane_reg (s : State) (l o : Nat) : (s.clearLane l).reg o = if o = laneBase l + 0xC ∨ o = laneBase l + 0x10 then 0 else s.reg o := by
  unfold State.clearLane
  by_cases h1 : o = laneBase l + 0x10
  · rw [h1, reg_setReg_same]; simp
  · rw [reg_setReg_other _ _ (Ne.symm h1)]
    by_cases h2 : o = laneBase l + 0xC
    · rw [h2, reg_setReg_same]; simp
    · rw [reg_setReg_other _ _ (Ne.symm h2)]; simp [h1, h2]
theorem clearLane_onlyRegs (s : State) (l : Nat) : s.onlyRegs (s.clearLane l) [laneBase l + 0xC, laneBase l + 0x10] := by
  refine ⟨by simp [State.clearLane, State.setReg], fun o ho => ?_⟩
  rw [clearLane_reg, if_neg (by simpa using ho)]
theorem clearLanes_reg (ls : List Nat) (s : State) (o : Nat) : (ls.foldl State.clearLane s).reg o = if ∃ l ∈ ls, o = laneBase l + 0xC ∨ o = laneBase l + 0x10 then 0 else s.reg o := by
  induction ls generalizing s with
  | nil => simp
  | cons a r ih =>
    rw [List.foldl_cons, ih, clearLane_reg]
    by_cases h : ∃ l ∈ r, o = laneBase l + 0xC ∨ o = laneBase l + 0x10
    · rw [if_pos h, if_pos]
      obtain ⟨l, hl, he⟩ := h
      exact ⟨l, List.mem_cons_of_mem _ hl, he⟩
    · rw [if_neg h]
      by_cases ha : o = laneBase a + 0xC ∨ o = laneBase a + 0x10
      · rw [if_pos ha, if_pos ⟨a, List.mem_cons_self .., ha⟩]
      · rw [if_neg ha, if_neg]
        rintro ⟨l, hl, he⟩
        rcases List.mem_cons.mp hl with rfl | hl
        · exact ha he
        · exact h ⟨l, hl, he⟩
theorem clearLanes_frame (ls : List Nat) (s : State) : { (ls.foldl State.clearLane s) with regs := s.regs } = s := by
  induction ls generalizing s with
  | nil => rfl
  | cons a r ih =>
    rw [List.foldl_cons]
    have h1 := ih (s.clearLane a)
    have h2 := (clearLane_onlyRegs s a).1
    generalize s.clearLane a = u at *
    generalize List.foldl State.clearLane u r = v at *
    obtain ⟨a0, a1, a2, a3, a4, a5, a6, a7, a8, a9, a10, a11, a12, a13, a14, a15, a16, a17, a18, a19, a20, a21, a22⟩ := s
    obtain ⟨b0, b1, b2, b3, b4, b5, b6, b7, b8, b9, b10, b11, b12, b13, b14, b15, b16, b17, b18, b19, b20, b21, b22⟩ := u
    obtain ⟨c0, c1, c2, c3, c4, c5, c6, c7, c8, c9, c10, c11, c12, c13, c14, c15, c16, c17, c18, c19, c20, c21, c22⟩ := v
    simp only [State.mk.injEq, true_and] at h1 h2 ⊢
    simp_all

end Sys2Proof.Laws.LaneLossAndPower
end

