-- ==== Sys2Proof/Laws/F09.lean ====
section
/-!
SUPPORT. Laws of the operations that the statements of the family Press meet.
-/
namespace Sys2Proof.Laws.Press

open Sys2Proof Sys2Proof.Machine Sys2Proof.Laws

set_option linter.all false

theorem cv_cce {s t : State} (h : t.cce = s.cce) (k : Nat) : t.cv k = s.cv k := by unfold State.cv; rw [h]
theorem cv_setCv (s : State) (k : Nat) (x : Cce) : (s.setCv k x).cv k = x := by
  unfold State.setCv State.cv; exact tget_tset_same _ _ _ _
theorem cv_setCv_other (s : State) {k j : Nat} (x : Cce) (h : k ≠ j) : (s.setCv k x).cv j = s.cv j := by
  unfold State.setCv State.cv; exact tget_tset_other _ _ _ h
theorem cv_modCv (s : State) (k : Nat) (f : Cce → Cce) : (s.modCv k f).cv k = f (s.cv k) := by
  unfold State.modCv; rw [cv_setCv]
theorem cv_wr (s : State) (f : Fld) (v k : Nat) : (s.wr f v).cv k = s.cv k := rfl
theorem cv_bump (s : State) (f : Fld) (v k : Nat) : (s.bump f v).cv k = s.cv k := rfl
theorem cv_ev (s : State) (c e a b k : Nat) : (s.ev c e a b).cv k = s.cv k := cv_cce (by simp) k
theorem cv_waitSite (s : State) (t k : Nat) : (s.waitSite t).cv k = s.cv k := cv_cce (by simp) k
theorem cv_waitTill (s : State) (t k : Nat) : (s.waitTill t).cv k = s.cv k := cv_cce (by simp) k
theorem cyc_setCv (s : State) (k : Nat) (x : Cce) : (s.setCv k x).cce.cycle = s.cce.cycle := rfl
theorem cyc_modCv (s : State) (k : Nat) (f : Cce → Cce) : (s.modCv k f).cce.cycle = s.cce.cycle := rfl
theorem cyc_latchCv (s : State) (k w : Nat) : (s.latchCv k w).cce.cycle = s.cce.cycle := by unfold State.latchCv; rw [ev_cce, cyc_modCv]
theorem cyc_ssFail (s : State) (k w : Nat) : (s.ssFail k w).cce.cycle = s.cce.cycle := by
  unfold State.ssFail; dsimp only; split
  · rw [cyc_modCv, ev_cce]
  · rw [cyc_latchCv, ev_cce]
theorem cyc_zeroOff (s : State) (k : Nat) : (s.zeroOff k).cce.cycle = s.cce.cycle := by unfold State.zeroOff; rw [wr_cce, cyc_modCv]
theorem cyc_softStart (s : State) (k c : Nat) : (s.softStart k c).cce.cycle = s.cce.cycle := by unfold State.softStart; dsimp only; rw [ev_cce, cyc_modCv]
theorem cyc_enterRun (s : State) (k : Nat) : (s.enterRun k).cce.cycle = s.cce.cycle := by unfold State.enterRun; rw [cyc_modCv]
theorem cyc_endRemoval (s : State) (k c : Nat) : (s.endRemoval k c).cce.cycle = s.cce.cycle := by
  unfold State.endRemoval; dsimp only; repeat' split
  all_goals first | rfl | (rw [ev_cce, bump_cce, cyc_setCv])
theorem cyc_takeSkim (s : State) (k c n l : Nat) : (s.takeSkim k c n l).cce.cycle = s.cce.cycle := by
  unfold State.takeSkim; dsimp only; repeat' split
  all_goals rfl
theorem ite_cyc {c : Prop} [Decidable c] {x y : State} {a : Option Nat} (hx : x.cce.cycle = a) (hy : y.cce.cycle = a) : (if c then x else y).cce.cycle = a := by split <;> assumption
theorem cyc_cycleCv (s : State) (c : Nat) (cur : Option Curd) (fr : Bool) (k : Nat) : (s.cycleCv c cur fr k).cce.cycle = s.cce.cycle := by
  unfold State.cycleCv
  dsimp only
  with_reducible repeat' first | (simp only [cyc_setCv, cyc_modCv, cyc_latchCv, cyc_ssFail, cyc_zeroOff, cyc_softStart, cyc_enterRun, cyc_endRemoval, cyc_takeSkim]; done) | apply ite_cyc | split
theorem enterCycle_facts (s : State) (c : Nat) : (s.enterCycle c).cce.cycle = some c ∧ (s.enterCycle c).cce.launch = (s.curdFor (s.cycleAt c)).map (·.launch) := by
  unfold State.enterCycle
  dsimp only
  refine ⟨?_, rfl⟩
  rw [foldl_keep (fun u : State => u.cce.cycle) (fun u x => cyc_cycleCv u _ _ _ x)]
theorem stepDetect_facts (s : State) (k c : Nat) (i : Int) : ((s.stepDetect k c i).cv k).batV = (s.cv k).batV ∧ ((s.stepDetect k c i).cv k).busV = (s.cv k).busV ∧
    ((s.stepDetect k c i).cv k).lastI = (s.cv k).lastI ∧ (s.stepDetect k c i).rd (CCE_PEAK_I.PEAK_I k) = s.rd (CCE_PEAK_I.PEAK_I k) := by
  have hne : (CCE_SKIM_CNT.ABORT k).off ≠ (CCE_PEAK_I.PEAK_I k).off := by
    show 0x3016C + 0x80 * k ≠ 0x30160 + 0x80 * k
    omega
  unfold State.stepDetect
  dsimp only
  split
  · exact ⟨rfl, rfl, rfl, rfl⟩
  · split
    · exact ⟨rfl, rfl, rfl, rfl⟩
    · split
      · rw [cv_modCv]; exact ⟨rfl, rfl, rfl, rfl⟩
      · split
        · rw [cv_modCv]; exact ⟨rfl, rfl, rfl, rfl⟩
        · rw [cv_modCv, cv_ev, cv_bump, cv_modCv]
          refine ⟨rfl, rfl, rfl, ?_⟩
          show (State.ev _ _ _ _ _).rd _ = _
          rw [rd_ev]
          exact rd_wr_other _ _ hne

end Sys2Proof.Laws.Press
end

