-- ==== Sys2Proof/Laws/F10.lean ====
section
/-!
SUPPORT. Laws of the operations that the statements of the family MetrologySamplesAndReadings meet.
-/
namespace Sys2Proof.Laws.MetrologySamplesAndReadings

open Sys2Proof Sys2Proof.Machine Sys2Proof.Laws

set_option linter.all false

theorem stuck_ok {s : State} {c k : Nat} (he : s.flag (MTE_CH_CFG.EN c) = true) (hc : (s.mch c).cause.testBit (k - 1) = false) (hk : k ≠ 3) :
    s.chanFault1 c k = ((State.setMch { s with mte := { s.mte with caps := s.mte.caps.map (fun (j : MCap) => if (mcapChans j.kind j.a j.b).contains c then { j with hit := true } else j) } } c
      { s.mch c with cause := (s.mch c).cause + causeBit k, since := s.now, skip := 4, lost := if (s.mch c).cause = 0 && (s.mch c).skip = 0 then 0 else (s.mch c).lost }).ev 0x0801 (chanEnt c) (chanArg c) k) := by
  unfold State.chanFault1
  dsimp only
  rw [if_neg (by simp [he]), if_neg (by simp [hc]), if_neg hk]

end Sys2Proof.Laws.MetrologySamplesAndReadings
end

