-- ==== Sys2Proof/Laws/F11.lean ====
section
/-!
SUPPORT. Laws of the operations that the statements of the family RecordsAndKeys meet.
-/
namespace Sys2Proof.Laws.RecordsAndKeys

open Sys2Proof Sys2Proof.Machine Sys2Proof.Laws

set_option linter.all false

theorem run_rec {s : State} {d : DescRef} (h : s.ready d 0x0901 = true) (k : State → State) :
    (s.run d 0x0901 fun s => s.recArg d true fun s => k s) = k (s.start d) := by rw [run_ready h]; rfl
theorem runWrite_rec {s : State} {d : DescRef} (h : s.ready d 0x0901 = true) (hb : s.glb.brownAt = none) (k : State → State) :
    (s.runWrite d 0x0901 fun s => s.recArg d true fun s => k s) = k (s.start d) := by
  unfold State.runWrite
  rw [if_neg (by simp [hb]), run_ready h]; rfl
theorem showJrnl_keep {α : Type} (g : State → α) (hr : ∀ (u : State) r, g { u with regs := r } = g u)
    (he : ∀ (u : State) c e a b, g (u.ev c e a b) = g u) (s : State) : g s.showJrnl = g s := by
  have hw : ∀ (u : State) f v, g (u.wr f v) = g u := fun u f v => hr u _
  have hb : ∀ (u : State) (b : Bool) c e a d, g (if b then u.ev c e a d else u) = g u := fun u b c e a d => by cases b <;> simp [he]
  unfold State.showJrnl
  dsimp only [State.wr64]
  simp only [hw]
  rw [hb, hb]
theorem showJrnl_rsl (s : State) : s.showJrnl.rsl = s.rsl := showJrnl_keep State.rsl (fun _ _ => rfl) (fun u c e a b => ev_rsl u c e a b) s
/-- What journaling a record does: it takes the next position, its SEQ and PREV_HASH continue its chain, and the chain head follows. -/
theorem journal_rsl (s : State) (r0 : Rec) (key : Nat) (closing : Bool) :
    ∃ sig, ∀ r : Rec, r = { r0 with seq := (match s.head r0.e with | none => 0 | some x => x.seq + 1), prevHash := (match s.head r0.e with | none => zeros 32 | some x => x.hash), claim := s.claim, tSeal := s.siteNs, sig := sig } → (s.journal r0 key closing).rsl = { s.rsl with journal := ((s.rsl.next, r) :: s.rsl.journal).take 61440, next := s.rsl.next + 1, heads := tset (fun _ => none) s.rsl.heads r0.e (some (headAfter (s.head r0.e) r s.rsl.next closing)) } := by
  refine ⟨fixBytes 64 (ecSign key (Rec.signed { r0 with seq := (match s.head r0.e with | none => 0 | some x => x.seq + 1), prevHash := (match s.head r0.e with | none => zeros 32 | some x => x.hash), claim := s.claim, tSeal := s.siteNs }) (Config.freeNat s.free)), ?_⟩
  rintro r rfl
  unfold State.journal
  dsimp only
  rw [showJrnl_rsl]
  rfl

end Sys2Proof.Laws.RecordsAndKeys
end

