-- ==== Sys2Proof/Laws/F12.lean ====
section
/-!
SUPPORT. Laws of the operations that the statements of the family StorageEstimator meet.
-/
namespace Sys2Proof.Laws.StorageEstimator

open Sys2Proof Sys2Proof.Machine Sys2Proof.Laws

set_option linter.all false

theorem run_see {s : State} {d : DescRef} (h : s.ready d 0x0B01 = true) (hb : s.glb.brownAt = none) (k : State → State) :
    s.runWrite d 0x0B01 k = k (s.start d) := by
  unfold State.runWrite
  rw [if_neg (by simp [hb]), run_ready h]
theorem seeArg_ok {s : State} {d : DescRef} {i : Nat} (h : i < 16 ∧ i < s.nStrings ∧ s.stringOn i = true) (k : State → State) :
    s.seeArg d true i k = k s := by
  unfold State.seeArg
  rw [if_neg (by simp; omega), if_neg (by omega), if_neg (by simp [h.2.2])]

end Sys2Proof.Laws.StorageEstimator
end

