-- ==== Sys2Proof/Laws/F13.lean ====
section
/-!
SUPPORT. Laws of the operations that the statements of the family PilotSlacAndFrames meet.
-/
namespace Sys2Proof.Laws.PilotSlacAndFrames

open Sys2Proof Sys2Proof.Machine Sys2Proof.Laws

set_option linter.all false

theorem port_modPort (s : State) (p : Nat) (f : Plu → Plu) : (s.modPort p f).port p = f (s.port p) := by
  unfold State.modPort State.port; simp
theorem port_congr {s t : State} (h : t.plu = s.plu) (p : Nat) : t.port p = s.port p := by unfold State.port; rw [h]
theorem port_ev (s : State) (p c e a b : Nat) : (s.ev c e a b).port p = s.port p := port_congr (by simp) p
theorem pilotClass_wr (s : State) (p : Nat) {f : Fld} (v : Nat) (high low : Int) (o : Bool) (h1 : f.off ≠ 0x50000 + 0x400 * p)
    (h2 : f.off < 0x57000) : (s.wr f v).pilotClass p high low o = s.pilotClass p high low o := by
  have hb : ∀ i, (s.wr f v).band i = s.band i := fun i => by
    unfold State.band
    have : (s.wr f v).reg (0x57010 + 4 * i) = s.reg (0x57010 + 4 * i) := reg_setReg_other s _ (by omega)
    rw [this]
  have hi : ∀ n x, (s.wr f v).inBand n x = s.inBand n x := fun n x => by unfold State.inBand; simp only [hb]
  have hc : (s.wr f v).ccs p = s.ccs p := by unfold State.ccs; rw [rd_wr_other s v (g := PLU_CFG.TYPE p) h1]
  have hn : (s.wr f v).rd PLU_CP_NEG.NEG_MAX = s.rd PLU_CP_NEG.NEG_MAX := rd_wr_other s v (g := PLU_CP_NEG.NEG_MAX) (by show f.off ≠ 0x57028; omega)
  unfold State.pilotClass
  simp only [hc, hi, hn]
theorem pilotClass_regs {s t : State} (h : t.regs = s.regs) (p : Nat) (high low : Int) (o : Bool) : t.pilotClass p high low o = s.pilotClass p high low o := by
  have hr : ∀ o, t.reg o = s.reg o := fun o => by unfold State.reg; rw [h]
  have hd : ∀ f, t.rd f = s.rd f := fun f => by unfold State.rd; rw [hr]
  unfold State.pilotClass State.inBand State.band State.ccs
  simp only [hr, hd]
theorem runTx_ready {s : State} {d : DescRef} (h : s.ready d 0x0C01 = true) (g : s.guards = true) (k : State → State) : s.runTx d k = k (s.start d) := by
  unfold State.runTx
  rw [run_ready h]
  unfold State.checkMode
  rw [if_pos (show (s.start d).guards = true from g)]
theorem freshBytes_spec (s : State) (k : Nat) : (s.freshBytes k).1 = { s with free := s.free + k } ∧ (s.freshBytes k).2.length = k := by
  induction k generalizing s with
  | zero => exact ⟨rfl, rfl⟩
  | succ k ih =>
    have h := ih (s.fresh).2
    unfold State.freshBytes
    dsimp only
    refine ⟨h.1.trans ?_, by simp [h.2]⟩
    show ({ s with free := s.free + 1 + k } : State) = _
    rw [show s.free + 1 + k = s.free + (k + 1) from by omega]
theorem slacArm_assoc (s : State) (p : Nat) (h : s.flag (PLU_CP_STAT.ASSOC p) = true) :
    s.slacArm p = if s.flag (PLU_CP_STAT.ARMED p) then s.wr (PLU_CP_STAT.ARMED p) 0 else s := by
  unfold State.slacArm
  rw [h]
  simp only [Bool.not_true, Bool.and_false, Bool.false_eq_true, if_false]
  cases s.flag (PLU_CP_STAT.ARMED p) <;> simp
/-- After an association the port shows it, holds fresh keys and is no longer armed, and no row of the matrix changed. -/
theorem associate_spec (s : State) (p : Nat) : (s.associate p).flag (PLU_CP_STAT.ASSOC p) = true ∧ (s.associate p).flag (PLU_CP_STAT.ARMED p) = false ∧
    ((s.associate p).port p).nmk.length = 16 ∧ ((s.associate p).port p).nek.length = 16 ∧ ((s.associate p).port p).nid.length = 7 ∧
    (s.associate p).plu.rows = s.plu.rows ∧ (s.associate p).out = s.out ∧ (s.associate p).log = s.log ∧ (s.associate p).mainUp = s.mainUp := by
  unfold State.associate
  have a := freshBytes_spec s 16
  rcases hx : s.freshBytes 16 with ⟨s1, nmk⟩
  rw [hx] at a
  dsimp only at a ⊢
  have b := freshBytes_spec s1 16
  rcases hy : s1.freshBytes 16 with ⟨s2, nek⟩
  rw [hy] at b
  dsimp only at b ⊢
  have c := freshBytes_spec s2 7
  rcases hz : s2.freshBytes 7 with ⟨s3, nid⟩
  rw [hz] at c
  dsimp only at c ⊢
  obtain ⟨a1, a2⟩ := a
  obtain ⟨b1, b2⟩ := b
  obtain ⟨c1, c2⟩ := c
  have d1 : s3.plu = s.plu ∧ s3.out = s.out ∧ s3.log = s.log ∧ s3.glb = s.glb ∧ s3.regs = s.regs := by rw [c1, b1, a1]; exact ⟨rfl, rfl, rfl, rfl, rfl⟩
  have dm : s3.mainUp = s.mainUp := by unfold State.mainUp State.rdBit State.rd State.reg; rw [d1.2.2.2.1, d1.2.2.2.2]
  have e1 := port_modPort s3 p (fun x => { x with nmk := nmk, nek := nek, nid := nid })
  have e2 : (s3.modPort p (fun x => { x with nmk := nmk, nek := nek, nid := nid })).plu.rows = s.plu.rows ∧ (s3.modPort p (fun x => { x with nmk := nmk, nek := nek, nid := nid })).out = s.out ∧ (s3.modPort p (fun x => { x with nmk := nmk, nek := nek, nid := nid })).log = s.log ∧ (s3.modPort p (fun x => { x with nmk := nmk, nek := nek, nid := nid })).mainUp = s.mainUp :=
    ⟨(congrArg Plus.rows d1.1 : s3.plu.rows = s.plu.rows), d1.2.1, d1.2.2.1, dm⟩
  generalize s3.modPort p (fun x => { x with nmk := nmk, nek := nek, nid := nid }) = v at *
  have f1 : (v.wr (PLU_CP_STAT.ASSOC p) 1).flag (PLU_CP_STAT.ASSOC p) = true := flag_wr_one v (f := PLU_CP_STAT.ASSOC p) (by show 4 + 1 ≤ 32; decide) (by show 1 ≤ 1; decide)
  rw [slacArm_assoc _ p f1]
  have g1 : (v.wr (PLU_CP_STAT.ASSOC p) 1).port p = v.port p := rfl
  have g2 : (v.wr (PLU_CP_STAT.ASSOC p) 1).plu = v.plu ∧ (v.wr (PLU_CP_STAT.ASSOC p) 1).out = v.out ∧ (v.wr (PLU_CP_STAT.ASSOC p) 1).log = v.log ∧ (v.wr (PLU_CP_STAT.ASSOC p) 1).mainUp = v.mainUp := ⟨rfl, rfl, rfl, mainUp_wr v 1 (by show 0x5001C + 0x400 * p ≠ 0x60; omega)⟩
  generalize v.wr (PLU_CP_STAT.ASSOC p) 1 = z at *
  cases ha : z.flag (PLU_CP_STAT.ARMED p) with
  | false =>
    rw [if_neg (by decide)]
    rw [g1, e1, g2.1, g2.2.1, g2.2.2.1, g2.2.2.2]
    exact ⟨f1, ha, a2, b2, c2, e2⟩
  | true =>
    rw [if_pos rfl]
    have k1 : (z.wr (PLU_CP_STAT.ARMED p) 0).port p = z.port p := rfl
    refine ⟨?_, flag_wr_zero z (f := PLU_CP_STAT.ARMED p) (by show 3 + 1 ≤ 32; decide), ?_, ?_, ?_, ?_⟩
    · rw [← f1]
      unfold State.flag
      rw [rd_wr_disjoint z (f := PLU_CP_STAT.ARMED p) (g := PLU_CP_STAT.ASSOC p) 0 rfl (by show 3 + 1 ≤ 32; decide) (by left; show 3 + 1 ≤ 4; decide)]
    · rw [k1, g1, e1]; exact a2
    · rw [k1, g1, e1]; exact b2
    · rw [k1, g1, e1]; exact c2
    · exact ⟨(congrArg Plus.rows g2.1 : z.plu.rows = v.plu.rows).trans e2.1, g2.2.1.trans e2.2.1, g2.2.2.1.trans e2.2.2.1, (mainUp_wr z 0 (f := PLU_CP_STAT.ARMED p) (by show 0x5001C + 0x400 * p ≠ 0x60; omega)).trans (g2.2.2.2.trans e2.2.2.2)⟩

end Sys2Proof.Laws.PilotSlacAndFrames
end

