-- ==== Sys2Proof/Laws/F14.lean ====
section
/-!
SUPPORT. Laws of the operations that the statements of the family SessionGuard meet.
-/
namespace Sys2Proof.Laws.SessionGuard

open Sys2Proof Sys2Proof.Machine Sys2Proof.Laws

set_option linter.all false

theorem port_modPort (s : State) (p : Nat) (f : Plu → Plu) : (s.modPort p f).port p = f (s.port p) := by
  unfold State.modPort State.port; simp
theorem port_congr {s t : State} (h : t.plu = s.plu) (p : Nat) : t.port p = s.port p := by unfold State.port; rw [h]
theorem runTx_ready {s : State} {d : DescRef} (h : s.ready d 0x0C01 = true) (g : s.guards = true) (k : State → State) : s.runTx d k = k (s.start d) := by
  unfold State.runTx
  rw [run_ready h]
  unfold State.checkMode
  rw [if_pos (show (s.start d).guards = true from g)]
theorem farV_congr {s t : State} (ha : t.alp = s.alp) (hs : t.sfi = s.sfi) (p : Nat) (v : BitVec 32) : t.farV p v = s.farV p v := by
  unfold State.farV State.contactClosed State.outsOfPort State.so State.edmPair
  simp only [State.par, ha, hs]

end Sys2Proof.Laws.SessionGuard
end

