-- ==== Sys2Proof/Laws/F15.lean ====
section
/-!
SUPPORT. Laws of the operations that the statements of the family CanControllers meet.
-/
namespace Sys2Proof.Laws.CanControllers

open Sys2Proof Sys2Proof.Machine Sys2Proof.Laws

set_option linter.all false

theorem can_modCan (s : State) (n : Nat) (f : CanCtl → CanCtl) : (s.modCan n f).can n = f (s.can n) := by
  unfold State.modCan State.can; simp
theorem can_congr {s t : State} (h : t.cans = s.cans) (n : Nat) : t.can n = s.can n := by unfold State.can; rw [h]
theorem canBuf_congr {s t : State} {n : Nat} (h : (t.can n).buf = (s.can n).buf) (b : Nat) : t.canBuf n b = s.canBuf n b := by
  unfold State.canBuf; rw [h]

end Sys2Proof.Laws.CanControllers
end

