-- ==== Sys2Proof/Tests/States.lean ====
section
/-!
SUPPORT. Small states for the tests: the block in operation, built from State.reset by its fields.
-/
namespace Sys2Proof.Tests

open Sys2Proof.Machine

/-- The mode and supplies of a block in operation. -/
def liveGlb (m : Mode) : Glb :=
  { Glb.reset with
    mode := m, booting := false, aboveOff := 0xFF, powered := 0xFF, inReg := 0xFF
    holds := { resetN := false, order := false, ref := false, die := false, core := false } }

/-- The block in operation in a mode, with these registers over their reset values, and every supply in regulation. -/
def live (m : Mode) (regs : List (Nat × Nat) := []) : State :=
  regs.foldl (fun s x => s.setReg x.1 x.2) ({ State.reset with glb := liveGlb m }.setReg 0x60 0xFF)

/-- A descriptor of the opcode alone on its ring. -/
def withDesc (s : State) (d : DescRef) (opcode : Nat) : State :=
  s.setRing d.ring.val { Ring.reset with
    flights := [{ idx := d.idx.toNat, tag := 7, opcode := opcode, fence := false, quiet := false, started := false,
                  outside := false, lost := false, progress := 0 }] }

/-- Descriptor 5 of a ring. -/
def desc (r : Fin 64) : DescRef := { ring := r, idx := 5 }

/-- The Rind runs and PWR_EN is low: a wake source may act. -/
def asleepState : State :=
  { State.reset with glb := { Glb.reset with holds := { Glb.reset.holds with resetN := false } }
                     sfi := { Sfi.reset with ready := true } }

/-- The same with an RTC alarm set. -/
def alarmState : State := (asleepState.setReg 0x6C 0x10).setReg 0x8164 3600

/-- Every precondition of a request for ACTIVE or SHADOW is met: a twin site with its configuration sealed. -/
def readyToRun : State :=
  let s := live .dormant [(0x10, 1), (0x14, 1), (0x8140, 0)]
  { s.wr STU_DISC_STAT.VALID 1 with
    glb := { s.glb with sealed := some [] }, sfi := { s.sfi with confirmed := true }
    kvt := { s.kvt with rootOk := true, key := some 1 } }

theorem test_live_ready : (withDesc (live .active) (desc 40) 0x1200).ready (desc 40) 0x1200 = true := by decide

end Sys2Proof.Tests
end

