-- ==== Sys2Proof/WellFormed.lean ====
section
/-!
DEFINITION. Which commands can occur: the sizes that spec/ fixes for the lists among their operands. The machine's meanings
are total and need none of these checks; a command outside them is no event of the hardware.
-/
namespace Sys2Proof

/-- Sizes of a host access, in bytes (spec/00 R9). -/
def accessSize (n : Nat) : Bool := n == 1 || n == 2 || n == 4

/-- The command's operands have the sizes spec/ gives: host accesses (spec/00 R9), stage times (spec/04 R92), codes of a window
(spec/09 R200, R203), frames of the battery unit (spec/11 R267, R268), soundings (spec/12 R288), CAN
data (spec/13 R309), Soelaone frames (spec/14 R349), inputs of a logic cycle (spec/14 R329), die sensors (spec/15 R371), twin
frames (spec/16 R384), descriptors of one fetch turn (spec/17 R418). -/
def Instr.wf (i : Instr) : Bool :=
  match i with
  | .registerWrite _ size _ => accessSize size
  | .supplyRise _ _ => true
  | .supplyFall _ _ => true
  | .sequenceWindowExpire => true
  | .pwrEnReassert => true
  | .brownoutWarning => true
  | .brownoutRideExpire => true
  | .brownoutRecovered _ => true
  | .brownoutReset => true
  | .resetNAssert => true
  | .resetNRelease => true
  | .resetNStuck => true
  | .twinAliveLatch => true
  | .bootComplete _ _ _ _ => true
  | .rindSelftestComplete => true
  | .glbSwrst _ => true
  | .modeReqDormant _ => true
  | .modeReqCommission _ => true
  | .modeReqActive _ _ => true
  | .modeReqShadow _ _ => true
  | .modeReqLimp _ => true
  | .modeReqHalt _ => true
  | .limpEntry => true
  | .hostKick _ => true
  | .hostWatchdogExpire => true
  | .wakeInEdge => true
  | .rtcAlarm => true
  | .canWake _ _ => true
  | .pwrEnOff => true
  | .refLoss => true
  | .pllUnlock _ => true
  | .refRestored => true
  | .serialPllUnlock _ => true
  | .safCheckWindow _ => true
  | .stuSetCmd _ => true
  | .timeLatchRead => true
  | .ppsLabelArm _ => true
  | .ppsEdge => true
  | .ppsLoss => true
  | .ref10mMeasurement _ => true
  | .ref10mLoss => true
  | .hostOffsetLoss => true
  | .timeOffset _ _ _ => true
  | .rtcAlign => true
  | .ppsOutRise => true
  | .ppsOutFall => true
  | .tickStrobe stages => stages.length ≤ 8
  | .pipelineOverrun _ _ _ => true
  | .tickLenWrite _ => true
  | .alpClrStage => true
  | .alpClrCounts => true
  | .alpClrWhey => true
  | .capture _ _ _ _ _ _ => true
  | .captureComplete => true
  | .constraintWriteEnable _ _ _ _ => true
  | .constraintDisable _ _ _ => true
  | .constraintStage _ _ _ _ => true
  | .constraintCommit _ _ => true
  | .constraintDiscard _ _ => true
  | .constraintRead _ _ _ _ => true
  | .groupWrite _ _ => true
  | .migrate _ _ _ _ _ _ => true
  | .migrationCheck => true
  | .setpointSend _ => true
  | .slowLoadSend => true
  | .statusFrameReceive _ _ _ => true
  | .phaseStatusReceive _ _ _ => true
  | .slowNodeStatusReceive _ _ _ _ => true
  | .lchClrCounts => true
  | .laneDetectTest _ _ => true
  | .laneTrainComplete _ _ _ _ => true
  | .laneBringupTimeout _ => true
  | .capsResend _ => true
  | .capsFrameReceive _ _ _ => true
  | .delayMeasurementStart _ => true
  | .dlyReqSend _ => true
  | .dlyReqReceive _ _ _ _ => true
  | .dlyRespReceive _ _ _ _ _ _ _ => true
  | .delayMeasurementComplete _ => true
  | .timeFrameSend _ => true
  | .aliveSend _ => true
  | .aliveReceive _ _ => true
  | .laneFrameInvalid _ _ => true
  | .laneErrorLimit _ => true
  | .laneBlockLockLoss _ => true
  | .laneFrameTimeout _ => true
  | .laneSignalLoss _ => true
  | .laneSignalDetect _ => true
  | .laneRetrain _ => true
  | .laneLpUp _ => true
  | .laneLpIdle _ => true
  | .laneLpDeep _ => true
  | .laneLpOff _ => true
  | .lpReqReceive _ _ _ => true
  | .lpAckReceive _ _ _ => true
  | .clcClrCounts => true
  | .dlcClrCounts => true
  | .eyeScan _ _ => true
  | .eyeScanComplete _ _ => true
  | .pressCycleStart => true
  | .phaseSend => true
  | .pressControlSample _ _ _ _ => true
  | .ilimAssert _ => true
  | .ssRetryDelayExpire _ => true
  | .runningRetryClear _ => true
  | .zeroCurdSwitchOff _ => true
  | .cceConnect _ => true
  | .cceDisconnect _ => true
  | .cceUnlatch _ => true
  | .cceClrPeak => true
  | .cceClrCounts => true
  | .meteringSample _ lead codesV codesI => codesV.length == 10 && lead + 10 ≤ codesI.length
  | .acSample _ lead codesV codesI => codesV.length == 4 && codesI.length == 4 && codesV.all (fun l => l.length == 20) && codesI.all (fun l => decide (lead + 20 ≤ l.length))
  | .acWindowEnd _ _ => true
  | .acFreq10Window _ _ => true
  | .intervalBoundary => true
  | .mteCheckpoint => true
  | .modulatorStuck _ => true
  | .sinc3Overflow _ => true
  | .modulatorRestored _ => true
  | .mteOverrange _ _ => true
  | .rollLatchRead _ => true
  | .acStatLatchRead _ => true
  | .mteCapture _ _ => true
  | .mteCaptureComplete _ _ _ => true
  | .recordBuild _ => true
  | .mramRefresh _ => true
  | .exportRecords _ _ _ _ => true
  | .ack _ _ _ => true
  | .read _ _ _ _ _ _ => true
  | .heads _ _ _ _ => true
  | .attest _ _ _ _ _ => true
  | .keyRoll _ _ _ _ _ => true
  | .rollAbort _ _ => true
  | .enrol _ _ _ => true
  | .rebind _ _ => true
  | .pubkey _ _ _ _ => true
  | .coulombSample _ _ => true
  | .restReference _ => true
  | .eocReference _ => true
  | .eodClear _ => true
  | .coulombInputFault _ _ => true
  | .coulombInputRestored _ => true
  | .bmuStatusReceive _ _ _ bytes => bytes.length == 32
  | .bmuStale _ => true
  | .authChallenge _ => true
  | .authResponseReceive _ _ _ _ frame1 frame2 => frame1.length == 48 && frame2.length == 48
  | .authTimeout => true
  | .seeCommit _ => true
  | .seeBufferReadComplete _ _ => true
  | .save _ _ _ => true
  | .authKey _ _ _ key => key.length == 64
  | .authNow _ _ _ => true
  | .qcLatchRead _ => true
  | .pilotPeriod _ _ _ => true
  | .pilotControlWrite _ _ => true
  | .beaconSend _ => true
  | .vehicleFrameReceive _ _ _ => true
  | .unicastFrameFail _ => true
  | .roboRestore _ => true
  | .impulseEvent _ => true
  | .slacParmReq _ _ => true
  | .slacSound _ atten => atten.length == 24
  | .slacWindowClose _ => true
  | .slacRowFree _ => true
  | .frame _ _ _ _ => true
  | .frameSent _ _ => true
  | .frameTxTimeout _ => true
  | .sessionStart _ _ _ _ _ _ _ => true
  | .request _ _ _ _ _ _ _ _ _ => true
  | .sessionEnd _ _ _ => true
  | .report _ _ _ _ => true
  | .portRx _ _ _ _ => true
  | .sessionTimeout _ => true
  | .cooloffEnd _ => true
  | .pluClrCounts _ => true
  | .canFrameReceive _ _ _ fdf _ data _ _ => data.length ≤ (if fdf then 64 else 8)
  | .canFrameSent _ _ => true
  | .canTxDeadline _ => true
  | .canBusError _ _ => true
  | .canSuspectExpire _ => true
  | .canBusOn _ => true
  | .canRecoveryRequest _ => true
  | .canSleep _ => true
  | .canSleepExit _ => true
  | .canRefMessage _ => true
  | .canUnblock _ _ => true
  | .canClrCounts _ => true
  | .send _ _ _ _ _ data _ => data.length ≤ 64
  | .rxPost _ _ _ _ => true
  | .rindCycle x => x.si.length ≤ 10 && x.ports.length ≤ 24 && x.strings.length ≤ 16 && x.axes.length ≤ 4 && x.temps.length ≤ 32 &&
    x.ports.all (fun (d : Option PortDiag) => match d with
      | none => true | some d => d.i.length ≤ 8 && d.v.length ≤ 8 && d.mi.length ≤ 8 && d.mv.length ≤ 8)
  | .heartbeatReceive => true
  | .heartbeatLoss => true
  | .safeGraceExpire => true
  | .safetyFunctionTimeExpire _ _ => true
  | .c1GraceExpire => true
  | .discrepancyTimeout _ => true
  | .testPulse _ _ _ _ => true
  | .edmTimeout _ => true
  | .relayHoldTake => true
  | .twinAliveChange _ => true
  | .soelaoneSend _ => true
  | .soelaoneReceive bytes => bytes.length ≤ 64
  | .soelaoneTimeout _ => true
  | .sfiPdataWrite _ => true
  | .sfiPdataRead => true
  | .sfiCvReq _ => true
  | .cvComputeComplete => true
  | .sfiConfirm _ => true
  | .confirmTimeout => true
  | .sfiPwdCmd _ => true
  | .passwordLockoutEnd => true
  | .rindStoreRefresh => true
  | .hkaSlotConversion _ _ => true
  | .slowRoundStart => true
  | .dieSensorRead temps => temps.length == 12
  | .dieTripRelease => true
  | .thmClrPeak => true
  | .lsbOnWrite _ => true
  | .lsbOnSet _ => true
  | .lsbOnClr _ => true
  | .lsbUnlock _ => true
  | .lsbClrCounts => true
  | .lsbShort _ => true
  | .lsbOverload _ => true
  | .lsbThermalTrip _ => true
  | .lsbThermalRelease _ => true
  | .lsbRetry _ => true
  | .lsbRetryClear _ => true
  | .lsbInrushEnd _ => true
  | .vswUndervoltage _ => true
  | .vswHoldExpire => true
  | .vswRestored _ => true
  | .deltaSend => true
  | .snapReceive _ _ _ _ data => data.length == 2048
  | .deltaReceive _ _ => true
  | .deltaTimeout => true
  | .epochChunkReceive _ _ => true
  | .epochCommitReceive _ f => f.digest.length == 32
  | .epochCommitTimeout => true
  | .healthSend => true
  | .healthReceive _ words => words.length == 16
  | .healthTimeout => true
  | .goingDownReceive _ _ _ => true
  | .promote _ _ => true
  | .glbTwinResync _ => true
  | .memoryMarchStep _ _ => true
  | .doorbell _ size _ => accessSize size
  | .descriptorFetch fetched => fetched.length ≤ 8
  | .ringEnable _ _ => true
  | .ringDisable _ _ => true
  | .hostAccessFailure _ _ => true
  | .pcieLinkDown => true
  | .pcieLinkUp _ _ => true
  | .pcieHotReset => true
  | .functionLevelReset => true
  | .busMasterDisable => true
  | .d3hotEntry => true
  | .hifAttnCauseWrite _ => true
  | .msixEnable => true
  | .msixUnmask _ => true
  | .hifClrCounts => true
  | .nop _ _ => true
  | .eventRead _ _ _ _ _ _ => true
  | .eventReadWake => true
  | .evtHeadLatchRead => true
  | .evtOldestLatchRead => true
  | .selfTestMarch _ _ => true
  | .selfTestLaneDelay _ _ => true
  | .selfTestMramCrc _ _ => true
  | .selfTestComplete _ _ => true
  | .serialPllLock _ => true
  | .d3hotExit => true
  | .busMasterEnable => true
  | .msixMask _ => true
  | .msixDisable => true

end Sys2Proof
end

