-- ==== Sys2Proof/Tests/Slice0.lean ====
section
/-!
SUPPORT. Tests of the model: an ill-formed command for each check of WellFormed, and small states for the statements about
every command.
-/
namespace Sys2Proof.Tests
open Sys2Proof Sys2Proof.Machine

/-! ### A command each check refuses -/

theorem test_wf_access : (Instr.registerWrite 0 3 0).wf = false := by decide
theorem test_wf_stages : (Instr.tickStrobe [0, 0, 0, 0, 0, 0, 0, 0, 0]).wf = false := by decide
theorem test_wf_window : (Instr.meteringSample 0 0 [] []).wf = false := by decide
theorem test_wf_ac_window : (Instr.acSample 0 0 [] []).wf = false := by decide
theorem test_wf_bmu_frame : (Instr.bmuStatusReceive 2 0 false []).wf = false := by decide
theorem test_wf_auth_frames : (Instr.authResponseReceive 2 0 0 false [] []).wf = false := by decide
theorem test_wf_key : (Instr.authKey (desc 40) true 0 []).wf = false := by decide
theorem test_wf_sound : (Instr.slacSound 0 []).wf = false := by decide
theorem test_wf_die : (Instr.dieSensorRead []).wf = false := by decide
theorem test_wf_doorbell : (Instr.doorbell 0 8 0).wf = false := by decide
theorem test_wf_health : (Instr.healthReceive { lane := 0, fseq := 0, yseq := 0, claim := 0 } []).wf = false := by decide
theorem test_wf_can : (Instr.canFrameReceive 0 0 false false false [0, 0, 0, 0, 0, 0, 0, 0, 0] 0 true).wf = false := by decide
theorem test_wf_send : (Instr.send (desc 40) true 0 0 0 (List.replicate 65 0) 0).wf = false := by decide
theorem test_wf_soelaone : (Instr.soelaoneReceive (List.replicate 65 0)).wf = false := by decide
theorem test_wf_snap : (Instr.snapReceive { lane := 0, fseq := 0, yseq := 0, claim := 0 } 0 0 0 []).wf = false := by decide
theorem test_wf_fetch : (Instr.descriptorFetch (List.replicate 9 { opcode := 0, flags := 0, tag := 0, idx := 0 })).wf = false := by decide

end Sys2Proof.Tests
end

