-- ==== Sys2Proof/Tests/Witness01.lean ====
section
/-!
SUPPORT. For each clause of the family SuppliesResetAndBoot with hypotheses, a state and operands that meet them together.
-/
namespace Sys2Proof.Tests

open Sys2Proof Sys2Proof.Machine

set_option linter.all false

theorem wit_SuppliesResetAndBoot_supplyRise :
    ∃ (sup : SupplyName) (s : State),
      s.glb.aboveOff.testBit (supplyIdx sup) = true ∧ s.glb.inReg.testBit 0 = true ∧ s.glb.powered.testBit 0 = true ∧ s.glb.holds.order = false :=
  ⟨.vmem1, live .dormant, by decide⟩

theorem wit_SuppliesResetAndBoot_supplyFall :
    ∃ (sup : SupplyName) (s : State),
      supplyGroup sup = 4 ∧ s.glb.inReg.testBit 0 = true ∧ s.glb.inReg.testBit (supplyIdx sup) = true :=
  ⟨.vser, live .active, by decide⟩

theorem wit_SuppliesResetAndBoot_sequenceWindowExpire :
    ∃ (t0 : Nat) (s : State),
      s.glb.window = some t0 :=
  ⟨0, { State.reset with glb := { Glb.reset with window := some 0 } }, by decide⟩

theorem wit_SuppliesResetAndBoot_pwrEnReassert :
    ∃ (t0 : Nat) (s : State),
      s.glb.allOffAt = some t0 ∧ s.glb.holds.order = true ∧ s.glb.pwrEn = false :=
  ⟨0, { State.reset with glb := { Glb.reset with holds := { Glb.reset.holds with order := true } } }, by decide⟩

theorem wit_SuppliesResetAndBoot_brownoutWarning :
    ∃ (s : State),
      s.mainUp = true ∧ s.glb.brownAt = none ∧ s.see.reading = none :=
  ⟨live .active, by decide⟩

theorem wit_SuppliesResetAndBoot_brownoutRideExpire :
    ∃ (t0 : Nat) (s : State),
      s.glb.brownAt = some t0 ∧ s.glb.brownOver = false ∧ s.mainUp = true ∧ s.glb.mode = .active :=
  ⟨0, { live .active with glb := { liveGlb .active with brownAt := some 0 } }, by decide⟩

theorem wit_SuppliesResetAndBoot_brownoutRecovered :
    ∃ (below : BitVec 32) (t0 : Nat) (s : State),
      s.glb.brownAt = some t0 ∧ s.glb.brownOver = false ∧ below.toNat ≤ s.rd GLB_PWR_CFG.BO_RIDE ∧ s.glb.mode ≠ .shadow ∧ s.mainUp = true :=
  ⟨5, 0, { (live .active).setReg 0x64 0xC8 with glb := { liveGlb .active with brownAt := some 0 } }, by decide⟩

theorem wit_SuppliesResetAndBoot_brownoutReset :
    ∃ (s : State),
      s.glb.inReg.testBit 0 = true ∧ s.watched = true ∧ s.glb.holds.core = false :=
  ⟨live .active, by decide⟩

theorem wit_SuppliesResetAndBoot_resetNAssert :
    ∃ (s : State),
      s.glb.holds.resetN = false :=
  ⟨live .active, by decide⟩

theorem wit_SuppliesResetAndBoot_resetNRelease :
    ∃ (s : State),
      s.glb.holds.resetN = true ∧ s.glb.stuck = false :=
  ⟨State.reset, by decide⟩

theorem wit_SuppliesResetAndBoot_resetNStuck :
    ∃ (t0 : Nat) (s : State),
      s.glb.rstLowAt = some t0 ∧ s.watched = true :=
  ⟨0, { (live .dormant).setReg 0x60 1 with glb := { liveGlb .dormant with rstLowAt := some 0 } }, by decide⟩

theorem wit_SuppliesResetAndBoot_twinAliveLatch :
    ∃ (t0 : Nat) (s : State),
      s.glb.rstLowAt = some t0 ∧ s.watched = true :=
  ⟨0, { (live .dormant).setReg 0x60 1 with glb := { liveGlb .dormant with rstLowAt := some 0 } }, by decide⟩

theorem wit_SuppliesResetAndBoot_bootComplete :
    ∃ (tries : Fin 6) (bits : BitVec 16) (hkc rind : List (BitVec 8)) (bad : List MramPart) (s : State),
      s.mainUp = true ∧ s.glb.booting = true :=
  ⟨0, 0, [], [], [], { live .dormant with glb := { liveGlb .dormant with booting := true } }, by decide⟩

theorem wit_SuppliesResetAndBoot_rindSelftestComplete :
    ∃ (s : State),
      s.watched = true ∧ s.sfi.ready = false ∧ s.sfi.faultStays = false :=
  ⟨live .dormant, by decide⟩

end Sys2Proof.Tests
end

