-- ==== Sys2Proof/Tests/Witness02.lean ====
section
/-!
SUPPORT. For each clause of the family RegisterWritesAndModes with hypotheses, a state and operands that meet them together.
-/
namespace Sys2Proof.Tests

open Sys2Proof Sys2Proof.Machine

set_option linter.all false

theorem wit_RegisterWritesAndModes_registerWrite :
    ∃ (v : BitVec 32) (s : State),
      s.up = true :=
  ⟨7, live .active, by decide⟩

theorem wit_RegisterWritesAndModes_registerWriteW1c :
    ∃ (v : BitVec 32) (s : State),
      s.up = true :=
  ⟨7, live .active, by decide⟩

theorem wit_RegisterWritesAndModes_registerWriteRws :
    ∃ (v : BitVec 32) (s : State),
      s.up = true ∧ s.glb.mode = .commission ∧ 10 ≤ v.toNat % 2 ^ 10 ∧ v.toNat % 2 ^ 10 ≤ 1000 :=
  ⟨100, live .commission, by decide⟩

theorem wit_RegisterWritesAndModes_glbSwrst :
    ∃ (s : State),
      s.up = true ∧ (s.glb.mode = .dormant ∨ s.glb.mode = .commission ∨ s.glb.mode = .halt) :=
  ⟨live .halt, by decide⟩

theorem wit_RegisterWritesAndModes_modeReqDormant :
    ∃ (s : State),
      s.up = true ∧ s.flag GLB_MODE_STAT.REQ_PEND = false ∧ s.glb.mode = .halt ∧ s.haltDone = true :=
  ⟨live .halt, by decide⟩

theorem wit_RegisterWritesAndModes_modeReqCommission :
    ∃ (s : State),
      s.up = true ∧ s.flag GLB_MODE_STAT.REQ_PEND = false ∧ s.glb.mode = .dormant ∧ s.password.2 = true :=
  ⟨live .dormant, by decide⟩

theorem wit_RegisterWritesAndModes_modeReqActive :
    ∃ (cold : Bool) (s : State),
      s.up = true ∧ s.flag GLB_MODE_STAT.REQ_PEND = false ∧ (s.glb.mode = .dormant ∨ s.glb.mode = .commission ∨ (s.glb.mode = .limp ∧ s.limpOver = true)) ∧ (s.preconditions .active cold (s.glb.mode == .commission && s.siteBad.isNone)).all (·.1) = true :=
  ⟨true, readyToRun, by decide⟩

theorem wit_RegisterWritesAndModes_modeReqShadow :
    ∃ (cold : Bool) (s : State),
      s.up = true ∧ s.flag GLB_MODE_STAT.REQ_PEND = false ∧ (s.glb.mode = .dormant ∨ s.glb.mode = .commission) ∧ (s.preconditions .shadow cold (s.glb.mode == .commission && s.siteBad.isNone)).all (·.1) = true :=
  ⟨true, readyToRun, by decide⟩

theorem wit_RegisterWritesAndModes_modeReqLimp :
    ∃ (s : State),
      s.up = true ∧ s.flag GLB_MODE_STAT.REQ_PEND = false ∧ s.glb.mode = .active ∧ s.glb.limpPend = none :=
  ⟨live .active, by decide⟩

theorem wit_RegisterWritesAndModes_modeReqHalt :
    ∃ (s : State),
      s.up = true ∧ s.flag GLB_MODE_STAT.REQ_PEND = false ∧ (s.glb.mode = .active ∨ s.glb.mode = .limp) :=
  ⟨live .limp, by decide⟩

theorem wit_RegisterWritesAndModes_limpEntry :
    ∃ (cause : Nat) (s : State),
      s.up = true ∧ s.glb.limpPend = some cause ∧ s.glb.mode = .active :=
  ⟨2, { live .active with glb := { liveGlb .active with limpPend := some 2 } }, by decide⟩

theorem wit_RegisterWritesAndModes_hostKick :
    ∃ (v : BitVec 32) (s : State),
      s.up = true :=
  ⟨0, live .active, by decide⟩

theorem wit_RegisterWritesAndModes_hostWatchdogExpire :
    ∃ (s : State),
      s.up = true ∧ s.glb.mode = .active ∧ s.rd GLB_HOST_WDOG.PERIOD ≠ 0 ∧ s.glb.wdogOut = false ∧ s.glb.limpPend = none :=
  ⟨live .active, by decide⟩

theorem wit_RegisterWritesAndModes_wakeInEdge :
    ∃ (s : State),
      s.asleep = true ∧ s.flag GLB_WAKE_CFG.PIN = true :=
  ⟨asleepState, by decide⟩

theorem wit_RegisterWritesAndModes_rtcAlarm :
    ∃ (s : State),
      s.asleep = true ∧ s.flag GLB_WAKE_CFG.RTC = true ∧ s.rd STU_RTC_ALARM.ALARM ≠ 0 ∧ s.rtcNs < 1000000000 * (s.rd STU_RTC_ALARM.ALARM + 1) :=
  ⟨alarmState, by decide⟩

theorem wit_RegisterWritesAndModes_canWake :
    ∃ (can4 : Bool) (frame : Option (BitVec 29 × Bool × BitVec 8)) (s : State),
      s.asleep = true ∧ (s.rd (if can4 then GLB_WAKE_CFG.CAN4 else GLB_WAKE_CFG.CAN2) = 1) :=
  ⟨true, none, asleepState.setReg 0x6C 0x24, by decide⟩

theorem wit_RegisterWritesAndModes_pwrEnOff :
    ∃ (s : State),
      s.glb.pwrOffPend = true ∧ s.glb.mode = .dormant :=
  ⟨{ live .dormant with glb := { liveGlb .dormant with pwrOffPend := true, pwrEn := true } }, by decide⟩

end Sys2Proof.Tests
end

