-- ==== Sys2Proof/Tests/Witness03.lean ====
section
/-!
SUPPORT. For each clause of the family ClocksAndSiteTime with hypotheses, a state and operands that meet them together.
-/
namespace Sys2Proof.Tests

open Sys2Proof Sys2Proof.Machine

set_option linter.all false

theorem wit_ClocksAndSiteTime_refLoss :
    ∃ (s : State),
      s.watched = true ∧ s.glb.holds.ref = false :=
  ⟨live .active, by decide⟩

theorem wit_ClocksAndSiteTime_pllUnlock :
    ∃ (memory : Bool) (s : State),
      s.mainUp = true ∧ s.glb.holds.ref = false :=
  ⟨true, live .active, by decide⟩

theorem wit_ClocksAndSiteTime_refRestored :
    ∃ (t0 cause : Nat) (s : State),
      s.stu.refHold = some (t0, cause) :=
  ⟨0, 0, (live .active).refFault 0, by decide⟩

theorem wit_ClocksAndSiteTime_serialPllUnlock :
    ∃ (dreak : Bool) (s : State),
      s.mainUp = true ∧ (dreak = true → s.grade = .ph4800) :=
  ⟨false, live .active, by decide⟩

theorem wit_ClocksAndSiteTime_serialPllLock :
    ∃ (dreak : Bool) (s : State),
      s.mainUp = true ∧ (dreak = true → s.grade = .ph4800) :=
  ⟨true, live .active, by decide⟩

theorem wit_ClocksAndSiteTime_safCheckWindow :
    ∃ (count : Nat) (s : State),
      s.sfi.ready = true ∧ s.mainUp = true ∧ 465600 ≤ count ∧ count ≤ 494400 :=
  ⟨480000, { live .active with sfi := { Sfi.reset with ready := true } }, by decide⟩

theorem wit_ClocksAndSiteTime_stuSetCmd :
    ∃ (s : State),
      s.up = true ∧ s.glb.mode = .commission :=
  ⟨live .commission, by decide⟩

theorem wit_ClocksAndSiteTime_timeLatchRead :
    ∃ (s : State),
      s.up = true :=
  ⟨live .active, by decide⟩

theorem wit_ClocksAndSiteTime_ppsLabelArm :
    ∃ (v : BitVec 32) (s : State),
      s.up = true ∧ s.flag STU_DISC_STAT.VALID = false :=
  ⟨1, live .active, by decide⟩

theorem wit_ClocksAndSiteTime_ppsEdge :
    ∃ (s : State),
      s.up = true ∧ s.flag STU_DISC_CFG.SRC_PPS = true ∧ s.rd STU_DISC_STAT.VALID = 0 ∧ s.stu.labelArmed = true ∧ s.ppsPeriodOk = true :=
  ⟨{ ((live .active).setReg 0x8140 1) with now := 1000000000, stu := { Stu.reset with labelArmed := true, ppsLast := some 0 } }, by decide⟩

theorem wit_ClocksAndSiteTime_ppsLoss :
    ∃ (t0 : Nat) (s : State),
      s.up = true ∧ s.stu.ppsAt = some t0 ∧ s.rd STU_DISC_STAT.SOURCE ≠ 2 ∧ s.rd STU_DISC_STAT.SOURCE ≠ 5 :=
  ⟨0, { live .active with stu := { Stu.reset with ppsAt := some 0 } }, by decide⟩

theorem wit_ClocksAndSiteTime_ref10mMeasurement :
    ∃ (dev : Int) (s : State),
      s.up = true ∧ s.flag STU_DISC_CFG.SRC_REF10 = true ∧ dev.natAbs ≤ 50000 :=
  ⟨7, (live .active).setReg 0x8140 2, by decide⟩

theorem wit_ClocksAndSiteTime_ref10mLoss :
    ∃ (t0 : Nat) (s : State),
      s.up = true ∧ s.stu.ref10At = some t0 ∧ s.rd STU_DISC_STAT.SOURCE ≠ 3 ∧ s.rd STU_DISC_STAT.SOURCE ≠ 5 :=
  ⟨0, { live .active with stu := { Stu.reset with ref10At := some 0 } }, by decide⟩

theorem wit_ClocksAndSiteTime_hostOffsetLoss :
    ∃ (t0 : Nat) (s : State),
      s.up = true ∧ s.stu.hostAt = some t0 ∧ s.rd STU_DISC_STAT.SOURCE ≠ 4 :=
  ⟨0, { live .active with stu := { Stu.reset with hostAt := some 0 } }, by decide⟩

theorem wit_ClocksAndSiteTime_timeOffset :
    ∃ (d : DescRef) (offset measuredAt : BitVec 64) (s : State),
      s.ready d 0x0201 = true ∧ ((s.siteNs : Int) - (measuredAt.toNat : Int)) ≤ 2000000000 ∧ s.flag STU_DISC_CFG.SRC_HOST = true ∧ (s.ppsOk = false ∧ s.ref10Ok = false ∧ (s.glb.mode = .shadow → s.stu.twinOk = false)) :=
  ⟨desc 63, 0, 0, withDesc ((live .active).setReg 0x8140 4) (desc 63) 0x0201, by decide⟩

theorem wit_ClocksAndSiteTime_rtcAlign :
    ∃ (s : State),
      s.mainUp = true ∧ s.flag STU_DISC_STAT.VALID = true :=
  ⟨(live .active).wr STU_DISC_STAT.VALID 1, by decide⟩

theorem wit_ClocksAndSiteTime_ppsOutRise :
    ∃ (s : State),
      s.mainUp = true ∧ s.flag STU_DISC_STAT.VALID = true ∧ s.flag STU_PPS_OUT_CFG.EN = true ∧ s.stu.ppsOut = false :=
  ⟨((live .active).wr STU_DISC_STAT.VALID 1).wr STU_PPS_OUT_CFG.EN 1, by decide⟩

theorem wit_ClocksAndSiteTime_ppsOutFall :
    ∃ (s : State),
      s.stu.ppsOut = true :=
  ⟨{ live .active with stu := { Stu.reset with ppsOut := true } }, by decide⟩

end Sys2Proof.Tests
end

