-- ==== Sys2Proof/Tests/Witness04.lean ====
section
/-!
SUPPORT. For each clause of the family Churn with hypotheses, a state and operands that meet them together.
-/
namespace Sys2Proof.Tests

open Sys2Proof Sys2Proof.Machine

set_option linter.all false

theorem wit_Churn_tickStrobe :
    ∃ (times : List Nat) (s : State),
      s.up = true ∧ s.glb.mode.running = true :=
  ⟨[], live .active, by decide⟩

theorem wit_Churn_tickStrobeIdle :
    ∃ (times : List Nat) (s : State),
      s.up = true ∧ s.glb.mode.running = false :=
  ⟨[], live .commission, by decide⟩

theorem wit_Churn_pipelineOverrun :
    ∃ (stage : Fin 8) (cycles : BitVec 16) (mem : Option (BitVec 16 × Fin 3)) (s : State),
      s.up = true ∧ s.glb.mode.running = true :=
  ⟨3, 7, none, live .active, by decide⟩

theorem wit_Churn_tickLenWrite :
    ∃ (v : BitVec 32) (s : State),
      s.up = true ∧ s.glb.mode = .commission ∧ v.toNat % 2 ^ STU_TICK_CFG.TICK_LEN.w ≠ s.rd STU_TICK_CFG.TICK_LEN ∧ 10 ≤ v.toNat % 2 ^ STU_TICK_CFG.TICK_LEN.w ∧ v.toNat % 2 ^ STU_TICK_CFG.TICK_LEN.w ≤ 200 ∧ hostEnabled s.con.table ≤ entryMaxOf (v.toNat % 2 ^ STU_TICK_CFG.TICK_LEN.w * 10) - 64 :=
  ⟨50, live .commission, by decide⟩

theorem wit_Churn_alpClrStage :
    ∃ (s : State),
      s.up = true :=
  ⟨live .active, by decide⟩

theorem wit_Churn_alpClrCounts :
    ∃ (s : State),
      s.up = true :=
  ⟨live .active, by decide⟩

theorem wit_Churn_alpClrWhey :
    ∃ (s : State),
      s.up = true :=
  ⟨live .active, by decide⟩

theorem wit_Churn_capture :
    ∃ (d : DescRef) (first : BitVec 32) (count : BitVec 16) (kind : Fin 3) (addr : BitVec 64) (len : BitVec 32) (s : State),
      s.ready d 0x0303 = true ∧ -63 ≤ diff32 first.toNat s.curTick ∧ diff32 first.toNat s.curTick ≤ 64 ∧ 1 ≤ count.toNat ∧ count.toNat ≤ 64 ∧ (count.toNat * (if kind.val = 0 then 4096 else if kind.val = 1 then 2048 else 6144) ≤ len.toNat) :=
  ⟨desc 48, 0, 1, 0, 0, 4096, withDesc (live .active) (desc 48) 0x0303, by decide⟩

theorem wit_Churn_captureComplete :
    ∃ (d : DescRef) (c : Capture) (s : State),
      s.up = true ∧ s.served d = true ∧ s.alp.captures.find? (fun c => decide (c.first + c.count ≤ s.stu.nextTick)) = some c ∧ c.ring = d.ring.val ∧ c.idx = d.idx.toNat :=
  ⟨desc 48, { ring := 48, idx := 5, first := 0, count := 0, kind := 0, addr := 0 }, { withDesc (live .active) (desc 48) 0x0303 with alp := { Alp.reset with captures := [{ ring := 48, idx := 5, first := 0, count := 0, kind := 0, addr := 0 }] } }, by decide⟩

end Sys2Proof.Tests
end

