-- ==== Sys2Proof/Tests/Witness05.lean ====
section
/-!
SUPPORT. For each clause of the family ConstraintsAndMigration with hypotheses, a state and operands that meet them together.
-/
namespace Sys2Proof.Tests

open Sys2Proof Sys2Proof.Machine

set_option linter.all false

theorem wit_ConstraintsAndMigration_constraintWriteEnable :
    ∃ (d : DescRef) (index : BitVec 16) (x : EntryArg) (s : State),
      s.ready d 0x0301 = true ∧ s.editMode = true ∧ s.entryCheck index.toNat x = 0 ∧ s.countOk (tset (fun _ => Entry.zero) (applyStaged s.con.table s.con.staged) index.toNat (entryOf x)) = true :=
  ⟨desc 48, 0, { type := 0x09, flags := 1, target := 0, ownerTag := 0, reserved := 0, start := 0, stop := 0, a := 0, b := 5 }, withDesc (live .active) (desc 48) 0x0301, by decide⟩

theorem wit_ConstraintsAndMigration_constraintDisable :
    ∃ (d : DescRef) (index : BitVec 16) (s : State),
      s.ready d 0x0301 = true ∧ s.editMode = true ∧ index.toNat ≤ 1983 :=
  ⟨desc 48, 0, withDesc (live .active) (desc 48) 0x0301, by decide⟩

theorem wit_ConstraintsAndMigration_constraintStage :
    ∃ (d : DescRef) (index : BitVec 16) (x : EntryArg) (s : State),
      s.ready d 0x0301 = true ∧ s.editMode = true ∧ s.entryCheck index.toNat x = 0 ∧ s.countOk (applyStaged s.con.table (s.con.staged ++ [(index.toNat, entryOf x)])) = true ∧ s.con.staged.length < 32 :=
  ⟨desc 48, 0, { type := 0x09, flags := 1, target := 0, ownerTag := 0, reserved := 0, start := 0, stop := 0, a := 0, b := 5 }, withDesc (live .active) (desc 48) 0x0301, by decide⟩

theorem wit_ConstraintsAndMigration_constraintCommit :
    ∃ (d : DescRef) (s : State),
      s.ready d 0x0301 = true ∧ s.editMode = true ∧ s.commitCheck s.con.table s.con.staged = 0 :=
  ⟨desc 48, { withDesc (live .active) (desc 48) 0x0301 with con := { Con.reset with staged := [(0, { type := 0x09, enabled := true, windowed := false, device := false, target := 0, ownerTag := 0, start := 0, stop := 0, a := 0, b := 5 })] } }, by decide⟩

theorem wit_ConstraintsAndMigration_constraintDiscard :
    ∃ (d : DescRef) (s : State),
      s.ready d 0x0301 = true ∧ s.editMode = true :=
  ⟨desc 48, withDesc (live .active) (desc 48) 0x0301, by decide⟩

theorem wit_ConstraintsAndMigration_constraintRead :
    ∃ (d : DescRef) (index : BitVec 16) (addr : BitVec 64) (s : State),
      s.ready d 0x0301 = true ∧ index.toNat ≤ 2047 :=
  ⟨desc 48, 0, 0, withDesc (live .limp) (desc 48) 0x0301, by decide⟩

theorem wit_ConstraintsAndMigration_groupWrite :
    ∃ (n : Fin 64) (v : BitVec 32) (s : State),
      s.up = true ∧ s.glb.mode = .commission ∧ s.gradeCut (0x10300 + 4 * n.val) v.toNat = (s, v.toNat) ∧ (∀ p ∈ List.range 24, (low 24 v.toNat).testBit p = true → ((List.range 64).filter (fun g => g != n.val && s.rdBit (ALP_GROUP.PORTS g) p)).length < 4) :=
  ⟨3, 7, live .commission, by decide⟩

theorem wit_ConstraintsAndMigration_migrate :
    ∃ (d : DescRef) (block port ramp : BitVec 16) (force reservedZero : Bool) (s : State),
      s.ready d 0x0302 = true ∧ block.toNat / 2048 = 2 ∧ block.toNat % 2048 < 48 ∧ s.absent 2 (block.toNat % 2048) = false ∧ s.blockOn (block.toNat % 2048) = true ∧ port.toNat / 2048 = 1 ∧ port.toNat % 2048 < 24 ∧ s.absent 1 (port.toNat % 2048) = false ∧ s.portOn (port.toNat % 2048) = true ∧ s.glb.mode ≠ .dormant ∧ s.glb.mode ≠ .commission :=
  ⟨desc 48, 0x1000, 0x0800, 10, false, true, ((withDesc (live .active) (desc 48) 0x0302).setReg GLB_PORT_EN.PORT.off 1).setReg GLB_BLOCK_EN0.BLK_LO.off 1, by decide⟩

theorem wit_ConstraintsAndMigration_migrationCheck :
    ∃ (p : Proposal) (l : List Proposal) (c : Curd) (n : Snap) (s : State),
      s.up = true ∧ s.glb.mode = .active ∧ s.con.proposals = p :: l ∧ s.lastCurd = some c ∧ s.alp.snaps.find? (fun x => x.tick = c.tick) = some n :=
  ⟨{ ring := 48, idx := 5, block := 0, new := 1, ramp := 0, force := false, reservedZero := true }, [], Curd.zero, State.reset.gather 0, { live .active with con := { Con.reset with proposals := [{ ring := 48, idx := 5, block := 0, new := 1, ramp := 0, force := false, reservedZero := true }] }, alp := { Alp.reset with snaps := [State.reset.gather 0], curds := [Curd.zero] } }, by decide⟩

end Sys2Proof.Tests
end

