-- ==== Sys2Proof/Tests/Witness06.lean ====
section
/-!
SUPPORT. For each clause of the family LaunchAndFrames with hypotheses, a state and operands that meet them together.
-/
namespace Sys2Proof.Tests

open Sys2Proof Sys2Proof.Machine

set_option linter.all false

theorem wit_LaunchAndFrames_setpointSend :
    ∃ (copy : Fin 2) (c : Curd) (s : State),
      s.up = true ∧ s.curdOut = some c ∧ s.sendsFrames = true ∧ (copy.val = 0 ∨ s.flag LCH_TX_CFG.COPIES = true) :=
  ⟨0, { Curd.zero with tick := 0 }, { live .active with stu := { Stu.reset with nextTick := 2 }, alp := { Alp.reset with curds := [{ Curd.zero with tick := 0 }] } }, by decide⟩

theorem wit_LaunchAndFrames_slowLoadSend :
    ∃ (c : Curd) (s : State),
      s.up = true ∧ s.curdOut = some c ∧ s.sendsFrames = true :=
  ⟨{ Curd.zero with tick := 0 }, { live .active with stu := { Stu.reset with nextTick := 2 }, alp := { Alp.reset with curds := [{ Curd.zero with tick := 0 }] } }, by decide⟩

theorem wit_LaunchAndFrames_statusFrameReceive :
    ∃ (lane : Fin 12) (fseq : BitVec 16) (f : StatusFrame) (s : State),
      s.mainUp = true ∧ s.laneActive lane.val = true :=
  ⟨0, 7, { flags := 0, seqApplied := 0, follow := 0, s0 := { state := 1, path := 0, fault := 0, availP := 1, outI := 1, outV := 1, temp := 1 }, s1 := { state := 1, path := 0, fault := 0, availP := 1, outI := 1, outV := 1, temp := 1 }, s2 := { state := 1, path := 0, fault := 0, availP := 1, outI := 1, outV := 1, temp := 1 }, s3 := { state := 1, path := 0, fault := 0, availP := 1, outI := 1, outV := 1, temp := 1 }, miss := 0 }, (live .active).wr (LN.STATE 0) 6, by decide⟩

theorem wit_LaunchAndFrames_phaseStatusReceive :
    ∃ (lane : Fin 12) (fseq : BitVec 16) (f : PhaseStatus) (s : State),
      s.mainUp = true ∧ s.laneActive lane.val = true :=
  ⟨0, 7, { flags := 2, cycleApplied := 1, follow := 0, phFault := 0, miss := 0, late := 0 }, (live .active).wr (LN.STATE 0) 6, by decide⟩

theorem wit_LaunchAndFrames_slowNodeStatusReceive :
    ∃ (slot : Fin 16) (code : BitVec 16) (follow seqApplied : BitVec 32) (s : State),
      s.up = true ∧ s.slowHears slot.val = true :=
  ⟨0, 1, 2, 3, (((((live .active).wr (LCH_CAN_SLOT.EN 0) 1).wr (CAN_CTL.EN 0) 1).wr (CAN_OBJ_CFG.EN 0 0) 1)), by decide⟩

theorem wit_LaunchAndFrames_lchClrCounts :
    ∃ (s : State),
      s.up = true :=
  ⟨live .active, by decide⟩

end Sys2Proof.Tests
end

