-- ==== Sys2Proof/Tests/Witness07.lean ====
section
/-!
SUPPORT. For each clause of the family LaneBringUp with hypotheses, a state and operands that meet them together.
-/
namespace Sys2Proof.Tests

open Sys2Proof Sys2Proof.Machine

set_option linter.all false

theorem wit_LaneBringUp_laneDetectTest :
    ∃ (lane : Fin 14) (w : State) (s : State),
      s.mainUp = true ∧ s.laneState lane.val = 2 ∧ s.serialLocked lane.val = true ∧ 1 ≤ (s.lane lane.val).found ∧ (w = s.waitTill ((s.lane lane.val).testAt + (if s.flag (LN.BACKOFF lane.val) then 1000000000 else 10000000))) :=
  ⟨3, (((((live .active).wr (LN.STATE 3) 2).wr CKG_STAT.SER_CAB_LOCK 1).modLane 3 (fun x => { x with found := 1 }))).waitTill 10000000, ((((live .active).wr (LN.STATE 3) 2).wr CKG_STAT.SER_CAB_LOCK 1).modLane 3 (fun x => { x with found := 1 })), by decide⟩

theorem wit_LaneBringUp_laneTrainComplete :
    ∃ (lane : Fin 14) (inverted : Bool) (ctle : BitVec 8) (dfe : BitVec 40) (w : State) (s : State),
      s.mainUp = true ∧ s.laneState lane.val = 3 ∧ (inverted = true → s.flag (LN.INV_AUTO lane.val) = true) ∧ (w = (s.waitTill ((s.lane lane.val).since + trainNs lane.val)).emit (.pattern lane.val (.train 2 (if lane.val < 12 then 0 else 3) (if lane.val < 12 then lane.val else lane.val - 12) (some 16)))) :=
  ⟨3, false, 0, 0, ((((live .active).wr (LN.STATE 3) 3)).waitTill (((((live .active).wr (LN.STATE 3) 3)).lane 3).since + trainNs 3)).emit (.pattern 3 (.train 2 (if (3 : Nat) < 12 then 0 else 3) (if (3 : Nat) < 12 then 3 else 3 - 12) (some 16))), ((live .active).wr (LN.STATE 3) 3), ⟨by decide, by decide, by decide, by rfl⟩⟩

theorem wit_LaneBringUp_laneBringupTimeout :
    ∃ (lane : Fin 14) (st : Nat) (w : State) (s : State),
      s.mainUp = true ∧ (st = 3 ∨ st = 4 ∨ st = 5) ∧ s.laneState lane.val = st ∧ w = ((s.waitTill ((s.lane lane.val).since + bringupLimit st)).toDetect lane.val).bump (LN.RETRIES lane.val) ∧ w.rd (LN.RETRIES lane.val) < 8 :=
  ⟨3, 4, (((((live .active).wr (LN.STATE 3) 4)).waitTill 10000000).toDetect 3).bump (LN.RETRIES 3), ((live .active).wr (LN.STATE 3) 4), ⟨by decide, .inr (.inl rfl), by decide, by rfl, by decide⟩⟩

theorem wit_LaneBringUp_capsResend :
    ∃ (lane : Fin 14) (s : State),
      s.mainUp = true ∧ s.laneState lane.val = 4 :=
  ⟨3, (live .active).wr (LN.STATE 3) 4, by decide⟩

theorem wit_LaneBringUp_capsFrameReceive :
    ∃ (lane : Fin 14) (fseq : BitVec 16) (f : CapsFrame) (u v : State) (s : State),
      s.mainUp = true ∧ lane.val < 12 ∧ s.laneState lane.val = 4 ∧ u = (((s.laneRx lane.val fseq.toNat).setReg (laneBase lane.val + 0x14) ((capsFar f).role % 256 + (capsFar f).slots % 256 * 2 ^ 8 + (capsFar f).features % 256 * 2 ^ 16 + (capsFar f).portId % 256 * 2 ^ 24)).setReg (laneBase lane.val + 0x18) ((capsFar f).maker % 65536 + (capsFar f).maxPayload % 65536 * 65536)).setReg (laneBase lane.val + 0x1C) (capsFar f).serial ∧ u.capsCheck lane.val (capsFar f) = none ∧ (v = (if lane.val < 12 && (capsFar f).role = 1 && (List.range 4).any (fun k => (s.laneRx lane.val fseq.toNat).blockOn (4 * lane.val + k) && !bit (capsFar f).slots k) then u.ev (laneEv lane.val 4) (entLane lane.val) 6 (capsFar f).slots else u)) :=
  ⟨3, 0, { role := 1, portId := 0, slots := 15, features := 3, frameVer := 1, maxPayload := 512, maker := 0, serial := 0, asym := 0, claim := 0, cfgDigest := 0 }, ((((((live .active).wr (LN.STATE 3) 4)).laneRx 3 0).setReg (laneBase 3 + 0x14) (1 + 15 * 256 + 3 * 65536)).setReg (laneBase 3 + 0x18) (512 * 65536)).setReg (laneBase 3 + 0x1C) 0, ((((((live .active).wr (LN.STATE 3) 4)).laneRx 3 0).setReg (laneBase 3 + 0x14) (1 + 15 * 256 + 3 * 65536)).setReg (laneBase 3 + 0x18) (512 * 65536)).setReg (laneBase 3 + 0x1C) 0, ((live .active).wr (LN.STATE 3) 4), ⟨by decide, by decide, by decide, by rfl, by decide, by decide⟩⟩

theorem wit_LaneBringUp_delayMeasurementStart :
    ∃ (lane : Fin 12) (w : State) (s : State),
      s.mainUp = true ∧ s.laneState lane.val = 6 ∧ (s.lane lane.val).meas = none ∧ (s.lane lane.val).stuck = false ∧ w = s.waitTill ((s.lane lane.val).measStart + 1000000000) :=
  ⟨3, (((live .active).wr (LN.STATE 3) 6)).waitTill 1000000000, ((live .active).wr (LN.STATE 3) 6), ⟨by decide, by decide, by decide, by decide, by rfl⟩⟩

theorem wit_LaneBringUp_dlyReqSend :
    ∃ (lane : Fin 14) (m : Meas) (s : State),
      s.mainUp = true ∧ lane.val < 12 ∧ (s.laneState lane.val = 5 ∨ s.laneState lane.val = 6) ∧ (s.lane lane.val).meas = some m ∧ m.sent < 8 :=
  ⟨3, Meas.start0 0, ((live .active).wr (LN.STATE 3) 6).modLane 3 (fun x => { x with meas := some (Meas.start0 0) }), ⟨by decide, by decide, .inr (by decide), by decide, by decide⟩⟩

theorem wit_LaneBringUp_dlyReqReceive :
    ∃ (lane : Fin 2) (fseq xid : BitVec 16) (wait : Nat) (s : State),
      s.mainUp = true ∧ (s.laneState (12 + lane.val) = 5 ∨ s.laneState (12 + lane.val) = 6) :=
  ⟨0, 1, 2, 0, (live .active).wr (LN.STATE 12) 6, ⟨by decide, .inr (by decide)⟩⟩

theorem wit_LaneBringUp_dlyRespReceive :
    ∃ (lane : Fin 14) (fseq xid : BitVec 16) (t2Ns : BitVec 32) (t2Frac : BitVec 16) (t3Ns : BitVec 32) (t3Frac : BitVec 16) (m : Meas) (d o : Int) (u : State) (s : State),
      s.mainUp = true ∧ lane.val < 12 ∧ (s.laneState lane.val = 5 ∨ s.laneState lane.val = 6) ∧ u = s.laneRx lane.val fseq.toNat ∧ (u.lane lane.val).meas = some m ∧ u.exchange lane.val m xid.toNat t2Ns.toNat t2Frac.toNat t3Ns.toNat t3Frac.toNat = some (d, o) :=
  ⟨3, 0, 0, 0, 0, 0, 0, { start := 0, sent := 1, xid := 0, t1 := some 0, ds := [] }, 0, 0, ((((live .active).wr (LN.STATE 3) 6).modLane 3 (fun x => { x with meas := some { start := 0, sent := 1, xid := 0, t1 := some 0, ds := [] } }))).laneRx 3 0, (((live .active).wr (LN.STATE 3) 6).modLane 3 (fun x => { x with meas := some { start := 0, sent := 1, xid := 0, t1 := some 0, ds := [] } })), ⟨by decide, by decide, .inr (by decide), by rfl, by decide, by decide⟩⟩

theorem wit_LaneBringUp_delayMeasurementComplete :
    ∃ (lane : Fin 14) (m : Meas) (res : Int) (s : State),
      s.mainUp = true ∧ lane.val < 12 ∧ s.laneState lane.val = 5 ∧ (s.lane lane.val).meas = some m ∧ (s.lane lane.val).measAt = none ∧ 8 ≤ m.sent ∧ 8 ≤ m.ds.length ∧ res = divNear (sumI (((sortI m.ds).drop 2).take 4)) (8 * 65536) ∧ 0 ≤ res ∧ res ≤ 16777215 :=
  ⟨3, { start := 0, sent := 8, xid := 7, t1 := none, ds := List.replicate 8 131072000 }, 1000, ((live .active).wr (LN.STATE 3) 5).modLane 3 (fun x => { x with meas := some { start := 0, sent := 8, xid := 7, t1 := none, ds := List.replicate 8 131072000 } }), ⟨by decide, by decide, by decide, by decide, by decide, by decide, by decide, by decide⟩⟩

theorem wit_LaneBringUp_timeFrameSend :
    ∃ (lane : Fin 12) (s : State),
      s.mainUp = true ∧ s.laneActive lane.val = true :=
  ⟨3, (live .active).wr (LN.STATE 3) 6, by decide⟩

theorem wit_LaneBringUp_aliveSend :
    ∃ (lane : Fin 14) (s : State),
      s.mainUp = true ∧ s.laneActive lane.val = true :=
  ⟨3, (live .active).wr (LN.STATE 3) 6, by decide⟩

theorem wit_LaneBringUp_aliveReceive :
    ∃ (lane : Fin 14) (fseq : BitVec 16) (s : State),
      s.mainUp = true ∧ s.laneHears lane.val = true :=
  ⟨3, 5, (live .active).wr (LN.STATE 3) 6, by decide⟩

end Sys2Proof.Tests
end

