-- ==== Sys2Proof/Tests/Witness08.lean ====
section
/-!
SUPPORT. For each clause of the family LaneLossAndPower with hypotheses, a state and operands that meet them together.
-/
namespace Sys2Proof.Tests

open Sys2Proof Sys2Proof.Machine Sys2Proof.Laws

set_option linter.all false

theorem wit_LaneLossAndPower_laneFrameInvalid :
    ∃ (lane : Fin 14) (blocks : List LaneBlock) (s : State),
      s.mainUp = true ∧ s.laneHears lane.val = true ∧ rxFrame (maxPayload lane.val) blocks = .void :=
  ⟨3, [{ sync := 2, data := 0x78 }], (live .active).wr (LN.STATE 3) 6, by decide⟩

set_option maxRecDepth 100000 in
theorem wit_LaneLossAndPower_laneFrameInvalidType :
    ∃ (lane : Fin 14) (blocks : List LaneBlock) (q y : Nat) (p : List Nat) (s : State),
      s.mainUp = true ∧ s.laneHears lane.val = true ∧ rxFrame (maxPayload lane.val) blocks = .frame q y p ∧ knownType lane.val (nth p 0 0) = false :=
  ⟨3, frameBlocks 7 0 [0x7F, 1, 0, 0, 0, 0, 0, 0], 7, 0, [0x7F, 1, 0, 0, 0, 0, 0, 0], (live .active).wr (LN.STATE 3) 6, by decide⟩

theorem wit_LaneLossAndPower_laneErrorLimit :
    ∃ (lane : Fin 14) (s : State),
      s.mainUp = true ∧ s.laneActive lane.val = true ∧ s.rd (LN.ERR_LIMIT lane.val) ≤ ((s.lane lane.val).discards.filter (fun t => decide (s.now < t + 1000000))).length :=
  ⟨3, (((live .active).wr (LN.STATE 3) 6).wr (LN.ERR_LIMIT 3) 0), by decide⟩

theorem wit_LaneLossAndPower_laneBlockLockLoss :
    ∃ (lane : Fin 14) (s : State),
      s.mainUp = true ∧ s.laneHears lane.val = true :=
  ⟨3, (live .active).wr (LN.STATE 3) 6, by decide⟩

theorem wit_LaneLossAndPower_laneFrameTimeout :
    ∃ (lane : Fin 14) (s : State),
      s.mainUp = true ∧ s.laneActive lane.val = true :=
  ⟨3, (live .active).wr (LN.STATE 3) 6, by decide⟩

theorem wit_LaneLossAndPower_laneSignalLoss :
    ∃ (lane : Fin 14) (s : State),
      s.mainUp = true ∧ s.laneActive lane.val = true :=
  ⟨3, (live .active).wr (LN.STATE 3) 6, by decide⟩

theorem wit_LaneLossAndPower_laneSignalDetect :
    ∃ (lane : Fin 14) (s : State),
      s.mainUp = true ∧ (s.laneState lane.val = 7 ∨ s.laneState lane.val = 1) :=
  ⟨3, (live .active).wr (LN.STATE 3) 1, ⟨by decide, .inr (by decide)⟩⟩

theorem wit_LaneLossAndPower_laneSignalDetectIdle :
    ∃ (lane : Fin 14) (s : State),
      s.mainUp = true ∧ s.laneState lane.val = 7 ∧ s.now - (s.lane lane.val).since ≤ 1000000000 :=
  ⟨3, (live .active).wr (LN.STATE 3) 7, by decide⟩

theorem wit_LaneLossAndPower_laneSignalDetectDeep :
    ∃ (lane : Fin 14) (s : State),
      s.mainUp = true ∧ s.laneState lane.val = 1 :=
  ⟨3, (live .active).wr (LN.STATE 3) 1, by decide⟩

theorem wit_LaneLossAndPower_laneRetrain :
    ∃ (lane : Fin 14) (s : State),
      s.up = true ∧ (s.grade = .ph4812 → lane.val < 12) ∧ s.laneActive lane.val = true :=
  ⟨3, (live .active).wr (LN.STATE 3) 6, by decide⟩

theorem wit_LaneLossAndPower_laneLpUp :
    ∃ (lane : Fin 14) (s : State),
      s.up = true ∧ (s.grade = .ph4812 → lane.val < 12) ∧ s.lpHeld lane.val = false :=
  ⟨3, (live .active).wr (LN.STATE 3) 6, ⟨by decide, by decide, by decide⟩⟩

theorem wit_LaneLossAndPower_laneLpIdle :
    ∃ (lane : Fin 14) (s : State),
      s.up = true ∧ (s.grade = .ph4812 → lane.val < 12) ∧ s.lpHeld lane.val = false ∧ (s.glb.mode = .dormant ∨ s.glb.mode = .commission) ∧ s.laneActive lane.val = true :=
  ⟨3, (live .commission).wr (LN.STATE 3) 6, ⟨by decide, by decide, by decide, .inr rfl, by decide⟩⟩

theorem wit_LaneLossAndPower_laneLpDeep :
    ∃ (lane : Fin 14) (s : State),
      s.up = true ∧ (s.grade = .ph4812 → lane.val < 12) ∧ s.lpHeld lane.val = false ∧ (s.glb.mode = .dormant ∨ s.glb.mode = .commission) ∧ s.laneActive lane.val = true :=
  ⟨3, (live .commission).wr (LN.STATE 3) 6, ⟨by decide, by decide, by decide, .inr rfl, by decide⟩⟩

theorem wit_LaneLossAndPower_laneLpRefused :
    ∃ (lane : Fin 14) (s : State),
      s.up = true ∧ (s.grade = .ph4812 → lane.val < 12) ∧ s.lpHeld lane.val = false ∧ s.glb.mode ≠ .dormant ∧ s.glb.mode ≠ .commission ∧ (12 ≤ lane.val ∨ s.carriesFrames lane.val = true) :=
  ⟨12, { (live .active) with grade := .ph4800, link := { Link.reset with dreakHeld := false } }, ⟨by decide, by decide, by decide, by decide, by decide, Or.inl (by decide)⟩⟩

theorem wit_LaneLossAndPower_laneLpOff :
    ∃ (lane : Fin 14) (s : State),
      s.up = true ∧ (s.grade = .ph4812 → lane.val < 12) ∧ s.lpHeld lane.val = false ∧ s.laneActive lane.val = false ∧ s.laneState lane.val ≠ 0 :=
  ⟨3, (live .active).wr (LN.STATE 3) 2, by decide⟩

theorem wit_LaneLossAndPower_laneLpOffActive :
    ∃ (lane : Fin 14) (s : State),
      s.up = true ∧ (s.grade = .ph4812 → lane.val < 12) ∧ s.lpHeld lane.val = false ∧ s.laneActive lane.val = true :=
  ⟨3, (live .active).wr (LN.STATE 3) 6, by decide⟩

theorem wit_LaneLossAndPower_lpReqReceive :
    ∃ (lane : Fin 2) (fseq : BitVec 16) (target : BitVec 8) (u : State) (s : State),
      s.mainUp = true ∧ s.laneActive (12 + lane.val) = true ∧ u = s.laneRx (12 + lane.val) fseq.toNat :=
  ⟨0, 5, 1, (((live .dormant).wr (LN.STATE 12) 6)).laneRx 12 5, ((live .dormant).wr (LN.STATE 12) 6), ⟨by decide, by decide, by rfl⟩⟩

theorem wit_LaneLossAndPower_lpAckReceive :
    ∃ (lane : Fin 14) (fseq : BitVec 16) (target : BitVec 8) (s : State),
      s.mainUp = true ∧ (s.laneState lane.val = 6 ∨ s.laneState lane.val = 7) ∧ (s.lane lane.val).lpReq = some target.toNat :=
  ⟨3, 5, 1, ((live .dormant).wr (LN.STATE 3) 6).modLane 3 (fun x => { x with lpReq := some 1 }), ⟨by decide, .inl (by decide), by decide⟩⟩

theorem wit_LaneLossAndPower_clcClrCounts :
    ∃ (s : State),
      s.up = true :=
  ⟨live .active, by decide⟩

theorem wit_LaneLossAndPower_dlcClrCounts :
    ∃ (s : State),
      s.up = true ∧ s.grade = .ph4800 :=
  ⟨{ live .active with grade := .ph4800 }, by decide⟩

theorem wit_LaneLossAndPower_eyeScan :
    ∃ (d : DescRef) (a : ScanArg) (s : State),
      s.ready d 0x0501 = true ∧ a.lane.toNat / 2048 = 3 ∧ a.lane.toNat % 2048 < 12 ∧ (scanOf a d).argsOk = true ∧ a.reservedZero = true ∧ 32 + 4 * (scanOf a d).points ≤ a.len.toNat ∧ s.link.scans.length < 2 ∧ s.link.scans.any (fun x => x.lane = (scanOf a d).lane) = false ∧ s.laneActive (a.lane.toNat % 2048) = true :=
  ⟨desc 62, { lane := 0x1803, phMin := 0, phMax := 0, phStep := 1, vMin := 0, vMax := 0, vStep := 1, dwell := 20, reservedZero := true, addr := 0, len := 36 }, withDesc ((live .active).wr (LN.STATE 3) 6) (desc 62) 0x0501, by decide⟩

theorem wit_LaneLossAndPower_eyeScanComplete :
    ∃ (lane : Fin 14) (counts : List (BitVec 32)) (c : Scan) (w : State) (s : State),
      s.mainUp = true ∧ s.link.scans.find? (fun (x : Scan) => x.lane = lane.val) = some c ∧ (w = s.waitTill (c.start + divUp (c.points * 2 ^ c.dwell * 10000) (if c.lane < 12 then 62500 else 103125))) :=
  ⟨3, [], { ring := 62, idx := 5, lane := 3, phMin := 0, phMax := 0, phStep := 1, vMin := 0, vMax := 0, vStep := 1, dwell := 20, addr := 0, start := 0, site := 0, ctle := 0, dfe := 0 }, (({ withDesc (live .active) (desc 62) 0x0501 with link := { Link.reset with scans := [{ ring := 62, idx := 5, lane := 3, phMin := 0, phMax := 0, phStep := 1, vMin := 0, vMax := 0, vStep := 1, dwell := 20, addr := 0, start := 0, site := 0, ctle := 0, dfe := 0 }] } })).waitTill (0 + divUp (1 * 2 ^ 20 * 10000) 62500), ({ withDesc (live .active) (desc 62) 0x0501 with link := { Link.reset with scans := [{ ring := 62, idx := 5, lane := 3, phMin := 0, phMax := 0, phStep := 1, vMin := 0, vMax := 0, vStep := 1, dwell := 20, addr := 0, start := 0, site := 0, ctle := 0, dfe := 0 }] } }), ⟨by decide, by decide, by decide⟩⟩

end Sys2Proof.Tests
end

