-- ==== Sys2Proof/Tests/Witness09.lean ====
section
/-!
SUPPORT. For each clause of the family Press with hypotheses, a state and operands that meet them together.
-/
namespace Sys2Proof.Tests

open Sys2Proof Sys2Proof.Machine

set_option linter.all false

theorem wit_Press_pressCycleStart :
    ∃ (s : State),
      s.up = true :=
  ⟨live .active, by decide⟩

theorem wit_Press_phaseSend :
    ∃ (c : Nat) (s : State),
      s.up = true ∧ s.pressOn = true ∧ s.flag GLB_SITE_CFG.PRESS_OUT = true ∧ s.sendsFrames = true ∧ s.cce.cycle = some c ∧ s.laneActive (s.rd GLB_SITE_CFG.PRESS_LANE) = true :=
  ⟨0, let s := ((((live .active).wr GLB_SITE_CFG.PRESS_EN 1).wr GLB_SITE_CFG.PRESS_OUT 1).wr GLB_SITE_CFG.PRESS_LANE 0).wr (LN.STATE 0) 6; { s with cce := { s.cce with cycle := some 0 } }, by decide⟩

theorem wit_Press_pressControlSample :
    ∃ (conv : Fin 4) (batI busV batV : BitVec 32) (c : Nat) (s : State),
      s.up = true ∧ s.flag (CCE_CONV.EN conv.val) = true ∧ s.cce.cycle = some c ∧ s.rd (CCE_IN.IN_BAT conv.val) ≠ 0x3F :=
  ⟨0, 5, 6, 7, 0, let s := (((live .active).wr (CCE_CONV.EN 0) 1).wr (CCE_IN.IN_BAT 0) 1); { s with cce := { s.cce with cycle := some 0 } }, by decide⟩

theorem wit_Press_ilimAssert :
    ∃ (phase : Fin 32) (k : Nat) (s : State),
      s.up = true ∧ s.convOfPhase phase.val = some k ∧ (s.cv k).limNow = false :=
  ⟨0, 0, ((live .active).wr (CCE_CONV.EN 0) 1).wr (CCE_CONV.COUNT 0) 1, by decide⟩

theorem wit_Press_ssRetryDelayExpire :
    ∃ (conv : Fin 4) (t0 : Nat) (s : State),
      s.up = true ∧ (s.cv conv.val).retryAt = some t0 :=
  ⟨0, 0, (live .active).modCv 0 (fun x => { x with retryAt := some 0 }), by decide⟩

theorem wit_Press_runningRetryClear :
    ∃ (conv : Fin 4) (s : State),
      s.up = true ∧ (s.cv conv.val).state = .running :=
  ⟨0, (live .active).modCv 0 (fun x => { x with state := .running }), by decide⟩

theorem wit_Press_zeroCurdSwitchOff :
    ∃ (conv : Fin 4) (t0 : Nat) (s : State),
      s.up = true ∧ (s.cv conv.val).zeroAt = some t0 :=
  ⟨0, 0, (live .active).modCv 0 (fun x => { x with zeroAt := some 0 }), by decide⟩

theorem wit_Press_cceConnect :
    ∃ (conv : Fin 4) (s : State),
      s.up = true :=
  ⟨0, live .active, by decide⟩

theorem wit_Press_cceDisconnect :
    ∃ (conv : Fin 4) (s : State),
      s.up = true ∧ s.glb.mode ≠ .shadow ∧ (s.cv conv.val).state = .running ∧ (s.cv conv.val).zeroAt = none :=
  ⟨0, (live .active).modCv 0 (fun x => { x with state := .running }), by decide⟩

theorem wit_Press_cceUnlatch :
    ∃ (conv : Fin 4) (s : State),
      s.up = true ∧ s.glb.mode ≠ .shadow ∧ (s.cv conv.val).state = .latched :=
  ⟨0, (live .active).modCv 0 (fun x => { x with state := .latched }), by decide⟩

theorem wit_Press_cceClrPeak :
    ∃ (s : State),
      s.up = true :=
  ⟨live .active, by decide⟩

theorem wit_Press_cceClrCounts :
    ∃ (s : State),
      s.up = true :=
  ⟨live .active, by decide⟩

end Sys2Proof.Tests
end

