-- ==== Sys2Proof/Tests/Witness10.lean ====
section
/-!
SUPPORT. For each clause of the family MetrologySamplesAndReadings with hypotheses, a state and operands that meet them together.
-/
namespace Sys2Proof.Tests

open Sys2Proof Sys2Proof.Machine Sys2Proof.Laws

set_option linter.all false

theorem wit_MetrologySamplesAndReadings_meteringSample :
    ∃ (port : Fin 28) (lead : Nat) (codesV codesI : List (BitVec 24)) (w u : State) (v i : Int) (s : State),
      s.up = true ∧ (s.mclk (port.val / 4 + if port.val < 24 then 0 else 1) = true) ∧ port.val < 24 ∧ s.portOn port.val = true ∧ (s.windowEnd port.val 62500).2 = false ∧ w = (s.windowEnd port.val 62500).1 ∧ v = w.window (2 * port.val) lead 0 false codesV ∧ i = w.window (2 * port.val + 1) lead 0 true codesI ∧ u = (((((w.chanOut (2 * port.val) v).chanOut (2 * port.val + 1) i).addProduct port.val (v * i)).feedChan (2 * port.val) v (w.rawWindow (2 * port.val) lead 0 false codesV)).feedChan (2 * port.val + 1) i (w.rawWindow (2 * port.val + 1) lead 0 true codesI)).feedEnergy (2 * port.val) (v * i) (w.rawWindow (2 * port.val) lead 0 false codesV * w.rawWindow (2 * port.val + 1) lead 0 true codesI) :=
  ⟨0, 0, [], [], _, _, _, _, ((((((live .active).setReg 0x38000 0xFF).wr (GLB_PORT_EN.PORT) 1).wr (MTE_CH_CFG.EN 0) 1).wr (MTE_CH_CFG.EN 1) 1)), ⟨by decide, by decide, by decide, by decide, by decide, rfl, rfl, rfl, rfl⟩⟩

theorem wit_MetrologySamplesAndReadings_meteringSampleMissing :
    ∃ (port : Fin 28) (lead : Nat) (codesV codesI : List (BitVec 24)) (w : State) (s : State),
      s.up = true ∧ (s.mclk (port.val / 4 + if port.val < 24 then 0 else 1) = true) ∧ port.val < 24 ∧ s.portOn port.val = true ∧ (s.windowEnd port.val 62500).2 = true ∧ w = (s.windowEnd port.val 62500).1 :=
  ⟨0, 0, [], [], _, (((live .active).setReg 0x38000 0xFF).wr (GLB_PORT_EN.PORT) 1), ⟨by decide, by decide, by decide, by decide, by decide, rfl⟩⟩

theorem wit_MetrologySamplesAndReadings_meteringSampleAux :
    ∃ (port : Fin 28) (lead : Nat) (codesV codesI : List (BitVec 24)) (w : State) (m : Bool) (s : State),
      s.up = true ∧ (s.mclk (port.val / 4 + if port.val < 24 then 0 else 1) = true) ∧ 24 ≤ port.val ∧ s.windowEnd (26 + (port.val - 24)) 62500 = (w, m) :=
  ⟨24, 0, [], [], (((((live .active).setReg 0x38000 0xFF))).windowEnd 26 62500).1, (((((live .active).setReg 0x38000 0xFF))).windowEnd 26 62500).2, (((live .active).setReg 0x38000 0xFF)), ⟨by decide, by decide, by decide, rfl⟩⟩

theorem wit_MetrologySamplesAndReadings_acSample :
    ∃ (point : Fin 2) (lead : Nat) (codesV codesI : List (List (BitVec 24))) (w u : State) (p : Int) (h : List Int) (s : State),
      s.up = true ∧ s.mclk 6 = true ∧ s.acOn point.val = true ∧ (s.windowEnd (24 + point.val) 125000).2 = false ∧ w = (s.windowEnd (24 + point.val) 125000).1 ∧ u = (w.acProduct point.val lead codesV codesI).1 ∧ p = (w.acProduct point.val lead codesV codesI).2 ∧ h = (p :: ((u.addProduct (24 + point.val) p).meter (24 + point.val)).hist).take (max 1 (s.rd (MTE_AC_CFG.PAVG point.val))) :=
  ⟨0, 0, [], [], _, _, _, _, ((((((((((live .active).setReg 0x38000 0xFF).wr GLB_SITE_CFG.G0_EN 1).wr (MTE_CH_CFG.EN 48) 1).wr (MTE_CH_CFG.EN 49) 1).wr (MTE_CH_CFG.EN 50) 1).wr (MTE_CH_CFG.EN 64) 1).wr (MTE_CH_CFG.EN 65) 1).wr (MTE_CH_CFG.EN 66) 1)), ⟨by decide, by decide, by decide, by decide, rfl, rfl, rfl, rfl⟩⟩

theorem wit_MetrologySamplesAndReadings_acSampleMissing :
    ∃ (point : Fin 2) (lead : Nat) (codesV codesI : List (List (BitVec 24))) (w : State) (s : State),
      s.up = true ∧ s.mclk 6 = true ∧ s.acOn point.val = true ∧ (s.windowEnd (24 + point.val) 125000).2 = true ∧ w = (s.windowEnd (24 + point.val) 125000).1 :=
  ⟨0, 0, [], [], _, (((live .active).setReg 0x38000 0xFF).wr GLB_SITE_CFG.G0_EN 1), ⟨by decide, by decide, by decide, by decide, rfl⟩⟩

theorem wit_MetrologySamplesAndReadings_acWindowEnd :
    ∃ (point : Fin 2) (x : AcWindow) (s : State),
      s.up = true ∧ s.mclk 6 = true ∧ s.acOn point.val = true ∧ (s.acp point.val).winAt = none ∧ (s.needs (24 + point.val)).any (fun c => !s.flag (MTE_CH_CFG.EN c) || (s.mch c).cause != 0 || (s.mch c).skip != 0) = false :=
  ⟨0, { v1 := 0, v2 := 0, v3 := 0, vn := 0, i1 := 0, i2 := 0, i3 := 0, inN := 0, p1 := 0, p2 := 0, p3 := 0, q := 0, f := 50000, angV2 := 0, angV3 := 0, angI1 := 0, angI2 := 0, angI3 := 0 }, ((((((((((live .active).setReg 0x38000 0xFF).wr GLB_SITE_CFG.G0_EN 1).wr (MTE_CH_CFG.EN 48) 1).wr (MTE_CH_CFG.EN 49) 1).wr (MTE_CH_CFG.EN 50) 1).wr (MTE_CH_CFG.EN 64) 1).wr (MTE_CH_CFG.EN 65) 1).wr (MTE_CH_CFG.EN 66) 1)), by decide⟩

theorem wit_MetrologySamplesAndReadings_acFreq10Window :
    ∃ (point : Fin 2) (f : BitVec 24) (w : State) (s : State),
      s.up = true ∧ s.acOn point.val = true ∧ w = s.waitSite (10000000000 * divUp s.siteNs 10000000000) :=
  ⟨0, 50000, (((live .active).wr GLB_SITE_CFG.G0_EN 1)).waitSite (10000000000 * divUp (((live .active).wr GLB_SITE_CFG.G0_EN 1)).siteNs 10000000000), ((live .active).wr GLB_SITE_CFG.G0_EN 1), ⟨by decide, by decide, rfl⟩⟩

theorem wit_MetrologySamplesAndReadings_mteCheckpoint :
    ∃ (w : State) (s : State),
      s.up = true ∧ s.glb.brownAt = none ∧ w = s.waitSite (max ((match s.ckpt with | none => 0 | some c => 1000000000 * (c.t / 1000000000)) + 1000000000 * max 1 (s.rd MTE_CKPT.PERIOD)) (1000000000 * divUp s.siteNs 1000000000)) :=
  ⟨_, live .active, ⟨by decide, by decide, rfl⟩⟩

theorem wit_MetrologySamplesAndReadings_modulatorStuck :
    ∃ (chan : Fin 72) (s : State),
      s.up = true ∧ s.mclk (clockOf chan.val) = true ∧ s.flag (MTE_CH_CFG.EN chan.val) = true ∧ (s.mch chan.val).cause.testBit 0 = false :=
  ⟨3, ((live .active).setReg 0x38000 0xFF).wr (MTE_CH_CFG.EN 3) 1, by decide⟩

theorem wit_MetrologySamplesAndReadings_sinc3Overflow :
    ∃ (chan : Fin 72) (s : State),
      s.up = true ∧ s.mclk (clockOf chan.val) = true ∧ s.flag (MTE_CH_CFG.EN chan.val) = true ∧ (s.mch chan.val).cause.testBit 1 = false :=
  ⟨3, ((live .active).setReg 0x38000 0xFF).wr (MTE_CH_CFG.EN 3) 1, by decide⟩

theorem wit_MetrologySamplesAndReadings_modulatorRestored :
    ∃ (chan : Fin 72) (w : State) (s : State),
      s.up = true ∧ (s.mch chan.val).cause % 4 ≠ 0 ∧ (s.mch chan.val).cause &&& 3 ≠ 0 ∧ clearBits (s.mch chan.val).cause 3 = 0 ∧ w = s.waitTill ((s.mch chan.val).since + 1000000) :=
  ⟨3, (((live .active).setMch 3 { MChan.reset with cause := 1 })).waitTill 1000000, ((live .active).setMch 3 { MChan.reset with cause := 1 }), ⟨by decide, by decide, by decide, by decide, rfl⟩⟩

theorem wit_MetrologySamplesAndReadings_mteOverrange :
    ∃ (chan : Fin 72) (t0 : Nat) (s : State),
      s.up = true ∧ s.flag (MTE_CH_CFG.EN chan.val) = true ∧ (s.mch chan.val).fullAt = some t0 :=
  ⟨3, 0, ((live .active).wr (MTE_CH_CFG.EN 3) 1).setMch 3 { MChan.reset with fullAt := some 0 }, by decide⟩

theorem wit_MetrologySamplesAndReadings_mteOverrangeOn :
    ∃ (chan : Fin 72) (s : State),
      s.up = true ∧ s.flag (MTE_CH_CFG.EN chan.val) = true ∧ (s.mch chan.val).fullAt = none :=
  ⟨3, (live .active).wr (MTE_CH_CFG.EN 3) 1, by decide⟩

theorem wit_MetrologySamplesAndReadings_mteCapture :
    ∃ (d : DescRef) (a : McapArg) (s : State),
      s.ready d 0x0801 = true ∧ s.glb.mode ≠ .dormant ∧ mcapArgOk a = true ∧ mcapSize a.kind.toNat a.count.toNat ≤ a.len.toNat ∧ s.mte.caps.length < 8 :=
  ⟨desc 40, { reservedZero := true, a := 0, b := 0, kind := 0, flags := 0, count := 1, addr := 0, len := 4, freq := 0 }, withDesc (live .active) (desc 40) 0x0801, by decide⟩

theorem wit_MetrologySamplesAndReadings_mteCaptureComplete :
    ∃ (d : DescRef) (shift amps : BitVec 64) (j : MCap) (s : State),
      s.up = true ∧ s.mte.caps.find? (fun j => j.ring = d.ring.val && j.idx = d.idx.toNat) = some j ∧ j.count ≤ j.n ∧ j.hit = false :=
  ⟨desc 40, 0, 0, { ring := 40, idx := 5, a := 0, b := 0, kind := 1, count := 1, addr := 0, corrected := true, freq := 0, hit := false, n := 1, data := [], sum := 0, sq := 0, lo := 0, hi := 0, imp := 0, exp := 0, zero := 0 }, { (live .active) with mte := { Mte.reset with caps := [{ ring := 40, idx := 5, a := 0, b := 0, kind := 1, count := 1, addr := 0, corrected := true, freq := 0, hit := false, n := 1, data := [], sum := 0, sq := 0, lo := 0, hi := 0, imp := 0, exp := 0, zero := 0 }] } }, by decide⟩

theorem wit_MetrologySamplesAndReadings_intervalBoundary :
    ∃ (w : State) (s : State),
      s.up = true ∧ w = s.mark.waitSite s.nextBoundary :=
  ⟨((live .active)).mark.waitSite ((live .active)).nextBoundary, (live .active), ⟨by decide, rfl⟩⟩

theorem wit_MetrologySamplesAndReadings_rollLatchRead :
    ∃ (entity : Fin 26) (m : Meter) (b : Nat) (s : State),
      s.up = true ∧ m = s.meter entity.val ∧ b = rollBase entity.val ∧ m.imp.wraps < 2 ∧ m.exp.wraps < 2 :=
  ⟨0, (live .active).meter 0, rollBase 0, live .active, by decide⟩

theorem wit_MetrologySamplesAndReadings_acStatLatchRead :
    ∃ (point : Fin 2) (s : State),
      s.up = true :=
  ⟨0, live .active, by decide⟩

end Sys2Proof.Tests
end

