-- ==== Sys2Proof/Tests/Witness11.lean ====
section
/-!
SUPPORT. For each clause of the family RecordsAndKeys with hypotheses, a state and operands that meet them together.
-/
namespace Sys2Proof.Tests

open Sys2Proof Sys2Proof.Machine Sys2Proof.Laws

set_option linter.all false

theorem wit_RecordsAndKeys_recordBuild :
    ∃ (r : Reading) (session key : Nat) (l : List Work) (h : ChainHead) (s : State),
      s.up = true ∧ s.sealing = true ∧ s.glb.brownAt = none ∧ s.rsl.cut = false ∧ s.kvt.key = some key ∧ s.kvt.rolls = [] ∧ s.rsl.waiting = [] ∧ s.rsl.work = .interval r session :: l ∧ s.head r.e = some h ∧ tget (fun _ => none) s.rsl.takeover r.e = none ∧ s.rsl.unlinked.contains r.e = false ∧ s.rd RSL_JRNL_CFG.RESERVE / 2 ≤ s.jFree :=
  ⟨{ e := 0, kind := 0, flags := 0, calId := 0, tBound := 1000, tFirst := none, imp := 0, exp := 0, rev := 0, samples := 0, zero := 0, missing := 0 }, 0, 1, [], { seq := 0, j := 0, hash := [], calId := 0, tEnd := 0, imp := 0, exp := 0 }, { live .active with kvt := { Kvt.reset with key := some 1 }, rsl := { Rsl.reset with work := [.interval { e := 0, kind := 0, flags := 0, calId := 0, tBound := 1000, tFirst := none, imp := 0, exp := 0, rev := 0, samples := 0, zero := 0, missing := 0 } 0], heads := [(0, some { seq := 0, j := 0, hash := [], calId := 0, tEnd := 0, imp := 0, exp := 0 })] } }, by decide⟩

theorem wit_RecordsAndKeys_mramRefresh :
    ∃ (bad : List MramPart) (w u : State) (p : Twins KeySlot) (s : State),
      s.up = true ∧ s.glb.brownAt = none ∧ w = s.waitCalendar (s.rsl.refreshAt + 31536000000000000) ∧ u = bad.foldl State.spoil w ∧ p = u.slotPair.refresh :=
  ⟨[], _, _, _, live .active, ⟨by decide, by decide, rfl, rfl, rfl⟩⟩

theorem wit_RecordsAndKeys_exportRecords :
    ∃ (d : DescRef) (addr : BitVec 64) (len : BitVec 32) (n : Nat) (s : State),
      s.ready d 0x0901 = true ∧ len.toNat % 256 = 0 ∧ n = min (len.toNat / 256) (s.rsl.next - s.rsl.exported) ∧ n ≠ 0 :=
  ⟨desc 40, 0, 256, 1, { withDesc (live .active) (desc 40) 0x0901 with rsl := { Rsl.reset with next := 1 } }, by decide⟩

theorem wit_RecordsAndKeys_ack :
    ∃ (d : DescRef) (pos : BitVec 64) (s : State),
      s.ready d 0x0901 = true ∧ s.glb.brownAt = none ∧ s.rsl.ack < pos.toNat ∧ pos.toNat ≤ s.rsl.exported ∧ s.rsl.waiting = [] :=
  ⟨desc 40, 1, { withDesc (live .active) (desc 40) 0x0901 with rsl := { Rsl.reset with next := 1, exported := 1 } }, by decide⟩

theorem wit_RecordsAndKeys_read :
    ∃ (d : DescRef) (addr : BitVec 64) (len : BitVec 32) (first : BitVec 64) (count : BitVec 32) (s : State),
      s.ready d 0x0901 = true ∧ 256 * count.toNat ≤ len.toNat ∧ s.rsl.next ≤ first.toNat + 61440 ∧ first.toNat + count.toNat ≤ s.rsl.next :=
  ⟨desc 40, 0, 0, 0, 0, withDesc (live .active) (desc 40) 0x0901, by decide⟩

theorem wit_RecordsAndKeys_heads :
    ∃ (d : DescRef) (addr : BitVec 64) (len : BitVec 32) (s : State),
      s.ready d 0x0901 = true ∧ 1248 ≤ len.toNat :=
  ⟨desc 40, 0, 1248, withDesc (live .active) (desc 40) 0x0901, by decide⟩

theorem wit_RecordsAndKeys_attest :
    ∃ (d : DescRef) (addr : BitVec 64) (len : BitVec 32) (nonce : BitVec 128) (b : List Nat) (s : State),
      s.ready d 0x0901 = true ∧ 384 ≤ len.toNat ∧ s.kvt.rootOk = true ∧ s.kvt.key.isSome = true ∧ b = s.statement (leBytes 16 nonce.toNat) :=
  ⟨desc 40, 0, 384, 0, _, { withDesc (live .active) (desc 40) 0x0901 with kvt := { Kvt.reset with rootOk := true, key := some 1 } }, ⟨by decide, by decide, by decide, by decide, rfl⟩⟩

theorem wit_RecordsAndKeys_keyRoll :
    ∃ (d : DescRef) (len : BitVec 32) (target : BitVec 384) (old : Nat) (tgt : List Nat) (gen new : Nat) (s : State),
      s.ready d 0x0901 = true ∧ s.glb.brownAt = none ∧ s.kvt.rootOk = true ∧ s.kvt.key = some old ∧ s.kvt.pend = none ∧ (len.toNat = 0 ∨ len.toNat = 48) ∧ (tgt = if len.toNat = 0 then fixBytes 48 s.kvt.meas else fixBytes 48 (leBytes 48 target.toNat)) ∧ gen = (s.keyGen + 1) % 2 ^ 16 ∧ new = s.meterKey gen tgt :=
  ⟨desc 40, 0, 0, 1, _, _, _, { withDesc (live .active) (desc 40) 0x0901 with kvt := { Kvt.reset with rootOk := true, key := some 1 } }, ⟨by decide, by decide, by decide, by decide, by decide, Or.inl (by decide), rfl, rfl, rfl⟩⟩

theorem wit_RecordsAndKeys_rollAbort :
    ∃ (d : DescRef) (s : State),
      s.ready d 0x0901 = true ∧ s.glb.brownAt = none :=
  ⟨desc 40, withDesc (live .active) (desc 40) 0x0901, by decide⟩

theorem wit_RecordsAndKeys_enrol :
    ∃ (d : DescRef) (force : Bool) (s : State),
      s.ready d 0x0901 = true ∧ s.glb.brownAt = none ∧ s.glb.mode = .commission ∧ s.kvt.helper = none :=
  ⟨desc 40, false, withDesc (live .commission) (desc 40) 0x0901, by decide⟩

theorem wit_RecordsAndKeys_rebind :
    ∃ (d : DescRef) (u : State) (s : State),
      s.ready d 0x0901 = true ∧ s.glb.brownAt = none ∧ s.glb.mode = .commission ∧ s.kvt.unbound = true ∧ s.kvt.rootOk = true ∧ u = (s.start d).flipKey ((s.keyGen + 1) % 2 ^ 16) s.kvt.meas :=
  ⟨desc 40, _, { withDesc (live .commission) (desc 40) 0x0901 with kvt := { Kvt.reset with rootOk := true, unbound := true } }, ⟨by decide, by decide, by decide, by decide, by decide, rfl⟩⟩

theorem wit_RecordsAndKeys_pubkey :
    ∃ (d : DescRef) (addr : BitVec 64) (len : BitVec 32) (s : State),
      s.ready d 0x0901 = true ∧ 192 ≤ len.toNat :=
  ⟨desc 40, 0, 192, withDesc (live .active) (desc 40) 0x0901, by decide⟩

end Sys2Proof.Tests
end

