-- ==== Sys2Proof/Tests/Witness12.lean ====
section
/-!
SUPPORT. For each clause of the family StorageEstimator with hypotheses, a state and operands that meet them together.
-/
namespace Sys2Proof.Tests

open Sys2Proof Sys2Proof.Machine Sys2Proof.Laws

set_option linter.all false

theorem wit_StorageEstimator_coulombSample :
    ∃ (string : Fin 16) (code : BitVec 24) (c : Int) (w : State) (s : State),
      s.seeOn string.val = true ∧ s.mclk 7 = true ∧ (s.str string.val).qFault = 0 ∧ s.glb.mode ≠ .shadow ∧ c = s.strCurrent string.val code.toInt ∧ w = (match (s.str string.val).lastAt with | none => s | some t => s.waitTill (t + 6250)) :=
  ⟨0, 100, _, _, ((live .active [(0x20, 1), (0x28, 1)]).setReg 0x38000 0xFF), ⟨by decide, by decide, by decide, by decide, rfl, rfl⟩⟩

theorem wit_StorageEstimator_coulombSampleShadow :
    ∃ (string : Fin 16) (code : BitVec 24) (c : Int) (w : State) (s : State),
      s.seeOn string.val = true ∧ s.mclk 7 = true ∧ (s.str string.val).qFault = 0 ∧ s.glb.mode = .shadow ∧ c = s.strCurrent string.val code.toInt ∧ w = (match (s.str string.val).lastAt with | none => s | some t => s.waitTill (t + 6250)) :=
  ⟨0, 100, _, _, ((live .shadow [(0x20, 1), (0x28, 1)]).setReg 0x38000 0xFF), ⟨by decide, by decide, by decide, by decide, rfl, rfl⟩⟩

theorem wit_StorageEstimator_restReference :
    ∃ (string : Fin 16) (t : Nat) (f : BmuFrame) (w v : State) (s : State),
      s.seeOn string.val = true ∧ s.glb.mode ≠ .shadow ∧ (s.str string.val).restAt = some t ∧ w = s.waitTill (t + 1000000000 * s.rd SEE_REST_CFG.T_REST) ∧ w.eocEnd string.val = none ∧ w.freshFrame string.val = some f ∧ f.ocv = true ∧ v = w.modStr string.val (fun y => { y with q := ((f.soc * w.cEff string.val / 10000 : Nat) : Int), qRes := 0, u := w.rd SEE_REF_CFG.U_REF_REST * w.cEff string.val / 10000, uRes := 0, needRef := false, untrusted := false, atMax := false, clip := false, eocHold := y.eocHold || decide (0 = 1), tRef := w.siteNs, refKind := 0, restAt := none, eocAt := none }) :=
  ⟨0, 0, { ocv := true, contactor := true, fault := false, vs := 0, disI := 0, chgI := 0, iBmu := 0, soc := 5000, temp := 0, serial := 0, stamp := 10000000000000 }, _, _, ({ live .active [(0x20, 1), (0x28, 1)] with see := { See.reset with strs := [(0, { Str.reset with restAt := some 0, frame := some { ocv := true, contactor := true, fault := false, vs := 0, disI := 0, chgI := 0, iBmu := 0, soc := 5000, temp := 0, serial := 0, stamp := 10000000000000 } })] } }), ⟨by decide, by decide, by decide, rfl, by decide, by decide, by decide, rfl⟩⟩

theorem wit_StorageEstimator_eocReference :
    ∃ (string : Fin 16) (t : Nat) (w v : State) (s : State),
      s.seeOn string.val = true ∧ s.glb.mode ≠ .shadow ∧ s.eocEnd string.val = some t ∧ w = s.waitTill t ∧ v = w.modStr string.val (fun y => { y with q := ((w.cEff string.val : Nat) : Int), qRes := 0, u := w.rd SEE_REF_CFG.U_REF_EOC * w.cEff string.val / 10000, uRes := 0, needRef := false, untrusted := false, atMax := false, clip := false, eocHold := y.eocHold || decide (1 = 1), tRef := w.siteNs, refKind := 1, restAt := none, eocAt := none }) :=
  ⟨0, 0 + 1000000000 * (({ live .active [(0x20, 1), (0x28, 1)] with see := { See.reset with strs := [(0, { Str.reset with eocAt := some 0 })] } })).rd SEE_EOC_CFG.T_EOC, _, _, ({ live .active [(0x20, 1), (0x28, 1)] with see := { See.reset with strs := [(0, { Str.reset with eocAt := some 0 })] } }), ⟨by decide, by decide, rfl, rfl, rfl⟩⟩

theorem wit_StorageEstimator_eodClear :
    ∃ (string : Fin 16) (t : Nat) (f : BmuFrame) (w : State) (s : State),
      s.seeOn string.val = true ∧ (s.str string.val).eod = true ∧ (s.str string.val).eodOkAt = some t ∧ (s.str string.val).frame = some f ∧ w = s.waitTill (t + 10000000000) :=
  ⟨0, 0, { ocv := true, contactor := true, fault := false, vs := 0, disI := 0, chgI := 0, iBmu := 0, soc := 5000, temp := 0, serial := 0, stamp := 10000000000000 }, _, ({ live .active [(0x20, 1), (0x28, 1)] with see := { See.reset with strs := [(0, { Str.reset with eod := true, eodOkAt := some 0, frame := some { ocv := true, contactor := true, fault := false, vs := 0, disI := 0, chgI := 0, iBmu := 0, soc := 5000, temp := 0, serial := 0, stamp := 10000000000000 } })] } }), ⟨by decide, by decide, by decide, by decide, rfl⟩⟩

theorem wit_StorageEstimator_coulombInputFault :
    ∃ (string : Fin 16) (overflow : Bool) (k : Nat) (s : State),
      s.seeOn string.val = true ∧ (s.str string.val).qFault = 0 ∧ (k = (if overflow then 2 else 1)) :=
  ⟨0, true, 2, live .active [(0x20, 1), (0x28, 1)], ⟨by decide, by decide, by decide⟩⟩

theorem wit_StorageEstimator_coulombInputRestored :
    ∃ (string : Fin 16) (w : State) (s : State),
      s.seeOn string.val = true ∧ (s.str string.val).qFault ≠ 0 ∧ w = s.waitTill ((s.str string.val).faultAt + 1000000) :=
  ⟨0, _, ({ live .active [(0x20, 1), (0x28, 1)] with see := { See.reset with strs := [(0, { Str.reset with qFault := 1 })] } }), ⟨by decide, by decide, rfl⟩⟩

theorem wit_StorageEstimator_bmuStatusReceive :
    ∃ (ctrl : Fin 6) (id : BitVec 29) (ide : Bool) (frame : List (BitVec 8)) (b : List Nat) (i : Nat) (v : State) (s : State),
      b = frame.map (·.toNat) ∧ i = nth b 1 0 ∧ (b.length = 32 && nth b 0 0 = 0x10 && i < 16 && s.seeOn i && ctrl.val = bmuCan i && s.canOnBus ctrl.val && !s.canSuspect ctrl.val id.toNat ide) = true ∧ (s.str i).stale = false ∧ (s.str i).frame.map (fun (g : BmuFrame) => g.serial) = some (field b 24 8) ∧ (v = s.modStr i (fun y => { y with frame := some (bmuParse b s.siteNs), stale := false, eodOkAt := if !decide (s.rd (SEE_VEOD.V_EOD i) * 102 ≤ (bmuParse b s.siteNs).vs * 100) then none else match y.eodOkAt with | none => some s.now | some t => some t })) ∧ (v.str i).coldWait = false :=
  ⟨2, 0, false, 0x10 :: List.replicate 31 0, 0x10 :: List.replicate 31 0, 0, _, ({ live .active [(0x20, 1), (0x28, 1), (0x5A000, 1)] with see := { See.reset with strs := [(0, { Str.reset with frame := some { ocv := true, contactor := true, fault := false, vs := 0, disI := 0, chgI := 0, iBmu := 0, soc := 5000, temp := 0, serial := 0, stamp := 10000000000000 } })] } }), ⟨by decide, by decide, by decide, by decide, by decide, rfl, by decide⟩⟩

theorem wit_StorageEstimator_bmuStale :
    ∃ (string : Fin 16) (f : BmuFrame) (w : State) (s : State),
      s.seeOn string.val = true ∧ (s.str string.val).stale = false ∧ (s.str string.val).frame = some f ∧ w = s.waitSite (f.stamp + 1000000 * s.rd SEE_BMU_CFG.BMU_AGE) ∧ (w.str string.val).frame = some f :=
  ⟨0, { ocv := true, contactor := true, fault := false, vs := 0, disI := 0, chgI := 0, iBmu := 0, soc := 5000, temp := 0, serial := 0, stamp := 10000000000000 }, _, ({ live .active [(0x20, 1), (0x28, 1)] with see := { See.reset with strs := [(0, { Str.reset with frame := some { ocv := true, contactor := true, fault := false, vs := 0, disI := 0, chgI := 0, iBmu := 0, soc := 5000, temp := 0, serial := 0, stamp := 10000000000000 } })] } }), ⟨by decide, by decide, by decide, rfl, by decide⟩⟩

theorem wit_StorageEstimator_authChallenge :
    ∃ (obj : Fin 128) (i t seq : Nat) (w u v : State) (nonce : List Nat) (s : State),
      s.up = true ∧ s.see.exch = none ∧ s.glb.mode ≠ .shadow ∧ s.sends = true ∧ s.nextAuth = some (i, t) ∧ w = s.waitTill t ∧ seq = low 32 (w.see.seq + 1) ∧ (u, nonce) = w.freshBytes 16 ∧ v = u.modStr i (fun y => { y with authDue := none, attempts := y.attempts + 1 }) :=
  ⟨0, 0, 0, _, _, _, _, _, ({ live .active [(0x20, 1), (0x28, 1)] with see := { See.reset with strs := [(0, { Str.reset with authDue := some 0 })] } }), ⟨by decide, by decide, by decide, by decide, by decide, rfl, rfl, rfl, rfl⟩⟩

theorem wit_StorageEstimator_authResponseReceive :
    ∃ (ctrl : Fin 6) (id1 id2 : BitVec 29) (ide : Bool) (frame1 frame2 : List (BitVec 8)) (e : Exchange) (f1 f2 : List Nat) (s : State),
      f1 = frame1.map (·.toNat) ∧ f2 = frame2.map (·.toNat) ∧ s.see.exch = some e ∧ (s.up && s.now ≤ e.limit && ctrl.val = bmuCan e.str && s.canOnBus ctrl.val && f1.length = 48 && f2.length = 48 && nth f1 0 0 = 0x12 && nth f2 0 0 = 0x13 && nth f1 1 0 = e.str && nth f2 1 0 = e.str && field f1 4 4 = e.seq && field f2 4 4 = e.seq && !s.canSuspect ctrl.val id1.toNat ide && !s.canSuspect ctrl.val id2.toNat ide) = true :=
  ⟨2, 0, 0, false, 0x12 :: List.replicate 47 0, 0x13 :: List.replicate 47 0, { str := 0, seq := 0, nonce := [], limit := 5 }, 0x12 :: List.replicate 47 0, 0x13 :: List.replicate 47 0, { live .active [(0x20, 1), (0x28, 1), (0x5A000, 1)] with see := { See.reset with exch := some { str := 0, seq := 0, nonce := [], limit := 5 } } }, by decide⟩

theorem wit_StorageEstimator_authTimeout :
    ∃ (e : Exchange) (w : State) (s : State),
      s.up = true ∧ s.see.exch = some e ∧ w = s.waitTill e.limit :=
  ⟨{ str := 0, seq := 0, nonce := [], limit := 5 }, _, { live .active with see := { See.reset with exch := some { str := 0, seq := 0, nonce := [], limit := 5 } } }, ⟨by decide, by decide, rfl⟩⟩

theorem wit_StorageEstimator_seeCommit :
    ∃ (v : BitVec 32) (s : State),
      s.up = true ∧ v.toNat / 256 % 2 ^ 24 = 0x534545 ∧ s.see.entered = false ∧ s.glb.brownAt = none ∧ (s.glb.mode = .dormant ∨ s.glb.mode = .commission) :=
  ⟨0x53454500, live .dormant, by decide⟩

theorem wit_StorageEstimator_save :
    ∃ (d : DescRef) (buffer : BitVec 8) (gen : Nat) (s : State),
      s.ready d 0x0B01 = true ∧ s.glb.brownAt = none ∧ buffer.toNat ≤ 1 ∧ s.see.begun = true ∧ gen = low 32 (s.rd SEE_GEN.GEN + 1) :=
  ⟨desc 44, 0, 1, { withDesc (live .active) (desc 44) 0x0B01 with see := { See.reset with begun := true } }, by decide⟩

set_option maxRecDepth 4000 in
theorem wit_StorageEstimator_authKey :
    ∃ (d : DescRef) (string : BitVec 8) (key : List (BitVec 8)) (k : List Nat) (s : State),
      s.ready d 0x0B01 = true ∧ s.glb.mode = .commission ∧ string.toNat < 16 ∧ string.toNat < s.nStrings ∧ s.stringOn string.toNat = true ∧ k = fixBytes 64 (key.map (·.toNat)) ∧ onP256 (ofBe (k.take 32)) (ofBe (k.drop 32)) = true :=
  ⟨desc 44, 0, [0x6B, 0x17, 0xD1, 0xF2, 0xE1, 0x2C, 0x42, 0x47, 0xF8, 0xBC, 0xE6, 0xE5, 0x63, 0xA4, 0x40, 0xF2, 0x77, 0x03, 0x7D, 0x81, 0x2D, 0xEB, 0x33, 0xA0, 0xF4, 0xA1, 0x39, 0x45, 0xD8, 0x98, 0xC2, 0x96, 0x4F, 0xE3, 0x42, 0xE2, 0xFE, 0x1A, 0x7F, 0x9B, 0x8E, 0xE7, 0xEB, 0x4A, 0x7C, 0x0F, 0x9E, 0x16, 0x2B, 0xCE, 0x33, 0x57, 0x6B, 0x31, 0x5E, 0xCE, 0xCB, 0xB6, 0x40, 0x68, 0x37, 0xBF, 0x51, 0xF5], _, withDesc (live .commission [(0x20, 1), (0x28, 1)]) (desc 44) 0x0B01, ⟨by decide, by decide, by decide, by decide, by decide, rfl, by decide⟩⟩

theorem wit_StorageEstimator_authNow :
    ∃ (d : DescRef) (string : BitVec 8) (s : State),
      s.ready d 0x0B01 = true ∧ string.toNat < 16 ∧ string.toNat < s.nStrings ∧ s.stringOn string.toNat = true :=
  ⟨desc 44, 0, withDesc (live .active [(0x20, 1), (0x28, 1)]) (desc 44) 0x0B01, by decide⟩

theorem wit_StorageEstimator_qcLatchRead :
    ∃ (string : Fin 16) (s : State),
      s.up = true ∧ string.val < s.nStrings :=
  ⟨0, live .active, by decide⟩

end Sys2Proof.Tests
end

