-- ==== Sys2Proof/Tests/Witness13.lean ====
section
/-!
SUPPORT. For each clause of the family PilotSlacAndFrames with hypotheses, a state and operands that meet them together.
-/
namespace Sys2Proof.Tests

open Sys2Proof Sys2Proof.Machine Sys2Proof.Laws

set_option linter.all false

set_option maxRecDepth 8000 in
theorem wit_PilotSlacAndFrames_pilotPeriod :
    ∃ (port : Fin 24) (high low : List (BitVec 16)) (l : Int × Int) (w v y : State) (c n : Nat) (s : State),
      s.pluOn port.val = true ∧ s.pilotSteady port.val = true ∧ l = s.pilotLevels port.val (high.map (·.toInt)) (low.map (·.toInt)) ∧ w = s.waitSite (s.periodEnd port.val) ∧ v = w.wrS (PLU_CP_LVL.HIGH port.val) l.1 ∧ v.pilotClass port.val l.1 l.2 false = (c, false) ∧ (n = (if c = (s.port port.val).cand then (s.port port.val).candN + 1 else 1)) ∧ y = v.modPort port.val (fun x => { x with cand := c, candN := min n 15, periodAt := some (1000000 * (w.siteNs / 1000000 + 1)), dutyNow := s.rd (PLU_CP_CTL.DUTY port.val), fNow := s.flag (PLU_CP_CTL.F port.val) }) :=
  ⟨0, List.replicate 500 0x1388, List.replicate 500 0x1388, _, _, _, _, 2, 1, (live .active [(0x14, 1), (0x50000, 1)]), ⟨by decide, by decide, rfl, rfl, rfl, by decide, by decide, rfl⟩⟩

theorem wit_PilotSlacAndFrames_pilotControlWrite :
    ∃ (port : Fin 24) (v : BitVec 32) (s : State),
      s.up = true ∧ port.val < s.nPorts ∧ (s.port port.val).held = false :=
  ⟨0, 50, live .active, by decide⟩

theorem wit_PilotSlacAndFrames_beaconSend :
    ∃ (port : Fin 24) (t : Nat) (w : State) (s : State),
      s.pluOn port.val = true ∧ s.ccs port.val = true ∧ s.guards = true ∧ t = s.nextBeacon port.val ∧ w = s.waitSite t :=
  ⟨0, _, _, live .active [(0x14, 1)], ⟨by decide, by decide, by decide, rfl, rfl⟩⟩

theorem wit_PilotSlacAndFrames_vehicleFrameReceive :
    ∃ (port : Fin 24) (frame : List (BitVec 8)) (lead : Nat) (s : State) (f : List Nat) (d : DescRef) (addr : Nat) (l : List (Nat × Nat × Nat)),
      s.pluOn port.val = true ∧ s.ccs port.val = true ∧ s.guards = true ∧ frame.map (·.toNat) = f ∧ (nth f 12 0 = 0x88 && nth f 13 0 = 0xE1) = false ∧ (s.port port.val).rx = (d.ring.val, d.idx.toNat, addr) :: l ∧ s.served d = true :=
  ⟨0, List.replicate 60 0, 0, { withDesc (live .active [(0x14, 1)]) (desc 24) 0x0C02 with plu := { Plus.reset with ports := [(0, { Plu.reset with rx := [(24, 5, 64)] })] } }, List.replicate 60 0, desc 24, 64, [], by decide⟩

theorem wit_PilotSlacAndFrames_unicastFrameFail :
    ∃ (port : Fin 24) (s : State) (p : Nat) (l : List Nat),
      s.pluOn port.val = true ∧ port.val = p ∧ l = s.now :: (s.port p).fails.take 2 :=
  ⟨0, live .active [(0x14, 1)], 0, [0], by decide⟩

theorem wit_PilotSlacAndFrames_roboRestore :
    ∃ (port : Fin 24) (s w : State),
      s.pluOn port.val = true ∧ s.rd (PLU_PLC_STAT.MODE port.val) = 1 ∧ w = s.waitTill ((s.port port.val).failAt + 2000000000) :=
  ⟨0, live .active [(0x14, 1), (0x50030, 1)], (live .active [(0x14, 1), (0x50030, 1)]).waitTill (((live .active [(0x14, 1), (0x50030, 1)]).port 0).failAt + 2000000000), by decide, by decide, rfl⟩

theorem wit_PilotSlacAndFrames_impulseEvent :
    ∃ (port : Fin 24) (s : State),
      s.pluOn port.val = true ∧ s.ccs port.val = true :=
  ⟨0, live .active [(0x14, 1)], by decide⟩

theorem wit_PilotSlacAndFrames_slacParmReq :
    ∃ (port : Fin 24) (runId : BitVec 64) (r : Nat) (u : State) (s : State),
      s.pluOn port.val = true ∧ s.ccs port.val = true ∧ s.guards = true ∧ s.rowOf runId.toNat = none ∧ (List.range 24).find? (fun r => (s.row r).isNone) = some r ∧ u = s.setRow r (some { runId := runId.toNat, total := 0, sums := List.replicate 24 (0, 0), closedAt := none }) ∧ u.flag (PLU_CP_STAT.ARMED port.val) = true ∧ (u.port port.val).mute = false :=
  ⟨0, 7, 0, _, live .active [(0x14, 1), (0x5001C, 8)], ⟨by decide, by decide, by decide, by decide, by decide, rfl, by decide, by decide⟩⟩

theorem wit_PilotSlacAndFrames_slacSound :
    ∃ (runId : BitVec 64) (atten : List (BitVec 16)) (s : State) (r : Nat) (x : Round),
      s.up = true ∧ s.rowOf runId.toNat = some r ∧ s.row r = some x ∧ x.closedAt = none :=
  ⟨7, [], { live .active [(0x14, 1)] with plu := { Plus.reset with rows := [(0, some { runId := 7, total := 0, sums := [], closedAt := none })] } }, 0, { runId := 7, total := 0, sums := [], closedAt := none }, by decide⟩

set_option maxRecDepth 4000 in
theorem wit_PilotSlacAndFrames_slacWindowClose :
    ∃ (runId : BitVec 64) (r p : Nat) (x : Round) (u : State) (s : State),
      s.up = true ∧ s.rowOf runId.toNat = some r ∧ s.row r = some x ∧ x.closedAt = none ∧ p = s.nearest r ∧ s.flag (PLU_CP_STAT.ARMED p) = true ∧ (s.port p).mute = false ∧ (s.rd PLU_GCFG.SLAC_MARGIN : Int) ≤ s.slacMargin r p ∧ u = ((((s.setRow r (some { x with closedAt := some s.now })).toVehicle p 2 false (leBytes 8 x.runId)).associate p).ev 0x0C02 (entPort p) x.runId (enc 64 (s.slacMargin r p))) :=
  ⟨7, 0, 0, { runId := 7, total := 1, sums := [(100, 1)], closedAt := none }, _, { live .active [(0x14, 1), (0x5001C, 8)] with plu := { Plus.reset with rows := [(0, some { runId := 7, total := 1, sums := [(100, 1)], closedAt := none })] } }, ⟨by decide, by decide, by decide, by decide, by decide, by decide, by decide, by decide, rfl⟩⟩

theorem wit_PilotSlacAndFrames_slacRowFree :
    ∃ (runId : BitVec 64) (s : State) (r t : Nat),
      s.up = true ∧ s.rowOf runId.toNat = some r ∧ (s.row r).bind (fun (x : Round) => x.closedAt) = some t :=
  ⟨7, { live .active [(0x14, 1)] with plu := { Plus.reset with rows := [(0, some { runId := 7, total := 1, sums := [(100, 1)], closedAt := some 5 })] } }, 0, 5, by decide⟩

theorem wit_PilotSlacAndFrames_frame :
    ∃ (d : DescRef) (len : BitVec 32) (data : List (BitVec 8)) (s : State) (b : List Nat),
      s.ready d 0x0C01 = true ∧ s.guards = true ∧ fitData len.toNat (data.map (·.toNat)) = b ∧ 60 ≤ len.toNat ∧ len.toNat ≤ 1514 ∧ (nth b 12 0 = 0x88 && nth b 13 0 = 0xE1) = false :=
  ⟨desc 0, 60, [], withDesc (live .active [(0x14, 1)]) (desc 0) 0x0C01, fitData 60 [], by decide⟩

theorem wit_PilotSlacAndFrames_frameSent :
    ∃ (port : Fin 24) (lead : Nat) (r i t : Nat) (b : List Nat) (l : List (Nat × Nat × Nat × List Nat)) (s : State),
      s.pluOn port.val = true ∧ (s.port port.val).tx = (r, i, t, b) :: l :=
  ⟨0, 0, 0, 5, 0, [], [], { withDesc (live .active [(0x14, 1)]) (desc 0) 0x0C01 with plu := { Plus.reset with ports := [(0, { Plu.reset with tx := [(0, 5, 0, [])] })] } }, by decide⟩

theorem wit_PilotSlacAndFrames_frameTxTimeout :
    ∃ (port : Fin 24) (s : State) (d : DescRef) (t : Nat) (b : List Nat) (l : List (Nat × Nat × Nat × List Nat)),
      s.pluOn port.val = true ∧ (s.port port.val).tx = (d.ring.val, d.idx.toNat, t, b) :: l ∧ s.served d = true :=
  ⟨0, { withDesc (live .active [(0x14, 1)]) (desc 0) 0x0C01 with plu := { Plus.reset with ports := [(0, { Plu.reset with tx := [(0, 5, 0, [])] })] } }, desc 0, 0, [], [], by decide⟩

theorem wit_PilotSlacAndFrames_portRx :
    ∃ (d : DescRef) (len : BitVec 32) (addr : BitVec 64) (s : State),
      s.ready d 0x0C02 = true ∧ 1536 ≤ len.toNat ∧ (s.port (d.ring.val - 24)).items = [] :=
  ⟨desc 24, 1536, 64, withDesc (live .active [(0x14, 1)]) (desc 24) 0x0C02, by decide⟩

theorem wit_PilotSlacAndFrames_pluClrCounts :
    ∃ (port : Fin 24) (s : State),
      s.up = true ∧ port.val < s.nPorts :=
  ⟨0, live .active, by decide⟩

end Sys2Proof.Tests
end

