-- ==== Sys2Proof/Tests/Witness14.lean ====
section
/-!
SUPPORT. For each clause of the family SessionGuard with hypotheses, a state and operands that meet them together.
-/
namespace Sys2Proof.Tests

open Sys2Proof Sys2Proof.Machine Sys2Proof.Laws

set_option linter.all false

theorem wit_SessionGuard_sessionStart :
    ∃ (d : DescRef) (evcc : BitVec 48) (maxV maxI maxP : BitVec 32) (contract : List (BitVec 8)) (p id : Nat) (v u : State) (s : State),
      s.ready d 0x0C01 = true ∧ s.glb.mode = .active ∧ p = d.ring.val ∧ maxV.toNat ≠ 0 ∧ maxI.toNat ≠ 0 ∧ maxP.toNat ≠ 0 ∧ s.session p = 0 ∧ s.capTripped p = false ∧ s.connected p = true ∧ s.flag RSL_JRNL_STAT.LOW = false ∧ ((if s.ccs p then s.flag (PLU_CP_STAT.ASSOC p) else s.flag (PLU_CP_STAT.LINK p)) = true) ∧ id = s.nextSession p ∧ v = State.openSession { s.start d with plu := { s.plu with counters := tset (fun _ => 0) s.plu.counters p ((tget (fun _ => 0) s.plu.counters p + 1) % 2 ^ 27) } } p id (leBytes 6 evcc.toNat) (contract.map (·.toNat)) ∧ u = ((v.setSession p 1).wr (PLU_SESS_ID.ID p) id).modPort p (fun x => { x with evcc := evcc.toNat, maxI := maxI.toNat, maxV := maxV.toNat, maxP := maxP.toNat, reqAt := s.now, lastI := 0, lastP := 0, classC := none, exits := [] }) :=
  ⟨desc 0, 9, 5, 5, 5, [], 0, _, _, _, (withDesc (live .active [(0x14, 1), (0x5001C, 0x11)]) (desc 0) 0x0C01), ⟨by decide, by decide, by decide, by decide, by decide, by decide, by decide, by decide, by decide, by decide, by decide, rfl, rfl, rfl⟩⟩

theorem wit_SessionGuard_request :
    ∃ (d : DescRef) (reqI reqV reqP presentV : BitVec 32) (s : State) (p : Nat) (x : Plu),
      s.ready d 0x0C01 = true ∧ s.guards = true ∧ d.ring.val = p ∧ s.session p = 1 ∧ s.port p = x ∧ 0 ≤ reqI.toInt ∧ reqI.toInt ≤ (s.rd (PLU_LIM_I.LIM_I p) : Nat) ∧ reqI.toInt ≤ (x.maxI : Nat) ∧ 0 ≤ reqV.toInt ∧ reqV.toInt ≤ (s.rd (PLU_LIM_V.LIM_V p) : Nat) ∧ reqV.toInt ≤ (x.maxV : Nat) ∧ 0 ≤ reqP.toInt ∧ reqP.toInt ≤ (s.rd (PLU_LIM_P.LIM_P p) : Nat) ∧ reqP.toInt ≤ (x.maxP : Nat) ∧ s.farV p presentV = false ∧ s.now - x.reqAt ≤ 1000000 * s.rd (PLU_GUARD.PERIOD p) + 1000000 * s.rd (PLU_GUARD.TOL p) :=
  ⟨desc 0, 0, 0, 0, 0xFFFFFFFF, withDesc (live .active [(0x14, 1), (0x50024, 1)]) (desc 0) 0x0C01, 0, Plu.reset, by decide⟩

theorem wit_SessionGuard_sessionEnd :
    ∃ (d : DescRef) (reason : BitVec 8) (p : Nat) (s : State),
      s.ready d 0x0C01 = true ∧ s.guards = true ∧ p = d.ring.val ∧ s.session p = 1 ∧ (reason.toNat = 0 ∨ reason.toNat = 5) :=
  ⟨desc 0, 0, 0, withDesc (live .active [(0x14, 1), (0x50024, 1)]) (desc 0) 0x0C01, by decide⟩

theorem wit_SessionGuard_report :
    ∃ (d : DescRef) (cause : BitVec 8) (s : State) (p : Nat),
      s.ready d 0x0C01 = true ∧ s.guards = true ∧ d.ring.val = p ∧ 1 ≤ cause.toNat ∧ cause.toNat ≤ 3 :=
  ⟨desc 0, 1, withDesc (live .active [(0x14, 1), (0x50024, 1)]) (desc 0) 0x0C01, 0, by decide⟩

theorem wit_SessionGuard_sessionTimeout :
    ∃ (port : Fin 24) (s : State) (p : Nat),
      s.pluOn p = true ∧ port.val = p ∧ s.guards = true ∧ s.session p = 1 ∧ (s.port p).classC = none :=
  ⟨0, live .active [(0x14, 1), (0x50024, 1)], 0, by decide⟩

theorem wit_SessionGuard_cooloffEnd :
    ∃ (port : Fin 24) (p t : Nat) (w v : State) (s : State),
      s.up = true ∧ p = port.val ∧ s.session p = 3 ∧ (s.port p).coolEnd = some t ∧ w = s.waitTill t ∧ v = (((w.setSession p 0).wr (PLU_SESS.COOL_LEFT p) 0).modPort p (fun x => { x with coolEnd := none, held := false, dutyAt := none })) :=
  ⟨0, 0, 0, _, _, ({ live .active [(0x14, 1), (0x50024, 3)] with plu := { Plus.reset with ports := [(0, { Plu.reset with coolEnd := some 0 })] } }), ⟨by decide, by decide, by decide, by decide, rfl, rfl⟩⟩

end Sys2Proof.Tests
end

