-- ==== Sys2Proof/Tests/Witness15.lean ====
section
/-!
SUPPORT. For each clause of the family CanControllers with hypotheses, a state and operands that meet them together.
-/
namespace Sys2Proof.Tests

open Sys2Proof Sys2Proof.Machine Sys2Proof.Laws

set_option linter.all false

theorem wit_CanControllers_canFrameReceive :
    ∃ (ctrl : Fin 6) (id : BitVec 29) (ide brs : Bool) (data : List (BitVec 8)) (lead : Nat) (s v : State) (n i : Nat) (l : List Nat),
      (s.canOnBus ctrl.val = true ∧ ctrl.val = n ∧ i = (if ide then id.toNat else id.toNat % 2048)) ∧ l = (data.map (·.toNat)).take 64 ∧ s.isRef n i ide l = false ∧ s.rd (CAN_STAT.REC n) ≤ 127 ∧ v = (s.wr (CAN_STAT.REC n) (s.rd (CAN_STAT.REC n) - 1)).canErrState n (s.rd (CAN_STAT.TEC n)) (s.rd (CAN_STAT.REC n)) :=
  ⟨0, 5, false, false, [], 0, (live .active [(0x58000, 1), (0x58800, 1)]), ((live .active [(0x58000, 1), (0x58800, 1)]).wr (CAN_STAT.REC 0) 0).canErrState 0 0 0, 0, 5, [], ⟨by decide, by decide, by decide⟩, by decide, by decide, by decide, rfl⟩

theorem wit_CanControllers_canFrameSent :
    ∃ (ctrl : Fin 6) (s : State) (n b sof : Nat) (q : CanReq),
      s.canOnBus ctrl.val = true ∧ ctrl.val = n ∧ (s.can n).tx = some (b, sof) ∧ s.canBuf n b = some q ∧ q.src = .hkc :=
  ⟨0, { live .active [(0x58000, 1), (0x58800, 3)] with cans := { Can.reset with ctls := [(0, { CanCtl.reset with tx := some (0, 5), buf := [(0, some { obj := 0, id := 1, ide := false, fdf := false, brs := false, data := [], deadline := none, src := .hkc, order := 0 })] })] } }, 0, 0, 5, { obj := 0, id := 1, ide := false, fdf := false, brs := false, data := [], deadline := none, src := .hkc, order := 0 }, by decide⟩

theorem wit_CanControllers_canTxDeadline :
    ∃ (ctrl : Fin 6) (s w : State) (t : Nat),
      s.canAlive ctrl.val = true ∧ s.canNextDeadline ctrl.val = some t ∧ w = s.waitSite t :=
  ⟨0, ({ live .active [(0x58000, 1), (0x58800, 3)] with cans := { Can.reset with ctls := [(0, { CanCtl.reset with pend := [{ obj := 0, id := 1, ide := false, fdf := false, brs := false, data := [], deadline := some 5, src := .hkc, order := 0 }] })] } }), ({ live .active [(0x58000, 1), (0x58800, 3)] with cans := { Can.reset with ctls := [(0, { CanCtl.reset with pend := [{ obj := 0, id := 1, ide := false, fdf := false, brs := false, data := [], deadline := some 5, src := .hkc, order := 0 }] })] } }).waitSite 5, 5, by decide, by decide, rfl⟩

theorem wit_CanControllers_canBusError :
    ∃ (ctrl : Fin 6) (kind : Fin 5) (s : State) (n : Nat),
      s.canOnBus ctrl.val = true ∧ ctrl.val = n ∧ kind.val ≠ 3 ∧ (kind.val < 2 ∨ (s.can n).tx.isSome = true) ∧ s.rd (CAN_STAT.TEC n) + (canErrInc kind.val).1 ≤ 255 :=
  ⟨0, 1, live .active [(0x58000, 1)], 0, by decide⟩

theorem wit_CanControllers_canBusOff :
    ∃ (ctrl : Fin 6) (s : State) (n : Nat),
      s.canOnBus ctrl.val = true ∧ ctrl.val = n ∧ (s.can n).tx.isSome = true ∧ 255 < s.rd (CAN_STAT.TEC n) + 8 :=
  ⟨0, { live .active [(0x58000, 1), (0x58010, 0xFF00)] with cans := { Can.reset with ctls := [(0, { CanCtl.reset with tx := some (0, 5) })] } }, 0, by decide⟩

theorem wit_CanControllers_canSuspectExpire :
    ∃ (ctrl : Fin 6) (s : State) (x : Nat × Bool × Nat),
      (s.can ctrl.val).suspects.getLast? = some x :=
  ⟨0, { live .active [(0x58000, 1)] with cans := { Can.reset with ctls := [(0, { CanCtl.reset with suspects := [(7, false, 0)] })] } }, (7, false, 0), by decide⟩

theorem wit_CanControllers_canBusOn :
    ∃ (ctrl : Fin 6) (s w : State) (n t : Nat) (host : Bool),
      s.canRuns ctrl.val = true ∧ ctrl.val = n ∧ s.rd (CAN_STAT.ESTATE n) = 3 ∧ (s.can n).recAt = some (t, host) ∧ w = s.waitTill (t + s.canBits n 1408) :=
  ⟨0, ({ live .active [(0x58000, 1), (0x58010, 3)] with cans := { Can.reset with ctls := [(0, { CanCtl.reset with recAt := some (0, true) })] } }), ({ live .active [(0x58000, 1), (0x58010, 3)] with cans := { Can.reset with ctls := [(0, { CanCtl.reset with recAt := some (0, true) })] } }).waitTill (0 + ({ live .active [(0x58000, 1), (0x58010, 3)] with cans := { Can.reset with ctls := [(0, { CanCtl.reset with recAt := some (0, true) })] } }).canBits 0 1408), 0, 0, true, by decide, by decide, by decide, by decide, rfl⟩

theorem wit_CanControllers_canRecoveryRequest :
    ∃ (ctrl : Fin 6) (s : State),
      s.up = true ∧ ctrl.val < 5 ∧ s.rd (CAN_STAT.ESTATE ctrl.val) = 2 :=
  ⟨0, live .active [(0x58000, 1), (0x58010, 2)], by decide⟩

theorem wit_CanControllers_canSleep :
    ∃ (ctrl : Fin 6) (s : State) (n : Nat),
      s.up = true ∧ ctrl.val = n ∧ n < 5 ∧ s.flag (CAN_STAT.SLEEP n) = false ∧ (s.can n).tx = none :=
  ⟨0, live .active [(0x58000, 1)], 0, by decide⟩

theorem wit_CanControllers_canSleepExit :
    ∃ (ctrl : Fin 6) (s v : State) (n : Nat),
      s.up = true ∧ ctrl.val = n ∧ n < 5 ∧ s.glb.mode ≠ .dormant ∧ s.flag (CAN_STAT.SLEEP n) = true ∧ v = s.wr (CAN_CTL.SLEEP n) 0 :=
  ⟨0, (live .active [(0x58000, 0x21), (0x58010, 4)]), (live .active [(0x58000, 0x21), (0x58010, 4)]).wr (CAN_CTL.SLEEP 0) 0, 0, by decide, by decide, by decide, by decide, by decide, rfl⟩

theorem wit_CanControllers_canRefMessage :
    ∃ (ctrl : Fin 6) (s v : State) (n p t : Nat),
      s.up = true ∧ ctrl.val = n ∧ s.flag (CAN_STAT.MASTER n) = true ∧ s.canMaySend n = true ∧ p = 1000000 * s.rd (CAN_REF.REF_PERIOD n) ∧ p ≠ 0 ∧ (s.can n).refAt = none ∧ t = divUp s.siteNs p * p ∧ v = (s.waitSite t).modCan n (fun c => { c with refAt := some t }) ∧ (s.can n).ref = none :=
  ⟨0, (live .active [(0x58000, 1), (0x58010, 0x10), (0x58014, 0xA0001)]), ((live .active [(0x58000, 1), (0x58010, 0x10), (0x58014, 0xA0001)]).waitSite (divUp (live .active [(0x58000, 1), (0x58010, 0x10), (0x58014, 0xA0001)]).siteNs 10000000 * 10000000)).modCan 0 (fun c => { c with refAt := some (divUp (live .active [(0x58000, 1), (0x58010, 0x10), (0x58014, 0xA0001)]).siteNs 10000000 * 10000000) }), 0, 10000000, divUp (live .active [(0x58000, 1), (0x58010, 0x10), (0x58014, 0xA0001)]).siteNs 10000000 * 10000000, by decide, by decide, by decide, by decide, by decide, by decide, by decide, rfl, rfl, by decide⟩

theorem wit_CanControllers_canUnblock :
    ∃ (ctrl : Fin 6) (obj : Fin 128) (s : State),
      s.up = true ∧ ctrl.val < 5 :=
  ⟨0, 3, live .active, by decide⟩

theorem wit_CanControllers_canClrCounts :
    ∃ (ctrl : Fin 6) (s : State),
      s.up = true ∧ ctrl.val < 5 :=
  ⟨0, live .active, by decide⟩

theorem wit_CanControllers_send :
    ∃ (d : DescRef) (ctrl : BitVec 8) (obj : BitVec 16) (len : BitVec 8) (data : List (BitVec 8)) (deadline : BitVec 64) (s : State) (n o : Nat),
      s.ready d 0x0D01 = true ∧ ctrl.toNat = n ∧ obj.toNat = o ∧ n < 5 ∧ o < 128 ∧ (canLenOk len.toNat = true ∧ (len.toNat ≤ 8 ∨ s.canFdf n o = true)) ∧ s.canTxObj n o = true ∧ s.flag (CAN_OBJ_CFG.OWNER n o) = true ∧ s.flag (CAN_OBJ_STAT.BLOCKED n o) = false ∧ s.canMaySend n = true :=
  ⟨desc 56, 0, 0, 8, [], 0, withDesc (live .active [(0x58000, 1), (0x58800, 0x83)]) (desc 56) 0x0D01, 0, 0, by decide⟩

theorem wit_CanControllers_rxPost :
    ∃ (d : DescRef) (len : BitVec 32) (addr : BitVec 64) (s : State),
      s.ready d 0x0D01 = true ∧ 96 ≤ len.toNat :=
  ⟨desc 58, 96, 64, withDesc (live .active) (desc 58) 0x0D01, by decide⟩

end Sys2Proof.Tests
end

