-- ==== Sys2Proof/Tests/Witness16.lean ====
section
/-!
SUPPORT. For each clause of the family SafetyIsland with hypotheses, a state and operands that meet them together.
-/
namespace Sys2Proof.Tests

open Sys2Proof Sys2Proof.Machine

set_option linter.all false

theorem wit_SafetyIsland_rindCycle :
    ∃ (x : RindIn) (w : State) (a : State × List Nat) (c : State × Bool) (s : State),
      s.rindRuns = true ∧ x.fault = none ∧ w = s.rindBegin x ∧ a = w.rindPairs x ∧ c = (a.1.rindWatch x).readbackOff x.soRead false :=
  ⟨{ si := [], imd := true, ports := [], strings := [], axes := [], temps := [], tempSelf := 0, soRead := 0, soSup := 0, fault := none }, _, _, _, { live .active with sfi := { Sfi.reset with ready := true } }, ⟨by decide, by decide, rfl, rfl, rfl⟩⟩

theorem wit_SafetyIsland_heartbeatReceive :
    ∃ (w : Nat) (l : List Nat) (u : State) (s : State),
      s.rindRuns = true ∧ s.alp.heartbeats = w :: l ∧ (2 ≤ w / 2 ^ 24 % 8 && w / 2 ^ 24 % 8 ≤ 5) = false ∧ u = { s with alp := { s.alp with heartbeats := l }, sfi := { s.sfi with hb := some w, hbAt := s.now, hbStop := false, grace := false, lossLogged := false, haltAt := none, haltOpen := false } } :=
  ⟨0, [], _, { { live .active with sfi := { Sfi.reset with ready := true } } with alp := { Alp.reset with heartbeats := [0] } }, ⟨by decide, by decide, by decide, rfl⟩⟩

theorem wit_SafetyIsland_heartbeatRunning :
    ∃ (w : Nat) (l : List Nat) (s : State),
      s.rindRuns = true ∧ s.alp.heartbeats = w :: l ∧ 2 ≤ w / 2 ^ 24 % 8 ∧ w / 2 ^ 24 % 8 ≤ 4 :=
  ⟨2 ^ 25, [], { { live .active with sfi := { Sfi.reset with ready := true } } with alp := { Alp.reset with heartbeats := [2 ^ 25] } }, by decide⟩

theorem wit_SafetyIsland_heartbeatLoss :
    ∃ (w : State) (s : State),
      s.rindRuns = true ∧ s.sfi.hb ≠ none ∧ s.sfi.hbStop = false ∧ w = s.waitTill (s.sfi.hbAt + 5000000) :=
  ⟨_, { live .active with sfi := { Sfi.reset with ready := true, hb := some 0 } }, ⟨by decide, by decide, by decide, rfl⟩⟩

theorem wit_SafetyIsland_safeGraceExpire :
    ∃ (w v : State) (s : State),
      s.rindRuns = true ∧ s.hbLoss = true ∧ s.sfi.grace = false ∧ w = s.waitTill (s.sfi.hbAt + 1000000 * s.par 0x004 2) ∧ w.hbLoss = true ∧ w.sfi.hbAt + 1000000 * w.par 0x004 2 ≤ w.now ∧ w.sfi.lossLogged = false ∧ w.withheld = false ∧ v = (State.evS { w.cause 9 0 with sfi := { (w.cause 9 0).sfi with grace := true, lossLogged := true } } 0x0E08 0 (w.sfi.hb.getD 0 % 2 ^ 16) (b2n false)) :=
  ⟨_, _, { live .active with sfi := { Sfi.reset with ready := true, hb := some (2 ^ 25), hbStop := true } }, ⟨by decide, by decide, by decide, rfl, by decide, by decide, by decide, by decide, rfl⟩⟩

theorem wit_SafetyIsland_safetyFunctionTimeExpire :
    ∃ (which : Fin 5) (idx : Fin 32) (key need n : Nat) (act : State → State) (w : State) (s : State),
      s.rindRuns = true ∧ which.val ≠ 0 ∧ s.functionOf which.val idx.val = some (key, need, act) ∧ n = tget (fun _ => 0) s.sfi.counts key ∧ 0 < n ∧ n < need ∧ w = s.waitTill (s.now + 500000 * (need - n)) :=
  ⟨1, 0, _, _, 1, _, _, { live .active with sfi := { Sfi.reset with ready := true, counts := [(256, 1)] } }, ⟨by decide, by decide, rfl, by decide, by decide, by decide, rfl⟩⟩

theorem wit_SafetyIsland_offConfirm :
    ∃ (idx : Fin 32) (need n : Nat) (w : State) (s : State),
      s.rindRuns = true ∧ idx.val < s.nPorts ∧ need = cyc (s.par 0x00C 2 * 10) ∧ n = tget (fun _ => 0) s.sfi.low idx.val ∧ 0 < n ∧ n < need ∧ w = s.waitTill (s.now + 500000 * (need - n)) :=
  ⟨0, _, 1, _, { live .active with sfi := { Sfi.reset with ready := true, low := [(0, 1)] } }, ⟨by decide, by decide, rfl, by decide, by decide, by decide, rfl⟩⟩

theorem wit_SafetyIsland_c1GraceExpire :
    ∃ (t : Trip) (w : State) (s : State),
      s.rindRuns = true ∧ s.sfi.trips.find? (fun (t : Trip) => !t.acting) = some t ∧ w = s.waitTill (t.since + 1000000 * s.par 0x006 2) :=
  ⟨{ target := 2048, func := 1, origin := 0, cat := 1, since := 0, acting := false }, _, { live .active with sfi := { Sfi.reset with ready := true, trips := [{ target := 2048, func := 1, origin := 0, cat := 1, since := 0, acting := false }] } }, ⟨by decide, by decide, rfl⟩⟩

theorem wit_SafetyIsland_discrepancyTimeout :
    ∃ (pair : Fin 8) (t : Nat) (w v u : State) (s : State),
      s.rindRuns = true ∧ (s.pair pair.val).discAt = some t ∧ (s.pair pair.val).fault = false ∧ w = s.waitTill (t + 10000000 * s.par (0x243 + 8 * pair.val) 1) ∧ v = (w.setPair pair.val { w.pair pair.val with fault := true }).evS 0x0E05 (ent 14 (2 * pair.val)) 1 pair.val ∧ u = v.setPair pair.val { v.pair pair.val with last := 1, ack := ((w.pair pair.val).ack.step 1 w.now).1 } :=
  ⟨0, 0, _, _, _, { live .active with sfi := { Sfi.reset with ready := true, pairs := [(0, { Pair.reset with discAt := some 0 })] } }, ⟨by decide, by decide, by decide, rfl, rfl, rfl⟩⟩

theorem wit_SafetyIsland_testPulse :
    ∃ (follows : BitVec 16) (soRead : BitVec 8) (stuck : Bool) (w v : State) (s : State),
      s.rindRuns = true ∧ w = s.pulseAt 1 ∧ (v = ((List.range 16).filter (fun ch => w.tpSource ch == 1 + 1)).foldl (fun (a : State) ch => if (stuck || !follows.getLsbD ch) && !(a.term ch).tpf then (a.setTerm ch { a.term ch with tpf := (stuck || !follows.getLsbD ch) }).evS 0x0E05 (ent 14 ch) 2 (ch / 2) else a.setTerm ch { a.term ch with tpf := (stuck || !follows.getLsbD ch) }) w) :=
  ⟨0, 0, false, _, _, { live .active with sfi := { Sfi.reset with ready := true } }, ⟨by decide, rfl, rfl⟩⟩

theorem wit_SafetyIsland_testPulseReadback :
    ∃ (follows : BitVec 16) (soRead : BitVec 8) (stuck : Bool) (w v r : State) (s : State),
      s.rindRuns = true ∧ w = s.pulseAt 0 ∧ (v = ((List.range 16).filter (fun ch => w.tpSource ch == 0 + 1)).foldl (fun (a : State) ch => if (stuck || !follows.getLsbD ch) && !(a.term ch).tpf then (a.setTerm ch { a.term ch with tpf := (stuck || !follows.getLsbD ch) }).evS 0x0E05 (ent 14 ch) 2 (ch / 2) else a.setTerm ch { a.term ch with tpf := (stuck || !follows.getLsbD ch) }) w) ∧ (State.limpCause { v with sfi := { v.sfi with tpsStuck := setBit v.sfi.tpsStuck 0 stuck } } 2000 0 8 stuck).readbackOff soRead true = (r, false) :=
  ⟨0, 0, false, _, _, _, { live .active with sfi := { Sfi.reset with ready := true } }, ⟨by decide, rfl, rfl, rfl⟩⟩

theorem wit_SafetyIsland_edmTimeout :
    ∃ (out : Fin 8) (t : Nat) (w : State) (s : State),
      s.rindRuns = true ∧ (s.so out.val).edmAt = some t ∧ s.edmOk out.val = false ∧ w = s.waitTill (t + 10000000 * s.par (0x287 + 8 * out.val) 1) ∧ (w.so out.val).fault = false :=
  ⟨0, 0, _, { live .active with sfi := { Sfi.reset with ready := true, image := [(576, 3)], outs := [(0, { SafeOut.reset with on := true, edmAt := some 0 })] } }, ⟨by decide, by decide, by decide, rfl, by decide⟩⟩

theorem wit_SafetyIsland_relayHoldTake :
    ∃ (t : Nat) (w : State) (s : State),
      s.rindRuns = true ∧ s.mayHold = true ∧ s.peerConn.isNone = false ∧ s.sfi.noHoldAt = some t ∧ w = s.waitTill (t + 20000000) :=
  ⟨0, _, { live .active with sfi := { Sfi.reset with ready := true, hb := some (2 ^ 25), noHoldAt := some 0, image := [(1024, 131073)] } }, ⟨by decide, by decide, by decide, by decide, rfl⟩⟩

theorem wit_SafetyIsland_relayHoldAlone :
    ∃ (s : State),
      s.rindRuns = true ∧ s.mayHold = true ∧ s.peerConn.isNone = true :=
  ⟨{ live .active with sfi := { Sfi.reset with ready := true, hb := some (2 ^ 25) } }, by decide⟩

theorem wit_SafetyIsland_twinAliveChange :
    ∃ (s : State),
      s.rindRuns = true :=
  ⟨{ live .active with sfi := { Sfi.reset with ready := true } }, by decide⟩

theorem wit_SafetyIsland_twinAliveRise :
    ∃ (s : State),
      s.rindRuns = true ∧ s.sfi.aliveIn = false :=
  ⟨{ live .active with sfi := { Sfi.reset with ready := true } }, by decide⟩

theorem wit_SafetyIsland_soelaoneSend :
    ∃ (conn : Fin 8) (t q : Nat) (w : State) (s : State),
      s.rindRuns = true ∧ s.connRole conn.val = 2 ∧ (s.conn conn.val).sentAt = some t ∧ w = s.waitTill (t + 1000000 * s.par (0x404 + 16 * conn.val) 2) ∧ w.connRole conn.val = 2 ∧ (w.conn conn.val).state = 2 ∧ (w.conn conn.val).answer = false ∧ q = low 32 ((w.conn conn.val).tx.getD 0 + 1) :=
  ⟨0, 0, 6, _, { live .active with sfi := { Sfi.reset with ready := true, conns := [(0, { Conn.reset with state := 2, tx := some 5, sentAt := some 0 })], image := [(1024, 131073), (1028, 0x00640064)] } }, ⟨by decide, by decide, by decide, rfl, by decide, by decide, by decide, by decide⟩⟩

theorem wit_SafetyIsland_soelaoneReceive :
    ∃ (frame : List (BitVec 8)) (s : State),
      s.connById (field (frame.map (fun (x : BitVec 8) => x.toNat)) 0 2) = none :=
  ⟨[], { live .active with sfi := { Sfi.reset with ready := true } }, by decide⟩

theorem wit_SafetyIsland_soelaoneReceiveBad :
    ∃ (frame : List (BitVec 8)) (b : List Nat) (c n : Nat) (s : State),
      s.rindRuns = true ∧ b = frame.map (fun (x : BitVec 8) => x.toNat) ∧ s.connById (field b 0 2) = some c ∧ n = s.par (0x403 + 16 * c) 1 ∧ (nth b 3 0 ≠ n ∨ b.length ≠ 16 + n ∨ field b (12 + n) 4 ≠ crcS (b.take (12 + n))) :=
  ⟨[1, 0], [1, 0], 0, 0, { live .active with sfi := { Sfi.reset with ready := true, conns := [(0, { Conn.reset with state := 2, tx := some 5, sentAt := some 0 })], image := [(1024, 131073), (1028, 0x00640064)] } }, ⟨by decide, by decide, by decide, by decide, by decide⟩⟩

theorem wit_SafetyIsland_soelaoneTimeout :
    ∃ (conn : Fin 8) (w : State) (s : State),
      s.rindRuns = true ∧ s.connRole conn.val ≠ 0 ∧ ((s.conn conn.val).state = 1 ∨ (s.conn conn.val).state = 2) ∧ w = s.waitTill ((s.conn conn.val).lastAt + 1000000 * s.par (0x406 + 16 * conn.val) 2) :=
  ⟨0, _, { live .active with sfi := { Sfi.reset with ready := true, conns := [(0, { Conn.reset with state := 2, tx := some 5, sentAt := some 0 })], image := [(1024, 131073), (1028, 0x00640064)] } }, ⟨by decide, by decide, by decide, rfl⟩⟩

theorem wit_SafetyIsland_rindStoreRefresh :
    ∃ (w : State) (s : State),
      s.rindRuns = true ∧ w = s.waitTill (s.sfi.refreshAt + 31536000000000000) :=
  ⟨_, { live .active with sfi := { Sfi.reset with ready := true } }, ⟨by decide, rfl⟩⟩

end Sys2Proof.Tests
end

