-- ==== Sys2Proof/Tests/Witness17.lean ====
section
/-!
SUPPORT. For each clause of the family SafetyParameters with hypotheses, a state and operands that meet them together.
-/
namespace Sys2Proof.Tests

open Sys2Proof Sys2Proof.Machine

set_option linter.all false

theorem wit_SafetyParameters_sfiPdataWrite :
    ∃ (v : BitVec 32) (a : Nat) (u : State) (s : State),
      s.up = true ∧ s.glb.mode = .commission ∧ a < 0x500 ∧ a = s.rd SFI_PADDR.ADDR / 4 * 4 ∧ v.toNat ≠ s.pdata ∧ u = s.wr SFI_PADDR.ADDR ((a + 4) % 2048) ∧ s.confirming = false :=
  ⟨7, 0, _, live .commission, ⟨by decide, by decide, by decide, by decide, by decide, rfl, by decide⟩⟩

theorem wit_SafetyParameters_sfiPdataSealed :
    ∃ (v : BitVec 32) (a : Nat) (s : State),
      s.up = true ∧ s.glb.mode ≠ .commission ∧ a < 0x500 ∧ a = s.rd SFI_PADDR.ADDR / 4 * 4 ∧ v.toNat ≠ s.pdata :=
  ⟨7, 0, live .active, by decide⟩

theorem wit_SafetyParameters_sfiPdataIgnored :
    ∃ (v : BitVec 32) (a : Nat) (s : State),
      s.up = true ∧ a = s.rd SFI_PADDR.ADDR / 4 * 4 ∧ (0x500 ≤ a ∨ v.toNat = s.pdata) :=
  ⟨0, 0x500, (live .commission).wr SFI_PADDR.ADDR 0x500, ⟨by decide, by decide, by decide⟩⟩

theorem wit_SafetyParameters_sfiPdataRead :
    ∃ (a : Nat) (s : State),
      s.up = true ∧ a = s.rd SFI_PADDR.ADDR / 4 * 4 :=
  ⟨0, live .commission, by decide⟩

theorem wit_SafetyParameters_sfiCvReq :
    ∃ (v : BitVec 32) (s : State),
      s.up = true ∧ v.toNat = 0x4356 ∧ s.glb.mode = .commission :=
  ⟨0x4356, live .commission, by decide⟩

theorem wit_SafetyParameters_sfiCvReqElsewhere :
    ∃ (v : BitVec 32) (s : State),
      s.up = true ∧ v.toNat = 0x4356 ∧ s.glb.mode ≠ .commission :=
  ⟨0x4356, live .active, by decide⟩

theorem wit_SafetyParameters_cvComputeComplete :
    ∃ (s : State),
      s.rindRuns = true ∧ s.rd SFI_CONFIRM_STAT.STATE = 1 :=
  ⟨(({ live .commission with sfi := { Sfi.reset with ready := true } }).wr SFI_CONFIRM_STAT.STATE 1), by decide⟩

theorem wit_SafetyParameters_sfiConfirm :
    ∃ (v : BitVec 32) (i : Nat) (s : State),
      s.up = true ∧ s.glb.mode = .commission ∧ s.rd SFI_CONFIRM_STAT.STATE = 5 ∧ v.toNat = s.rd SFI_CV_STAGED.CV ∧ i = img s.sfi.staged 0x01F 1 ∧ i < 8 ∧ img s.sfi.staged (0x240 + 8 * i) 1 = 4 :=
  ⟨0, 0, (({ live .commission with sfi := { Sfi.reset with staged := [(28, 0), (576, 4)] } }).wr SFI_CONFIRM_STAT.STATE 5), by decide⟩

theorem wit_SafetyParameters_sfiConfirmWrong :
    ∃ (v : BitVec 32) (s : State),
      s.up = true ∧ s.glb.mode = .commission ∧ s.rd SFI_CONFIRM_STAT.STATE = 5 ∧ v.toNat ≠ s.rd SFI_CV_STAGED.CV :=
  ⟨1, (({ live .commission with sfi := { Sfi.reset with staged := [(28, 0), (576, 4)] } }).wr SFI_CONFIRM_STAT.STATE 5), by decide⟩

theorem wit_SafetyParameters_confirmTimeout :
    ∃ (t : Nat) (w : State) (s : State),
      s.sfi.reqAt = some t ∧ s.rd SFI_CONFIRM_STAT.STATE = 2 ∧ w = s.waitTill (t + 60000000000) :=
  ⟨0, _, (({ live .commission with sfi := { Sfi.reset with reqAt := some 0 } }).wr SFI_CONFIRM_STAT.STATE 2), ⟨by decide, by decide, rfl⟩⟩

theorem wit_SafetyParameters_sfiPwdCmd :
    ∃ (v : BitVec 32) (u : State) (salt : List Nat) (s : State),
      s.up = true ∧ v.toNat = 0x5057 ∧ s.glb.mode = .commission ∧ (u, salt) = s.freshBytes 16 :=
  ⟨0x5057, _, _, live .commission, ⟨by decide, by decide, by decide, rfl⟩⟩

theorem wit_SafetyParameters_passwordLockoutEnd :
    ∃ (t : Nat) (w : State) (s : State),
      s.sfi.lockEnd = some t ∧ w = s.waitTill t :=
  ⟨0, _, { live .active with sfi := { Sfi.reset with lockEnd := some 0 } }, ⟨by decide, rfl⟩⟩

end Sys2Proof.Tests
end

