-- ==== Sys2Proof/Tests/Witness18.lean ====
section
/-!
SUPPORT. For each clause of the family ThermalAndLoadSwitches with hypotheses, a state and operands that meet them together.
-/
namespace Sys2Proof.Tests

open Sys2Proof Sys2Proof.Machine

set_option linter.all false

theorem wit_ThermalAndLoadSwitches_hkaSlotConversion :
    ∃ (value : BitVec 32) (pin : BitVec 16) (k : Nat) (w v : State) (s : State),
      s.up = true ∧ w = s.slotWait ∧ ((if s.hkaTime / 100000 % 20 < 16 then w.thm.fast[s.hkaTime / 100000 % 20]? else none) = none) ∧ w.thm.slow = some k ∧ k < 96 ∧ v = w.chanReading k (w.hkaTemp k value.toNat) pin.toNat :=
  ⟨0, 0, 0, _, _, { live .active with thm := { Thm.reset with slow := some 0 } }, ⟨by decide, rfl, by decide, by decide, by decide, rfl⟩⟩

theorem wit_ThermalAndLoadSwitches_hkaSlotFast :
    ∃ (value : BitVec 32) (pin : BitVec 16) (c : Nat) (w : State) (s : State),
      s.up = true ∧ w = s.slotWait ∧ s.hkaTime / 100000 % 20 < 16 ∧ w.thm.fast[s.hkaTime / 100000 % 20]? = some c :=
  ⟨0, 0, 3, _, { live .active with thm := { Thm.reset with fast := [3] } }, ⟨by decide, rfl, by decide, by decide⟩⟩

theorem wit_ThermalAndLoadSwitches_hkaSlotAux :
    ∃ (value : BitVec 32) (pin : BitVec 16) (k : Nat) (w v : State) (s : State),
      s.up = true ∧ w = s.slotWait ∧ ((if s.hkaTime / 100000 % 20 < 16 then w.thm.fast[s.hkaTime / 100000 % 20]? else none) = none) ∧ w.thm.slow = some k ∧ 96 ≤ k ∧ k < 112 ∧ v = w.wr (HKA_AUX.V (k - 96)) value.toNat :=
  ⟨0, 0, 96, _, _, { live .active with thm := { Thm.reset with slow := some 96 } }, ⟨by decide, rfl, by decide, by decide, by decide, by decide, rfl⟩⟩

theorem wit_ThermalAndLoadSwitches_slowRoundStart :
    ∃ (w : State) (s : State),
      s.up = true ∧ s.flag STU_DISC_STAT.VALID = true ∧ w = s.waitSite (200000000 * divUp s.hkaTime 200000000) :=
  ⟨_, (live .active).wr STU_DISC_STAT.VALID 1, ⟨by decide, by decide, rfl⟩⟩

theorem wit_ThermalAndLoadSwitches_slowRoundFree :
    ∃ (w : State) (s : State),
      s.up = true ∧ s.flag STU_DISC_STAT.VALID = false ∧ w = s.waitTill (200000000 * divUp s.hkaTime 200000000) :=
  ⟨_, live .active, ⟨by decide, by decide, rfl⟩⟩

theorem wit_ThermalAndLoadSwitches_dieSensorRead :
    ∃ (temps : List (BitVec 16)) (l : List Int) (s : State),
      l = (temps.take 12).map (fun (t : BitVec 16) => t.toInt) ∧ l.length = 12 ∧ s.thm.dieHold = none ∧ s.mainUp = true ∧ (hottest l).2 < (s.rd THM_DIE_CFG.TRIP : Nat) :=
  ⟨List.replicate 12 0, List.replicate 12 0, live .active, by decide⟩

theorem wit_ThermalAndLoadSwitches_dieTrip :
    ∃ (temps : List (BitVec 16)) (l : List Int) (u : State) (s : State),
      l = (temps.take 12).map (fun (t : BitVec 16) => t.toInt) ∧ l.length = 12 ∧ s.thm.dieHold = none ∧ s.mainUp = true ∧ (s.rd THM_DIE_CFG.TRIP : Nat) ≤ (hottest l).2 ∧ u = ((List.range 12).zip l).foldl (fun (a : State) x => a.dieReading x.1 x.2) { s with thm := { s.thm with dieT := l } } :=
  ⟨List.replicate 12 0x4000, List.replicate 12 0x4000, _, live .active, ⟨by decide, by decide, by decide, by decide, by decide, rfl⟩⟩

theorem wit_ThermalAndLoadSwitches_dieSensorHeld :
    ∃ (temps : List (BitVec 16)) (l : List Int) (t0 i : Nat) (peak top : Int) (s : State),
      l = (temps.take 12).map (fun (t : BitVec 16) => t.toInt) ∧ l.length = 12 ∧ s.thm.dieHold = some (t0, peak) ∧ hottest l = (i, top) :=
  ⟨List.replicate 12 0, List.replicate 12 0, 0, 0, 0, 0, { live .active with thm := { Thm.reset with dieHold := some (0, 0) } }, by decide⟩

theorem wit_ThermalAndLoadSwitches_dieTripRelease :
    ∃ (t0 t : Nat) (peak : Int) (w v : State) (s : State),
      s.thm.dieHold = some (t0, peak) ∧ s.thm.dieCool = some t ∧ w = s.waitTill (t + 10000000) ∧ v = w.ev 0x0F08 (entDie w.thm.dieSensor) (enc 64 peak) ((w.now - t0) / 1000000) :=
  ⟨0, 0, 0, _, _, { live .active with thm := { Thm.reset with dieHold := some (0, 0), dieCool := some 0 } }, ⟨by decide, by decide, rfl, rfl⟩⟩

theorem wit_ThermalAndLoadSwitches_thmClrPeak :
    ∃ (s : State),
      s.up = true :=
  ⟨live .active, by decide⟩

theorem wit_ThermalAndLoadSwitches_lsbOnWrite :
    ∃ (v : BitVec 32) (m : Nat) (s : State),
      s.up = true ∧ s.glb.mode ≠ .shadow ∧ m = v.toNat % 2 ^ 24 :=
  ⟨1, 1, live .active, by decide⟩

theorem wit_ThermalAndLoadSwitches_lsbOnSet :
    ∃ (v : BitVec 32) (m : Nat) (s : State),
      s.up = true ∧ s.glb.mode ≠ .shadow ∧ m = s.rd LSB_ON.ON ||| v.toNat % 2 ^ 24 :=
  ⟨1, 1, live .active, by decide⟩

theorem wit_ThermalAndLoadSwitches_lsbOnClr :
    ∃ (v : BitVec 32) (m : Nat) (s : State),
      s.up = true ∧ s.glb.mode ≠ .shadow ∧ m = clearBits (s.rd LSB_ON.ON) (v.toNat % 2 ^ 24) :=
  ⟨1, 0, live .active, by decide⟩

theorem wit_ThermalAndLoadSwitches_lsbUnlock :
    ∃ (v : BitVec 32) (s : State),
      s.up = true :=
  ⟨1, live .active, by decide⟩

theorem wit_ThermalAndLoadSwitches_lsbClrCounts :
    ∃ (s : State),
      s.up = true :=
  ⟨live .active, by decide⟩

theorem wit_ThermalAndLoadSwitches_lsbShort :
    ∃ (sw : Fin 24) (s : State),
      (s.lsw sw.val).on = true ∧ (s.lsw sw.val).used < s.rd (LSB_CH_CFG.RETRIES sw.val) :=
  ⟨0, { live .active with lsb := { Lsb.reset with sw := [(0, { Lsw.reset with on := true })] } }, by decide⟩

theorem wit_ThermalAndLoadSwitches_lsbShortLocks :
    ∃ (sw : Fin 24) (s : State),
      (s.lsw sw.val).on = true ∧ s.rd (LSB_CH_CFG.RETRIES sw.val) ≤ (s.lsw sw.val).used :=
  ⟨0, { live .active with lsb := { Lsb.reset with sw := [(0, { Lsw.reset with on := true, used := 15 })] } }, by decide⟩

theorem wit_ThermalAndLoadSwitches_lsbOverload :
    ∃ (sw : Fin 24) (s : State),
      (s.lsw sw.val).on = true ∧ s.lsb.uvAt = none ∧ (s.lsw sw.val).used < s.rd (LSB_CH_CFG.RETRIES sw.val) :=
  ⟨0, { live .active with lsb := { Lsb.reset with sw := [(0, { Lsw.reset with on := true })] } }, by decide⟩

theorem wit_ThermalAndLoadSwitches_lsbThermalTrip :
    ∃ (sw : Fin 24) (u v : State) (s : State),
      (s.lsw sw.val).therm = false ∧ (u = s.setLsw sw.val { s.lsw sw.val with therm := true, retryAt := none, retryLeft := if (s.lsw sw.val).retryAt.isSome || (s.lsw sw.val).retryLeft.isSome then some (s.retryLeftOf sw.val) else none }) ∧ (v = (if (s.lsw sw.val).on then u.tripLsw sw.val 3 true else u)) :=
  ⟨0, _, _, { live .active with lsb := { Lsb.reset with sw := [(0, { Lsw.reset with on := true })] } }, ⟨by decide, rfl, rfl⟩⟩

theorem wit_ThermalAndLoadSwitches_lsbThermalRelease :
    ∃ (sw : Fin 24) (u : State) (s : State),
      (s.lsw sw.val).therm = true ∧ u = s.setLsw sw.val { s.lsw sw.val with therm := false, retryAt := (s.lsw sw.val).retryLeft.map (fun r => s.now + r), retryLeft := none } :=
  ⟨0, _, { live .active with lsb := { Lsb.reset with sw := [(0, { Lsw.reset with therm := true })] } }, ⟨by decide, rfl⟩⟩

theorem wit_ThermalAndLoadSwitches_lsbRetry :
    ∃ (sw : Fin 24) (t : Nat) (w : State) (s : State),
      (s.lsw sw.val).retryAt = some t ∧ s.lsb.uvAt = none ∧ w = s.waitTill t :=
  ⟨0, 0, _, { live .active with lsb := { Lsb.reset with sw := [(0, { Lsw.reset with retryAt := some 0 })] } }, ⟨by decide, by decide, rfl⟩⟩

theorem wit_ThermalAndLoadSwitches_lsbRetryClear :
    ∃ (sw : Fin 24) (w : State) (s : State),
      (s.lsw sw.val).on = true ∧ w = s.waitTill ((s.lsw sw.val).since + 1000000000 * s.rd LSB_CFG.RETRY_CLEAR) :=
  ⟨0, _, { live .active with lsb := { Lsb.reset with sw := [(0, { Lsw.reset with on := true })] } }, ⟨by decide, rfl⟩⟩

theorem wit_ThermalAndLoadSwitches_lsbInrushEnd :
    ∃ (sw : Fin 24) (t : Nat) (w : State) (s : State),
      (s.lsw sw.val).inrushAt = some t ∧ w = s.waitTill t :=
  ⟨0, 0, _, { live .active with lsb := { Lsb.reset with sw := [(0, { Lsw.reset with on := true, inrushAt := some 0 })] } }, ⟨by decide, rfl⟩⟩

theorem wit_ThermalAndLoadSwitches_vswUndervoltage :
    ∃ (vsw : BitVec 16) (u : State) (s : State),
      s.lsb.uvAt = none ∧ u = State.wr { s with lsb := { s.lsb with uvAt := some s.now, vsw := vsw.toNat } } LSB_STAT.UV 1 :=
  ⟨0, _, live .active, ⟨by decide, rfl⟩⟩

theorem wit_ThermalAndLoadSwitches_vswHoldExpire :
    ∃ (t : Nat) (w : State) (s : State),
      s.lsb.uvAt = some t ∧ s.flag LSB_STAT.UV_OFF = false ∧ w = (s.waitTill (t + 10000000)).wr LSB_STAT.UV_OFF 1 :=
  ⟨0, _, { live .active with lsb := { Lsb.reset with uvAt := some 0 } }, ⟨by decide, by decide, rfl⟩⟩

theorem wit_ThermalAndLoadSwitches_vswRestored :
    ∃ (vsw : BitVec 16) (t : Nat) (u : State) (s : State),
      s.lsb.uvAt = some t ∧ u = ((State.wr { s with lsb := { s.lsb with uvAt := none, vsw := vsw.toNat } } LSB_STAT.UV 0).wr LSB_STAT.UV_OFF 0) :=
  ⟨0, 0, _, { live .active with lsb := { Lsb.reset with uvAt := some 0 } }, ⟨by decide, rfl⟩⟩

end Sys2Proof.Tests
end

