-- ==== Sys2Proof/Tests/Witness19.lean ====
section
/-!
SUPPORT. For each clause of the family TwinUnits with hypotheses, a state and operands that meet them together.
-/
namespace Sys2Proof.Tests

open Sys2Proof Sys2Proof.Machine

set_option linter.all false

theorem wit_TwinUnits_deltaSend :
    ∃ (n : Nat) (late : Bool) (l : List RepItem) (q : List (Nat × Bool × List RepItem)) (u : State) (parts : List (List Nat)) (s : State),
      s.up = true ∧ s.twin.deltas = (n, late, l) :: q ∧ u = { s with twin := { s.twin with deltas := q } } ∧ u.twinSends = true ∧ parts = packParts (l.map RepItem.record) :=
  ⟨0, false, [], [], _, _, { ((((live .active).wr GLB_SITE_CFG.TOPO 1).wr GLB_TWIN_CFG.RANK 1).wr (LN.STATE 12) 6) with twin := { Twin.reset with admitted := true, deltas := [(0, false, [])] } }, ⟨by decide, by decide, rfl, by decide, rfl⟩⟩

set_option maxRecDepth 20000 in
theorem wit_TwinUnits_snapReceive :
    ∃ (h : TwinHead) (part : BitVec 8) (tick cmp : BitVec 32) (data : List (BitVec 8)) (u : State) (l : List (Nat × Nat × Nat × List Nat)) (s : State),
      s.up = true ∧ s.twinRx h = (u, true) ∧ u.twin.admitted = true ∧ u.glb.mode = .shadow ∧ l = (tick.toNat, part.toNat, cmp.toNat, fitData 2048 (data.map (fun (b : BitVec 8) => b.toNat))) :: u.twin.snaps.filter (fun x => x.1 = tick.toNat && x.2.1 ≠ part.toNat) ∧ l.find? (fun x => x.2.1 = 1) = none :=
  ⟨{ lane := 0, fseq := 0, yseq := 1, claim := 0x102 }, 0, 0, 0, [], _, [(0, 0, 0, List.replicate 2048 0)], { ((((live .shadow).wr GLB_SITE_CFG.TOPO 1).wr GLB_TWIN_CFG.RANK 1).wr (LN.STATE 12) 6) with twin := { Twin.reset with admitted := true } }, ⟨by decide, rfl, by decide, by decide, by decide, by decide⟩⟩

set_option maxRecDepth 20000 in
theorem wit_TwinUnits_snapReplay :
    ∃ (h : TwinHead) (part : BitVec 8) (tick cmp : BitVec 32) (data : List (BitVec 8)) (u v : State) (l : List (Nat × Nat × Nat × List Nat)) (a b : Nat × Nat × Nat × List Nat) (s : State),
      s.up = true ∧ s.twinRx h = (u, true) ∧ u.twin.admitted = true ∧ u.glb.mode = .shadow ∧ l = (tick.toNat, part.toNat, cmp.toNat, fitData 2048 (data.map (fun (b : BitVec 8) => b.toNat))) :: u.twin.snaps.filter (fun x => x.1 = tick.toNat && x.2.1 ≠ part.toNat) ∧ l.find? (fun x => x.2.1 = 0) = some a ∧ l.find? (fun x => x.2.1 = 1) = some b ∧ u.flag GLB_TWIN_STAT.CONTIG = true ∧ low 32 (u.rd GLB_TWIN_DTICK.TICK + 1) = tick.toNat ∧ u.rd GLB_TWIN_STAT.SUB = 3 ∧ v = { u with twin := { u.twin with snaps := [] } } :=
  ⟨{ lane := 0, fseq := 0, yseq := 1, claim := 0x102 }, 0, 1, 0, [], _, _, [(1, 0, 0, List.replicate 2048 0), (1, 1, 0, [])], (1, 0, 0, List.replicate 2048 0), (1, 1, 0, []), { ((((((live .shadow).wr GLB_SITE_CFG.TOPO 1).wr GLB_TWIN_CFG.RANK 1).wr (LN.STATE 12) 6)).wr GLB_TWIN_STAT.SUB 3).wr GLB_TWIN_STAT.CONTIG 1 with twin := { Twin.reset with admitted := true, snaps := [(1, 1, 0, [])] } }, ⟨by decide, rfl, by decide, by decide, by decide, by decide, by decide, by decide, by decide, by decide, rfl⟩⟩

theorem wit_TwinUnits_deltaReceive :
    ∃ (h : TwinHead) (f : DeltaFrame) (u v : State) (p : DPart) (next : Nat) (s : State),
      s.up = true ∧ s.twinRx h = (u, true) ∧ u.twin.admitted = true ∧ u.glb.mode = .shadow ∧ p = { tick := f.tick.toNat, part := f.part.toNat, last := f.flags.toNat.testBit 0, items := f.items } ∧ v = { u with twin := { u.twin with parts := u.twin.parts.filter (fun (q : DPart) => decide (diff32 p.tick q.tick < 256) && !(q.tick == p.tick && q.part == p.part)) ++ [p], peerMode := some f.mode.toNat }, alp := { u.alp with leadHalt := f.mode = 5 } } ∧ next = low 32 (u.rd GLB_TWIN_DTICK.TICK + 1) :=
  ⟨{ lane := 0, fseq := 0, yseq := 1, claim := 0x102 }, { part := 0, flags := 1, tick := 1, eseq := 0, mode := 2, items := [] }, _, _, _, _, { ((((live .shadow).wr GLB_SITE_CFG.TOPO 1).wr GLB_TWIN_CFG.RANK 1).wr (LN.STATE 12) 6) with twin := { Twin.reset with admitted := true } }, ⟨by decide, rfl, by decide, by decide, rfl, rfl, rfl⟩⟩

theorem wit_TwinUnits_deltaTimeout :
    ∃ (w : State) (s : State),
      s.up = true ∧ s.glb.mode = .shadow ∧ s.flag GLB_TWIN_STAT.CONTIG = true ∧ w = s.waitSite (s.tickAt (s.fullTick (s.rd GLB_TWIN_DTICK.TICK) + 2) + 20000) ∧ w.flag GLB_TWIN_STAT.CONTIG = true :=
  ⟨_, (live .shadow).wr GLB_TWIN_STAT.CONTIG 1, ⟨by decide, by decide, by decide, rfl, by decide⟩⟩

theorem wit_TwinUnits_epochChunkReceive :
    ∃ (h : TwinHead) (f : ChunkFrame) (u : State) (s : State),
      s.up = true ∧ s.twinRx h = (u, true) ∧ u.twin.admitted = true ∧ u.glb.mode = .shadow ∧ u.twin.copy = none :=
  ⟨{ lane := 0, fseq := 0, yseq := 1, claim := 0x102 }, { eseq := 1, tick := 0, chunk := 0, chunks := 28, items := [] }, _, { ((((live .shadow).wr GLB_SITE_CFG.TOPO 1).wr GLB_TWIN_CFG.RANK 1).wr (LN.STATE 12) 6) with twin := { Twin.reset with admitted := true } }, ⟨by decide, rfl, by decide, by decide, by decide⟩⟩

theorem wit_TwinUnits_epochCommitBad :
    ∃ (h : TwinHead) (f : CommitFrame) (u : State) (c : ECopy) (s : State),
      s.up = true ∧ s.twinRx h = (u, true) ∧ u.twin.admitted = true ∧ u.glb.mode = .shadow ∧ u.twin.copy = some c ∧ c.eseq = f.eseq.toNat ∧ f.total.toNat ≠ 89600 :=
  ⟨{ lane := 0, fseq := 0, yseq := 1, claim := 0x102 }, { eseq := 1, tick := 0, chunks := 28, total := 0, digest := [] }, _, { eseq := 1, tick := 0, chunks := 28, got := [] }, { ((((live .shadow).wr GLB_SITE_CFG.TOPO 1).wr GLB_TWIN_CFG.RANK 1).wr (LN.STATE 12) 6) with twin := { Twin.reset with admitted := true, copy := some { eseq := 1, tick := 0, chunks := 28, got := [] } } }, ⟨by decide, rfl, by decide, by decide, by decide, by decide, by decide⟩⟩

theorem wit_TwinUnits_epochCommitTimeout :
    ∃ (c : ECopy) (w : State) (s : State),
      s.up = true ∧ s.twin.copy = some c ∧ w = s.waitSite (s.tickAt (s.fullTick c.tick) + 50000000) ∧ w.twin.copy = some c :=
  ⟨{ eseq := 1, tick := 0, chunks := 28, got := [] }, _, { live .shadow with twin := { Twin.reset with copy := some { eseq := 1, tick := 0, chunks := 28, got := [] } } }, ⟨by decide, by decide, rfl, by decide⟩⟩

theorem wit_TwinUnits_healthSend :
    ∃ (k : Nat) (w u : State) (s : State),
      s.up = true ∧ s.twinSite = true ∧ k = s.nextHealth ∧ w = s.waitSite (100000000 * k + 50000000) ∧ u = { w with twin := { w.twin with healthSent := some k } } :=
  ⟨_, _, _, { ((((live .shadow).wr GLB_SITE_CFG.TOPO 1).wr GLB_TWIN_CFG.RANK 1).wr (LN.STATE 12) 6) with twin := { Twin.reset with admitted := true } }, ⟨by decide, by decide, rfl, rfl, rfl⟩⟩

theorem wit_TwinUnits_healthReceive :
    ∃ (h : TwinHead) (words : List (BitVec 32)) (u v : State) (l : List Nat) (s : State),
      s.up = true ∧ s.twinRx h = (u, true) ∧ l = fitData 16 (words.map (fun (x : BitVec 32) => x.toNat)) ∧ v = ((List.range 16).zip l).foldl (fun (a : State) (x : Nat × Nat) => a.wr (GLB_PEER_HEALTH.WORD x.1) x.2) u :=
  ⟨{ lane := 0, fseq := 0, yseq := 1, claim := 0x102 }, [], _, _, _, { ((((live .shadow).wr GLB_SITE_CFG.TOPO 1).wr GLB_TWIN_CFG.RANK 1).wr (LN.STATE 12) 6) with twin := { Twin.reset with admitted := true } }, ⟨by decide, rfl, rfl, rfl⟩⟩

theorem wit_TwinUnits_healthTimeout :
    ∃ (t : Nat) (w : State) (s : State),
      s.up = true ∧ s.twin.healthAt = some t ∧ w = s.waitTill (t + 300000000) :=
  ⟨0, _, { ((((live .shadow).wr GLB_SITE_CFG.TOPO 1).wr GLB_TWIN_CFG.RANK 1).wr (LN.STATE 12) 6) with twin := { Twin.reset with admitted := true, healthAt := some 0 } }, ⟨by decide, by decide, rfl⟩⟩

theorem wit_TwinUnits_goingDownReceive :
    ∃ (h : TwinHead) (cause : BitVec 8) (tick : BitVec 32) (u v : State) (s : State),
      s.up = true ∧ s.twinRx h = (u, true) ∧ u.twin.admitted = true ∧ v = u.ev 0x0614 0 h.claim.toNat cause.toNat ∧ (v.peerRuns && v.peerLeads) = false :=
  ⟨{ lane := 0, fseq := 0, yseq := 1, claim := 0x102 }, 1, 0, _, _, { ((((live .shadow).wr GLB_SITE_CFG.TOPO 1).wr GLB_TWIN_CFG.RANK 1).wr (LN.STATE 12) 6) with twin := { Twin.reset with admitted := true } }, ⟨by decide, rfl, by decide, rfl, by decide⟩⟩

theorem wit_TwinUnits_goingDownLeader :
    ∃ (h : TwinHead) (cause : BitVec 8) (tick : BitVec 32) (u v : State) (s : State),
      s.up = true ∧ s.twinRx h = (u, true) ∧ u.twin.admitted = true ∧ v = u.ev 0x0614 0 h.claim.toNat cause.toNat ∧ v.peerRuns = true ∧ v.peerLeads = true :=
  ⟨{ lane := 0, fseq := 0, yseq := 1, claim := 0x102 }, 1, 0, _, _, { { ((((live .shadow).wr GLB_SITE_CFG.TOPO 1).wr GLB_TWIN_CFG.RANK 1).wr (LN.STATE 12) 6) with twin := { Twin.reset with admitted := true, peerMode := some 2 } } with sfi := { Sfi.reset with ready := true, image := [(1024, 131073)], conns := [(0, { Conn.reset with state := 2 })] } }, ⟨by decide, rfl, by decide, rfl, by decide, by decide⟩⟩

theorem wit_TwinUnits_promote :
    ∃ (d : DescRef) (s : State),
      s.ready d 0x0601 = true ∧ s.glb.mode = .shadow ∧ s.flag GLB_TWIN_STAT.FIT = true :=
  ⟨desc 60, withDesc ((live .shadow).wr GLB_TWIN_STAT.FIT 1) (desc 60) 0x0601, by decide⟩

theorem wit_TwinUnits_promoteUnfit :
    ∃ (d : DescRef) (z : Bool) (s : State),
      s.ready d 0x0601 = true ∧ s.glb.mode = .shadow ∧ s.flag GLB_TWIN_STAT.FIT = false :=
  ⟨desc 60, true, withDesc (live .shadow) (desc 60) 0x0601, by decide⟩

theorem wit_TwinUnits_glbTwinResync :
    ∃ (v : BitVec 32) (u : State) (s : State),
      s.up = true ∧ v.toNat % 2 = 1 ∧ s.glb.mode = .shadow ∧ u = (s.takeCopy [.staged [], .migs []]).enterSync :=
  ⟨1, _, live .shadow, ⟨by decide, by decide, by decide, rfl⟩⟩

theorem wit_TwinUnits_memoryMarchStep :
    ∃ (corrected : BitVec 16) (uncorrectable : Bool) (w : State) (m : Nat) (s : State),
      s.up = true ∧ s.twinSite = true ∧ s.glb.mode.running = true ∧ w = s.waitTill (s.twin.marchAt + 100000000) ∧ m = w.twin.marchMib + 1 :=
  ⟨0, false, _, _, { ((((live .shadow).wr GLB_SITE_CFG.TOPO 1).wr GLB_TWIN_CFG.RANK 1).wr (LN.STATE 12) 6) with twin := { Twin.reset with admitted := true } }, ⟨by decide, by decide, by decide, rfl, rfl⟩⟩

end Sys2Proof.Tests
end

