-- ==== Sys2Proof/Tests/Witness20.lean ====
section
/-!
SUPPORT. For each clause of the family RingsAndFetch with hypotheses, a state and operands that meet them together.
-/
namespace Sys2Proof.Tests

open Sys2Proof Sys2Proof.Machine

set_option linter.all false

theorem wit_RingsAndFetch_doorbell :
    ∃ (off : BitVec 12) (size : Nat) (v : BitVec 32) (r : Nat) (s : State),
      s.up = true ∧ size = 4 ∧ off.toNat = 0x40 * r ∧ r < 64 ∧ s.flag (HIF_RING_CFG.EN r) = true ∧ 0 ≤ diff32 v.toNat (s.ring r).head ∧ low 32 (v.toNat + 2 ^ 32 - (s.ring r).oldest) ≤ s.depth r :=
  ⟨0xC0, 4, 1, 3, ((live .active).wr (HIF_RING_CFG.EN 3) 1).setRing 3 ({ Ring.reset with run := true }), by decide⟩

theorem wit_RingsAndFetch_doorbellIgnored :
    ∃ (off : BitVec 12) (size : Nat) (v : BitVec 32) (r : Nat) (s : State),
      s.up = true ∧ size = 4 ∧ off.toNat = 0x40 * r ∧ r < 64 ∧ (s.flag (HIF_RING_CFG.EN r) = false ∨ diff32 v.toNat (s.ring r).head < 0) :=
  ⟨0xC0, 4, 1, 3, live .active, by decide⟩

theorem wit_RingsAndFetch_doorbellHalts :
    ∃ (off : BitVec 12) (size : Nat) (v : BitVec 32) (r : Nat) (s : State),
      s.up = true ∧ size = 4 ∧ off.toNat = 0x40 * r ∧ r < 64 ∧ s.flag (HIF_RING_CFG.EN r) = true ∧ 0 ≤ diff32 v.toNat (s.ring r).head ∧ s.depth r < low 32 (v.toNat + 2 ^ 32 - (s.ring r).oldest) :=
  ⟨0xC0, 4, 0x2000, 3, ((live .active).wr (HIF_RING_CFG.EN 3) 1).setRing 3 ({ Ring.reset with run := true }), by decide⟩

theorem wit_RingsAndFetch_doorbellOther :
    ∃ (off : BitVec 12) (size : Nat) (v : BitVec 32) (s : State),
      (size ≠ 4 ∨ off.toNat % 0x40 ≠ 0) :=
  ⟨0, 2, 0, live .active, by decide⟩

set_option maxRecDepth 4000 in
theorem wit_RingsAndFetch_descriptorFetch :
    ∃ (fetched : List FetchDesc) (r : Nat) (s : State),
      s.up = true ∧ s.fetchOrder.find? (fun r => s.wantsFetch r && s.poolFor r != 0) = some r :=
  ⟨[], 3, ((live .active).wr (HIF_RING_CFG.EN 3) 1).setRing 3 ({ Ring.reset with run := true, tail := 1 }), by decide⟩

set_option maxRecDepth 4000 in
theorem wit_RingsAndFetch_descriptorFetchIdle :
    ∃ (fetched : List FetchDesc) (s : State),
      s.up = true ∧ s.fetchOrder.find? (fun r => s.wantsFetch r && s.poolFor r != 0) = none :=
  ⟨[], live .active, by decide⟩

theorem wit_RingsAndFetch_ringEnable :
    ∃ (ring : Fin 64) (v : BitVec 32) (u : State) (s : State),
      s.up = true ∧ s.flag (HIF_RING_CFG.EN ring.val) = false ∧ u = s.ringFields ring.val v.toNat ∧ (u.ring ring.val).flights = [] :=
  ⟨3, 0x00100014, _, live .active, ⟨by decide, by decide, rfl, by decide⟩⟩

theorem wit_RingsAndFetch_ringDisable :
    ∃ (ring : Fin 64) (v : BitVec 32) (u : State) (s : State),
      s.up = true ∧ s.flag (HIF_RING_CFG.EN ring.val) = true ∧ u = s.wr (HIF_RING_CFG.EN ring.val) 0 :=
  ⟨3, 0, _, ((live .active).wr (HIF_RING_CFG.EN 3) 1).setRing 3 ({ Ring.reset with run := true }), ⟨by decide, by decide, rfl⟩⟩

theorem wit_RingsAndFetch_hostAccessFailure :
    ∃ (d : DescRef) (kind : Fin 4) (s : State),
      s.up = true ∧ kind.val ≤ 1 :=
  ⟨desc 3, 0, live .active, by decide⟩

theorem wit_RingsAndFetch_hostAccessHalts :
    ∃ (d : DescRef) (kind : Fin 4) (f : Flight) (s : State),
      s.up = true ∧ 2 ≤ kind.val ∧ (s.ring d.ring.val).run = true ∧ s.flight d.ring.val d.idx.toNat = some f :=
  ⟨desc 3, 2, { idx := 5, tag := 7, opcode := 0x1200, fence := false, quiet := false, started := false, outside := false, lost := false, progress := 0 }, (live .active).setRing 3 { Ring.reset with run := true, flights := [{ idx := 5, tag := 7, opcode := 0x1200, fence := false, quiet := false, started := false, outside := false, lost := false, progress := 0 }] }, by decide⟩

end Sys2Proof.Tests
end

