-- ==== Sys2Proof/Tests/Witness21.lean ====
section
/-!
SUPPORT. For each clause of the family LinkAndAttention with hypotheses, a state and operands that meet them together.
-/
namespace Sys2Proof.Tests

open Sys2Proof Sys2Proof.Machine

set_option linter.all false

theorem wit_LinkAndAttention_pcieLinkDown :
    ∃ (u : State) (s : State),
      s.mainUp = true ∧ s.hif.linkUp = true ∧ u = (s.linkEvent 1).seeReadFail none :=
  ⟨_, { live .active with hif := { Hif.reset with linkUp := true } }, ⟨by decide, by decide, rfl⟩⟩

theorem wit_LinkAndAttention_pcieLinkUp :
    ∃ (speed : Fin 4) (width : Fin 16) (u : State) (s : State),
      s.mainUp = true ∧ s.hif.linkUp = false ∧ u = (s.wr HIF_LINK_STAT.SPEED speed.val).wr HIF_LINK_STAT.WIDTH width.val :=
  ⟨3, 8, _, live .active, ⟨by decide, by decide, rfl⟩⟩

theorem wit_LinkAndAttention_pcieHotReset :
    ∃ (u : State) (s : State),
      s.mainUp = true ∧ u = (s.linkEvent 2).resetHif.seeReadFail none :=
  ⟨_, live .active, ⟨by decide, rfl⟩⟩

theorem wit_LinkAndAttention_functionLevelReset :
    ∃ (s : State),
      s.mainUp = true :=
  ⟨live .active, by decide⟩

theorem wit_LinkAndAttention_busMasterDisable :
    ∃ (u : State) (s : State),
      s.mainUp = true ∧ s.hif.busMaster = true ∧ u = s.linkEvent 4 :=
  ⟨_, { live .active with hif := { Hif.reset with busMaster := true } }, ⟨by decide, by decide, rfl⟩⟩

theorem wit_LinkAndAttention_busMasterEnable :
    ∃ (s : State),
      s.mainUp = true :=
  ⟨live .active, by decide⟩

theorem wit_LinkAndAttention_d3hotEntry :
    ∃ (u : State) (s : State),
      s.mainUp = true ∧ s.hif.d3hot = false ∧ u = s.linkEvent 5 :=
  ⟨_, live .active, ⟨by decide, by decide, rfl⟩⟩

theorem wit_LinkAndAttention_d3hotExit :
    ∃ (s : State),
      s.mainUp = true :=
  ⟨live .active, by decide⟩

theorem wit_LinkAndAttention_hifAttnCauseWrite :
    ∃ (v : BitVec 32) (u : State) (s : State),
      s.up = true ∧ u = s.wr HIF_ATTN_CAUSE.CAUSE (clearBits (s.rd HIF_ATTN_CAUSE.CAUSE) (low 6 v.toNat)) :=
  ⟨1, _, live .active, ⟨by decide, rfl⟩⟩

theorem wit_LinkAndAttention_msixEnable :
    ∃ (u : State) (s : State),
      s.mainUp = true ∧ s.hif.msixEn = false ∧ (u = { s with hif := { s.hif with msixEn := true } }) :=
  ⟨_, live .active, ⟨by decide, by decide, rfl⟩⟩

theorem wit_LinkAndAttention_msixDisable :
    ∃ (s : State),
      s.mainUp = true :=
  ⟨live .active, by decide⟩

theorem wit_LinkAndAttention_msixUnmaskFunction :
    ∃ (u : State) (s : State),
      s.mainUp = true ∧ (u = { s with hif := { s.hif with fnMask := false } }) :=
  ⟨_, live .active, ⟨by decide, rfl⟩⟩

theorem wit_LinkAndAttention_msixUnmaskVector :
    ∃ (u : State) (s : State),
      s.mainUp = true ∧ (u = { s with hif := { s.hif with vecMask := false } }) :=
  ⟨_, live .active, ⟨by decide, rfl⟩⟩

theorem wit_LinkAndAttention_msixMask :
    ∃ (function : Bool) (s : State),
      s.mainUp = true :=
  ⟨true, live .active, by decide⟩

theorem wit_LinkAndAttention_hifClrCounts :
    ∃ (u : State) (s : State),
      s.up = true ∧ u = (s.wr HIF_LOST_CNT.CNT 0).wr HIF_DB_IGN_CNT.CNT 0 :=
  ⟨_, live .active, ⟨by decide, rfl⟩⟩

end Sys2Proof.Tests
end

