-- ==== Sys2Proof/Tests/Witness22.lean ====
section
/-!
SUPPORT. For each clause of the family EventsAndSelfTest with hypotheses, a state and operands that meet them together.
-/
namespace Sys2Proof.Tests

open Sys2Proof Sys2Proof.Machine

set_option linter.all false

theorem wit_EventsAndSelfTest_nop :
    ∃ (d : DescRef) (s : State),
      s.ready d 0x1200 = true :=
  ⟨desc 40, withDesc (live .active) (desc 40) 0x1200, by decide⟩

theorem wit_EventsAndSelfTest_nopBad :
    ∃ (d : DescRef) (s : State),
      s.ready d 0x1200 = true :=
  ⟨desc 40, withDesc (live .active) (desc 40) 0x1200, by decide⟩

theorem wit_EventsAndSelfTest_eventRead :
    ∃ (d : DescRef) (first addr : BitVec 64) (len : BitVec 32) (wait : Bool) (s : State),
      s.ready d 0x0101 = true ∧ first.toNat ≤ s.log.head ∧ len.toNat % 32 = 0 ∧ 32 ≤ len.toNat ∧ len.toNat ≤ 1048576 ∧ s.evOldest ≤ first.toNat ∧ (first.toNat ≠ s.log.head ∨ wait = false) :=
  ⟨desc 60, 0, 0, 32, false, withDesc (live .active) (desc 60) 0x0101, by decide⟩

theorem wit_EventsAndSelfTest_eventReadOld :
    ∃ (d : DescRef) (first addr : BitVec 64) (len : BitVec 32) (wait : Bool) (s : State),
      s.ready d 0x0101 = true ∧ first.toNat ≤ s.log.head ∧ len.toNat % 32 = 0 ∧ 32 ≤ len.toNat ∧ len.toNat ≤ 1048576 ∧ first.toNat < s.evOldest :=
  ⟨desc 60, 0, 0, 32, false, { withDesc (live .active) (desc 60) 0x0101 with log := { events := [], head := 5, kept := [] } }, by decide⟩

theorem wit_EventsAndSelfTest_eventReadWaits :
    ∃ (d : DescRef) (first addr : BitVec 64) (len : BitVec 32) (wait : Bool) (s : State),
      s.ready d 0x0101 = true ∧ first.toNat ≤ s.log.head ∧ len.toNat % 32 = 0 ∧ 32 ≤ len.toNat ∧ len.toNat ≤ 1048576 ∧ first.toNat = s.log.head ∧ wait = true ∧ s.evOldest ≤ s.log.head :=
  ⟨desc 60, 0, 0, 32, true, withDesc (live .active) (desc 60) 0x0101, by decide⟩

theorem wit_EventsAndSelfTest_eventReadWake :
    ∃ (w : EvWait) (s : State),
      s.up = true ∧ s.hif.evWaits.find? (fun w => w.first < s.log.head) = some w ∧ s.evOldest ≤ w.first :=
  ⟨{ ring := 60, idx := 5, first := 0, addr := 0, len := 32 }, { live .active with log := { events := [{ code := 0, entity := 0, source := 0, seq := 0, t := 0, arg1 := 0, arg2 := 0 }], head := 1, kept := [] }, hif := { Hif.reset with evWaits := [{ ring := 60, idx := 5, first := 0, addr := 0, len := 32 }] } }, by decide⟩

theorem wit_EventsAndSelfTest_evtHeadLatchRead :
    ∃ (s : State),
      s.up = true :=
  ⟨live .active, by decide⟩

theorem wit_EventsAndSelfTest_evtOldestLatchRead :
    ∃ (s : State),
      s.up = true :=
  ⟨live .active, by decide⟩

theorem wit_EventsAndSelfTest_selfTestLaneDelay :
    ∃ (d : DescRef) (u : State) (s : State),
      s.ready d 0x0102 = true ∧ s.hif.selfTest = none ∧ u = (s.start d).mapFlight d.ring.val d.idx.toNat (fun f => { f with started := true }) :=
  ⟨desc 62, _, withDesc (live .active) (desc 62) 0x0102, ⟨by decide, by decide, rfl⟩⟩

theorem wit_EventsAndSelfTest_selfTestMramCrc :
    ∃ (d : DescRef) (u : State) (s : State),
      s.ready d 0x0102 = true ∧ s.hif.selfTest = none ∧ u = (s.start d).mapFlight d.ring.val d.idx.toNat (fun f => { f with started := true }) :=
  ⟨desc 62, _, withDesc (live .active) (desc 62) 0x0102, ⟨by decide, by decide, rfl⟩⟩

theorem wit_EventsAndSelfTest_selfTestMarch :
    ∃ (d : DescRef) (u : State) (s : State),
      s.ready d 0x0102 = true ∧ s.hif.selfTest = none ∧ u = (s.start d).mapFlight d.ring.val d.idx.toNat (fun f => { f with started := true }) :=
  ⟨desc 62, _, withDesc (live .active) (desc 62) 0x0102, ⟨by decide, by decide, rfl⟩⟩

theorem wit_EventsAndSelfTest_selfTestWaits :
    ∃ (d : DescRef) (x : Nat × Nat × Nat × Nat) (u : State) (s : State),
      s.ready d 0x0102 = true ∧ s.hif.selfTest = some x ∧ u = (s.start d).waitShared d :=
  ⟨desc 62, (62, 4, 1, 0), _, { withDesc (live .active) (desc 62) 0x0102 with hif := { (withDesc (live .active) (desc 62) 0x0102).hif with selfTest := some (62, 4, 1, 0) } }, ⟨by decide, by decide, rfl⟩⟩

theorem wit_EventsAndSelfTest_selfTestComplete :
    ∃ (a b : BitVec 32) (r idx lim : Nat) (w u : State) (s : State),
      s.up = true ∧ s.hif.selfTest = some (r, idx, 1, lim) ∧ a.toNat = 0 ∧ w = s.waitTill (min lim (s.now + 10)) ∧ u = w.complete r idx false false 0 0 (leBytes 4 0 ++ leBytes 4 0) ∧ u.hif.selfWait = [] :=
  ⟨0, 0, 62, 4, 0, _, _, { live .active with hif := { Hif.reset with selfTest := some (62, 4, 1, 0) } }, ⟨by decide, by decide, by decide, rfl, rfl, by decide⟩⟩

end Sys2Proof.Tests
end

section
/-!
PROOFS. A host read of a register that shows one whole live word, and with it the identity and capability registers (spec/00
R5, R6).
-/
namespace Sys2Proof.Proofs.Scope

open Sys2Proof Sys2Proof.Machine Sys2Proof.Laws

/-- A field as wide as the register replaces all that is stored in it. -/
theorem putBits_wholeWord {x : Nat} (v : Nat) (hx : x < 2 ^ 32) : putBits x 0 32 v = v % 2 ^ 32 := by
  simpa [putBits, Nat.mod_one] using hx

@[simp] theorem clearBits_zero (n : Nat) : clearBits n 0 = n := by simp [clearBits]

/-- A register that is all one live field shows the value of that field on either grade, when no bit of it belongs to an entity
the PH4812 lacks (R4). -/
theorem shown_of_liveWord (s : State) {off v : Nat} (hlive : s.liveFields off = [(⟨off, 0, 32⟩, v)])
    (hreg : absentReg off = none) (hbits : (absentBits off).1 = 0) : s.shown off = v % 2 ^ 32 := by
  have hdlc : ¬ (off = 0x28000 ∨ off = 0x28040) := by
    rintro (rfl | rfl) <;> simp [absentReg] at hreg
  have hput : putBits (s.reg off) 0 32 v = v % 2 ^ 32 := putBits_wholeWord v (reg_lt s off)
  simp [State.shown, hlive, hput, hdlc, hreg, hbits]

/-- A 32-bit read of an assigned register below the MSI-X table with no write-only field returns the word it shows (R9). -/
theorem readReg_of_noWriteOnly (s : State) {off : Nat} {r : RegDef} (halign : off % 4 = 0) (hbelow : off < 0x7F000)
    (hrow : regFind off = some r) (hread : r.fields.filter (fun f => f.acc == .wo) = []) :
    s.readReg off 4 = leBytes 4 (s.shown off) := by
  have hword : off / 4 * 4 = off := by omega
  have htable : ¬ (0x7F000 ≤ off ∧ off < 0x7F010) := by omega
  have hpend : off ≠ 0x7F800 := by omega
  simp [State.readReg, hword, htable, hpend, hrow, hread, halign, leBytes]

/-- A 32-bit read of GLB_ID returns the identity word of the grade. -/
theorem readReg_glbId (s : State) : s.readReg 0x0 4 = leBytes 4 (s.glbId % 2 ^ 32) := by
  rw [readReg_of_noWriteOnly s (r := ⟨0x0, 0x0, 1, 0x0, 1, _⟩) (by decide) (by decide) (by rfl) (by rfl),
    shown_of_liveWord s rfl (by decide) (by decide)]

/-- A 32-bit read of GLB_CAPS returns the limits of the grade. -/
theorem readReg_glbCaps (s : State) :
    s.readReg 0x4 4 = leBytes 4 ((if s.grade = .ph4800 then 0x03103018 else 0x0208180C) % 2 ^ 32) := by
  rw [readReg_of_noWriteOnly s (r := ⟨0x4, 0x0, 1, 0x0, 1, _⟩) (by decide) (by decide) (by rfl) (by rfl),
    shown_of_liveWord s rfl (by decide) (by decide)]

/-- Settles O5: GLB_ID is one live word, chosen by the grade alone. -/
theorem glbIdReads : Obligations.GlbIdReads := by
  unfold Obligations.GlbIdReads
  intro s
  constructor <;> intro hgrade <;> simp [readReg_glbId, State.glbId, hgrade, leBytes]

/-- Settles O6: GLB_CAPS is one live word, chosen by the grade alone. -/
theorem glbCapsReads : Obligations.GlbCapsReads := by
  unfold Obligations.GlbCapsReads
  intro s
  constructor <;> intro hgrade <;> simp [readReg_glbCaps, hgrade, leBytes]

end Sys2Proof.Proofs.Scope
end

section
/-!
PROOFS. What every command and every step keep (spec/00 R3, spec/17 R425): one lemma per command on top of the laws of the
operations it calls, and the statements over all commands from their conjunction.
-/
namespace Sys2Proof.Proofs.Kept

open Sys2Proof Sys2Proof.Machine Sys2Proof.Laws
open Host (Outcome)

/-- The command completes, in a state that kept what every operation keeps. -/
def Keeps (s : State) (o : Outcome State Fault Refusal) : Prop := ∃ t, o = .next t ∧ Kept s t

variable {s t u : State}

theorem Keeps.next (h : Kept s t) : Keeps s (.next t) := ⟨t, rfl, h⟩

/-- A command without effect in the present state. -/
theorem Keeps.idle (s : State) : Keeps s (.next s) := .next (.refl s)

/-- A command that acts only under a condition. -/
theorem Keeps.gate {c : Prop} [Decidable c] (h : Kept s t) : Keeps s (.next (if c then t else s)) :=
  .next (ite_kept h (.refl s))

/-- A command that is idle under a condition. -/
theorem Keeps.unless {c : Prop} [Decidable c] (h : Kept s t) : Keeps s (.next (if c then s else t)) :=
  .next (ite_kept (.refl s) h)

theorem Keeps.ite {c : Prop} [Decidable c] {x y : Outcome State Fault Refusal} (hx : Keeps s x) (hy : Keeps s y) :
    Keeps s (if c then x else y) := by
  split
  · exact hx
  · exact hy

theorem execStuSetCmd_keeps (v : BitVec 32) (s : State) : Keeps s (execStuSetCmd v s) :=
  .gate (setTime_kept (.refl s) ..)

theorem execTimeLatchRead_keeps (s : State) : Keeps s (execTimeLatchRead s) :=
  .gate (latchTime_kept (.refl s))

theorem execPpsLabelArm_keeps (v : BitVec 32) (s : State) : Keeps s (execPpsLabelArm v s) :=
  .gate (armLabel_kept (.refl s) ..)

theorem execPpsEdge_keeps (s : State) : Keeps s (execPpsEdge s) :=
  .gate (ppsEdge_kept (.refl s))

theorem execPpsLoss_keeps (s : State) : Keeps s (execPpsLoss s) := by
  unfold execPpsLoss
  split
  · exact .idle s
  · exact .gate (ite_kept (loseSource_kept (.upd (waitTill_kept (.refl s) ..) rfl)) (.upd (waitTill_kept (.refl s) ..) rfl))

theorem execRef10mMeasurement_keeps (devPpb : Int) (s : State) : Keeps s (execRef10mMeasurement devPpb s) :=
  .ite (.idle s) (.ite (.next (ite_kept (setRate_kept (selectSource_kept (.upd (.refl s) rfl)) ..) (selectSource_kept (.upd
    (.refl s) rfl)))) (.ite (.next (ite_kept (loseSource_kept (.upd (.refl s) rfl)) (.upd (.refl s) rfl))) (.idle s)))

theorem execRef10mLoss_keeps (s : State) : Keeps s (execRef10mLoss s) :=
  .ite (.next (ite_kept (loseSource_kept (.upd (cycles_kept (.refl s) ..) rfl)) (.upd (cycles_kept (.refl s) ..) rfl)))
    (.idle s)

theorem execHostOffsetLoss_keeps (s : State) : Keeps s (execHostOffsetLoss s) := by
  unfold execHostOffsetLoss
  split
  · exact .idle s
  · exact .gate (ite_kept (loseSource_kept (.upd (waitTill_kept (.refl s) ..) rfl)) (.upd (waitTill_kept (.refl s) ..) rfl))

theorem execTimeOffset_keeps (d : DescRef) (offset measuredAt : BitVec 64) (s : State) : Keeps s (execTimeOffset d offset
    measuredAt s) :=
  .next (run_kept (.refl s) (hk := fun _ h => ite_kept (fail_kept h ..) (ite_kept (fail_kept h ..) (done_kept (ite_kept
    (discipline_kept (selectSource_kept (.upd h rfl)) ..) (selectSource_kept (.upd h rfl))) ..))) ..)

theorem execRtcAlign_keeps (s : State) : Keeps s (execRtcAlign s) :=
  .ite (.next (.upd (wr_kept (waitSite_kept (.refl s) ..) ..) rfl)) (.idle s)

theorem execPpsOutRise_keeps (s : State) : Keeps s (execPpsOutRise s) :=
  .ite (.next (.upd (waitSite_kept (.refl s) ..) rfl)) (.idle s)

theorem execPpsOutFall_keeps (s : State) : Keeps s (execPpsOutFall s) :=
  .ite (.next (.upd (waitTill_kept (.refl s) ..) rfl)) (.idle s)

theorem execDoorbell_keeps (off : BitVec 12) (size : Nat) (v : BitVec 32) (s : State) : Keeps s (execDoorbell off size v s) :=
  .gate (doorbell_kept (.refl s) ..)

theorem execDescriptorFetch_keeps (fetched : List FetchDesc) (s : State) : Keeps s (execDescriptorFetch fetched s) :=
  .gate (fetchTurn_kept (.refl s) ..)

theorem execRingEnable_keeps (ring : Fin 64) (v : BitVec 32) (s : State) : Keeps s (execRingEnable ring v s) :=
  .gate (enableRing_kept (.refl s) ..)

theorem execRingDisable_keeps (ring : Fin 64) (v : BitVec 32) (s : State) : Keeps s (execRingDisable ring v s) :=
  .gate (ringOff_kept (.refl s) ..)

theorem execPcieLinkDown_keeps (s : State) : Keeps s (execPcieLinkDown s) :=
  .ite (.next (.upd (seeReadFail_kept (linkEvent_kept (.refl s) ..) ..) rfl)) (.idle s)

theorem execPcieLinkUp_keeps (speed : Fin 4) (width : Fin 16) (s : State) : Keeps s (execPcieLinkUp speed width s) :=
  .ite (.next (ev_kept (.upd (wr_kept (wr_kept (.refl s) ..) ..) rfl) ..)) (.idle s)

theorem execPcieHotReset_keeps (s : State) : Keeps s (execPcieHotReset s) :=
  .ite (.next (.upd (seeReadFail_kept (resetHif_kept (linkEvent_kept (.refl s) ..)) ..) rfl)) (.idle s)

theorem execFunctionLevelReset_keeps (s : State) : Keeps s (execFunctionLevelReset s) :=
  .gate (resetHif_kept (linkEvent_kept (.refl s) ..))

theorem execBusMasterDisable_keeps (s : State) : Keeps s (execBusMasterDisable s) :=
  .ite (.next (.upd (linkEvent_kept (.refl s) ..) rfl)) (.idle s)

theorem execBusMasterEnable_keeps (s : State) : Keeps s (execBusMasterEnable s) :=
  .gate (.upd (.refl s) rfl)

theorem execD3hotEntry_keeps (s : State) : Keeps s (execD3hotEntry s) :=
  .ite (.next (.upd (linkEvent_kept (.refl s) ..) rfl)) (.idle s)

theorem execD3hotExit_keeps (s : State) : Keeps s (execD3hotExit s) :=
  .gate (.upd (.refl s) rfl)

theorem execHifAttnCauseWrite_keeps (v : BitVec 32) (s : State) : Keeps s (execHifAttnCauseWrite v s) :=
  .gate (attnWrite_kept (.refl s) ..)

theorem execMsixEnable_keeps (s : State) : Keeps s (execMsixEnable s) :=
  .ite (.next (ite_kept (message_kept (.upd (.refl s) rfl)) (.upd (.refl s) rfl))) (.idle s)

theorem execMsixDisable_keeps (s : State) : Keeps s (execMsixDisable s) :=
  .gate (.upd (.refl s) rfl)

theorem execMsixUnmask_keeps (function : Bool) (s : State) : Keeps s (execMsixUnmask function s) :=
  .ite (.next (ite_kept (message_kept (ite_kept (.upd (.refl s) rfl) (.upd (.refl s) rfl))) (ite_kept (.upd (.refl s) rfl)
    (.upd (.refl s) rfl)))) (.idle s)

theorem execMsixMask_keeps (function : Bool) (s : State) : Keeps s (execMsixMask function s) :=
  .unless (ite_kept (.upd (.refl s) rfl) (.upd (.refl s) rfl))

theorem execHifClrCounts_keeps (s : State) : Keeps s (execHifClrCounts s) :=
  .gate (hifClear_kept (.refl s))

theorem execNop_keeps (d : DescRef) (reservedZero : Bool) (s : State) : Keeps s (execNop d reservedZero s) :=
  .next (run_kept (.refl s) (hk := fun _ h => ite_kept (done_kept h ..) (fail_kept h ..)) ..)

theorem execEventRead_keeps (d : DescRef) (first addr : BitVec 64) (len : BitVec 32) (wait reservedZero : Bool) (s : State) :
    Keeps s (execEventRead d first addr len wait reservedZero s) :=
  .next (run_kept (.refl s) (hk := fun _ h => ite_kept (fail_kept h ..) (ite_kept (fail_kept h ..) (ite_kept
    (deliverEvents_kept h ..) (ite_kept (.upd (waitOutside_kept h ..) rfl) (deliverEvents_kept h ..))))) ..)

theorem execEventReadWake_keeps (s : State) : Keeps s (execEventReadWake s) := by
  unfold execEventReadWake
  split
  · exact .idle s
  · exact .ite (.next (deliverEvents_kept (.upd (.refl s) rfl) ..)) (.idle s)

theorem execEvtHeadLatchRead_keeps (s : State) : Keeps s (execEvtHeadLatchRead s) :=
  .gate (wr64_kept (.refl s) ..)

theorem execEvtOldestLatchRead_keeps (s : State) : Keeps s (execEvtOldestLatchRead s) :=
  .gate (wr64_kept (.refl s) ..)

theorem execSelfTestMarch_keeps (d : DescRef) (reservedZero : Bool) (s : State) : Keeps s (execSelfTestMarch d reservedZero s)
    :=
  .next (selfTestDesc_kept (.refl s) ..)

theorem execSelfTestLaneDelay_keeps (d : DescRef) (reservedZero : Bool) (s : State) : Keeps s (execSelfTestLaneDelay d
    reservedZero s) :=
  .next (selfTestDesc_kept (.refl s) ..)

theorem execSelfTestMramCrc_keeps (d : DescRef) (reservedZero : Bool) (s : State) : Keeps s (execSelfTestMramCrc d reservedZero
    s) :=
  .next (selfTestDesc_kept (.refl s) ..)

theorem execSelfTestComplete_keeps (a b : BitVec 32) (s : State) : Keeps s (execSelfTestComplete a b s) :=
  .gate (selfTestDone_kept (.refl s) ..)

theorem execCanFrameReceive_keeps (ctrl : Fin 6) (id : BitVec 29) (ide fdf brs : Bool) (data : List (BitVec 8)) (lead : Nat)
    (hkcTakes : Bool) (s : State) : Keeps s (execCanFrameReceive ctrl id ide fdf brs data lead hkcTakes s) :=
  .gate (canReceive_kept (.refl s) ..)

theorem execCanFrameSent_keeps (ctrl : Fin 6) (start : Bool) (s : State) : Keeps s (execCanFrameSent ctrl start s) :=
  .unless (ite_kept (canStartTx_kept (.refl s) ..) (canSent_kept (.refl s) ..))

theorem execCanTxDeadline_keeps (ctrl : Fin 6) (s : State) : Keeps s (execCanTxDeadline ctrl s) := by
  unfold execCanTxDeadline
  refine .unless (?_)
  split
  · exact .refl s
  · exact canExpire_kept (waitSite_kept (.refl s) ..) ..

theorem execCanBusError_keeps (ctrl : Fin 6) (kind : Fin 5) (s : State) : Keeps s (execCanBusError ctrl kind s) :=
  .gate (canError_kept (.refl s) ..)

theorem execCanSuspectExpire_keeps (ctrl : Fin 6) (s : State) : Keeps s (execCanSuspectExpire ctrl s) := by
  unfold execCanSuspectExpire
  refine .next (?_)
  split
  · exact .refl s
  · exact unsuspect_kept (waitTill_kept (.refl s) ..) ..

theorem execCanBusOn_keeps (ctrl : Fin 6) (s : State) : Keeps s (execCanBusOn ctrl s) :=
  .gate (canRecovered_kept (.refl s) ..)

theorem execCanRecoveryRequest_keeps (ctrl : Fin 6) (s : State) : Keeps s (execCanRecoveryRequest ctrl s) :=
  .gate (canRecReq_kept (.refl s) ..)

theorem execCanSleep_keeps (ctrl : Fin 6) (s : State) : Keeps s (execCanSleep ctrl s) :=
  .gate (ite_kept (wr_kept (.refl s) ..) (canSleep_kept (wr_kept (.refl s) ..) ..))

theorem execCanSleepExit_keeps (ctrl : Fin 6) (s : State) : Keeps s (execCanSleepExit ctrl s) :=
  .gate (canAwake_kept (wr_kept (.refl s) ..) ..)

theorem execCanRefMessage_keeps (ctrl : Fin 6) (s : State) : Keeps s (execCanRefMessage ctrl s) :=
  .gate (canRefMessage_kept (.refl s) ..)

theorem execCanUnblock_keeps (ctrl : Fin 6) (obj : Fin 128) (s : State) : Keeps s (execCanUnblock ctrl obj s) :=
  .gate (wr_kept (.refl s) ..)

theorem execCanClrCounts_keeps (ctrl : Fin 6) (s : State) : Keeps s (execCanClrCounts ctrl s) :=
  .gate (canClear_kept (.refl s) ..)

theorem execSend_keeps (d : DescRef) (argOk : Bool) (ctrl : BitVec 8) (obj : BitVec 16) (len : BitVec 8) (data : List (BitVec
    8)) (deadline : BitVec 64) (s : State) : Keeps s (execSend d argOk ctrl obj len data deadline s) :=
  .next (run_kept (.refl s) (hk := fun _ h => ite_kept (fail_kept h ..) (ite_kept (fail_kept h ..) (ite_kept (fail_kept h
    ..) (ite_kept (fail_kept h ..) (canRequest_kept h ..))))) ..)

theorem execRxPost_keeps (d : DescRef) (argOk : Bool) (len : BitVec 32) (addr : BitVec 64) (s : State) : Keeps s (execRxPost d
    argOk len addr s) :=
  .next (run_kept (.refl s) (hk := fun _ h => ite_kept (fail_kept h ..) (.upd (waitOutside_kept h ..) rfl)) ..)

theorem execConstraintWriteEnable_keeps (d : DescRef) (index : BitVec 16) (argOk : Bool) (e : EntryArg) (s : State) : Keeps s
    (execConstraintWriteEnable d index argOk e s) :=
  .next (edit_kept (.refl s) (hk := fun _ h => ite_kept (failEntry_kept h ..) (ite_kept (failEdit_kept h ..) (done_kept
    (setEntry_kept h ..) ..))) ..)

theorem execConstraintDisable_keeps (d : DescRef) (index : BitVec 16) (argOk : Bool) (s : State) : Keeps s
    (execConstraintDisable d index argOk s) :=
  .next (edit_kept (.refl s) (hk := fun _ h => ite_kept (failEdit_kept h ..) (done_kept (setEntry_kept h ..) ..)) ..)

theorem execConstraintStage_keeps (d : DescRef) (index : BitVec 16) (argOk : Bool) (e : EntryArg) (s : State) : Keeps s
    (execConstraintStage d index argOk e s) :=
  .next (edit_kept (.refl s) (hk := fun _ h => ite_kept (failEntry_kept h ..) (ite_kept (failEdit_kept h ..) (ite_kept
    (failEdit_kept h ..) (done_kept (.upd h rfl) ..)))) ..)

theorem execConstraintCommit_keeps (d : DescRef) (argOk : Bool) (s : State) : Keeps s (execConstraintCommit d argOk s) :=
  .next (edit_kept (.refl s) (hk := fun _ h => ite_kept (failEdit_kept h ..)
    (done_kept (foldl_kept (fun _ _ hu => setEntry_kept hu ..) (h.upd rfl)) ..)) ..)

theorem execConstraintDiscard_keeps (d : DescRef) (argOk : Bool) (s : State) : Keeps s (execConstraintDiscard d argOk s) :=
  .next (edit_kept (.refl s) (hk := fun _ h => done_kept (.upd h rfl) ..) ..)

theorem execConstraintRead_keeps (d : DescRef) (index : BitVec 16) (argOk : Bool) (addr : BitVec 64) (s : State) : Keeps s
    (execConstraintRead d index argOk addr s) :=
  .next (run_kept (.refl s) (hk := fun _ h => ite_kept (failEdit_kept h ..) (ite_kept (failEdit_kept h ..) (done_kept
    (emit_kept h ..) ..))) ..)

theorem execGroupWrite_keeps (n : Fin 64) (v : BitVec 32) (s : State) : Keeps s (execGroupWrite n v s) :=
  .gate (writeGroup_kept (.refl s) ..)

theorem execTickLenWrite_keeps (v : BitVec 32) (s : State) : Keeps s (execTickLenWrite v s) :=
  .gate (writeTickLen_kept (.refl s) ..)

theorem execMigrate_keeps (d : DescRef) (block port ramp : BitVec 16) (force reservedZero : Bool) (s : State) : Keeps s
    (execMigrate d block port ramp force reservedZero s) := by
  unfold execMigrate
  refine .next (run_kept (.refl s) (hk := fun u hu => ite_kept (fail_kept hu ..) (checkEntity_kept hu (hk := fun v hv => ?_)
    ..)) ..)
  have hgo (w : State) (hw : Kept s w) (x : Proposal) :
      Kept s (if w.glb.mode = .dormant || w.glb.mode = .commission then w.refuseMig x 0x0013
        else { w with con := { w.con with proposals := w.con.proposals ++ [x] } }) :=
    ite_kept (refuseMig_kept hw ..) (hw.upd rfl)
  exact ite_kept (hgo v hv _) (checkEntity_kept hv (hk := fun w hw => hgo w hw _) ..)

theorem execMigrationCheck_keeps (s : State) : Keeps s (execMigrationCheck s) :=
  .gate (checkProposal_kept (.refl s))

theorem execCapture_keeps (d : DescRef) (first : BitVec 32) (count : BitVec 16) (kind : Fin 3) (addr : BitVec 64) (len : BitVec
    32) (s : State) : Keeps s (execCapture d first count kind addr len s) :=
  .next (run_kept (.refl s) (hk := fun _ h => ite_kept (fail_kept h ..) (ite_kept (fail_kept h ..) (ite_kept (fail_kept h
    ..) (.upd h rfl)))) ..)

theorem execCaptureComplete_keeps (s : State) : Keeps s (execCaptureComplete s) := by
  unfold execCaptureComplete
  split
  · exact .idle s
  · exact .ite (.idle s) (.next (complete_kept (ite_kept (.upd (.refl s) rfl) (emit_kept (.upd (.refl s) rfl) ..)) ..))

theorem execAlpClrStage_keeps (s : State) : Keeps s (execAlpClrStage s) :=
  .gate (clearStages_kept (.refl s))

theorem execAlpClrCounts_keeps (s : State) : Keeps s (execAlpClrCounts s) :=
  .gate (clearAlpCounts_kept (.refl s))

theorem execAlpClrWhey_keeps (s : State) : Keeps s (execAlpClrWhey s) :=
  .gate (restartWhey_kept (.refl s))

theorem execPressCycleStart_keeps (s : State) : Keeps s (execPressCycleStart s) :=
  .gate (enterCycle_kept (waitSite_kept (.refl s) ..) ..)

theorem execPhaseSend_keeps (s : State) : Keeps s (execPhaseSend s) :=
  .gate (sendPhase_kept (.refl s))

theorem execPressControlSample_keeps (conv : Fin 4) (batI busV batV : BitVec 32) (s : State) : Keeps s (execPressControlSample
    conv batI busV batV s) :=
  .gate (controlSample_kept (.refl s) ..)

theorem execIlimAssert_keeps (phase : Fin 32) (s : State) : Keeps s (execIlimAssert phase s) :=
  .gate (ilim_kept (.refl s) ..)

theorem execSsRetryDelayExpire_keeps (conv : Fin 4) (s : State) : Keeps s (execSsRetryDelayExpire conv s) := by
  unfold execSsRetryDelayExpire
  refine .unless (?_)
  split
  · exact .refl s
  · exact armCv_kept (modCv_kept (waitTill_kept (.refl s) ..) ..) ..

theorem execRunningRetryClear_keeps (conv : Fin 4) (s : State) : Keeps s (execRunningRetryClear conv s) :=
  .gate (modCv_kept (waitTill_kept (.refl s) ..) ..)

theorem execZeroCurdSwitchOff_keeps (conv : Fin 4) (s : State) : Keeps s (execZeroCurdSwitchOff conv s) := by
  unfold execZeroCurdSwitchOff
  refine .unless (?_)
  split
  · exact .refl s
  · exact zeroOff_kept (waitTill_kept (.refl s) ..) ..

theorem execCceConnect_keeps (conv : Fin 4) (s : State) : Keeps s (execCceConnect conv s) :=
  .gate (connectCv_kept (.refl s) ..)

theorem execCceDisconnect_keeps (conv : Fin 4) (s : State) : Keeps s (execCceDisconnect conv s) :=
  .gate (disconnectCv_kept (.refl s) ..)

theorem execCceUnlatch_keeps (conv : Fin 4) (s : State) : Keeps s (execCceUnlatch conv s) :=
  .gate (unlatchCv_kept (.refl s) ..)

theorem execCceClrPeak_keeps (s : State) : Keeps s (execCceClrPeak s) :=
  .gate (clearCcePeaks_kept (.refl s))

theorem execCceClrCounts_keeps (s : State) : Keeps s (execCceClrCounts s) :=
  .gate (clearCceCounts_kept (.refl s))

theorem execLsbOnWrite_keeps (v : BitVec 32) (s : State) : Keeps s (execLsbOnWrite v s) :=
  .gate (hostLsbOn_kept (.refl s) ..)

theorem execLsbOnSet_keeps (v : BitVec 32) (s : State) : Keeps s (execLsbOnSet v s) :=
  .gate (hostLsbOn_kept (.refl s) ..)

theorem execLsbOnClr_keeps (v : BitVec 32) (s : State) : Keeps s (execLsbOnClr v s) :=
  .gate (hostLsbOn_kept (.refl s) ..)

theorem execLsbUnlock_keeps (v : BitVec 32) (s : State) : Keeps s (execLsbUnlock v s) :=
  .gate (unlockLsb_kept (.refl s) ..)

theorem execLsbClrCounts_keeps (s : State) : Keeps s (execLsbClrCounts s) :=
  .gate (clearLsbCounts_kept (.refl s))

theorem execLsbShort_keeps (sw : Fin 24) (s : State) : Keeps s (execLsbShort sw s) :=
  .gate (tripLsw_kept (.refl s) ..)

theorem execLsbOverload_keeps (sw : Fin 24) (s : State) : Keeps s (execLsbOverload sw s) :=
  .gate (tripLsw_kept (.refl s) ..)

theorem execLsbThermalTrip_keeps (sw : Fin 24) (s : State) : Keeps s (execLsbThermalTrip sw s) :=
  .next (thermLsw_kept (.refl s) ..)

theorem execLsbThermalRelease_keeps (sw : Fin 24) (s : State) : Keeps s (execLsbThermalRelease sw s) :=
  .next (thermEnd_kept (.refl s) ..)

theorem execLsbRetry_keeps (sw : Fin 24) (s : State) : Keeps s (execLsbRetry sw s) :=
  .next (retryLsw_kept (.refl s) ..)

theorem execLsbRetryClear_keeps (sw : Fin 24) (s : State) : Keeps s (execLsbRetryClear sw s) :=
  .gate (clearUsed_kept (waitTill_kept (.refl s) ..) ..)

theorem execLsbInrushEnd_keeps (sw : Fin 24) (s : State) : Keeps s (execLsbInrushEnd sw s) := by
  unfold execLsbInrushEnd
  refine .next (?_)
  split
  · exact .refl s
  · exact endInrush_kept (waitTill_kept (.refl s) ..) ..

theorem execVswUndervoltage_keeps (vsw : BitVec 16) (s : State) : Keeps s (execVswUndervoltage vsw s) :=
  .next (vswLow_kept (.refl s) ..)

theorem execVswHoldExpire_keeps (s : State) : Keeps s (execVswHoldExpire s) :=
  .next (vswOff_kept (.refl s))

theorem execVswRestored_keeps (vsw : BitVec 16) (s : State) : Keeps s (execVswRestored vsw s) :=
  .next (vswBack_kept (.refl s) ..)

theorem execMeteringSample_keeps (port : Fin 28) (lead : Nat) (codesV codesI : List (BitVec 24)) (s : State) : Keeps s
    (execMeteringSample port lead codesV codesI s) :=
  .unless (ite_kept (ite_kept (portSample_kept (.refl s) ..) (.refl s)) (auxSample_kept (.refl s) ..))

theorem execAcSample_keeps (point : Fin 2) (lead : Nat) (codesV codesI : List (List (BitVec 24))) (s : State) : Keeps s
    (execAcSample point lead codesV codesI s) :=
  .gate (acSample_kept (.refl s) ..)

theorem execAcWindowEnd_keeps (point : Fin 2) (w : AcWindow) (s : State) : Keeps s (execAcWindowEnd point w s) :=
  .gate (acWindow_kept (.refl s) ..)

theorem execAcFreq10Window_keeps (point : Fin 2) (f : BitVec 24) (s : State) : Keeps s (execAcFreq10Window point f s) :=
  .gate (holdFreq10_kept (waitSite_kept (.refl s) ..) ..)

theorem execIntervalBoundary_keeps (s : State) : Keeps s (execIntervalBoundary s) :=
  .gate (closeTo_kept (waitSite_kept (mark_kept (.refl s)) ..) ..)

theorem execMteCheckpoint_keeps (s : State) : Keeps s (execMteCheckpoint s) :=
  .gate (writeCkpt_kept (waitSite_kept (.refl s) ..))

theorem execModulatorStuck_keeps (chan : Fin 72) (s : State) : Keeps s (execModulatorStuck chan s) :=
  .gate (chanFault1_kept (.refl s) ..)

theorem execSinc3Overflow_keeps (chan : Fin 72) (s : State) : Keeps s (execSinc3Overflow chan s) :=
  .gate (chanFault1_kept (.refl s) ..)

theorem execModulatorRestored_keeps (chan : Fin 72) (s : State) : Keeps s (execModulatorRestored chan s) :=
  .gate (chanBack_kept (waitTill_kept (.refl s) ..) ..)

theorem execMteOverrange_keeps (chan : Fin 72) (full : Bool) (s : State) : Keeps s (execMteOverrange chan full s) :=
  .gate (overrange_kept (.refl s) ..)

theorem execRollLatchRead_keeps (entity : Fin 26) (s : State) : Keeps s (execRollLatchRead entity s) :=
  .gate (rollLatch_kept (.refl s) ..)

theorem execAcStatLatchRead_keeps (point : Fin 2) (s : State) : Keeps s (execAcStatLatchRead point s) :=
  .gate (acLatch_kept (.refl s) ..)

theorem execMteCapture_keeps (d : DescRef) (a : McapArg) (s : State) : Keeps s (execMteCapture d a s) :=
  .next (run_kept (.refl s) (hk := fun _ h => mteCapture_kept h ..) ..)

theorem execMteCaptureComplete_keeps (d : DescRef) (shift amps : BitVec 64) (s : State) : Keeps s (execMteCaptureComplete d
    shift amps s) := by
  unfold execMteCaptureComplete
  refine .unless (?_)
  split
  · exact .refl s
  · exact ite_kept (endMcap_kept (.refl s) ..) (.refl s)

theorem execRecordBuild_keeps (s : State) (cut : Option BuildCut) : Keeps s (execRecordBuild s cut) := by
  unfold execRecordBuild
  refine .gate (?_)
  split
  · exact buildRecord_kept (.refl s)
  · exact buildCut_kept (.refl s) ..

theorem execMramRefresh_keeps (bad : List MramPart) (s : State) : Keeps s (execMramRefresh bad s) :=
  .gate (mramDone_kept (waitCalendar_kept (.refl s) ..) ..)

theorem execExport_keeps (d : DescRef) (argOk : Bool) (addr : BitVec 64) (len : BitVec 32) (s : State) : Keeps s (execExport d
    argOk addr len s) :=
  .next (run_kept (.refl s) (hk := fun _ h => recArg_kept h (hk := fun _ h => recExport_kept h ..) ..) ..)

theorem execAck_keeps (d : DescRef) (argOk : Bool) (pos : BitVec 64) (s : State) : Keeps s (execAck d argOk pos s) :=
  .next (runWrite_kept (.refl s) (hk := fun _ h => recArg_kept h (hk := fun _ h => recAck_kept h ..) ..) ..)

theorem execRead_keeps (d : DescRef) (argOk : Bool) (addr : BitVec 64) (len : BitVec 32) (first : BitVec 64) (count : BitVec 32)
    (s : State) : Keeps s (execRead d argOk addr len first count s) :=
  .next (run_kept (.refl s) (hk := fun _ h => recArg_kept h (hk := fun _ h => recRead_kept h ..) ..) ..)

theorem execHeads_keeps (d : DescRef) (argOk : Bool) (addr : BitVec 64) (len : BitVec 32) (s : State) : Keeps s (execHeads d
    argOk addr len s) :=
  .next (run_kept (.refl s) (hk := fun _ h => recArg_kept h (hk := fun _ h => recHeads_kept h ..) ..) ..)

theorem execAttest_keeps (d : DescRef) (argOk : Bool) (addr : BitVec 64) (len : BitVec 32) (nonce : BitVec 128) (s : State) :
    Keeps s (execAttest d argOk addr len nonce s) :=
  .next (run_kept (.refl s) (hk := fun _ h => recArg_kept h (hk := fun _ h => recAttest_kept h ..) ..) ..)

theorem execKeyRoll_keeps (d : DescRef) (argOk : Bool) (len : BitVec 32) (target : BitVec 384) (s : State) (cut : Option
    RollCut) : Keeps s (execKeyRoll d argOk len target s cut) :=
  .next (runWrite_kept (.refl s) (hk := fun _ h => recArg_kept h (hk := fun _ h => keyRoll_kept h ..) ..) ..)

theorem execRollAbort_keeps (d : DescRef) (argOk : Bool) (s : State) : Keeps s (execRollAbort d argOk s) :=
  .next (runWrite_kept (.refl s) (hk := fun _ h => recArg_kept h (hk := fun _ h => done_kept (rollDone_kept (setKvt_kept h
    ..)) ..) ..) ..)

theorem execEnrol_keeps (d : DescRef) (argOk force : Bool) (s : State) : Keeps s (execEnrol d argOk force s) :=
  .next (runWrite_kept (.refl s) (hk := fun _ h => recArg_kept h (hk := fun _ h => enrol_kept h ..) ..) ..)

theorem execRebind_keeps (d : DescRef) (argOk : Bool) (s : State) : Keeps s (execRebind d argOk s) :=
  .next (runWrite_kept (.refl s) (hk := fun _ h => recArg_kept h (hk := fun _ h => rebind_kept h ..) ..) ..)

theorem execPubkey_keeps (d : DescRef) (argOk : Bool) (addr : BitVec 64) (len : BitVec 32) (s : State) : Keeps s (execPubkey d
    argOk addr len s) :=
  .next (run_kept (.refl s) (hk := fun _ h => recArg_kept h (hk := fun _ h => recPubkey_kept h ..) ..) ..)

theorem execCoulombSample_keeps (string : Fin 16) (code : BitVec 24) (s : State) : Keeps s (execCoulombSample string code s) :=
  .gate (coulomb_kept (.refl s) ..)

theorem execRestReference_keeps (string : Fin 16) (s : State) : Keeps s (execRestReference string s) := by
  unfold execRestReference
  refine .unless (?_)
  split
  · exact .refl s
  · exact restEnd_kept (waitTill_kept (.refl s) ..) ..

theorem execEocReference_keeps (string : Fin 16) (s : State) : Keeps s (execEocReference string s) := by
  unfold execEocReference
  refine .unless (?_)
  split
  · exact .refl s
  · exact eocPoint_kept (waitTill_kept (.refl s) ..) ..

theorem execEodClear_keeps (string : Fin 16) (s : State) : Keeps s (execEodClear string s) := by
  unfold execEodClear
  refine .unless (?_)
  split
  · exact eodEnd_kept (waitTill_kept (.refl s) ..) ..
  · exact .refl s

theorem execCoulombInputFault_keeps (string : Fin 16) (overflow : Bool) (s : State) : Keeps s (execCoulombInputFault string
    overflow s) :=
  .unless (seeShow_kept (ev_kept (modStr_kept (.refl s) ..) ..) ..)

theorem execCoulombInputRestored_keeps (string : Fin 16) (s : State) : Keeps s (execCoulombInputRestored string s) :=
  .unless (inputBack_kept (waitTill_kept (.refl s) ..) ..)

theorem execBmuStatusReceive_keeps (ctrl : Fin 6) (id : BitVec 29) (ide : Bool) (frame : List (BitVec 8)) (s : State) : Keeps s
    (execBmuStatusReceive ctrl id ide frame s) :=
  .gate (bmuFrame_kept (.refl s) ..)

theorem execBmuStale_keeps (string : Fin 16) (s : State) : Keeps s (execBmuStale string s) := by
  unfold execBmuStale
  refine .unless (?_)
  split
  · exact unitStale_kept (.refl s) ..
  · exact unitStale_kept (waitSite_kept (.refl s) ..) ..

theorem execAuthChallenge_keeps (obj : Fin 128) (s : State) : Keeps s (execAuthChallenge obj s) := by
  unfold execAuthChallenge
  refine .unless (?_)
  split
  · exact .refl s
  · exact challenge_kept (waitTill_kept (.refl s) ..) ..

theorem execAuthResponseReceive_keeps (ctrl : Fin 6) (id1 id2 : BitVec 29) (ide : Bool) (frame1 frame2 : List (BitVec 8)) (s :
    State) : Keeps s (execAuthResponseReceive ctrl id1 id2 ide frame1 frame2 s) := by
  unfold execAuthResponseReceive
  refine .next (?_)
  split
  · exact .refl s
  · exact ite_kept (authAnswer_kept (.refl s) ..) (.refl s)

theorem execAuthTimeout_keeps (s : State) : Keeps s (execAuthTimeout s) := by
  unfold execAuthTimeout
  refine .next (?_)
  split
  · exact .refl s
  · exact ite_kept (authFail_kept (waitTill_kept (.refl s) ..) ..) (.refl s)

theorem execSeeCommit_keeps (v : BitVec 32) (s : State) : Keeps s (execSeeCommit v s) :=
  .gate (seeCommit_kept (.refl s) ..)

theorem execSeeBufferReadComplete_keeps (readOk : Bool) (block : List (BitVec 8)) (s : State) : Keeps s
    (execSeeBufferReadComplete readOk block s) :=
  .gate (bufferRead_kept (.refl s) ..)

theorem execSave_keeps (d : DescRef) (argOk : Bool) (buffer : BitVec 8) (s : State) : Keeps s (execSave d argOk buffer s) :=
  .next (runWrite_kept (.refl s) (hk := fun _ h => ite_kept (fail_kept h ..) (ite_kept (fail_kept h ..) (done_kept (wr_kept
    (emit_kept h ..) ..) ..))) ..)

theorem execAuthKey_keeps (d : DescRef) (argOk : Bool) (string : BitVec 8) (key : List (BitVec 8)) (s : State) : Keeps s
    (execAuthKey d argOk string key s) :=
  .next (run_kept (.refl s) (hk := fun _ h => seeArg_kept h (hk := fun _ h => ite_kept (fail_kept h ..) (checkMode_kept h
    (hk := fun _ h => done_kept (.upd h rfl) ..) ..)) ..) ..)

theorem execAuthNow_keeps (d : DescRef) (argOk : Bool) (string : BitVec 8) (s : State) : Keeps s (execAuthNow d argOk string s)
    :=
  .next (run_kept (.refl s) (hk := fun _ h => seeArg_kept h (hk := fun _ h => done_kept (wantAuth_kept h ..) ..) ..) ..)

theorem execQcLatchRead_keeps (string : Fin 16) (s : State) : Keeps s (execQcLatchRead string s) :=
  .gate (wr_kept (.refl s) ..)

theorem execPilotPeriod_keeps (port : Fin 24) (high low : List (BitVec 16)) (s : State) : Keeps s (execPilotPeriod port high low
    s) :=
  .gate (pilotPeriod_kept (.refl s) ..)

theorem execPilotControlWrite_keeps (port : Fin 24) (v : BitVec 32) (s : State) : Keeps s (execPilotControlWrite port v s) :=
  .unless (ite_kept (pilotControl_kept (.refl s) ..) (gradeLimit_kept (.refl s) ..))

theorem execBeaconSend_keeps (port : Fin 24) (s : State) : Keeps s (execBeaconSend port s) :=
  .gate (beacon_kept (waitSite_kept (.refl s) ..) ..)

theorem execVehicleFrameReceive_keeps (port : Fin 24) (frame : List (BitVec 8)) (lead : Nat) (s : State) : Keeps s
    (execVehicleFrameReceive port frame lead s) :=
  .gate (vehicleFrame_kept (.refl s) ..)

theorem execUnicastFrameFail_keeps (port : Fin 24) (s : State) : Keeps s (execUnicastFrameFail port s) :=
  .gate (unicastFail_kept (.refl s) ..)

theorem execRoboRestore_keeps (port : Fin 24) (s : State) : Keeps s (execRoboRestore port s) :=
  .gate (roboOff_kept (waitTill_kept (.refl s) ..) ..)

theorem execImpulseEvent_keeps (port : Fin 24) (s : State) : Keeps s (execImpulseEvent port s) :=
  .gate (bump_kept (.refl s) ..)

theorem execSlacParmReq_keeps (port : Fin 24) (runId : BitVec 64) (s : State) : Keeps s (execSlacParmReq port runId s) := by
  unfold execSlacParmReq
  refine .unless (?_)
  split
  · exact slacAnswer_kept (.refl s) ..
  · split
    · exact .refl s
    · exact slacAnswer_kept (setRow_kept (.refl s) ..) ..

theorem execSlacSound_keeps (runId : BitVec 64) (atten : List (BitVec 16)) (s : State) : Keeps s (execSlacSound runId atten s)
    := by
  unfold execSlacSound
  refine .next (?_)
  split
  · exact .refl s
  · split
    · exact .refl s
    · exact ite_kept (.refl s) (setRow_kept (.refl s) ..)

theorem execSlacWindowClose_keeps (runId : BitVec 64) (s : State) : Keeps s (execSlacWindowClose runId s) := by
  unfold execSlacWindowClose
  refine .next (?_)
  split
  · exact .refl s
  · split
    · exact .refl s
    · exact ite_kept (.refl s) (slacClose_kept (.refl s) ..)

theorem execSlacRowFree_keeps (runId : BitVec 64) (s : State) : Keeps s (execSlacRowFree runId s) := by
  unfold execSlacRowFree
  refine .next (?_)
  split
  · exact .refl s
  · split
    · exact .refl s
    · exact ite_kept (setRow_kept (waitTill_kept (.refl s) ..) ..) (.refl s)

theorem execFrame_keeps (d : DescRef) (argOk : Bool) (len : BitVec 32) (data : List (BitVec 8)) (s : State) : Keeps s (execFrame
    d argOk len data s) :=
  .next (runTx_kept (.refl s) (hk := fun _ h => ite_kept (fail_kept h ..) (modPort_kept h ..)) ..)

theorem execFrameSent_keeps (port : Fin 24) (lead : Nat) (s : State) : Keeps s (execFrameSent port lead s) := by
  unfold execFrameSent
  refine .next (?_)
  split
  · exact .refl s
  · exact ite_kept (.refl s) (complete_kept (toVehicle_kept (modPort_kept (.refl s) ..) ..) ..)

theorem execFrameTxTimeout_keeps (port : Fin 24) (s : State) : Keeps s (execFrameTxTimeout port s) := by
  unfold execFrameTxTimeout
  refine .next (?_)
  split
  · exact .refl s
  · exact ite_kept (.refl s) (complete_kept (modPort_kept (waitTill_kept (.refl s) ..) ..) ..)

theorem execSessionStart_keeps (d : DescRef) (argOk : Bool) (evcc : BitVec 48) (maxV maxI maxP : BitVec 32) (contract : List
    (BitVec 8)) (s : State) : Keeps s (execSessionStart d argOk evcc maxV maxI maxP contract s) :=
  .next (run_kept (.refl s) (hk := fun _ h => checkMode_kept h (hk := fun _ h => ite_kept (fail_kept h ..) (ite_kept
    (fail_kept h ..) (ite_kept (fail_kept h ..) (ite_kept (fail_kept h ..) (ite_kept (fail_kept h ..) (ite_kept (fail_kept h
    ..) (ite_kept (fail_kept h ..) (done_kept (startSession_kept h ..) ..)))))))) ..) ..)

theorem execRequest_keeps (d : DescRef) (argOk : Bool) (reqI reqV reqP presentV : BitVec 32) (newI newV newP : BitVec 32) (s :
    State) : Keeps s (execRequest d argOk reqI reqV reqP presentV newI newV newP s) :=
  .next (runTx_kept (.refl s) (hk := fun _ h => ite_kept (fail_kept h ..) (ite_kept (fail_kept h ..) (ite_kept (fail_kept h ..)
    (done_kept (postRequest_kept (requestChecks_kept (requestTimed_kept h ..) ..) ..) ..)))) ..)

theorem execSessionEnd_keeps (d : DescRef) (argOk : Bool) (reason : BitVec 8) (s : State) : Keeps s (execSessionEnd d argOk
    reason s) :=
  .next (runTx_kept (.refl s) (hk := fun _ h => ite_kept (fail_kept h ..) (ite_kept (fail_kept h ..) (reportStart_kept
    (modPort_kept (guardExit_kept h ..) ..) ..))) ..)

theorem execReport_keeps (d : DescRef) (argOk : Bool) (cls cause : BitVec 8) (s : State) : Keeps s (execReport d argOk cls cause
    s) :=
  .next (runTx_kept (.refl s) (hk := fun _ h => ite_kept (fail_kept h ..) (ite_kept (done_kept (classC_kept h ..) ..)
    (ite_kept (done_kept (classB_kept h ..) ..) (done_kept (violate_kept h ..) ..)))) ..)

theorem execPortRx_keeps (d : DescRef) (argOk : Bool) (len : BitVec 32) (addr : BitVec 64) (s : State) : Keeps s (execPortRx d
    argOk len addr s) := by
  unfold execPortRx
  refine .next (run_kept (.refl s) (hk := fun u h => ite_kept (fail_kept h ..) ?_) ..)
  have hpost := modPort_kept (waitOutside_kept h d) (d.ring.val - 24) (fun x => { x with rx := x.rx ++ [(d.ring.val,
    d.idx.toNat, addr.toNat)] })
  dsimp only
  split
  · exact fillBuffer_kept (modPort_kept hpost ..) ..
  · exact hpost

theorem execSessionTimeout_keeps (port : Fin 24) (s : State) : Keeps s (execSessionTimeout port s) :=
  .gate (classC_kept (waitTill_kept (.refl s) ..) ..)

theorem execCooloffEnd_keeps (port : Fin 24) (s : State) : Keeps s (execCooloffEnd port s) := by
  unfold execCooloffEnd
  refine .next (?_)
  split
  · exact .refl s
  · exact ite_kept (.refl s) (coolDone_kept (waitTill_kept (.refl s) ..) ..)

theorem execPluClrCounts_keeps (port : Fin 24) (s : State) : Keeps s (execPluClrCounts port s) :=
  .unless (ite_kept (pluClear_kept (.refl s) ..) (gradeLimit_kept (.refl s) ..))

theorem execHkaSlotConversion_keeps (value : BitVec 32) (pin : BitVec 16) (s : State) : Keeps s (execHkaSlotConversion value pin
    s) :=
  .gate (hkaSlot_kept (.refl s) ..)

theorem execSlowRoundStart_keeps (s : State) : Keeps s (execSlowRoundStart s) :=
  .gate (ite_kept (slowStart_kept (waitSite_kept (.refl s) ..)) (slowStart_kept (waitTill_kept (.refl s) ..)))

theorem execThmClrPeak_keeps (s : State) : Keeps s (execThmClrPeak s) :=
  .gate (clearDiePeaks_kept (.refl s))

theorem execSupplyRise_keeps (sup : SupplyName) (good : Bool) (s : State) : Keeps s (execSupplyRise sup good s) :=
  .next (ite_kept (supplyGood_kept (ite_kept (.refl s) (supplyAbove_kept (.refl s) ..)) ..) (ite_kept (.refl s)
    (supplyAbove_kept (.refl s) ..)))

theorem execSupplyFall_keeps (sup : SupplyName) (belowOff : Bool) (s : State) : Keeps s (execSupplyFall sup belowOff s) :=
  .next (ite_kept (supplyOff_kept (ite_kept (supplyLow_kept (.refl s) ..) (.refl s)) ..) (ite_kept (supplyLow_kept (.refl s)
    ..) (.refl s)))

theorem execSequenceWindowExpire_keeps (s : State) : Keeps s (execSequenceWindowExpire s) := by
  unfold execSequenceWindowExpire
  split
  · exact .idle s
  · exact .next (violation_kept (waitTill_kept (.refl s) ..) ..)

theorem execPwrEnReassert_keeps (s : State) : Keeps s (execPwrEnReassert s) := by
  unfold execPwrEnReassert
  split
  · exact .idle s
  · exact .ite (.idle s) (.next (.upd (waitTill_kept (.refl s) ..) rfl))

theorem execBrownoutWarning_keeps (s : State) : Keeps s (execBrownoutWarning s) := by
  have hwarn : Kept s (({ s with glb := { s.glb with brownAt := some s.now, brownOver := false } } : State).wr
    GLB_PWR_STAT.BROWNOUT 1) :=
    wr_kept (.upd (.refl s) (by rfl)) ..
  exact .ite (.idle s) (.next (ite_kept (seeReadFail_kept hwarn ..) hwarn))

theorem execBrownoutReset_keeps (s : State) : Keeps s (execBrownoutReset s) :=
  .gate (coreReset_kept (.refl s))

theorem execResetNAssert_keeps (s : State) : Keeps s (execResetNAssert s) :=
  .ite (.idle s) (.next (.upd (mainReset_kept (wr_kept (goingDown_kept (.refl s) ..) ..)) rfl))

theorem execResetNStuck_keeps (s : State) : Keeps s (execResetNStuck s) := by
  unfold execResetNStuck
  split
  · exact .idle s
  · exact .ite (.idle s) (.next (.upd (waitTill_kept (.refl s) ..) rfl))

theorem execTwinAliveLatch_keeps (s : State) : Keeps s (execTwinAliveLatch s) := by
  unfold execTwinAliveLatch
  split
  · exact .idle s
  · exact .ite (.idle s) (.next (wr_kept (.upd (waitTill_kept (.refl s) ..) (by rfl)) ..))

theorem execResetNRelease_keeps (s : State) : Keeps s (execResetNRelease s) := by
  unfold execResetNRelease
  refine .ite (.idle s) (.next (Kept.upd (s := if s.glb.stuck then _ else s) (ite_kept ?_ (.refl s)) (by rfl)))
  exact (wr_kept (Kept.refl s) _ _).keep

theorem execGlbSwrst_keeps (v : BitVec 32) (s : State) : Keeps s (execGlbSwrst v s) :=
  .gate (swrst_kept (.refl s) ..)

theorem execRindSelftestComplete_keeps (s : State) : Keeps s (execRindSelftestComplete s) :=
  .ite (.idle s) (.next (wr_kept (wr_kept (wr_kept (.upd (.refl s) (by rfl)) ..) ..) ..))

theorem execBootComplete_keeps (rootTries : Fin 6) (badBits : BitVec 16) (meas : List (BitVec 8) × List (BitVec 8)) (s : State)
    (bad : List MramPart) : Keeps s (execBootComplete rootTries badBits meas s bad) :=
  .gate (boot_kept (.refl s) ..)

theorem execWakeInEdge_keeps (s : State) : Keeps s (execWakeInEdge s) :=
  .gate (wake_kept (.refl s) ..)

theorem execRtcAlarm_keeps (s : State) : Keeps s (execRtcAlarm s) :=
  .ite (.idle s) (.next (wake_kept (wr_kept (waitTill_kept (.refl s) ..) ..) ..))

theorem execCanWake_keeps (can4 : Bool) (frame : Option (BitVec 29 × Bool × BitVec 8)) (s : State) : Keeps s (execCanWake can4
    frame s) :=
  .gate (wake_kept (.refl s) ..)

theorem execPwrEnOff_keeps (s : State) : Keeps s (execPwrEnOff s) :=
  .gate (.upd (.refl s) rfl)

theorem execRefLoss_keeps (s : State) : Keeps s (execRefLoss s) :=
  .gate (refFault_kept (.refl s) ..)

theorem execPllUnlock_keeps (memory : Bool) (s : State) : Keeps s (execPllUnlock memory s) :=
  .gate (refFault_kept (.refl s) ..)

theorem execRefRestored_keeps (s : State) : Keeps s (execRefRestored s) := by
  unfold execRefRestored
  split
  · exact .idle s
  · exact .next (.upd (ite_kept (ev_kept (waitTill_kept (.refl s) ..) ..) (ev_kept (waitTill_kept (.refl s) ..) ..)) rfl)

theorem execSafCheckWindow_keeps (count : Nat) (s : State) : Keeps s (execSafCheckWindow count s) :=
  .ite (.idle s) (.ite (.next (evS_kept (.upd (ite_kept (wrS_kept (.upd (.refl s) rfl) ..) (.upd (.refl s) rfl)) rfl) ..))
    (.ite (.next (.upd (ite_kept (wrS_kept (.upd (.refl s) rfl) ..) (.upd (.refl s) rfl)) rfl)) (.next (ite_kept (wrS_kept
    (.upd (.refl s) rfl) ..) (.upd (.refl s) rfl)))))

theorem execDieSensorRead_keeps (temps : List (BitVec 16)) (s : State) : Keeps s (execDieSensorRead temps s) := by
  unfold execDieSensorRead
  refine .ite (.idle s) ?_
  dsimp only
  split
  · exact .next (.upd (.refl s) rfl)
  · have hread (l : List Int) (x : Thm) :
        Kept s (((List.range 12).zip l).foldl (fun (a : State) x => a.dieReading x.1 x.2) { s with thm := x }) :=
      foldl_kept (fun _ _ h => dieReading_kept h ..) (.upd (.refl s) rfl)
    exact .ite (.idle s) (.next (ite_kept (dieTripped_kept (hread _ _) ..) (hread _ _)))

theorem execDieTripRelease_keeps (s : State) : Keeps s (execDieTripRelease s) := by
  unfold execDieTripRelease
  split
  · exact .next (dieRelease_kept (waitTill_kept (.refl s) ..) ..)
  · exact .idle s

theorem execDeltaSend_keeps (s : State) : Keeps s (execDeltaSend s) :=
  .gate (sendDelta_kept (.refl s))

theorem execSnapReceive_keeps (h : TwinHead) (part : BitVec 8) (tick cmp : BitVec 32) (data : List (BitVec 8)) (s : State) :
    Keeps s (execSnapReceive h part tick cmp data s) :=
  .gate (twinWatch_kept (twinTake_kept (.refl s) (hk := fun _ h => snapRx_kept h ..) ..))

theorem execDeltaReceive_keeps (h : TwinHead) (f : DeltaFrame) (s : State) : Keeps s (execDeltaReceive h f s) :=
  .gate (twinWatch_kept (twinTake_kept (.refl s) (hk := fun _ h => deltaRx_kept h ..) ..))

theorem execDeltaTimeout_keeps (s : State) : Keeps s (execDeltaTimeout s) :=
  .ite (.idle s) (.next (breakRun_kept (waitSite_kept (.refl s) ..)))

theorem execEpochChunkReceive_keeps (h : TwinHead) (f : ChunkFrame) (s : State) : Keeps s (execEpochChunkReceive h f s) :=
  .gate (twinTake_kept (.refl s) (hk := fun _ h => chunkRx_kept h ..) ..)

theorem execEpochCommitReceive_keeps (h : TwinHead) (f : CommitFrame) (s : State) : Keeps s (execEpochCommitReceive h f s) :=
  .gate (twinWatch_kept (twinTake_kept (.refl s) (hk := fun _ h => commitRx_kept h ..) ..))

theorem execEpochCommitTimeout_keeps (s : State) : Keeps s (execEpochCommitTimeout s) := by
  unfold execEpochCommitTimeout
  split
  · exact .idle s
  · exact .gate (dropCopy_kept (waitSite_kept (.refl s) ..) ..)

theorem execHealthSend_keeps (s : State) : Keeps s (execHealthSend s) :=
  .ite (.idle s) (.next (healthOut_kept (waitSite_kept (.refl s) ..) ..))

theorem execHealthReceive_keeps (h : TwinHead) (words : List (BitVec 32)) (s : State) : Keeps s (execHealthReceive h words s) :=
  .ite (.idle s) (.next (ite_kept (healthRx_kept (twinRx_kept (.refl s) ..) ..) (twinRx_kept (.refl s) ..)))

theorem execHealthTimeout_keeps (s : State) : Keeps s (execHealthTimeout s) := by
  unfold execHealthTimeout
  split
  · exact .idle s
  · exact .ite (.idle s) (.next (healthLost_kept (waitTill_kept (.refl s) ..)))

theorem execGoingDownReceive_keeps (h : TwinHead) (cause : BitVec 8) (_tick : BitVec 32) (s : State) : Keeps s
    (execGoingDownReceive h cause _tick s) :=
  .gate (twinTake_kept (.refl s) (hk := fun _ h => ite_kept (tryPromote_kept (ev_kept h ..) ..) (ev_kept h ..)) ..)

theorem execPromote_keeps (d : DescRef) (reservedZero : Bool) (s : State) : Keeps s (execPromote d reservedZero s) :=
  .next (run_kept (.refl s) (hk := fun _ h => checkMode_kept h (hk := fun _ h => ite_kept (fail_kept (tryPromote_kept h ..)
    ..) (ite_kept (fail_kept h ..) (done_kept (promote_kept h ..) ..))) ..) ..)

theorem execGlbTwinResync_keeps (v : BitVec 32) (s : State) : Keeps s (execGlbTwinResync v s) :=
  .gate (resync_kept (.refl s) ..)

theorem execMemoryMarchStep_keeps (corrected : BitVec 16) (uncorrectable : Bool) (s : State) : Keeps s (execMemoryMarchStep
    corrected uncorrectable s) :=
  .ite (.idle s) (.next (twinWatch_kept (march_kept (waitTill_kept (.refl s) ..) ..)))

theorem execSetpointSend_keeps (copy : Fin 2) (s : State) : Keeps s (execSetpointSend copy s) :=
  .gate (sendSetpoints_kept (.refl s) ..)

theorem execSlowLoadSend_keeps (s : State) : Keeps s (execSlowLoadSend s) :=
  .gate (sendSlow_kept (.refl s))

theorem execStatusFrameReceive_keeps (lane : Fin 12) (fseq : BitVec 16) (f : StatusFrame) (s : State) : Keeps s
    (execStatusFrameReceive lane fseq f s) :=
  .gate (statusRx_kept (.refl s) ..)

theorem execPhaseStatusReceive_keeps (lane : Fin 12) (fseq : BitVec 16) (f : PhaseStatus) (s : State) : Keeps s
    (execPhaseStatusReceive lane fseq f s) :=
  .gate (phaseRx_kept (.refl s) ..)

theorem execSlowNodeStatusReceive_keeps (slot : Fin 16) (code : BitVec 16) (follow _seqApplied : BitVec 32) (s : State) : Keeps
    s (execSlowNodeStatusReceive slot code follow _seqApplied s) :=
  .gate (slowRx_kept (.refl s) ..)

theorem execLchClrCounts_keeps (s : State) : Keeps s (execLchClrCounts s) :=
  .gate (clearLch_kept (.refl s))

theorem execSerialPllUnlock_keeps (dreak : Bool) (s : State) : Keeps s (execSerialPllUnlock dreak s) :=
  .next (onLane_kept (.refl s) (hk := fun _ h => ite_kept h (serialUnlock_kept h ..)) ..)

theorem execSerialPllLock_keeps (dreak : Bool) (s : State) : Keeps s (execSerialPllLock dreak s) :=
  .next (onLane_kept (.refl s) (hk := fun _ h => ite_kept h (serialLock_kept h ..)) ..)

theorem execLaneDetectTest_keeps (lane : Fin 14) (found : Bool) (s : State) : Keeps s (execLaneDetectTest lane found s) :=
  .next (onLane_kept (.refl s) (hk := fun _ h => detectTest_kept h ..) ..)

theorem execLaneTrainComplete_keeps (lane : Fin 14) (inverted : Bool) (ctle : BitVec 8) (dfe : BitVec 40) (s : State) : Keeps s
    (execLaneTrainComplete lane inverted ctle dfe s) :=
  .next (onLane_kept (.refl s) (hk := fun _ h => trainDone_kept h ..) ..)

theorem execLaneBringupTimeout_keeps (lane : Fin 14) (s : State) : Keeps s (execLaneBringupTimeout lane s) :=
  .next (onLane_kept (.refl s) (hk := fun _ h => bringupTimeout_kept h ..) ..)

theorem execCapsResend_keeps (lane : Fin 14) (s : State) : Keeps s (execCapsResend lane s) :=
  .next (onLane_kept (.refl s) (hk := fun _ h => resendCaps_kept h ..) ..)

theorem execCapsFrameReceive_keeps (lane : Fin 14) (fseq : BitVec 16) (f : CapsFrame) (s : State) : Keeps s
    (execCapsFrameReceive lane fseq f s) :=
  .next (onLane_kept (.refl s) (hk := fun _ h => capsFrame_kept h ..) ..)

theorem execDelayMeasurementStart_keeps (lane : Fin 12) (s : State) : Keeps s (execDelayMeasurementStart lane s) :=
  .next (onLane_kept (.refl s) (hk := fun _ h => measStart_kept h ..) ..)

theorem execDlyReqSend_keeps (lane : Fin 14) (s : State) : Keeps s (execDlyReqSend lane s) :=
  .next (onLane_kept (.refl s) (hk := fun _ h => sendReq_kept h ..) ..)

theorem execDlyReqReceive_keeps (lane : Fin 2) (fseq : BitVec 16) (xid : BitVec 16) (wait : Nat) (s : State) : Keeps s
    (execDlyReqReceive lane fseq xid wait s) :=
  .next (onLane_kept (.refl s) (hk := fun _ h => ite_kept (answerReq_kept (laneRx_kept h ..) ..) h) ..)

theorem execDlyRespReceive_keeps (lane : Fin 14) (fseq : BitVec 16) (xid : BitVec 16) (t2Ns : BitVec 32) (t2Frac : BitVec 16)
    (t3Ns : BitVec 32) (t3Frac : BitVec 16) (s : State) : Keeps s (execDlyRespReceive lane fseq xid t2Ns t2Frac t3Ns t3Frac s)
    :=
  .next (onLane_kept (.refl s) (hk := fun _ h => ite_kept (respRx_kept (laneRx_kept h ..) ..) h) ..)

theorem execDelayMeasurementComplete_keeps (lane : Fin 14) (s : State) : Keeps s (execDelayMeasurementComplete lane s) :=
  .next (onLane_kept (.refl s) (hk := fun _ h => measDone_kept h ..) ..)

theorem execTimeFrameSend_keeps (lane : Fin 12) (s : State) : Keeps s (execTimeFrameSend lane s) :=
  .next (onLane_kept (.refl s) (hk := fun _ h => ite_kept (sendTime_kept (waitTill_kept h ..) ..) h) ..)

theorem execAliveSend_keeps (lane : Fin 14) (s : State) : Keeps s (execAliveSend lane s) :=
  .next (onLane_kept (.refl s) (hk := fun _ h => sendAlive_kept h ..) ..)

theorem execAliveReceive_keeps (lane : Fin 14) (fseq : BitVec 16) (s : State) : Keeps s (execAliveReceive lane fseq s) :=
  .next (onLane_kept (.refl s) (hk := fun _ h => ite_kept (laneRx_kept h ..) h) ..)

theorem execLaneFrameInvalid_keeps (lane : Fin 14) (blocks : List LaneBlock) (s : State) : Keeps s (execLaneFrameInvalid lane
    blocks s) :=
  .next (onLane_kept (.refl s) (hk := fun _ h => badFrame_kept h ..) ..)

theorem execLaneErrorLimit_keeps (lane : Fin 14) (s : State) : Keeps s (execLaneErrorLimit lane s) :=
  .next (onLane_kept (.refl s) (hk := fun _ h => errorLimit_kept h ..) ..)

theorem execLaneBlockLockLoss_keeps (lane : Fin 14) (s : State) : Keeps s (execLaneBlockLockLoss lane s) :=
  .next (onLane_kept (.refl s) (hk := fun _ h => lockLoss_kept h ..) ..)

theorem execLaneFrameTimeout_keeps (lane : Fin 14) (s : State) : Keeps s (execLaneFrameTimeout lane s) :=
  .next (onLane_kept (.refl s) (hk := fun _ h => frameTimeout_kept h ..) ..)

theorem execLaneSignalLoss_keeps (lane : Fin 14) (s : State) : Keeps s (execLaneSignalLoss lane s) :=
  .next (onLane_kept (.refl s) (hk := fun _ h => signalLoss_kept h ..) ..)

theorem execLaneSignalDetect_keeps (lane : Fin 14) (s : State) : Keeps s (execLaneSignalDetect lane s) :=
  .next (onLane_kept (.refl s) (hk := fun _ h => signalDetect_kept h ..) ..)

theorem execLaneRetrain_keeps (lane : Fin 14) (s : State) : Keeps s (execLaneRetrain lane s) :=
  .next (laneCtl_kept (.refl s) (hk := fun _ h => laneDown_kept h ..) ..)

theorem execLaneLpUp_keeps (lane : Fin 14) (s : State) : Keeps s (execLaneLpUp lane s) :=
  .next (laneCtl_kept (.refl s) (hk := fun _ h => lpUp_kept h ..) ..)

theorem execLaneLpIdle_keeps (lane : Fin 14) (s : State) : Keeps s (execLaneLpIdle lane s) :=
  .next (laneCtl_kept (.refl s) (hk := fun _ h => lpLow_kept h ..) ..)

theorem execLaneLpDeep_keeps (lane : Fin 14) (s : State) : Keeps s (execLaneLpDeep lane s) :=
  .next (laneCtl_kept (.refl s) (hk := fun _ h => lpLow_kept h ..) ..)

theorem execLaneLpOff_keeps (lane : Fin 14) (s : State) : Keeps s (execLaneLpOff lane s) :=
  .next (laneCtl_kept (.refl s) (hk := fun _ h => lpOff_kept h ..) ..)

theorem execLpReqReceive_keeps (lane : Fin 2) (fseq : BitVec 16) (target : BitVec 8) (s : State) : Keeps s (execLpReqReceive
    lane fseq target s) :=
  .next (onLane_kept (.refl s) (hk := fun _ h => ite_kept (lpReqRx_kept (laneRx_kept h ..) ..) h) ..)

theorem execLpAckReceive_keeps (lane : Fin 14) (fseq : BitVec 16) (target : BitVec 8) (s : State) : Keeps s (execLpAckReceive
    lane fseq target s) :=
  .next (onLane_kept (.refl s) (hk := fun _ h => ite_kept (lpAck_kept (laneRx_kept h ..) ..) h) ..)

theorem execClcClrCounts_keeps (s : State) : Keeps s (execClcClrCounts s) :=
  .gate (clearClc_kept (.refl s))

theorem execDlcClrCounts_keeps (s : State) : Keeps s (execDlcClrCounts s) :=
  .gate (clearDlc_kept (.refl s))

theorem execEyeScan_keeps (d : DescRef) (a : ScanArg) (s : State) : Keeps s (execEyeScan d a s) :=
  .next (run_kept (.refl s) (hk := fun _ h => askScan_kept h ..) ..)

theorem execEyeScanComplete_keeps (lane : Fin 14) (counts : List (BitVec 32)) (s : State) : Keeps s (execEyeScanComplete lane
    counts s) :=
  .next (onLane_kept (.refl s) (hk := fun _ h => scanDone_kept h ..) ..)

theorem execModeReqDormant_keeps (key : BitVec 8) (s : State) : Keeps s (execModeReqDormant key s) :=
  .next (request_kept (.refl s) (hk := fun _ h => requestDormant_kept h) ..)

theorem execModeReqCommission_keeps (key : BitVec 8) (s : State) : Keeps s (execModeReqCommission key s) :=
  .next (request_kept (.refl s) (hk := fun _ h => requestCommission_kept h) ..)

theorem execModeReqActive_keeps (key : BitVec 8) (seeCold : Bool) (s : State) : Keeps s (execModeReqActive key seeCold s) :=
  .next (request_kept (.refl s) (hk := fun _ h => requestRun_kept h ..) ..)

theorem execModeReqShadow_keeps (key : BitVec 8) (seeCold : Bool) (s : State) : Keeps s (execModeReqShadow key seeCold s) :=
  .next (request_kept (.refl s) (hk := fun _ h => twinWatch_kept (requestRun_kept h ..)) ..)

theorem execModeReqLimp_keeps (key : BitVec 8) (s : State) : Keeps s (execModeReqLimp key s) :=
  .next (request_kept (.refl s) (hk := fun _ h => requestLimp_kept h) ..)

theorem execModeReqHalt_keeps (key : BitVec 8) (s : State) : Keeps s (execModeReqHalt key s) :=
  .next (request_kept (.refl s) (hk := fun _ h => requestHalt_kept h) ..)

theorem execLimpEntry_keeps (s : State) : Keeps s (execLimpEntry s) :=
  .gate (limpNow_kept (waitSite_kept (.refl s) ..))

theorem execHostKick_keeps (_v : BitVec 32) (s : State) : Keeps s (execHostKick _v s) :=
  .gate (twinWatch_kept (kick_kept (.refl s)))

theorem execHostWatchdogExpire_keeps (s : State) : Keeps s (execHostWatchdogExpire s) :=
  .gate (twinWatch_kept (wdogExpire_kept (waitTill_kept (.refl s) ..)))

theorem execBrownoutRideExpire_keeps (s : State) : Keeps s (execBrownoutRideExpire s) := by
  unfold execBrownoutRideExpire
  split
  · exact .idle s
  · exact .unless (rideOver_kept (.refl s) ..)

theorem execBrownoutRecovered_keeps (below : BitVec 32) (s : State) : Keeps s (execBrownoutRecovered below s) := by
  unfold execBrownoutRecovered
  split
  · exact .idle s
  · exact .next (twinWatch_kept (.upd (ite_kept (waitTill_kept (ite_kept (rideOver_kept (.refl s) ..) (.refl s)) ..)
      (ev_kept (waitTill_kept (ite_kept (rideOver_kept (.refl s) ..) (.refl s)) ..) ..)) rfl))

theorem execRindCycle_keeps (x : RindIn) (s : State) : Keeps s (execRindCycle x s) :=
  .gate (rindEffects_kept (rindCycle_kept (.refl s) ..))

theorem execHeartbeatReceive_keeps (s : State) : Keeps s (execHeartbeatReceive s) := by
  unfold execHeartbeatReceive
  split
  · exact .idle s
  · exact .next (ite_kept (heartbeat_kept (.upd (.refl s) rfl) ..) (.upd (.refl s) rfl))

theorem execHeartbeatLoss_keeps (s : State) : Keeps s (execHeartbeatLoss s) :=
  .ite (.idle s) (.next (hbLost_kept (waitTill_kept (.refl s) ..)))

theorem execSafeGraceExpire_keeps (s : State) : Keeps s (execSafeGraceExpire s) := by
  unfold execSafeGraceExpire
  refine .ite (.idle s) (.ite (.next (rindActs_kept (graceCheck_kept (waitTill_kept (.refl s) ..)))) (?_))
  split
  · exact .idle s
  · exact .unless (rindActs_kept (haltCheck_kept (waitTill_kept (.refl s) ..) ..))

theorem execSafetyFunctionTimeExpire_keeps (which : Fin 5) (idx : Fin 32) (s : State) : Keeps s (execSafetyFunctionTimeExpire
    which idx s) :=
  .unless (ite_kept (offConfirm_kept (.refl s) ..) (functionExpire_kept (.refl s) ..))

theorem execC1GraceExpire_keeps (s : State) : Keeps s (execC1GraceExpire s) := by
  unfold execC1GraceExpire
  split
  · exact .idle s
  · exact .gate (rindActs_kept (waitTill_kept (.refl s) ..))

theorem execDiscrepancyTimeout_keeps (pair : Fin 8) (s : State) : Keeps s (execDiscrepancyTimeout pair s) := by
  unfold execDiscrepancyTimeout
  dsimp only
  split
  · exact .idle s
  · exact .ite (.idle s) (.next (discExpire_kept (waitTill_kept (.refl s) ..) ..))

theorem execTestPulse_keeps (source : Bool) (follows : BitVec 16) (soRead : BitVec 8) (stuck : Bool) (s : State) : Keeps s
    (execTestPulse source follows soRead stuck s) :=
  .gate (testPulse_kept (pulseAt_kept (.refl s) ..) ..)

theorem execEdmTimeout_keeps (out : Fin 8) (s : State) : Keeps s (execEdmTimeout out s) := by
  unfold execEdmTimeout
  split
  · exact .idle s
  · exact .ite (.idle s) (.next (rindActs_kept (soFault_kept (waitTill_kept (.refl s) ..) ..)))

theorem execRelayHoldTake_keeps (s : State) : Keeps s (execRelayHoldTake s) := by
  unfold execRelayHoldTake
  refine .ite (.idle s) (.ite (.next (mirror_kept (setHold_kept (.refl s) ..))) (?_))
  split
  · exact .idle s
  · exact .next (mirror_kept (setHold_kept (waitTill_kept (.refl s) ..) ..))

theorem execTwinAliveChange_keeps (level : Bool) (s : State) : Keeps s (execTwinAliveChange level s) :=
  .ite (.next (.upd (.refl s) rfl)) (.ite (.next (twinWatch_kept (mirror_kept (.upd (.refl s) rfl)))) (.ite (.next
    (aliveUp_kept (waitTill_kept (.refl s) ..))) (.next (.upd (.refl s) rfl))))

theorem execSoelaoneSend_keeps (conn : Fin 8) (s : State) : Keeps s (execSoelaoneSend conn s) := by
  unfold execSoelaoneSend
  refine .ite (.idle s) (.next (connSend_kept ?_ ..))
  split
  · exact .refl s
  · exact waitTill_kept (.refl s) ..

theorem execSoelaoneReceive_keeps (frame : List (BitVec 8)) (s : State) : Keeps s (execSoelaoneReceive frame s) := by
  unfold execSoelaoneReceive
  dsimp only
  split
  · exact .idle s
  · exact .gate (rindActs_kept (connReceive_kept (.refl s) ..))

theorem execSoelaoneTimeout_keeps (conn : Fin 8) (s : State) : Keeps s (execSoelaoneTimeout conn s) :=
  .ite (.idle s) (.next (rindActs_kept (connFault_kept (waitTill_kept (.refl s) ..) ..)))

theorem execSfiPdataWrite_keeps (v : BitVec 32) (s : State) : Keeps s (execSfiPdataWrite v s) :=
  .gate (pdataWrite_kept (.refl s) ..)

theorem execSfiPdataRead_keeps (s : State) : Keeps s (execSfiPdataRead s) :=
  .gate (wr_kept (wr_kept (.refl s) ..) ..)

theorem execSfiCvReq_keeps (v : BitVec 32) (s : State) : Keeps s (execSfiCvReq v s) :=
  .gate (cvReq_kept (.refl s) ..)

theorem execCvComputeComplete_keeps (s : State) : Keeps s (execCvComputeComplete s) :=
  .gate (cvDone_kept (.refl s))

theorem execSfiConfirm_keeps (v : BitVec 32) (s : State) : Keeps s (execSfiConfirm v s) :=
  .gate (confirm_kept (.refl s) ..)

theorem execConfirmTimeout_keeps (s : State) : Keeps s (execConfirmTimeout s) := by
  unfold execConfirmTimeout
  split
  · exact .idle s
  · exact .gate (paramRefuse_kept (waitTill_kept (.refl s) ..) ..)

theorem execSfiPwdCmd_keeps (v : BitVec 32) (s : State) : Keeps s (execSfiPwdCmd v s) :=
  .gate (setPassword_kept (.refl s) ..)

theorem execPasswordLockoutEnd_keeps (s : State) : Keeps s (execPasswordLockoutEnd s) := by
  unfold execPasswordLockoutEnd
  split
  · exact .idle s
  · exact .next (unlockPwd_kept (waitTill_kept (.refl s) ..))

theorem execRindStoreRefresh_keeps (s : State) : Keeps s (execRindStoreRefresh s) :=
  .gate (storesFresh_kept (waitTill_kept (.refl s) ..))

theorem execHostAccessFailure_keeps (d : DescRef) (kind : Fin 4) (s : State) : Keeps s (execHostAccessFailure d kind s) :=
  .unless (ite_kept (dropJob_kept (fail_kept (.refl s) ..) ..) (ite_kept (haltRing_kept (.refl s) ..) (.refl s)))

theorem execRegisterWrite_keeps (off : BitVec 20) (size : Nat) (v : BitVec 32) (s : State) : Keeps s (execRegisterWrite off size
    v s) :=
  .gate (hostWrite_kept (.refl s) ..)

theorem execTickStrobe_keeps (stages : List Nat) (s : State) : Keeps s (execTickStrobe stages s) :=
  .unless (ite_kept (tick_kept (.refl s) ..) (passBoundary_kept (.refl s)))

theorem execPipelineOverrun_keeps (stage : Fin 8) (cycles : BitVec 16) (mem : Option (BitVec 16 × Fin 3)) (s : State) : Keeps s
    (execPipelineOverrun stage cycles mem s) :=
  .gate (overrun_kept (.refl s) ..)

/-- Every command completes, and keeps what every operation keeps. -/
theorem exec_keeps (c : Instr) (s : State) : Keeps s (exec c s) := by
  cases c with
  | registerWrite off size v => exact execRegisterWrite_keeps off size v s
  | supplyRise sup good => exact execSupplyRise_keeps sup good s
  | supplyFall sup belowOff => exact execSupplyFall_keeps sup belowOff s
  | sequenceWindowExpire => exact execSequenceWindowExpire_keeps s
  | pwrEnReassert => exact execPwrEnReassert_keeps s
  | brownoutWarning => exact execBrownoutWarning_keeps s
  | brownoutRideExpire => exact execBrownoutRideExpire_keeps s
  | brownoutRecovered below => exact execBrownoutRecovered_keeps below s
  | brownoutReset => exact execBrownoutReset_keeps s
  | resetNAssert => exact execResetNAssert_keeps s
  | resetNRelease => exact execResetNRelease_keeps s
  | resetNStuck => exact execResetNStuck_keeps s
  | twinAliveLatch => exact execTwinAliveLatch_keeps s
  | bootComplete rootTries badBits meas bad => exact execBootComplete_keeps rootTries badBits meas s bad
  | rindSelftestComplete => exact execRindSelftestComplete_keeps s
  | glbSwrst v => exact execGlbSwrst_keeps v s
  | modeReqDormant key => exact execModeReqDormant_keeps key s
  | modeReqCommission key => exact execModeReqCommission_keeps key s
  | modeReqActive key seeCold => exact execModeReqActive_keeps key seeCold s
  | modeReqShadow key seeCold => exact execModeReqShadow_keeps key seeCold s
  | modeReqLimp key => exact execModeReqLimp_keeps key s
  | modeReqHalt key => exact execModeReqHalt_keeps key s
  | limpEntry => exact execLimpEntry_keeps s
  | hostKick v => exact execHostKick_keeps v s
  | hostWatchdogExpire => exact execHostWatchdogExpire_keeps s
  | wakeInEdge => exact execWakeInEdge_keeps s
  | rtcAlarm => exact execRtcAlarm_keeps s
  | canWake can4 frame => exact execCanWake_keeps can4 frame s
  | pwrEnOff => exact execPwrEnOff_keeps s
  | refLoss => exact execRefLoss_keeps s
  | pllUnlock memory => exact execPllUnlock_keeps memory s
  | refRestored => exact execRefRestored_keeps s
  | serialPllUnlock dreak => exact execSerialPllUnlock_keeps dreak s
  | safCheckWindow count => exact execSafCheckWindow_keeps count s
  | stuSetCmd v => exact execStuSetCmd_keeps v s
  | timeLatchRead => exact execTimeLatchRead_keeps s
  | ppsLabelArm v => exact execPpsLabelArm_keeps v s
  | ppsEdge => exact execPpsEdge_keeps s
  | ppsLoss => exact execPpsLoss_keeps s
  | ref10mMeasurement devPpb => exact execRef10mMeasurement_keeps devPpb s
  | ref10mLoss => exact execRef10mLoss_keeps s
  | hostOffsetLoss => exact execHostOffsetLoss_keeps s
  | timeOffset d offset measuredAt => exact execTimeOffset_keeps d offset measuredAt s
  | rtcAlign => exact execRtcAlign_keeps s
  | ppsOutRise => exact execPpsOutRise_keeps s
  | ppsOutFall => exact execPpsOutFall_keeps s
  | tickStrobe stages => exact execTickStrobe_keeps stages s
  | pipelineOverrun stage cycles mem => exact execPipelineOverrun_keeps stage cycles mem s
  | tickLenWrite v => exact execTickLenWrite_keeps v s
  | alpClrStage => exact execAlpClrStage_keeps s
  | alpClrCounts => exact execAlpClrCounts_keeps s
  | alpClrWhey => exact execAlpClrWhey_keeps s
  | capture d first count kind addr len => exact execCapture_keeps d first count kind addr len s
  | captureComplete => exact execCaptureComplete_keeps s
  | constraintWriteEnable d index argOk e => exact execConstraintWriteEnable_keeps d index argOk e s
  | constraintDisable d index argOk => exact execConstraintDisable_keeps d index argOk s
  | constraintStage d index argOk e => exact execConstraintStage_keeps d index argOk e s
  | constraintCommit d argOk => exact execConstraintCommit_keeps d argOk s
  | constraintDiscard d argOk => exact execConstraintDiscard_keeps d argOk s
  | constraintRead d index argOk addr => exact execConstraintRead_keeps d index argOk addr s
  | groupWrite n v => exact execGroupWrite_keeps n v s
  | migrate d block port ramp force reservedZero => exact execMigrate_keeps d block port ramp force reservedZero s
  | migrationCheck => exact execMigrationCheck_keeps s
  | setpointSend copy => exact execSetpointSend_keeps copy s
  | slowLoadSend => exact execSlowLoadSend_keeps s
  | statusFrameReceive lane fseq f => exact execStatusFrameReceive_keeps lane fseq f s
  | phaseStatusReceive lane fseq f => exact execPhaseStatusReceive_keeps lane fseq f s
  | slowNodeStatusReceive slot code follow seqApplied => exact execSlowNodeStatusReceive_keeps slot code follow seqApplied s
  | lchClrCounts => exact execLchClrCounts_keeps s
  | laneDetectTest lane found => exact execLaneDetectTest_keeps lane found s
  | laneTrainComplete lane inverted ctle dfe => exact execLaneTrainComplete_keeps lane inverted ctle dfe s
  | laneBringupTimeout lane => exact execLaneBringupTimeout_keeps lane s
  | capsResend lane => exact execCapsResend_keeps lane s
  | capsFrameReceive lane fseq f => exact execCapsFrameReceive_keeps lane fseq f s
  | delayMeasurementStart lane => exact execDelayMeasurementStart_keeps lane s
  | dlyReqSend lane => exact execDlyReqSend_keeps lane s
  | dlyReqReceive lane fseq xid wait => exact execDlyReqReceive_keeps lane fseq xid wait s
  | dlyRespReceive lane fseq xid t2Ns t2Frac t3Ns t3Frac => exact execDlyRespReceive_keeps lane fseq xid t2Ns t2Frac t3Ns t3Frac s
  | delayMeasurementComplete lane => exact execDelayMeasurementComplete_keeps lane s
  | timeFrameSend lane => exact execTimeFrameSend_keeps lane s
  | aliveSend lane => exact execAliveSend_keeps lane s
  | aliveReceive lane fseq => exact execAliveReceive_keeps lane fseq s
  | laneFrameInvalid lane blocks => exact execLaneFrameInvalid_keeps lane blocks s
  | laneErrorLimit lane => exact execLaneErrorLimit_keeps lane s
  | laneBlockLockLoss lane => exact execLaneBlockLockLoss_keeps lane s
  | laneFrameTimeout lane => exact execLaneFrameTimeout_keeps lane s
  | laneSignalLoss lane => exact execLaneSignalLoss_keeps lane s
  | laneSignalDetect lane => exact execLaneSignalDetect_keeps lane s
  | laneRetrain lane => exact execLaneRetrain_keeps lane s
  | laneLpUp lane => exact execLaneLpUp_keeps lane s
  | laneLpIdle lane => exact execLaneLpIdle_keeps lane s
  | laneLpDeep lane => exact execLaneLpDeep_keeps lane s
  | laneLpOff lane => exact execLaneLpOff_keeps lane s
  | lpReqReceive lane fseq target => exact execLpReqReceive_keeps lane fseq target s
  | lpAckReceive lane fseq target => exact execLpAckReceive_keeps lane fseq target s
  | clcClrCounts => exact execClcClrCounts_keeps s
  | dlcClrCounts => exact execDlcClrCounts_keeps s
  | eyeScan d a => exact execEyeScan_keeps d a s
  | eyeScanComplete lane counts => exact execEyeScanComplete_keeps lane counts s
  | pressCycleStart => exact execPressCycleStart_keeps s
  | phaseSend => exact execPhaseSend_keeps s
  | pressControlSample conv batI busV batV => exact execPressControlSample_keeps conv batI busV batV s
  | ilimAssert phase => exact execIlimAssert_keeps phase s
  | ssRetryDelayExpire conv => exact execSsRetryDelayExpire_keeps conv s
  | runningRetryClear conv => exact execRunningRetryClear_keeps conv s
  | zeroCurdSwitchOff conv => exact execZeroCurdSwitchOff_keeps conv s
  | cceConnect conv => exact execCceConnect_keeps conv s
  | cceDisconnect conv => exact execCceDisconnect_keeps conv s
  | cceUnlatch conv => exact execCceUnlatch_keeps conv s
  | cceClrPeak => exact execCceClrPeak_keeps s
  | cceClrCounts => exact execCceClrCounts_keeps s
  | meteringSample port lead codesV codesI => exact execMeteringSample_keeps port lead codesV codesI s
  | acSample point lead codesV codesI => exact execAcSample_keeps point lead codesV codesI s
  | acWindowEnd point w => exact execAcWindowEnd_keeps point w s
  | acFreq10Window point f => exact execAcFreq10Window_keeps point f s
  | intervalBoundary => exact execIntervalBoundary_keeps s
  | mteCheckpoint => exact execMteCheckpoint_keeps s
  | modulatorStuck chan => exact execModulatorStuck_keeps chan s
  | sinc3Overflow chan => exact execSinc3Overflow_keeps chan s
  | modulatorRestored chan => exact execModulatorRestored_keeps chan s
  | mteOverrange chan full => exact execMteOverrange_keeps chan full s
  | rollLatchRead entity => exact execRollLatchRead_keeps entity s
  | acStatLatchRead point => exact execAcStatLatchRead_keeps point s
  | mteCapture d a => exact execMteCapture_keeps d a s
  | mteCaptureComplete d shift amps => exact execMteCaptureComplete_keeps d shift amps s
  | recordBuild cut => exact execRecordBuild_keeps s cut
  | mramRefresh bad => exact execMramRefresh_keeps bad s
  | exportRecords d argOk addr len => exact execExport_keeps d argOk addr len s
  | ack d argOk pos => exact execAck_keeps d argOk pos s
  | read d argOk addr len first count => exact execRead_keeps d argOk addr len first count s
  | heads d argOk addr len => exact execHeads_keeps d argOk addr len s
  | attest d argOk addr len nonce => exact execAttest_keeps d argOk addr len nonce s
  | keyRoll d argOk len target cut => exact execKeyRoll_keeps d argOk len target s cut
  | rollAbort d argOk => exact execRollAbort_keeps d argOk s
  | enrol d argOk force => exact execEnrol_keeps d argOk force s
  | rebind d argOk => exact execRebind_keeps d argOk s
  | pubkey d argOk addr len => exact execPubkey_keeps d argOk addr len s
  | coulombSample string code => exact execCoulombSample_keeps string code s
  | restReference string => exact execRestReference_keeps string s
  | eocReference string => exact execEocReference_keeps string s
  | eodClear string => exact execEodClear_keeps string s
  | coulombInputFault string overflow => exact execCoulombInputFault_keeps string overflow s
  | coulombInputRestored string => exact execCoulombInputRestored_keeps string s
  | bmuStatusReceive ctrl id ide frame => exact execBmuStatusReceive_keeps ctrl id ide frame s
  | bmuStale string => exact execBmuStale_keeps string s
  | authChallenge obj => exact execAuthChallenge_keeps obj s
  | authResponseReceive ctrl id1 id2 ide frame1 frame2 => exact execAuthResponseReceive_keeps ctrl id1 id2 ide frame1 frame2 s
  | authTimeout => exact execAuthTimeout_keeps s
  | seeCommit v => exact execSeeCommit_keeps v s
  | seeBufferReadComplete readOk block => exact execSeeBufferReadComplete_keeps readOk block s
  | save d argOk buffer => exact execSave_keeps d argOk buffer s
  | authKey d argOk string key => exact execAuthKey_keeps d argOk string key s
  | authNow d argOk string => exact execAuthNow_keeps d argOk string s
  | qcLatchRead string => exact execQcLatchRead_keeps string s
  | pilotPeriod port high low => exact execPilotPeriod_keeps port high low s
  | pilotControlWrite port v => exact execPilotControlWrite_keeps port v s
  | beaconSend port => exact execBeaconSend_keeps port s
  | vehicleFrameReceive port frame lead => exact execVehicleFrameReceive_keeps port frame lead s
  | unicastFrameFail port => exact execUnicastFrameFail_keeps port s
  | roboRestore port => exact execRoboRestore_keeps port s
  | impulseEvent port => exact execImpulseEvent_keeps port s
  | slacParmReq port runId => exact execSlacParmReq_keeps port runId s
  | slacSound runId atten => exact execSlacSound_keeps runId atten s
  | slacWindowClose runId => exact execSlacWindowClose_keeps runId s
  | slacRowFree runId => exact execSlacRowFree_keeps runId s
  | frame d argOk len data => exact execFrame_keeps d argOk len data s
  | frameSent port lead => exact execFrameSent_keeps port lead s
  | frameTxTimeout port => exact execFrameTxTimeout_keeps port s
  | sessionStart d argOk evcc maxV maxI maxP contract => exact execSessionStart_keeps d argOk evcc maxV maxI maxP contract s
  | request d argOk reqI reqV reqP presentV newI newV newP => exact execRequest_keeps d argOk reqI reqV reqP presentV newI newV newP s
  | sessionEnd d argOk reason => exact execSessionEnd_keeps d argOk reason s
  | report d argOk cls cause => exact execReport_keeps d argOk cls cause s
  | portRx d argOk len addr => exact execPortRx_keeps d argOk len addr s
  | sessionTimeout port => exact execSessionTimeout_keeps port s
  | cooloffEnd port => exact execCooloffEnd_keeps port s
  | pluClrCounts port => exact execPluClrCounts_keeps port s
  | canFrameReceive ctrl id ide fdf brs data lead hkcTakes => exact execCanFrameReceive_keeps ctrl id ide fdf brs data lead hkcTakes s
  | canFrameSent ctrl start => exact execCanFrameSent_keeps ctrl start s
  | canTxDeadline ctrl => exact execCanTxDeadline_keeps ctrl s
  | canBusError ctrl kind => exact execCanBusError_keeps ctrl kind s
  | canSuspectExpire ctrl => exact execCanSuspectExpire_keeps ctrl s
  | canBusOn ctrl => exact execCanBusOn_keeps ctrl s
  | canRecoveryRequest ctrl => exact execCanRecoveryRequest_keeps ctrl s
  | canSleep ctrl => exact execCanSleep_keeps ctrl s
  | canSleepExit ctrl => exact execCanSleepExit_keeps ctrl s
  | canRefMessage ctrl => exact execCanRefMessage_keeps ctrl s
  | canUnblock ctrl obj => exact execCanUnblock_keeps ctrl obj s
  | canClrCounts ctrl => exact execCanClrCounts_keeps ctrl s
  | send d argOk ctrl obj len data deadline => exact execSend_keeps d argOk ctrl obj len data deadline s
  | rxPost d argOk len addr => exact execRxPost_keeps d argOk len addr s
  | rindCycle x => exact execRindCycle_keeps x s
  | heartbeatReceive => exact execHeartbeatReceive_keeps s
  | heartbeatLoss => exact execHeartbeatLoss_keeps s
  | safeGraceExpire => exact execSafeGraceExpire_keeps s
  | safetyFunctionTimeExpire which idx => exact execSafetyFunctionTimeExpire_keeps which idx s
  | c1GraceExpire => exact execC1GraceExpire_keeps s
  | discrepancyTimeout pair => exact execDiscrepancyTimeout_keeps pair s
  | testPulse source follows soRead stuck => exact execTestPulse_keeps source follows soRead stuck s
  | edmTimeout out => exact execEdmTimeout_keeps out s
  | relayHoldTake => exact execRelayHoldTake_keeps s
  | twinAliveChange level => exact execTwinAliveChange_keeps level s
  | soelaoneSend conn => exact execSoelaoneSend_keeps conn s
  | soelaoneReceive frame => exact execSoelaoneReceive_keeps frame s
  | soelaoneTimeout conn => exact execSoelaoneTimeout_keeps conn s
  | sfiPdataWrite v => exact execSfiPdataWrite_keeps v s
  | sfiPdataRead => exact execSfiPdataRead_keeps s
  | sfiCvReq v => exact execSfiCvReq_keeps v s
  | cvComputeComplete => exact execCvComputeComplete_keeps s
  | sfiConfirm v => exact execSfiConfirm_keeps v s
  | confirmTimeout => exact execConfirmTimeout_keeps s
  | sfiPwdCmd v => exact execSfiPwdCmd_keeps v s
  | passwordLockoutEnd => exact execPasswordLockoutEnd_keeps s
  | rindStoreRefresh => exact execRindStoreRefresh_keeps s
  | hkaSlotConversion value pin => exact execHkaSlotConversion_keeps value pin s
  | slowRoundStart => exact execSlowRoundStart_keeps s
  | dieSensorRead temps => exact execDieSensorRead_keeps temps s
  | dieTripRelease => exact execDieTripRelease_keeps s
  | thmClrPeak => exact execThmClrPeak_keeps s
  | lsbOnWrite v => exact execLsbOnWrite_keeps v s
  | lsbOnSet v => exact execLsbOnSet_keeps v s
  | lsbOnClr v => exact execLsbOnClr_keeps v s
  | lsbUnlock v => exact execLsbUnlock_keeps v s
  | lsbClrCounts => exact execLsbClrCounts_keeps s
  | lsbShort sw => exact execLsbShort_keeps sw s
  | lsbOverload sw => exact execLsbOverload_keeps sw s
  | lsbThermalTrip sw => exact execLsbThermalTrip_keeps sw s
  | lsbThermalRelease sw => exact execLsbThermalRelease_keeps sw s
  | lsbRetry sw => exact execLsbRetry_keeps sw s
  | lsbRetryClear sw => exact execLsbRetryClear_keeps sw s
  | lsbInrushEnd sw => exact execLsbInrushEnd_keeps sw s
  | vswUndervoltage vsw => exact execVswUndervoltage_keeps vsw s
  | vswHoldExpire => exact execVswHoldExpire_keeps s
  | vswRestored vsw => exact execVswRestored_keeps vsw s
  | deltaSend => exact execDeltaSend_keeps s
  | snapReceive h part tick cmp data => exact execSnapReceive_keeps h part tick cmp data s
  | deltaReceive h f => exact execDeltaReceive_keeps h f s
  | deltaTimeout => exact execDeltaTimeout_keeps s
  | epochChunkReceive h f => exact execEpochChunkReceive_keeps h f s
  | epochCommitReceive h f => exact execEpochCommitReceive_keeps h f s
  | epochCommitTimeout => exact execEpochCommitTimeout_keeps s
  | healthSend => exact execHealthSend_keeps s
  | healthReceive h words => exact execHealthReceive_keeps h words s
  | healthTimeout => exact execHealthTimeout_keeps s
  | goingDownReceive h cause tick => exact execGoingDownReceive_keeps h cause tick s
  | promote d reservedZero => exact execPromote_keeps d reservedZero s
  | glbTwinResync v => exact execGlbTwinResync_keeps v s
  | memoryMarchStep corrected uncorrectable => exact execMemoryMarchStep_keeps corrected uncorrectable s
  | doorbell off size v => exact execDoorbell_keeps off size v s
  | descriptorFetch fetched => exact execDescriptorFetch_keeps fetched s
  | ringEnable ring v => exact execRingEnable_keeps ring v s
  | ringDisable ring v => exact execRingDisable_keeps ring v s
  | hostAccessFailure d kind => exact execHostAccessFailure_keeps d kind s
  | pcieLinkDown => exact execPcieLinkDown_keeps s
  | pcieLinkUp speed width => exact execPcieLinkUp_keeps speed width s
  | pcieHotReset => exact execPcieHotReset_keeps s
  | functionLevelReset => exact execFunctionLevelReset_keeps s
  | busMasterDisable => exact execBusMasterDisable_keeps s
  | d3hotEntry => exact execD3hotEntry_keeps s
  | hifAttnCauseWrite v => exact execHifAttnCauseWrite_keeps v s
  | msixEnable => exact execMsixEnable_keeps s
  | msixUnmask function => exact execMsixUnmask_keeps function s
  | hifClrCounts => exact execHifClrCounts_keeps s
  | nop d reservedZero => exact execNop_keeps d reservedZero s
  | eventRead d first addr len wait reservedZero => exact execEventRead_keeps d first addr len wait reservedZero s
  | eventReadWake => exact execEventReadWake_keeps s
  | evtHeadLatchRead => exact execEvtHeadLatchRead_keeps s
  | evtOldestLatchRead => exact execEvtOldestLatchRead_keeps s
  | selfTestMarch d reservedZero => exact execSelfTestMarch_keeps d reservedZero s
  | selfTestLaneDelay d reservedZero => exact execSelfTestLaneDelay_keeps d reservedZero s
  | selfTestMramCrc d reservedZero => exact execSelfTestMramCrc_keeps d reservedZero s
  | selfTestComplete a b => exact execSelfTestComplete_keeps a b s
  | serialPllLock dreak => exact execSerialPllLock_keeps dreak s
  | d3hotExit => exact execD3hotExit_keeps s
  | busMasterEnable => exact execBusMasterEnable_keeps s
  | msixMask function => exact execMsixMask_keeps function s
  | msixDisable => exact execMsixDisable_keeps s

/-- A command that answers a next state kept what every operation keeps. -/
theorem kept_of_exec {c : Instr} {s t : State} (h : exec c s = .next t) : Kept s t := by
  obtain ⟨u, hu, hk⟩ := exec_keeps c s
  rw [h] at hu
  cases hu
  exact hk

/-- The queue aside, a step keeps what every operation keeps: it runs the command at the front, or lets a cycle pass. -/
theorem kept_of_step {s t : State} (h : step s = .next t) : ∃ q, Kept { s with pending := q } t := by
  unfold step at h
  split at h
  · obtain rfl := Outcome.next.inj h
    exact ⟨s.pending, cycles_kept (.refl s) 1⟩
  · exact ⟨_, kept_of_exec h⟩

/-- Settles O49: exec answers a next state in every case of the dispatch. -/
theorem everyCommandCompletes : Obligations.EveryCommandCompletes := by
  unfold Obligations.EveryCommandCompletes
  intro c s
  obtain ⟨t, ht, -⟩ := exec_keeps c s
  exact ⟨t, ht⟩

/-- Settles O50: the queue is among what every command keeps. -/
theorem commandsLeaveTheQueue : Obligations.CommandsLeaveTheQueue := by
  unfold Obligations.CommandsLeaveTheQueue
  exact fun _ _ _ h => (kept_of_exec h).pending

/-- Settles O51: the clock is among what every step keeps. -/
theorem clockNeverGoesBack : Obligations.ClockNeverGoesBack := by
  unfold Obligations.ClockNeverGoesBack
  intro s t h
  obtain ⟨_, hk⟩ := kept_of_step h
  exact hk.now

/-- Settles O52: every operation writes registers through `tset` or drops entries. -/
theorem stepKeepsRegistersCanonical : Obligations.StepKeepsRegistersCanonical := by
  unfold Obligations.StepKeepsRegistersCanonical
  intro s t hs h
  obtain ⟨_, hk⟩ := kept_of_step h
  exact hk.regs hs

/-- Settles O53: only an entry to SHADOW could break it, and a PH4812 is refused one. -/
theorem stepKeepsPh4812OutOfShadow : Obligations.StepKeepsPh4812OutOfShadow := by
  unfold Obligations.StepKeepsPh4812OutOfShadow
  intro s t hs h
  obtain ⟨_, hk⟩ := kept_of_step h
  exact ⟨hk.mode hs, hk.grade⟩

/-- Settles O54: an event takes the number of the head and the oldest falls out; a reset empties the log. -/
theorem stepKeepsEventsNumbered : Obligations.StepKeepsEventsNumbered := by
  unfold Obligations.StepKeepsEventsNumbered
  intro s t hs h
  obtain ⟨_, hk⟩ := kept_of_step h
  exact hk.log hs

end Sys2Proof.Proofs.Kept
end

section
/-!
PROOFS. A wait changes the clock and site time alone: the waited state written out, for the commands of every block that stand for a
timed event (log entry 71).
-/
namespace Sys2Proof.Proofs.Waits

open Sys2Proof Sys2Proof.Machine Sys2Proof.Laws

variable (s : State)

/-- Cycles that pass change the clock and site time alone. -/
theorem cycles_eq (k : Nat) : ∃ x, s.cycles k = { s with now := s.now + 10 * k, stu := { s.stu with site := x } } := by
  unfold State.cycles
  dsimp only
  split
  · exact ⟨_, rfl⟩
  · exact ⟨s.stu.site, rfl⟩

/-- A wait for an uptime reaches it, and changes the clock and site time alone. -/
theorem waitTill_eq (t : Nat) :
    ∃ n x, s.waitTill t = { s with now := n, stu := { s.stu with site := x } } ∧ t ≤ n ∧ s.now ≤ n := by
  obtain ⟨x, hx⟩ := cycles_eq s (divUp (t - s.now) 10)
  refine ⟨_, x, hx, ?_, Nat.le_add_right ..⟩
  unfold divUp
  omega

/-- A wait for a site time changes the clock and site time alone. -/
theorem waitSite_eq (t : Nat) : ∃ n x, s.waitSite t = { s with now := n, stu := { s.stu with site := x } } ∧ s.now ≤ n := by
  unfold State.waitSite
  split
  · obtain ⟨x, hx⟩ := cycles_eq s (divUp (t * 2 ^ 32 - s.stu.site) s.increment)
    exact ⟨_, x, hx, Nat.le_add_right ..⟩
  · exact ⟨s.now, s.stu.site, rfl, le_rfl⟩

/-- An event logged, however it is kept, leaves the newest event of a log that is the same. -/
theorem logOne_of_log {s t u v : State} {c e a b : Nat} (h : s.logOne t c e a b) (hs : u.log = s.log) (ht : v.log = t.log) :
    u.logOne v c e a b := by
  unfold State.logOne State.newest at *
  rwa [hs, ht]

end Sys2Proof.Proofs.Waits
end

section
/-!
PROOFS. One step, and the state at reset (spec/00, spec/02, spec/03, spec/17; log entries 6 and 13).
-/
namespace Sys2Proof.Proofs.StepAndReset

open Sys2Proof Sys2Proof.Machine Sys2Proof.Laws Sys2Proof.Proofs.Waits

/-- An idle step lets one cycle pass. -/
theorem step_idle {s : State} (h : s.pending = []) : step s = .next (s.cycles 1) := by
  unfold step
  rw [h]

/-- Settles O1, by the definition of a step. -/
theorem stepRunsFront : Obligations.StepRunsFront := by
  unfold Obligations.StepRunsFront
  intro c rest s h
  unfold step
  rw [h]

/-- Settles O2: one cycle is 10 ns. -/
theorem idleStepPassesTime : Obligations.IdleStepPassesTime := by
  unfold Obligations.IdleStepPassesTime
  intro s h
  obtain ⟨x, hx⟩ := cycles_eq s 1
  rw [step_idle h, hx]
  exact ⟨_, rfl, rfl, rfl, rfl, rfl, rfl⟩

/-- Settles O3: each field of `State.reset` is the one the statement names (log entry 6). -/
theorem emptyQueueAndLogAtReset : Obligations.EmptyQueueAndLogAtReset := by
  unfold Obligations.EmptyQueueAndLogAtReset
  exact ⟨rfl, rfl, rfl, rfl, rfl, rfl, rfl, fun _ => rfl, rfl⟩

/-- Settles O4: no register is listed and no event is held at reset, and DORMANT is not SHADOW. -/
theorem resetIsSound : Obligations.ResetIsSound := by
  unfold Obligations.ResetIsSound
  exact ⟨rfl, rfl, rfl⟩

end Sys2Proof.Proofs.StepAndReset
end

section
/-!
PROOFS. A report that a descriptor has started changes its ring and what the device sends alone (spec/17 R405).
-/
namespace Sys2Proof.Proofs.Reports

open Sys2Proof Sys2Proof.Machine Sys2Proof.Laws

/-- The start of a descriptor reported, written out. -/
theorem reportStart_eq (s : State) (r idx : Nat) (result : List Nat) :
    ∃ rings out, s.reportStart r idx result = { s with out := out, hif := { s.hif with rings := rings } } := by
  unfold State.reportStart
  split
  · exact ⟨s.hif.rings, s.out, rfl⟩
  · split
    · exact ⟨s.hif.rings, s.out, rfl⟩
    · exact ⟨_, _, rfl⟩

end Sys2Proof.Proofs.Reports
end

section
/-!
PROOFS. Several fields written one after the other: what each of them reads, and that no other register changed.
-/
namespace Sys2Proof.Proofs.Writes

open Sys2Proof Sys2Proof.Machine Sys2Proof.Laws

/-- The fields of a list written in its order. -/
def writes (s : State) (l : List (Fld × Nat)) : State := l.foldl (fun u x => u.wr x.1 x.2) s

/-- Two fields without a bit in common. -/
def apart (f g : Fld) : Bool := f.off != g.off || decide (f.lo + f.w ≤ g.lo) || decide (g.lo + g.w ≤ f.lo)

/-- A list whose fields lie in a word and have no bit in common. -/
def fit (l : List (Fld × Nat)) : Prop := (∀ x ∈ l, x.1.lo + x.1.w ≤ 32) ∧ l.Pairwise (fun x y => apart y.1 x.1 = true)

theorem rd_wr_apart (s : State) {f g : Fld} (v : Nat) (hf : f.lo + f.w ≤ 32) (h : apart f g = true) : (s.wr f v).rd g = s.rd g := by
  by_cases ho : f.off = g.off
  · exact rd_wr_disjoint s v ho hf (by simpa [apart, ho] using h)
  · exact rd_wr_other s v ho

theorem rd_writes_apart {g : Fld} (l : List (Fld × Nat)) (s : State) (hf : ∀ x ∈ l, x.1.lo + x.1.w ≤ 32)
    (h : ∀ x ∈ l, apart x.1 g = true) : (writes s l).rd g = s.rd g := by
  induction l generalizing s with
  | nil => rfl
  | cons x r ih =>
    exact (ih (s.wr x.1 x.2) (fun y hy => hf y (List.mem_cons_of_mem _ hy)) (fun y hy => h y (List.mem_cons_of_mem _ hy))).trans
      (rd_wr_apart s x.2 (hf x (List.mem_cons_self ..)) (h x (List.mem_cons_self ..)))

/-- Each field of a list that fits reads what was written to it. -/
theorem rd_writes {l : List (Fld × Nat)} (s : State) (hl : fit l) {x : Fld × Nat} (hx : x ∈ l) : (writes s l).rd x.1 = x.2 % 2 ^ x.1.w := by
  induction l generalizing s with
  | nil => exact absurd hx List.not_mem_nil
  | cons y r ih =>
    obtain ⟨hf, hp⟩ := hl
    obtain ⟨hy, hr⟩ := List.pairwise_cons.mp hp
    have hfr : ∀ z ∈ r, z.1.lo + z.1.w ≤ 32 := fun z hz => hf z (List.mem_cons_of_mem _ hz)
    rcases List.mem_cons.mp hx with rfl | hx
    · exact (rd_writes_apart r (s.wr x.1 x.2) hfr hy).trans (rd_wr_same s x.2 (hf x (List.mem_cons_self ..)))
    · exact ih (s.wr y.1 y.2) ⟨hfr, hr⟩ hx

theorem rd_writes_eq {l : List (Fld × Nat)} (s : State) (hl : fit l) {f : Fld} {v : Nat} (hx : (f, v) ∈ l) (hv : v < 2 ^ f.w) :
    (writes s l).rd f = v :=
  (rd_writes s hl hx).trans (Nat.mod_eq_of_lt hv)

theorem onlyRegs_writes (l : List (Fld × Nat)) (s : State) (m : List Nat) (hm : ∀ x ∈ l, x.1.off ∈ m) : s.onlyRegs (writes s l) m :=
  onlyRegs_foldl s l (fun x => x.1) (fun _ x => x.2) m hm

end Sys2Proof.Proofs.Writes
end

section
/-!
PROOFS. Supplies, reset and boot (spec/02 R26 to R35, R45).
-/
namespace Sys2Proof.Proofs.SuppliesResetAndBoot

open Sys2Proof Sys2Proof.Machine Sys2Proof.Laws Sys2Proof.Laws.SuppliesResetAndBoot
open Sys2Proof.Proofs.Waits

variable (s : State)

/-- A supply's power-good with VAON powered and no power order held (R26, R27). -/
theorem supplyGood_ordered {i g : Nat} (hp : s.glb.powered.testBit 0 = true) (ho : s.glb.holds.order = false) :
    s.supplyGood i g = { s.setGood i true with glb := { (s.setGood i true).glb with
      powered := setBit (s.setGood i true).glb.powered i true
      window := if g = 4 && (s.setGood i true).pgood &&& 0xF0 = 0xF0 then none else (s.setGood i true).glb.window
      holds := { (s.setGood i true).glb.holds with core := if i = 4 then false else (s.setGood i true).glb.holds.core } } } := by
  have horder : (s.setGood i true).glb.holds.order = false := by
    unfold State.setGood State.showGood
    dsimp only
    split
    · exact ho
    · split <;> exact ho
  unfold State.supplyGood State.orderEnd
  simp [hp, horder]

/-- Outside the groups whose fall is watched, a supply out of regulation changes PGOOD alone (R28). -/
theorem supplyLow_group4 {i : Nat} (hi : i ≠ 0) : s.supplyLow i 4 = s.setGood i false := by
  unfold State.supplyLow
  simp [hi]

theorem setGood_on_facts (i : Nat) (h : s.glb.inReg.testBit 0 = true) :
    (s.setGood i true).pgood = setBit s.glb.inReg i true % 256 ∧ (s.setGood i true).glb.inReg = setBit s.glb.inReg i true ∧
    (s.setGood i true).glb.mode = s.glb.mode ∧ (s.setGood i true).log = s.log := by
  rw [setGood_on s i h]
  exact ⟨rd_wr_same _ (f := GLB_PWR_STAT.PGOOD) _ (by decide), rfl, rfl, rfl⟩

theorem supplyIdx_ne_zero {sup : SupplyName} (h : supplyGroup sup = 4) : supplyIdx sup ≠ 0 := by
  cases sup <;> simp_all [supplyGroup, supplyIdx]

theorem supplyRise_of_above {sup : SupplyName} (h : s.glb.aboveOff.testBit (supplyIdx sup) = true) :
    exec (.supplyRise sup true) s = .next (s.supplyGood (supplyIdx sup) (supplyGroup sup)) := by
  show execSupplyRise sup true s = _
  simp [execSupplyRise, h]

theorem supplyFall_above {sup : SupplyName} (hg : supplyGroup sup = 4) (h : s.glb.inReg.testBit (supplyIdx sup) = true) :
    exec (.supplyFall sup false) s = .next (s.setGood (supplyIdx sup) false) := by
  show execSupplyFall sup false s = _
  simp [execSupplyFall, h, hg, supplyLow_group4 s (supplyIdx_ne_zero hg)]

/-- The ride-over time is over in ACTIVE: HALT with cause 6 (R32). -/
theorem rideOver_active (t0 : Nat) (h : s.glb.mode = .active) :
    (s.rideOver t0).glb.mode = .halt ∧ (s.rideOver t0).glb.lastCause = 6 ∧ (s.rideOver t0).glb.prevMode = .active := by
  unfold State.rideOver
  extract_lets w g u halts
  have hu : (u.ev 0x0103 0 (u.brownUs t0) (if halts then 1 else 3)).glb.mode = .active := by
    rw [ev_glb]
    show w.glb.mode = _
    rw [waitTill_glb, h]
  generalize State.ev u _ _ _ _ = v at hu
  have hv : v.haltTrigger 6 = v.preempt.setMode .halt 6 := by
    unfold State.haltTrigger
    rw [if_pos (by simp [hu])]
  obtain ⟨hm, hc, hp⟩ := setMode_mode v.preempt .halt 6
  rw [hv, twinWatch_of_mode (by rw [hm]; decide)]
  exact ⟨hm, hc, hp.trans ((preempt_quiet (Quiet.refl v)).mode.trans hu)⟩

theorem brownOver_kept_false {g : Glb} (h : g.brownOver = false) :
    { g with brownAt := none, brownOver := false } = { g with brownAt := none } := by
  cases g
  simp_all

/-- Settles O7: each command runs the operation of its rule, whose fields the laws of this family give. -/
theorem suppliesResetAndBoot : Obligations.SuppliesResetAndBoot := by
  unfold Obligations.SuppliesResetAndBoot
  refine ⟨?_, ?_, ?_, ?_, ?_, ?_, ?_⟩
  · intro sup s habove hreg hpow horder
    obtain ⟨hgood, hin, hmode, hlog⟩ := setGood_on_facts s (supplyIdx sup) hreg
    have hrun := supplyRise_of_above s habove
    rw [supplyGood_ordered s hpow horder] at hrun
    generalize s.setGood (supplyIdx sup) true = u at hrun hgood hin hmode hlog
    exact ⟨_, hrun, hgood, hin, setBit_testBit u.glb.powered (supplyIdx sup) true, hmode, hlog⟩
  · intro sup s hgroup hreg hin
    have hrun := supplyFall_above s hgroup hin
    rw [setGood_off s _ (supplyIdx_ne_zero hgroup) hreg] at hrun
    refine ⟨_, hrun, ?_, rfl, rfl, ?_⟩
    · exact rd_wr_same _ (f := GLB_PWR_STAT.PGOOD) _ (by decide)
    · exact fun o ho => reg_setReg_other _ _ (Ne.symm ho)
  · intro t0 s hwin
    have hrun : exec .sequenceWindowExpire s =
        .next ((s.waitTill (t0 + 20000010)).violation (clearBits 0xFE (s.waitTill (t0 + 20000010)).pgood)) := by
      show execSequenceWindowExpire s = _
      unfold execSequenceWindowExpire
      rw [hwin]
    have hwait := le_now_waitTill s (t0 + 20000010)
    generalize s.waitTill (t0 + 20000010) = w at hrun hwait
    obtain ⟨h1, h2, h3, h4, h5⟩ := violation_glb w (clearBits 0xFE w.pgood)
    have hnow := (violation_kept (.refl w) (clearBits 0xFE w.pgood)).now
    exact ⟨_, hrun, h1, h2, h3, h4, h5, by omega⟩
  · intro t0 s hoff horder hen
    obtain ⟨n, x, hw, hn, -⟩ := waitTill_eq s (max (t0 + 1000000) (s.glb.pwrEnLowAt + 10000000))
    have hrun : exec .pwrEnReassert s = .next { s with
        now := n, stu := { s.stu with site := x }, glb := { s.glb with pwrEn := true, offSeen := true } } := by
      show execPwrEnReassert s = _
      unfold execPwrEnReassert
      rw [hoff]
      dsimp only
      rw [if_neg (by simp [horder, hen]), hw]
    exact ⟨_, hrun, rfl, (le_max_left ..).trans hn, (le_max_right ..).trans hn, rfl, rfl, rfl⟩
  · intro s hup hbrown hread
    have hrun : exec .brownoutWarning s =
        .next (State.wr { s with glb := { s.glb with brownAt := some s.now, brownOver := false } } GLB_PWR_STAT.BROWNOUT 1) := by
      show execBrownoutWarning s = _
      simp [execBrownoutWarning, hup, hbrown, hread]
    exact ⟨_, hrun, flag_wr_one _ (f := GLB_PWR_STAT.BROWNOUT) (by decide) (by decide), rfl, rfl⟩
  · intro t0 s hbrown hover hup hmode
    have hrun : exec .brownoutRideExpire s = .next (s.rideOver t0) := by
      show execBrownoutRideExpire s = _
      simp [execBrownoutRideExpire, hbrown, hover]
    exact ⟨_, hrun, rideOver_active s t0 hmode⟩
  · intro below t0 s hbrown hover hbelow hmode hup
    obtain ⟨n, x, hw, hn, -⟩ := waitTill_eq s (t0 + 1000 * below.toNat + 1000 * s.rd GLB_PWR_CFG.BO_RIDE)
    obtain ⟨w, hsw⟩ : ∃ w : State, { s with now := n, stu := { s.stu with site := x } } = w := ⟨_, rfl⟩
    have hrun : exec (.brownoutRecovered below) s = .next (State.twinWatch { w.ev 0x0103 0 (below.toNat + 1) 0 with
        glb := { (w.ev 0x0103 0 (below.toNat + 1) 0).glb with brownAt := none, brownOver := false } }) := by
      show execBrownoutRecovered below s = _
      unfold execBrownoutRecovered
      rw [hbrown]
      dsimp only
      rw [if_neg (show ¬ (decide (s.rd GLB_PWR_CFG.BO_RIDE < below.toNat) && !s.glb.brownOver) = true by simp [hbelow]),
        if_neg (show ¬ s.glb.brownOver = true by simp [hover]), hw, hsw]
    have hglb : w.glb = s.glb := by rw [← hsw]
    have hev := ev_logOne w 0x0103 0 (below.toNat + 1) 0 (by rw [← hsw]; exact hup)
    rw [Nat.mod_eq_of_lt (by have := below.isLt; omega)] at hev
    rw [twinWatch_of_mode (by rw [ev_glb, hglb]; exact hmode), ev_glb, hglb, brownOver_kept_false hover] at hrun
    refine ⟨_, hrun, rfl, logOne_of_log hev (by rw [← hsw]) rfl, ?_, ?_⟩
    · exact (ev_regs w ..).trans (by rw [← hsw])
    · show _ ≤ (w.ev 0x0103 0 (below.toNat + 1) 0).now
      rw [ev_now, ← hsw]
      exact hn

end Sys2Proof.Proofs.SuppliesResetAndBoot
end

section
/-!
PROOFS. Resets, the stuck RESET_N and boot (spec/02 R32 to R35, R45, spec/14 R328).
-/
namespace Sys2Proof.Proofs.ResetAndBoot

open Sys2Proof Sys2Proof.Machine Sys2Proof.Laws Sys2Proof.Laws.SuppliesResetAndBoot Sys2Proof.Proofs.Waits
open Sys2Proof.Proofs.SuppliesResetAndBoot

/-- A reset of the main domains leaves DORMANT, booting, with the host interface and the log as after reset. -/
theorem mainReset_restarted (s : State) :
    s.mainReset.glb.mode = .dormant ∧ s.mainReset.glb.booting = true ∧ s.mainReset.hif = Hif.reset ∧
    s.mainReset.log.events = [] ∧ s.mainReset.sfi.hbStop = true := by
  unfold State.mainReset
  dsimp only
  exact ⟨rfl, rfl, rfl, rfl, rfl⟩

/-- VCORE below 0.72 V holds the main domains in reset (R32). -/
theorem coreReset_held (s : State) (hreg : s.glb.inReg.testBit 0 = true) :
    s.coreReset.glb.mode = .dormant ∧ s.coreReset.glb.booting = true ∧ s.coreReset.glb.holds.core = true ∧
    s.coreReset.pgood = setBit s.glb.inReg 4 false % 256 ∧ s.coreReset.flag GLB_RST_CAUSE.BROWNOUT = true := by
  obtain ⟨u, hu⟩ : ∃ u, (s.setGood 4 false).wr GLB_RST_CAUSE.BROWNOUT 1 = u := ⟨_, rfl⟩
  have hgood : u.pgood = setBit s.glb.inReg 4 false % 256 := by
    rw [← hu, State.pgood, rd_wr_other _ _ (by decide), setGood_off s 4 (by decide) hreg]
    exact rd_wr_same _ (f := GLB_PWR_STAT.PGOOD) _ (by decide)
  have hcause : u.flag GLB_RST_CAUSE.BROWNOUT = true := by
    rw [← hu]
    exact flag_wr_one _ (f := GLB_RST_CAUSE.BROWNOUT) (by decide) (by decide)
  obtain ⟨v, hv⟩ : ∃ v : State, { u with glb := { u.glb with holds := { u.glb.holds with core := true } } } = v := ⟨_, rfl⟩
  have hrd : ∀ f, v.rd f = u.rd f := fun f => by rw [← hv]; rfl
  have hcore : v.glb.holds.core = true := by rw [← hv]
  unfold State.coreReset
  dsimp only
  rw [hu, hv]
  obtain ⟨hm, hb, -⟩ := mainReset_restarted v
  refine ⟨?_, ?_, ?_, ?_, ?_⟩
  · rw [ev_glb, hm]
  · rw [ev_glb, hb]
  · rw [ev_glb, mainReset_holds, hcore]
  · rw [State.pgood, rd_ev, rd_mainReset v (by decide) (by decide) (by decide), hrd]
    exact hgood
  · rw [State.flag, rd_ev, rd_mainReset v (by decide) (by decide) (by decide), hrd]
    exact hcause

/-- Settles O8: the resets keep what VAON holds, and each other command changes the fields named. -/
theorem suppliesResetAndBootPart2 : Obligations.SuppliesResetAndBootPart2 := by
  unfold Obligations.SuppliesResetAndBootPart2
  refine ⟨?_, ?_, ?_, ?_, ?_, ?_, ?_⟩
  · intro s hreg hwatch hcore
    exact ⟨_, congrArg Host.Outcome.next (if_pos (by simp [hwatch, hcore])), coreReset_held s hreg⟩
  · intro s hhold
    obtain ⟨u, hu⟩ : ∃ u, (s.goingDown 1).wr GLB_RST_CAUSE.RESET_N 1 = u := ⟨_, rfl⟩
    have hrun : exec .resetNAssert s = .next { u.mainReset with glb := { u.mainReset.glb with
        holds := { u.glb.holds with resetN := true }, rstLowAt := some (s.now - 20000000), stuck := false } } := by
      show execResetNAssert s = _
      unfold execResetNAssert
      rw [if_neg (by simp [hhold]), hu]
    obtain ⟨hm, hb, hh, hl, hs⟩ := mainReset_restarted u
    have hcause : u.mainReset.flag GLB_RST_CAUSE.RESET_N = true := by
      rw [State.flag, rd_mainReset u (by decide) (by decide) (by decide), ← hu]
      exact flag_wr_one _ (f := GLB_RST_CAUSE.RESET_N) (by decide) (by decide)
    generalize u.mainReset = v at *
    exact ⟨_, hrun, rfl, hm, hb, hcause, hh, hl, hs⟩
  · intro s hhold hstuck
    refine ⟨_, ?_, rfl⟩
    show execResetNRelease s = _
    unfold execResetNRelease
    rw [if_neg (by simp [hhold])]
    simp [hstuck]
  · intro t0 s hlow hwatch
    obtain ⟨n, x, hw, hn, -⟩ := waitTill_eq s (t0 + 4000000010)
    have hrun : exec .resetNStuck s = .next { s with
        now := n, stu := { s.stu with site := x }, glb := { s.glb with stuck := true } } := by
      show execResetNStuck s = _
      unfold execResetNStuck
      rw [hlow]
      dsimp only
      rw [if_neg (by simp [hwatch]), hw]
    exact ⟨_, hrun, rfl, by show _ < n; omega, rfl⟩
  · intro t0 s hlow hwatch
    obtain ⟨n, x, hw, hn, -⟩ := waitTill_eq s (t0 + 60000000000)
    have hrun : exec .twinAliveLatch s = .next (State.wr { s with
        now := n, stu := { s.stu with site := x }, sfi := { s.sfi with aliveOff := true }, glb := { s.glb with stuck := true } } GLB_RST_CAUSE.TWIN_LATCH 1) := by
      show execTwinAliveLatch s = _
      unfold execTwinAliveLatch
      rw [hlow]
      dsimp only
      rw [if_neg (by simp [hwatch]), hw]
    exact ⟨_, hrun, rfl, flag_wr_one _ (f := GLB_RST_CAUSE.TWIN_LATCH) (by decide) (by decide), hn⟩
  · intro tries bits hkc rind bad s hup hboot
    exact ⟨congrArg Host.Outcome.next (if_pos (by simp [hup, hboot])), boot_booting ..⟩
  · intro s hwatch hready hfault
    have hrun : exec .rindSelftestComplete s = .next (((State.wr { s with
        sfi := { s.sfi with ready := true, staged := s.sfi.image }, glb := { s.glb with pwrEn := s.glb.pwrEn || !s.glb.holds.order } } SFI_STAT.STATE 1).wr (CAN_CTL.EN 5) 1).wr (CAN_CTL.FD_EN 5) 1) := by
      show execRindSelftestComplete s = _
      unfold execRindSelftestComplete
      rw [if_neg (by simp [hwatch, hready, hfault])]
    refine ⟨_, hrun, rfl, ?_, ?_, ?_, rfl⟩
    · rw [rd_wr_other _ _ (by decide), rd_wr_other _ _ (by decide)]
      exact rd_wr_same _ (f := SFI_STAT.STATE) _ (by decide)
    · rw [State.flag, rd_wr_disjoint _ (f := CAN_CTL.FD_EN 5) (g := CAN_CTL.EN 5) _ rfl (by decide) (by decide)]
      exact flag_wr_one _ (f := CAN_CTL.EN 5) (by decide) (by decide)
    · exact flag_wr_one _ (f := CAN_CTL.FD_EN 5) (by decide) (by decide)

end Sys2Proof.Proofs.ResetAndBoot
end

section
/-!
PROOFS. Host writes of plain registers and the requests of a mode (spec/00 R9, R10, spec/02 R33, R39 to R46).
-/
namespace Sys2Proof.Proofs.RegisterWritesAndModes

open Sys2Proof Sys2Proof.Machine Sys2Proof.Laws Sys2Proof.Laws.RegisterWritesAndModes Sys2Proof.Proofs.Waits
open Host (Outcome)

variable {s : State}

/-! ### Host writes -/

theorem registerWrite_up (h : s.up = true) (off : BitVec 20) (size : Nat) (v : BitVec 32) :
    exec (.registerWrite off size v) s = .next (s.hostWrite off.toNat size v.toNat) :=
  congrArg Outcome.next (if_pos h)

/-- A register with RW fields alone (R10). -/
theorem hostWrite_hostWdog (s : State) (v : Nat) :
    s.hostWrite 0x50 4 v = s.wr GLB_HOST_WDOG.PERIOD (v % 2 ^ 16) := by
  rw [hw s 0x50 v ⟨0x50, 0x0, 1, 0x0, 1, [⟨0, 16, .rw, 0x7D0, .any⟩]⟩ rfl rfl rfl (by decide) rfl (by decide)]
  simp [State.writeReg, ctlLane, State.writePlain, State.writeSealed, State.writeOpen, State.storeField, State.inRange, FieldDef.part, FieldDef.fld]

/-- A register with W1C fields alone (R10). -/
theorem hostWrite_wakeStat (s : State) (v : Nat) :
    s.hostWrite 0x70 4 v = s.wr GLB_WAKE_STAT.SOURCE (clearBits (s.rd GLB_WAKE_STAT.SOURCE) (v % 2 ^ 4)) := by
  rw [hw s 0x70 v ⟨0x70, 0x0, 1, 0x0, 1, [⟨0, 4, .w1c, 0x0, .any⟩]⟩ rfl rfl rfl (by decide) rfl (by decide)]
  simp [State.writeReg, ctlLane, State.writePlain, State.writeSealed, State.writeOpen, FieldDef.part, FieldDef.fld]

/-- A register with RWS fields alone, in COMMISSION (R10). -/
theorem hostWrite_pwrCfg {v : Nat} (hm : s.glb.mode = .commission) (h1 : 10 ≤ v % 2 ^ 10) (h2 : v % 2 ^ 10 ≤ 1000) :
    s.hostWrite 0x64 4 v = s.wr GLB_PWR_CFG.BO_RIDE (v % 2 ^ 10) := by
  rw [hw s 0x64 v ⟨0x64, 0x0, 1, 0x0, 1, [⟨0, 10, .rws, 0x32, .le 10 1000⟩]⟩ rfl rfl rfl (by decide) rfl (by decide)]
  have hr : 10 ≤ v % 1024 ∧ v % 1024 ≤ 1000 := ⟨h1, h2⟩
  simp [State.writeReg, ctlLane, State.writePlain, State.writeSealed, State.writeOpen, State.storeField, State.inRange, FieldDef.part, FieldDef.fld, hm, hr]

/-! ### Requests -/

/-- A request with its key and none pending is decided (R43). -/
theorem request_decided (hu : s.up = true) (hp : s.flag GLB_MODE_STAT.REQ_PEND = false) (target : Nat) (k : State → State) :
    s.request target 0xA5 k = k s := by
  unfold State.request
  simp [hu, hp]

/-- A request for ACTIVE or SHADOW with every precondition met begins the run (R39, R41). -/
theorem requestRun_met {target : Mode} {cold : Bool}
    (hm : s.glb.mode = .dormant ∨ s.glb.mode = .commission ∨ s.glb.mode = .limp ∧ target = .active ∧ s.limpOver = true)
    (hp : (s.preconditions target cold (s.glb.mode == .commission && s.siteBad.isNone)).all (·.1) = true) :
    ∃ u : State, ∃ sealing, s.requestRun target cold = u.beginRun target cold sealing := by
  have hok : (s.glb.mode == .dormant || s.glb.mode == .commission || (s.glb.mode == .limp && target == .active && s.limpOver)) = true := by
    rcases hm with h | h | ⟨h, rfl, hl⟩ <;> simp_all
  unfold State.requestRun
  dsimp only
  rw [hok, find_none _ hp]
  exact ⟨_, _, rfl⟩

theorem swrst_resets (h : s.glb.mode = .dormant ∨ s.glb.mode = .commission ∨ s.glb.mode = .halt) :
    ∃ u : State, s.swrst 0x5A5A = (u.wr GLB_RST_CAUSE.SWRST 1).mainReset := by
  unfold State.swrst
  rw [if_neg (by decide), if_pos (by rcases h with h | h | h <;> simp [h])]
  exact ⟨_, rfl⟩

/-- Settles O9: a write reaches the one field of its register, and a request that is not refused enters its mode. -/
theorem registerWritesAndModes : Obligations.RegisterWritesAndModes := by
  unfold Obligations.RegisterWritesAndModes
  refine ⟨?_, ?_, ?_, ?_, ?_, ?_, ?_, ?_, ?_⟩
  · intro v s hu
    have hrun := (registerWrite_up hu 0x50 4 v).trans (congrArg Outcome.next (hostWrite_hostWdog s v.toNat))
    refine ⟨_, hrun, ?_, onlyRegs_wr s _ _⟩
    rw [rd_wr_same _ (f := GLB_HOST_WDOG.PERIOD) _ (by decide), Nat.mod_mod]
  · intro v s hu
    exact ⟨_, (registerWrite_up hu 0x70 4 v).trans (congrArg Outcome.next (hostWrite_wakeStat s v.toNat)), rfl⟩
  · intro v s hu hm h1 h2
    exact ⟨_, (registerWrite_up hu 0x64 4 v).trans (congrArg Outcome.next (hostWrite_pwrCfg hm h1 h2)), rfl⟩
  · intro s hu hm
    obtain ⟨u, hrun⟩ := swrst_resets hm
    obtain ⟨h1, h2, h3, -, -⟩ := ResetAndBoot.mainReset_restarted (u.wr GLB_RST_CAUSE.SWRST 1)
    refine ⟨_, congrArg Outcome.next ((if_pos hu).trans hrun), h1, h2, ?_, h3⟩
    rw [State.flag, rd_mainReset _ (by decide) (by decide) (by decide)]
    exact flag_wr_one _ (f := GLB_RST_CAUSE.SWRST) (by decide) (by decide)
  · intro s hu hp hm hd
    have hrun : s.requestDormant = s.setMode .dormant 1 := by
      unfold State.requestDormant
      rw [hm]
      exact if_pos hd
    obtain ⟨h1, h2, h3⟩ := setMode_mode s .dormant 1
    exact ⟨_, congrArg Outcome.next ((request_decided hu hp 0 _).trans hrun), h1, h2, h3.trans hm⟩
  · intro s hu hp hm hpw
    have hrun : s.requestCommission = s.password.1.setMode .commission 1 := by
      unfold State.requestCommission
      rw [if_pos (by simp [hm])]
      exact if_pos hpw
    obtain ⟨h1, h2, -⟩ := setMode_mode s.password.1 .commission 1
    exact ⟨_, congrArg Outcome.next ((request_decided hu hp 1 _).trans hrun), h1, h2⟩
  · intro cold s hu hp hm hmet
    obtain ⟨u, sealing, hrun⟩ := requestRun_met (target := .active) (by simpa using hm) hmet
    exact ⟨_, congrArg Outcome.next ((request_decided hu hp 2 _).trans hrun), beginRun_mode ..⟩
  · intro cold s hu hp hm hmet
    obtain ⟨u, sealing, hrun⟩ := requestRun_met (target := .shadow) (hm.imp_right .inl) hmet
    exact ⟨_, congrArg Outcome.next ((request_decided hu hp 3 _).trans (congrArg State.twinWatch hrun)), beginRun_mode ..⟩
  · intro s hu hp hm hl
    have hrun : s.requestLimp = State.wr { s with glb := { s.glb with limpPend := some 1 } } GLB_MODE_STAT.REQ_PEND 1 := by
      unfold State.requestLimp
      rw [if_neg (by simp [hm]), if_neg (by simp [hl])]
    exact ⟨_, congrArg Outcome.next ((request_decided hu hp 4 _).trans hrun), rfl,
      flag_wr_one _ (f := GLB_MODE_STAT.REQ_PEND) (by decide) (by decide), rfl⟩

end Sys2Proof.Proofs.RegisterWritesAndModes
end

section
/-!
PROOFS. Own effects of HALT, of the watchdog, of the wake sources and of PWR_EN (spec/02 R33 to R46).
-/
namespace Sys2Proof.Proofs.WatchdogAndWake

open Sys2Proof Sys2Proof.Machine Sys2Proof.Laws Sys2Proof.Laws.RegisterWritesAndModes Sys2Proof.Proofs.Waits
open Host (Outcome)

variable {s : State}

/-- The expiry in ACTIVE (R46): it is kept, and a LIMP entry with cause 2 pends. -/
theorem hostWatchdogExpire_active (hu : s.up = true) (hm : s.glb.mode = .active) (hp : s.rd GLB_HOST_WDOG.PERIOD ≠ 0)
    (hw : s.glb.wdogOut = false) (hl : s.glb.limpPend = none) :
    ∃ w : State, w.glb = s.glb ∧ w.regs = s.regs ∧ w.log = s.log ∧ s.wdogAt ≤ w.now ∧
      exec .hostWatchdogExpire s =
        .next (withLimp ({ w with glb := { w.glb with wdogOut := true } }.ev 0x0105 0 (w.rd GLB_HOST_WDOG.PERIOD) 2) 2) := by
  obtain ⟨n, x, hwait, hn, -⟩ := waitTill_eq s s.wdogAt
  obtain ⟨w, hsw⟩ : ∃ w : State, { s with now := n, stu := { s.stu with site := x } } = w := ⟨_, rfl⟩
  have hg : w.glb = s.glb := by rw [← hsw]
  refine ⟨w, hg, by rw [← hsw], by rw [← hsw], by rw [← hsw]; exact hn, ?_⟩
  show execHostWatchdogExpire s = _
  unfold execHostWatchdogExpire
  dsimp only
  rw [if_pos (by simp [hu, hm, hw, hp]), hwait, hsw, wdogExpire_active w (by rw [hg, hm]) (by rw [hg, hl]),
    twinWatch_of_mode (by simp [withLimp, hg, hm])]

/-- Settles O10: an accepted HALT, a pending LIMP, the watchdog, the wake sources and PWR_EN low. -/
theorem registerWritesAndModesPart2 : Obligations.RegisterWritesAndModesPart2 := by
  unfold Obligations.RegisterWritesAndModesPart2
  refine ⟨?_, ?_, ?_, ?_, ?_, ?_, ?_, ?_⟩
  · intro s hu hp hm
    have hrun : s.requestHalt = s.setMode .halt 1 := by
      unfold State.requestHalt
      rw [if_pos (by simpa using hm)]
    obtain ⟨h1, h2, h3⟩ := setMode_mode s .halt 1
    exact ⟨_, congrArg Outcome.next ((RegisterWritesAndModes.request_decided hu hp 5 _).trans hrun), h1, h2, h3⟩
  · intro cause s hu hl hm
    have hg : (s.waitSite (s.tickAt s.stu.nextTick)).glb = s.glb := by simp
    obtain ⟨h1, h2, h3⟩ := setMode_mode (s.waitSite (s.tickAt s.stu.nextTick)) .limp cause
    have hrun := limpNow_eq (s.waitSite (s.tickAt s.stu.nextTick)) cause (by rw [hg, hl]) (by rw [hg, hm])
    exact ⟨_, congrArg Outcome.next ((if_pos (by simp [hu, hl])).trans hrun), h1, h2, h3.trans (by rw [hg, hm])⟩
  · intro v s hu
    exact ⟨_, congrArg Outcome.next (if_pos hu), rfl⟩
  · intro s hu hm hp hw hl
    obtain ⟨w, hg, hr, hlog, hn, hrun⟩ := hostWatchdogExpire_active hu hm hp hw hl
    have hup : w.mainUp = true := (mainUp_congr hg (rd_regs hr _)).trans (mainUp_of_up hu)
    have hone := ev_logOne { w with glb := { w.glb with wdogOut := true } } 0x0105 0 (w.rd GLB_HOST_WDOG.PERIOD) 2 hup
    refine ⟨_, hrun, by simp [withLimp, hg], ?_, by simpa [withLimp, State.wdogAt] using hn⟩
    rw [Nat.mod_eq_of_lt (Nat.lt_of_lt_of_le (rd_lt ..) (by decide)), rd_regs hr] at hone
    exact logOne_of_log hone hlog.symm (by rw [rd_regs hr]; rfl)
  · intro s ha hc
    exact ⟨_, congrArg Outcome.next (if_pos (by simp [ha, hc])), wake_rdBit s 3 (by decide), rfl, by simp [State.wake], rfl⟩
  · intro s ha hc hal hn
    obtain ⟨n, x, hw, -, -⟩ := waitTill_eq s (s.now + (1000000000 * s.rd STU_RTC_ALARM.ALARM - s.rtcNs))
    obtain ⟨w, hsw⟩ : ∃ w : State, { s with now := n, stu := { s.stu with site := x } } = w := ⟨_, rfl⟩
    have hrun : exec .rtcAlarm s = .next ((w.wr STU_RTC_SEC.SEC (s.rd STU_RTC_ALARM.ALARM)).wake 2) := by
      show execRtcAlarm s = _
      unfold execRtcAlarm
      dsimp only
      rw [if_neg (by simp [ha, hc, hal, hn]), hw, hsw]
    refine ⟨_, hrun, wake_rdBit _ 2 (by decide), by rw [← hsw]; rfl, ?_⟩
    rw [wake_rd _ _ _ (by decide), rd_wr_same _ (f := STU_RTC_SEC.SEC) _ (by decide)]
    exact Nat.mod_eq_of_lt (rd_lt s STU_RTC_ALARM.ALARM)
  · intro can4 frame s ha hc
    exact ⟨_, congrArg Outcome.next (if_pos (by simp [ha, hc])), wake_rdBit s _ (by cases can4 <;> decide), rfl⟩
  · intro s hp hm
    exact ⟨_, congrArg Outcome.next (if_pos (by simp [hp, hm])), rfl⟩

end Sys2Proof.Proofs.WatchdogAndWake
end

section
/-!
PROOFS. Own effects of the clock references, of the serial PLLs and of site time's own registers (spec/03).
-/
namespace Sys2Proof.Proofs.ClocksAndSiteTime

open Sys2Proof Sys2Proof.Machine Sys2Proof.Laws Sys2Proof.Laws.ClocksAndSiteTime Sys2Proof.Proofs.Waits
open Host (Outcome)

variable {s : State}

/-- On the Dreak channel the unit is a PH4800, and the command's gate is open. -/
theorem serial_gate {dreak : Bool} (hm : s.mainUp = true) (hd : dreak = true → s.grade = .ph4800) (k : State → State) :
    (s.onLane fun a => if dreak && a.grade = .ph4812 then a else k a) = (k s).twinWatch.scanReports := by
  rw [onLane_up hm, if_neg]
  cases dreak
  · simp
  · simp [hd rfl]

/-- What SERIAL_PLL_UNLOCK shows and logs before the lanes of the channel go back (R60). -/
def unlocked (s : State) (dreak : Bool) : State :=
  ((s.wr (if dreak then CKG_STAT.SER_DRK_LOCK else CKG_STAT.SER_CAB_LOCK) 0).wr CKG_STAT.SER_UNLOCKED 1).ev 0x0202 0 (if dreak then 2 else 1) 0

theorem serialUnlock_eq (s : State) (dreak : Bool) :
    s.serialUnlock dreak = (if dreak then [12, 13] else List.range 12).foldl (fun v l =>
      if v.laneActive l then (v.laneDown l 4 2).toDetect l else if 3 ≤ v.laneState l then v.toDetect l else v) (unlocked s dreak) := by
  cases dreak <;> rfl

theorem unlocked_flags (s : State) (dreak : Bool) :
    (unlocked s dreak).flag (if dreak then CKG_STAT.SER_DRK_LOCK else CKG_STAT.SER_CAB_LOCK) = false ∧
    (unlocked s dreak).flag CKG_STAT.SER_UNLOCKED = true := by
  unfold unlocked State.flag
  rw [rd_ev, rd_ev]
  refine ⟨?_, flag_wr_one _ (f := CKG_STAT.SER_UNLOCKED) (by decide) (by decide)⟩
  rw [rd_wr_disjoint _ _ (by cases dreak <;> decide) (by decide) (by cases dreak <;> decide)]
  exact flag_wr_zero _ (by cases dreak <;> decide)

theorem unlocked_log (hm : s.mainUp = true) (dreak : Bool) :
    s.logOne (unlocked s dreak) 0x0202 0 (if dreak then 2 else 1) 0 := by
  obtain ⟨u, hu⟩ : ∃ u, (s.wr (if dreak then CKG_STAT.SER_DRK_LOCK else CKG_STAT.SER_CAB_LOCK) 0).wr CKG_STAT.SER_UNLOCKED 1 = u := ⟨_, rfl⟩
  have hup : u.mainUp = true := by
    rw [← hu, mainUp_wr _ _ (by decide), mainUp_wr _ _ (by cases dreak <;> decide), hm]
  have h := ev_logOne u 0x0202 0 (if dreak then 2 else 1) 0 hup
  unfold unlocked
  rw [hu]
  rw [show (if dreak = true then 2 else 1) % 2 ^ 64 = (if dreak = true then 2 else 1) by cases dreak <;> rfl] at h
  exact logOne_of_log h (by rw [← hu]; simp) rfl

theorem serialLock_eq (s : State) (dreak : Bool) :
    s.serialLock dreak = s.wr (if dreak then CKG_STAT.SER_DRK_LOCK else CKG_STAT.SER_CAB_LOCK) 1 := by
  cases dreak <;> rfl

/-- Settles O11: holds, checks and locks follow their gates; site time is set, latched and labelled by single writes. -/
theorem clocksAndSiteTime : Obligations.ClocksAndSiteTime := by
  unfold Obligations.ClocksAndSiteTime
  refine ⟨?_, ?_, ?_, ?_, ?_, ?_, ?_, ?_, ?_⟩
  · intro s hw hr
    exact ⟨_, congrArg Outcome.next (if_pos hw), refFault_hold s 0 hr⟩
  · intro memory s hm hr
    exact ⟨_, congrArg Outcome.next (if_pos hm), refFault_hold s _ hr⟩
  · intro t0 cause s hr
    obtain ⟨w, hsw⟩ : ∃ w, s.waitTill (t0 + 10000000) = w := ⟨_, rfl⟩
    have hg : w.glb = s.glb := by rw [← hsw]; simp
    have hregs : w.regs = s.regs := by rw [← hsw]; simp
    have hn : t0 + 10000000 ≤ w.now := by rw [← hsw]; exact le_now_waitTill s _
    obtain ⟨u, hug, hur, hun, hrun⟩ : ∃ u : State, u.glb = w.glb ∧ u.regs = w.regs ∧ u.now = w.now ∧ exec .refRestored s =
        .next { u with glb := { u.glb with holds := { u.glb.holds with ref := false } }, stu := { u.stu with refHold := none } } := by
      refine ⟨if cause = 0 then w.ev 0x0201 0 0 ((w.now - t0) / 1000000) else w.ev 0x0202 0 (if cause = 1 then 0 else 3) 1, ?_, ?_, ?_, ?_⟩
      · split <;> simp
      · split <;> simp
      · split <;> simp
      · show execRefRestored s = _
        unfold execRefRestored
        rw [hr]
        dsimp only
        rw [hsw]
    refine ⟨_, hrun, ?_, rfl, hur.trans hregs, hn.trans (Nat.le_of_eq hun.symm)⟩
    show { u.glb with holds := { u.glb.holds with ref := false } } = _
    rw [hug, hg]
  · intro dreak s hm hd
    obtain ⟨h1, h2⟩ := unlocked_flags s dreak
    exact ⟨unlocked s dreak, congrArg Outcome.next ((serial_gate hm hd _).trans (by rw [serialUnlock_eq])), h1, h2, unlocked_log hm dreak⟩
  · intro dreak s hm hd
    refine ⟨_, congrArg Outcome.next ((serial_gate hm hd _).trans (by rw [serialLock_eq])), ?_, ?_⟩
    · exact flag_wr_one _ (by cases dreak <;> decide) (by cases dreak <;> decide)
    · simpa [apply_ite Fld.off, CKG_STAT.SER_DRK_LOCK, CKG_STAT.SER_CAB_LOCK] using onlyRegs_wr s (if dreak then CKG_STAT.SER_DRK_LOCK else CKG_STAT.SER_CAB_LOCK) 1
  · intro count s hr hm hc
    have hgood : ¬ (480000 * 3 < ((count : Int) - ((480000 : Nat) : Int)).natAbs * 100) := by omega
    obtain ⟨v, hv⟩ : ∃ v, clampS 8 (divZ (((count : Int) - ((480000 : Nat) : Int)) * 1000) 480000) = v := ⟨_, rfl⟩
    obtain ⟨u, hu⟩ : ∃ u : State, { s with stu := { s.stu with safBad := 0 } }.wrS CKG_STAT.SAF_DEV v = u := ⟨_, rfl⟩
    have hrun : exec (.safCheckWindow count) s = .next { u with sfi := { u.sfi with safBad := false } } := by
      show execSafCheckWindow count s = _
      unfold execSafCheckWindow
      simp only [hr, hm, Bool.not_true, Bool.false_eq_true, if_false, if_true, hgood, decide_false, Bool.not_false]
      rw [if_neg (by decide), hv, hu]
    refine ⟨_, hrun, by rw [← hu]; rfl, rfl, by rw [← hu]; rfl, ?_⟩
    rw [hv]
    show u.rd CKG_STAT.SAF_DEV = _
    rw [← hu]
    exact rd_wr_same _ (f := CKG_STAT.SAF_DEV) _ (by decide)
  · intro s hu hm
    have hmain : (s.cycles 1).mainUp = true := (mainUp_congr (by simp) (rd_regs (by simp) _)).trans (mainUp_of_up hu)
    obtain ⟨ns, hns⟩ : ∃ ns, s.rd64 STU_SET_NS_LO.NS_LO STU_SET_NS_HI.NS_HI = ns := ⟨_, rfl⟩
    have hrun : s.setTime 0x5E7E = (s.cycles 1).acquire ns s.siteNs := by
      unfold State.setTime
      rw [if_neg (by decide), if_pos hm, hns]
    rw [hns]
    exact ⟨_, congrArg Outcome.next ((if_pos hu).trans hrun), acquire_site _ _ _, acquire_valid _ _ _,
      logOne_of_log (acquire_log _ ns s.siteNs hmain) (by simp) rfl⟩
  · intro s hu
    refine ⟨_, congrArg Outcome.next (if_pos hu), ?_, ?_, ?_⟩
    · unfold State.latchTime State.wr64
      rw [rd_wr_other _ _ (by decide), rd_wr_other _ _ (by decide)]
      exact rd_wr_same _ (f := STU_TIME_FRAC.FRAC) _ (by decide)
    · unfold State.latchTime State.wr64 State.rd64
      rw [rd_wr_same _ (f := STU_TIME_NS_HI.NS_HI) _ (by decide), rd_wr_other _ _ (by decide), rd_wr_same _ (f := STU_TIME_NS_LO.NS_LO) _ (by decide)]
      have := Nat.mod_lt (s.stu.site / 2 ^ 32) (show 0 < 2 ^ 64 by decide)
      show s.siteNs % 2 ^ 32 % 2 ^ 32 + 2 ^ 32 * (s.siteNs / 2 ^ 32 % 2 ^ 32 % 2 ^ 32) = s.siteNs
      unfold State.siteNs
      omega
    · exact onlyRegs_step (onlyRegs_step (onlyRegs_wr s _ _) _ _) _ _
  · intro v s hu hv
    have hrun : s.armLabel v.toNat = { s.wr STU_PPS_LABEL_HI.LBL_HI v.toNat with stu := { s.stu with labelArmed := true } } := by
      have h0 : s.rd STU_DISC_STAT.VALID = 0 := by simpa [State.flag] using hv
      unfold State.armLabel
      simp [h0]
    refine ⟨_, congrArg Outcome.next ((if_pos hu).trans hrun), ?_, rfl, rfl⟩
    exact (rd_wr_same s (f := STU_PPS_LABEL_HI.LBL_HI) _ (by decide)).trans (Nat.mod_eq_of_lt v.isLt)

end Sys2Proof.Proofs.ClocksAndSiteTime
end

section
/-!
PROOFS. Own effects of the sources of site time, of the RTC and of PPS_OUT (spec/03).
-/
namespace Sys2Proof.Proofs.TimeSources

open Sys2Proof Sys2Proof.Machine Sys2Proof.Laws Sys2Proof.Laws.ClocksAndSiteTime Sys2Proof.Proofs.Waits
open Host (Outcome)

variable {s : State}

/-- A qualified edge with a label armed: site time takes the label before the STU chooses its source (R66). -/
theorem ppsEdge_labels (hp : s.flag STU_DISC_CFG.SRC_PPS = true) (hv : s.rd STU_DISC_STAT.VALID = 0)
    (hl : s.stu.labelArmed = true) (hok : s.ppsPeriodOk = true) :
    ∃ a, s.acquire (s.rd64 STU_PPS_LABEL_LO.LBL_LO STU_PPS_LABEL_HI.LBL_HI) 0 = a ∧
      s.ppsEdge = withPps (State.selectSource { a with stu := { a.stu with labelArmed := false, ppsAt := some a.now } }) s.now := by
  refine ⟨_, rfl, ?_⟩
  unfold State.ppsEdge State.ppsAcquire withPps
  rw [if_neg (by simp [hp])]
  dsimp only
  rw [if_pos hv, if_pos (by simp [hl, hok])]

/-- An offset that is in time, wanted and not outranked feeds the source chosen (R70). -/
theorem timeOffset_taken {d : DescRef} (offset measuredAt : BitVec 64) (hr : s.ready d 0x0201 = true)
    (ht : (s.siteNs : Int) - (measuredAt.toNat : Int) ≤ 2000000000) (hh : s.flag STU_DISC_CFG.SRC_HOST = true)
    (hp : s.ppsOk = false) (h10 : s.ref10Ok = false) (htw : s.glb.mode = .shadow → s.stu.twinOk = false) :
    ∃ a, State.selectSource { s.start d with stu := { s.stu with hostAt := some s.now } } = a ∧
      exec (.timeOffset d offset measuredAt) s =
        .next ((if a.rd STU_DISC_STAT.SOURCE = 4 then a.discipline (sx 64 offset.toNat) else a).done d) := by
  refine ⟨_, rfl, ?_⟩
  show execTimeOffset d offset measuredAt s = _
  unfold execTimeOffset
  rw [run_ready hr]
  have hlate : ¬ 2000000000 < ((s.start d).siteNs : Int) - (measuredAt.toNat : Int) := Int.not_lt.mpr ht
  have hopen : ¬ ((!(s.start d).flag STU_DISC_CFG.SRC_HOST || (s.start d).ppsOk || (s.start d).ref10Ok ||
      ((s.start d).glb.mode = .shadow && (s.start d).stu.twinOk)) = true) := by
    show ¬ ((!s.flag STU_DISC_CFG.SRC_HOST || s.ppsOk || s.ref10Ok || (s.glb.mode = .shadow && s.stu.twinOk)) = true)
    simp [hh, hp, h10]
    exact htw
  rw [if_neg hlate, if_neg hopen]
  rfl

/-- Settles O12: each source's loss, the offset, the label, the RTC and the pulse. -/
theorem clocksAndSiteTimePart2 : Obligations.ClocksAndSiteTimePart2 := by
  unfold Obligations.ClocksAndSiteTimePart2
  refine ⟨?_, ?_, ?_, ?_, ?_, ?_, ?_, ?_, ?_⟩
  · intro s hu hp hv hl hok
    obtain ⟨a, ha, hrun⟩ := ppsEdge_labels hp hv hl hok
    have hnow : a.now = s.now := by rw [← ha]; unfold State.acquire; simp
    refine ⟨_, congrArg Outcome.next ((if_pos hu).trans hrun), congrArg some hnow, rfl, ?_, ?_⟩
    · show a.siteNs = _
      rw [← ha, acquire_site]
    · show a.flag STU_DISC_STAT.VALID = true
      rw [← ha, acquire_valid]
  · intro t0 s hu hp h2 h5
    obtain ⟨w, hsw⟩ : ∃ w, s.waitTill (t0 + 3000000000) = w := ⟨_, rfl⟩
    have hregs : w.regs = s.regs := by rw [← hsw]; simp
    have hrun : exec .ppsLoss s = .next { w with stu := { w.stu with ppsAt := none } } := by
      show execPpsLoss s = _
      unfold execPpsLoss
      rw [hp]
      dsimp only
      rw [hsw, if_pos hu, if_neg (by simp [rd_regs hregs, h2, h5])]
    exact ⟨_, hrun, rfl, by rw [← hsw]; exact le_now_waitTill s _, hregs, by rw [← hsw]; simp⟩
  · intro dev s hu hr hd
    refine ⟨_, ?_, rfl⟩
    show execRef10mMeasurement dev s = _
    unfold execRef10mMeasurement
    rw [if_neg (by simp [hu, hr]), if_pos hd]
  · intro t0 s hu hr h3 h5
    obtain ⟨w, hsw⟩ : ∃ w, s.cycles 10000 = w := ⟨_, rfl⟩
    have hrun : exec .ref10mLoss s = .next { w with stu := { w.stu with ref10At := none } } := by
      show execRef10mLoss s = _
      unfold execRef10mLoss
      rw [if_pos (by simp [hu, hr])]
      dsimp only
      rw [hsw, if_neg (by simp [h3, h5])]
    exact ⟨_, hrun, rfl, by rw [← hsw]; simp, by rw [← hsw]; simp, by rw [← hsw]; simp⟩
  · intro t0 s hu hh h4
    obtain ⟨w, hsw⟩ : ∃ w, s.waitTill (t0 + 10000000000) = w := ⟨_, rfl⟩
    have hregs : w.regs = s.regs := by rw [← hsw]; simp
    have hrun : exec .hostOffsetLoss s = .next { w with stu := { w.stu with hostAt := none } } := by
      show execHostOffsetLoss s = _
      unfold execHostOffsetLoss
      rw [hh]
      dsimp only
      rw [hsw, if_pos hu, if_neg (by simp [rd_regs hregs, h4])]
    exact ⟨_, hrun, rfl, by rw [← hsw]; exact le_now_waitTill s _, hregs, by rw [← hsw]; simp⟩
  · intro d offset measuredAt s hr ht hh ⟨hp, h10, htw⟩
    obtain ⟨a, ha, hrun⟩ := timeOffset_taken offset measuredAt hr ht hh hp h10 htw
    exact ⟨_, hrun.trans (by rw [← ha]), rfl⟩
  · intro s hm hv
    obtain ⟨u, hrun⟩ := rtcAlign_run s hm hv
    obtain ⟨n, hn⟩ : ∃ n, u.siteNs = n := ⟨_, rfl⟩
    rw [hn] at hrun
    have hsite := rtcAlign_site (u.wr STU_RTC_SEC.SEC (n / 1000000000)) u n (by simp) hn
    refine ⟨_, hrun, hsite.symm, rfl, ?_⟩
    rw [hsite]
    exact rd_wr_same u (f := STU_RTC_SEC.SEC) _ (by decide)
  · intro s hm hv he ho
    obtain ⟨k, hk⟩ : ∃ k, ((divUp ((s.siteNs : Int) + s.rdS STU_PPS_OUT_CFG.COMP).toNat 1000000000 * 1000000000 : Nat) -
      s.rdS STU_PPS_OUT_CFG.COMP).toNat = k := ⟨_, rfl⟩
    obtain ⟨n, x, hw, hn⟩ := waitSite_eq s k
    have hrun : exec .ppsOutRise s = .next { s with now := n, stu := { s.stu with site := x, ppsOut := true, ppsOutAt := n } } := by
      show execPpsOutRise s = _
      unfold execPpsOutRise
      rw [if_pos (by simp [hm, hv, he, ho])]
      dsimp only
      rw [hk, hw]
    exact ⟨_, hrun, rfl, rfl, rfl, hn⟩
  · intro s ho
    obtain ⟨n, x, hw, hn, -⟩ := waitTill_eq s (s.stu.ppsOutAt + 1000000 * s.rd STU_PPS_OUT_CFG.WIDTH)
    have hrun : exec .ppsOutFall s = .next { s with now := n, stu := { s.stu with site := x, ppsOut := false } } := by
      show execPpsOutFall s = _
      unfold execPpsOutFall
      rw [if_pos ho]
      dsimp only
      rw [hw]
    exact ⟨_, hrun, rfl, rfl, rfl, hn⟩

end Sys2Proof.Proofs.TimeSources
end

section
/-!
PROOFS. Own effects of the tick's boundary and of the Churn's counters and captures (spec/04).
-/
namespace Sys2Proof.Proofs.Churn

open Sys2Proof Sys2Proof.Machine Sys2Proof.Laws Sys2Proof.Laws.Churn Sys2Proof.Proofs.Waits
open Host (Outcome)

variable {s : State}

/-- Outside the modes in which the Churn runs a boundary closes the Press's window and forgets what was late (R86). -/
theorem passBoundary_keep (s : State) :
    s.passBoundary.stu.nextTick = s.stu.nextTick + 1 ∧ s.passBoundary.glb = s.glb ∧ s.passBoundary.log = s.log ∧
    s.passBoundary.con.table = s.con.table ∧ s.passBoundary.alp.curds = s.alp.curds := by
  obtain ⟨h1, h2, h3, h4⟩ := pressPublish_keep (s.waitSite (s.tickAt s.stu.nextTick))
  obtain ⟨w, hw⟩ : ∃ w, (s.waitSite (s.tickAt s.stu.nextTick)).pressPublish = w := ⟨_, rfl⟩
  rw [hw] at h1 h2 h3 h4
  unfold State.passBoundary
  dsimp only
  rw [hw]
  refine ⟨rfl, h3.trans (by simp), h1.trans (by simp), ?_, h4.trans (by simp)⟩
  exact (congrArg Con.table h2).trans (by simp)

theorem writeTickLen_taken {v : Nat} (hm : s.glb.mode = .commission) (hn : v % 2 ^ STU_TICK_CFG.TICK_LEN.w ≠ s.rd STU_TICK_CFG.TICK_LEN)
    (hr : 10 ≤ v % 2 ^ STU_TICK_CFG.TICK_LEN.w ∧ v % 2 ^ STU_TICK_CFG.TICK_LEN.w ≤ 200)
    (hf : hostEnabled s.con.table ≤ entryMaxOf (v % 2 ^ STU_TICK_CFG.TICK_LEN.w * 10) - 64) :
    s.writeTickLen v = (s.wr STU_TICK_CFG.TICK_LEN (v % 2 ^ STU_TICK_CFG.TICK_LEN.w)).retick := by
  obtain ⟨h1, h2⟩ := hr
  unfold State.writeTickLen
  dsimp only
  rw [if_neg hn, if_neg (by simp [hm]), if_neg (by simpa using ⟨h1, h2⟩), if_neg (Nat.not_lt.mpr hf)]

/-- Settles O13: the boundary in both kinds of mode, the tick's length, the counters' clears and the captures. -/
theorem churn : Obligations.Churn := by
  unfold Obligations.Churn
  refine ⟨?_, ?_, ?_, ?_, ?_, ?_, ?_, ?_, ?_⟩
  · intro times s hu hr
    exact ⟨s.strobe.1, s.strobe.2, congrArg Outcome.next ((if_neg (by simp [hu])).trans (if_pos hr)), rfl, strobe_tick s⟩
  · intro times s hu hr
    exact ⟨_, congrArg Outcome.next ((if_neg (by simp [hu])).trans (if_neg (by simp [hr]))), passBoundary_keep s⟩
  · intro stage cycles mem s hu hr
    exact ⟨s.strobe.1, s.strobe.2, _, congrArg Outcome.next (if_pos (by simp [hu, hr])), rfl, rfl, strobe_tick s⟩
  · intro v s hu hm hn hr hf
    refine ⟨_, congrArg Outcome.next ((if_pos hu).trans (writeTickLen_taken hm hn hr hf)), ?_, by simp, rfl⟩
    rw [rd_regs (retick_regs _), rd_wr_same _ (f := STU_TICK_CFG.TICK_LEN) _ (by decide), Nat.mod_mod]
  · intro s hu
    refine ⟨s.clearStages, congrArg Outcome.next (if_pos hu), ⟨rfl, fun o ho => ?_⟩, ?_, ?_, ?_, ?_⟩
    · simp only [List.mem_cons, List.not_mem_nil, or_false, not_or] at ho
      obtain ⟨h1, h2, h3, h4⟩ := ho
      unfold State.clearStages
      rw [reg_setReg_other _ _ (Ne.symm h4), reg_setReg_other _ _ (Ne.symm h3), reg_setReg_other _ _ (Ne.symm h2),
        reg_setReg_other _ _ (Ne.symm h1)]
    all_goals
      unfold State.clearStages
      simp [reg_setReg_other, reg_setReg_same]
  · intro s hu
    refine ⟨_, congrArg Outcome.next (if_pos hu), ?_, ?_, ?_, onlyRegs_step (onlyRegs_step (onlyRegs_wr s _ _) _ _) _ _⟩
    · unfold State.clearAlpCounts
      rw [rd_wr_other _ _ (by decide), rd_wr_other _ _ (by decide)]
      exact rd_wr_same _ (f := ALP_CLAMP_CNT.CNT) _ (by decide)
    · unfold State.clearAlpCounts
      rw [rd_wr_other _ _ (by decide)]
      exact rd_wr_same _ (f := ALP_SUBST_CNT.CNT) _ (by decide)
    · exact rd_wr_same _ (f := ALP_OVR_STAT.TOTAL) _ (by decide)
  · intro s hu
    exact ⟨_, congrArg Outcome.next (if_pos hu), rfl, rfl⟩
  · intro d first count kind addr len s hr h1 h2 h3
    exact ⟨_, capture_run s d first count kind addr len hr h1 h2 h3, rfl, rfl, rfl⟩
  · intro d c s hu hd hf ⟨h1, h2⟩
    obtain ⟨u, hus, hua, hur, hul, hrun⟩ : ∃ u : State, u.served d = true ∧ u.alp.captures = s.alp.captures.erase c ∧ u.regs = s.regs ∧
        u.log = s.log ∧ exec .captureComplete s = .next (u.complete d.ring.val d.idx.toNat false false 0 0
          (leBytes 4 c.first ++ leBytes 2 (s.captureBytes c).length)) := by
      refine ⟨if (s.captureBytes c).isEmpty then { s with alp := { s.alp with captures := s.alp.captures.erase c } }
        else { s with alp := { s.alp with captures := s.alp.captures.erase c } }.emit (.host c.addr (s.captureBytes c).flatten), ?_, ?_, ?_, ?_, ?_⟩
      · split <;> exact hd
      · split <;> rfl
      · split <;> rfl
      · split <;> rfl
      · show execCaptureComplete s = _
        unfold execCaptureComplete
        rw [hf]
        dsimp only
        rw [if_neg (by simp [hu]), h1, h2]
    exact ⟨_, hrun, by rw [complete_alp]; exact hua, (complete_regs hus ..).trans hur, (complete_log hus ..).trans hul,
      complete_answered u hus ..⟩

end Sys2Proof.Proofs.Churn
end

section
/-!
PROOFS. Own effects of the edits of the constraint table, of the groups and of migrations (spec/05).
-/
namespace Sys2Proof.Proofs.ConstraintsAndMigration

open Sys2Proof Sys2Proof.Machine Sys2Proof.Laws Sys2Proof.Laws.ConstraintsAndMigration
open Host (Outcome)

variable {s : State} {d : DescRef}

/-- An edit that leaves the rings alone completes with the number of enabled entries (R115). -/
theorem editDone (h : s.ready d 0x0301 = true) {u : State} (hh : u.hif = (s.start d).hif) :
    (u.done d u.editResult).con = u.con ∧ (u.done d u.editResult).regs = u.regs ∧ (u.done d u.editResult).log = u.log ∧
    (u.done d u.editResult).answered d false false 0 0 (leBytes 4 (hostEnabled (u.done d u.editResult).con.table)) := by
  have hs : u.served d = true := still_served h (congrArg Hif.rings hh)
  have ha := done_answered u hs u.editResult 0 0
  refine ⟨by simp, done_regs hs .., done_log hs .., ?_⟩
  rw [done_con]
  exact ha

/-- A write of a group that opens no fifth membership is taken (R120). -/
theorem writeGroup_taken {n v : Nat} (hm : s.glb.mode = .commission) (hc : s.gradeCut (0x10300 + 4 * n) v = (s, v))
    (hg : ∀ p ∈ List.range 24, (low 24 v).testBit p = true →
      ((List.range 64).filter (fun g => g != n && s.rdBit (ALP_GROUP.PORTS g) p)).length < 4) :
    s.writeGroup n v = if low 24 v = s.rd (ALP_GROUP.PORTS n) then s else s.wr (ALP_GROUP.PORTS n) (low 24 v) := by
  have hfind : (List.range 24).find? (fun p => (low 24 v).testBit p &&
      decide (4 ≤ ((List.range 64).filter (fun g => g != n && s.rdBit (ALP_GROUP.PORTS g) p)).length)) = none := by
    rw [List.find?_eq_none]
    intro p hp h
    obtain ⟨hb, h4⟩ := Bool.and_eq_true_iff.mp h
    exact Nat.not_le.mpr (hg p hp hb) (of_decide_eq_true h4)
  unfold State.writeGroup
  rw [hc]
  dsimp only
  rw [if_neg (show ¬ (s.glb.mode != .commission) = true by simp [hm]), hfind]

theorem low_lt (n v : Nat) : low n v < 2 ^ n := Nat.mod_lt _ (by positivity)

/-- A proposal of a present, enabled block and port joins the queue (R125). -/
theorem migrate_queued {block port : BitVec 16} (ramp : BitVec 16) (force reservedZero : Bool) (h : s.ready d 0x0302 = true)
    (hb : block.toNat / 2048 = 2 ∧ block.toNat % 2048 < 48 ∧ s.absent 2 (block.toNat % 2048) = false ∧ s.blockOn (block.toNat % 2048) = true)
    (hp : port.toNat / 2048 = 1 ∧ port.toNat % 2048 < 24 ∧ s.absent 1 (port.toNat % 2048) = false ∧ s.portOn (port.toNat % 2048) = true)
    (hm : s.glb.mode ≠ .dormant ∧ s.glb.mode ≠ .commission) :
    exec (.migrate d block port ramp force reservedZero) s = .next {
      s.start d with con := { s.con with proposals := s.con.proposals ++ [{
        ring := d.ring.val, idx := d.idx.toNat, block := block.toNat % 2048, new := port.toNat % 2048, ramp := ramp.toNat, force := force, reservedZero := reservedZero }] } } := by
  obtain ⟨hb1, hb2, hb3, hb4⟩ := hb
  obtain ⟨hp1, hp2, hp3, hp4⟩ := hp
  have hp0 : port.toNat ≠ 0 := by intro h0; simp [h0] at hp1
  show execMigrate d block port ramp force reservedZero s = _
  unfold execMigrate
  rw [run_ready h]
  dsimp only
  rw [if_neg (by simp [hb1, hp1]), checkEntity_ok (by rw [hb1]; exact hb2) (by rw [hb1, absent_start, hb3])
    (by rw [hb1, enabled_start]; exact hb4), if_neg hp0, checkEntity_ok (by rw [hp1]; exact hp2) (by rw [hp1, absent_start, hp3])
    (by rw [hp1, enabled_start]; exact hp4), if_neg (by simp [hm]),
    if_neg hp0]
  rfl

/-- Settles O14: each edit completes with the table it leaves, and a migration waits for its check. -/
theorem constraintsAndMigration : Obligations.ConstraintsAndMigration := by
  unfold Obligations.ConstraintsAndMigration
  refine ⟨?_, ?_, ?_, ?_, ?_, ?_, ?_, ?_, ?_⟩
  · intro d index x s h hm he hc
    obtain ⟨u, hu⟩ : ∃ u, (s.start d).setEntry index.toNat (entryOf x) = u := ⟨_, rfl⟩
    have hrun : exec (.constraintWriteEnable d index true x) s = .next (u.done d u.editResult) := by
      show execConstraintWriteEnable d index true x s = _
      unfold execConstraintWriteEnable
      rw [edit_ready h hm]
      dsimp only
      rw [entryCheck_start, he, if_neg (by simp), countOk_start, if_neg (by simpa using hc), hu]
    obtain ⟨h1, h2, h3, h4⟩ := editDone h (u := u) (by rw [← hu]; rfl)
    exact ⟨_, hrun, h1.trans (by rw [← hu]; rfl), h2.trans (by rw [← hu]; rfl), h3.trans (by rw [← hu]; rfl), h4⟩
  · intro d index s h hm hi
    obtain ⟨u, hu⟩ : ∃ u, (s.start d).setEntry index.toNat { (s.start d).entry index.toNat with enabled := false } = u := ⟨_, rfl⟩
    have hrun : exec (.constraintDisable d index true) s = .next (u.done d u.editResult) := by
      show execConstraintDisable d index true s = _
      unfold execConstraintDisable
      rw [edit_ready h hm, if_neg (Nat.not_lt.mpr hi)]
      dsimp only
      rw [hu]
    obtain ⟨h1, h2, h3, h4⟩ := editDone h (u := u) (by rw [← hu]; rfl)
    exact ⟨_, hrun, h1.trans (by rw [← hu]; rfl), h2.trans (by rw [← hu]; rfl), h3.trans (by rw [← hu]; rfl), h4⟩
  · intro d index x s h hm he hc hl
    obtain ⟨u, hu⟩ : ∃ u : State, { s.start d with con := { s.con with staged := s.con.staged ++ [(index.toNat, entryOf x)] } } = u := ⟨_, rfl⟩
    have hrun : exec (.constraintStage d index true x) s = .next (u.done d u.editResult) := by
      show execConstraintStage d index true x s = _
      unfold execConstraintStage
      rw [edit_ready h hm]
      dsimp only
      rw [entryCheck_start, he, if_neg (by simp), countOk_start, if_neg (by simpa using hc),
        if_neg (show ¬ 32 ≤ (s.start d).con.staged.length from Nat.not_le.mpr hl), ← hu]
      rfl
    obtain ⟨h1, h2, h3, h4⟩ := editDone h (u := u) (by rw [← hu])
    exact ⟨_, hrun, h1.trans (by rw [← hu]), h2.trans (by rw [← hu]; rfl), h3.trans (by rw [← hu]; rfl), h4⟩
  · intro d s h hm hc
    obtain ⟨u, hu⟩ : ∃ u : State, (s.start d).con.staged.foldl (fun (a : State) x => a.setEntry x.1 x.2)
      { s.start d with con := { (s.start d).con with staged := [] } } = u := ⟨_, rfl⟩
    have hrun : exec (.constraintCommit d true) s = .next (u.done d u.editResult) := by
      show execConstraintCommit d true s = _
      unfold execConstraintCommit
      rw [edit_ready h hm]
      dsimp only
      rw [commitCheck_start, if_neg (by rw [show (s.start d).con = s.con from rfl]; simp [hc]), hu]
    obtain ⟨f1, f2, f3, f4, f5, f6⟩ := setEntries_facts (s.start d).con.staged { s.start d with con := { (s.start d).con with staged := [] } }
    rw [hu] at f1 f2 f3 f4 f5 f6
    obtain ⟨h1, h2, h3, h4⟩ := editDone h (u := u) f6
    exact ⟨_, hrun, (congrArg Con.table h1).trans f1, (congrArg Con.staged h1).trans f2, (congrArg Con.migs h1).trans f3,
      h2.trans f4, h3.trans f5, h4⟩
  · intro d s h hm
    obtain ⟨u, hu⟩ : ∃ u : State, { s.start d with con := { s.con with staged := [] } } = u := ⟨_, rfl⟩
    have hrun : exec (.constraintDiscard d true) s = .next (u.done d u.editResult) := by
      show execConstraintDiscard d true s = _
      unfold execConstraintDiscard
      rw [edit_ready h hm, ← hu]
      rfl
    obtain ⟨h1, h2, h3, h4⟩ := editDone h (u := u) (by rw [← hu])
    exact ⟨_, hrun, h1.trans (by rw [← hu]), h2.trans (by rw [← hu]; rfl), h3.trans (by rw [← hu]; rfl), h4⟩
  · intro d index addr s h hi
    obtain ⟨u, hu⟩ : ∃ u : State, (s.start d).emit (.host addr.toNat (s.entry index.toNat).bytes) = u := ⟨_, rfl⟩
    have hrun : exec (.constraintRead d index true addr) s = .next (u.done d u.editResult) := by
      show execConstraintRead d index true addr s = _
      unfold execConstraintRead
      rw [run_ready h, if_neg (by simp), if_neg (Nat.not_lt.mpr hi), ← hu]
      rfl
    have hcon : u.con = s.con := by rw [← hu]; rfl
    obtain ⟨h1, h2, h3, h4⟩ := editDone h (u := u) (by rw [← hu]; rfl)
    refine ⟨_, hrun, ?_, h1.trans hcon, h2.trans (by rw [← hu]; rfl), h3.trans (by rw [← hu]; rfl), ?_⟩
    · exact complete_out (still_served h (by rw [← hu]; rfl)) _ (by rw [← hu]; exact List.mem_cons_self ..)
    · rwa [h1, hcon] at h4
  · intro n v s hu hm hc hg
    refine ⟨_, congrArg Outcome.next ((if_pos hu).trans (writeGroup_taken hm hc hg)), ?_⟩
    by_cases heq : low 24 v.toNat = s.rd (ALP_GROUP.PORTS n)
    · rw [if_pos heq]
      exact ⟨heq.symm, onlyRegs_mono (onlyRegs_refl s) (fun _ h => absurd h List.not_mem_nil)⟩
    · rw [if_neg heq]
      exact ⟨(rd_wr_same s (f := ALP_GROUP.PORTS n.val) _ (show 0 + 24 ≤ 32 by decide)).trans (Nat.mod_eq_of_lt (low_lt 24 v.toNat)), onlyRegs_wr s _ _⟩
  · intro d block port ramp force reservedZero s h hb hp hm
    exact ⟨_, migrate_queued ramp force reservedZero h hb hp hm, rfl, rfl, rfl, rfl⟩
  · intro p l c n s hu hm hp hc hn
    refine ⟨_, congrArg Outcome.next ((if_pos hu).trans ?_), rfl⟩
    unfold State.checkProposal
    rw [hp]
    dsimp only
    rw [if_neg (by simp [hm]), hc]
    dsimp only [Option.getD]
    rw [hn]
    dsimp only
    rw [ite_not]

end Sys2Proof.Proofs.ConstraintsAndMigration
end

section
/-!
PROOFS. Own effects of the Launch Unit: what it sends at its instants and what a frame of an endpoint leaves (spec/06).
-/
namespace Sys2Proof.Proofs.LaunchAndFrames

open Sys2Proof Sys2Proof.Machine Sys2Proof.Laws Sys2Proof.Laws.LaunchAndFrames
open Host (Outcome)

variable {s : State}

/-- Every slot of a status frame posts its report for its block (R141). -/
theorem slotReports_inBlock (s : State) (l fl : Nat) (f : StatusFrame) :
    ∀ k r, (k, r) ∈ [(0, f.s0), (1, f.s1), (2, f.s2), (3, f.s3)] →
      tget (fun _ => []) ((((s.slotReport l fl 0 f.s0).slotReport l fl 1 f.s1).slotReport l fl 2 f.s2).slotReport l fl 3 f.s3).alp.inBlock (4 * l + k) =
        mailPost (tget (fun _ => []) s.alp.inBlock (4 * l + k)) s.siteNs
          { state := r.state.toNat, path := r.path.toNat, availP := (r.availP.toNat : Nat), outI := r.outI.toInt, outV := r.outV.toInt, temp := r.temp.toInt } := by
  intro k r hk
  simp only [List.mem_cons, Prod.mk.injEq, List.not_mem_nil, or_false] at hk
  simp only [slotReport_alp, slotReport_siteNs]
  rcases hk with ⟨rfl, rfl⟩ | ⟨rfl, rfl⟩ | ⟨rfl, rfl⟩ | ⟨rfl, rfl⟩ <;> simp [tget_tput_same, tget_tput_ne]

theorem mainUp_frameTaken (s : State) {l : Nat} (hl : l < 12) (q f fl m a : Nat) :
    (((s.laneRx l q).noteFollow l f fl).noteMiss l m a).mainUp = s.mainUp := by
  have h1 : ((s.laneRx l q).noteFollow l f fl).mainUp = s.mainUp := by
    have : (s.laneRx l q).mainUp = s.mainUp := mainUp_congr (laneRx_keep s q).2.2.1 (rd_laneRx s q (by decide +revert))
    exact this
  unfold State.noteMiss
  dsimp only
  split
  · exact h1
  · split
    · exact h1
    · rw [mainUp_ev]
      exact (mainUp_wr _ _ (by decide)).trans h1

/-- The last phase status of a lane showed all phases off. -/
def phasesWereOff (x : Lane) : Bool := match x.follow with | [] => false | x :: _ => bit x.2.2 1

/-- What PHASE_STATUS_RECEIVE has taken before a Press lane restarts its converters (R147): all phases off is logged at its onset. -/
def phaseTaken (s : State) (l q : Nat) (f : PhaseStatus) : State :=
  let u := ((s.laneRx l q).noteFollow l f.follow.toNat f.flags.toNat).noteMiss l f.miss.toNat f.cycleApplied.toNat
  if bit f.flags.toNat 1 && !phasesWereOff (s.lane l) then
    u.ev 0x0407 (entLane l) (low 32 (f.cycleApplied.toNat + 1)) 0
  else u

theorem phaseTaken_keep (s : State) (l q : Nat) (f : PhaseStatus) :
    (phaseTaken s l q f).alp = s.alp ∧ (phaseTaken s l q f).stu = s.stu ∧ (phaseTaken s l q f).lane l = {
      s.lane l with fseqRx := some q, rxAt := s.now, follow := (f.follow.toNat, s.siteNs, f.flags.toNat) :: (s.lane l).follow.take 15, miss := some (f.miss.toNat % 65536) } := by
  obtain ⟨h1, h2, h3⟩ := frameTaken s l q f.follow.toNat f.flags.toNat f.miss.toNat f.cycleApplied.toNat
  unfold phaseTaken
  generalize ((s.laneRx l q).noteFollow l f.follow.toNat f.flags.toNat).noteMiss l f.miss.toNat f.cycleApplied.toNat = u at *
  dsimp only
  split
  · exact ⟨(ev_alp ..).trans h1, (ev_stu ..).trans h2, (lane_ev ..).trans h3⟩
  · exact ⟨h1, h2, h3⟩

theorem phaseTaken_logs {l : Nat} (hl : l < 12) (hm : s.mainUp = true) (q : Nat) (f : PhaseStatus) (hb : bit f.flags.toNat 1 = true)
    (hf : (s.lane l).follow = []) : (phaseTaken s l q f).newest 0x0407 (entLane l) (low 32 (f.cycleApplied.toNat + 1)) 0 := by
  unfold phaseTaken
  dsimp only
  rw [if_pos (by simp [hb, phasesWereOff, hf])]
  have h := (ev_logOne (((s.laneRx l q).noteFollow l f.follow.toNat f.flags.toNat).noteMiss l f.miss.toNat f.cycleApplied.toNat)
    0x0407 (entLane l) (low 32 (f.cycleApplied.toNat + 1)) 0 ((mainUp_frameTaken s hl ..).trans hm) (muted_lane _ _ _ (by omega))).2
  rwa [Nat.mod_eq_of_lt (a := low 32 _) ((Nat.mod_lt _ (by decide)).trans (by decide))] at h

/-- Settles O15: what goes out at its instant and what a frame leaves of its sender. -/
theorem launchAndFrames : Obligations.LaunchAndFrames := by
  unfold Obligations.LaunchAndFrames
  refine ⟨?_, ?_, ?_, ?_, ?_, ?_⟩
  · intro copy c s hu hc hs hf
    have hrun : s.sendSetpoints copy.val = ((List.range 12).filter (s.waitSite (s.tickAt s.curTick + s.copyOffset copy.val)).carriesBlocks).foldl
        (fun a l => a.send l (a.setpointPayload c copy.val l)) (s.waitSite (s.tickAt s.curTick + s.copyOffset copy.val)) := by
      unfold State.sendSetpoints
      rw [hc]
      exact if_neg (by rcases hf with h | h <;> simp [hs, h])
    exact ⟨_, congrArg Outcome.next ((if_pos hu).trans hrun), rfl, by simp, by simp⟩
  · intro c s hu hc hs
    refine ⟨_, congrArg Outcome.next ((if_pos hu).trans ?_), rfl, by simp, by simp⟩
    unfold State.sendSlow
    rw [hc]
    exact if_neg (by simp [hs])
  · intro lane fseq f s hm ha
    obtain ⟨h1, h2, h3⟩ := frameTaken s lane.val fseq.toNat f.follow.toNat f.flags.toNat f.miss.toNat f.seqApplied.toNat
    refine ⟨_, congrArg Outcome.next (if_pos (by simp [hm, ha])), ?_, ?_⟩
    · unfold State.statusRx
      dsimp only
      refine Eq.trans (lane_link ?_ _) h3
      simp only [slotReport_link]
    · intro k r hk
      unfold State.statusRx
      dsimp only
      rw [slotReports_inBlock _ _ _ f k r hk, h1]
      unfold State.siteNs
      rw [h2]
  · intro lane fseq f s hm ha
    obtain ⟨h1, h2, h3⟩ := phaseTaken_keep s lane.val fseq.toNat f
    exact ⟨phaseTaken s lane.val fseq.toNat f, congrArg Outcome.next (if_pos (by simp [hm, ha])), h3, h1, h2,
      phaseTaken_logs lane.isLt hm fseq.toNat f⟩
  · intro slot code follow seqApplied s hu hh
    refine ⟨_, congrArg Outcome.next ((if_pos hu).trans (if_neg (by simp [hh]))), rfl, ?_, ?_, rfl⟩
    · exact tget_tput_same ..
    · exact rdBit_wrBit_same _ (f := LCH_FOLLOW_SLOW.SLOTS) _ (by decide) slot.isLt
  · intro s hu
    refine ⟨_, congrArg Outcome.next (if_pos hu), ?_, ?_, onlyRegs_step (onlyRegs_wr s _ _) _ _⟩
    · unfold State.clearLch
      rw [rd_wr_other _ _ (by decide)]
      exact rd_wr_same _ (f := LCH_CNT_LATE.CNT) _ (by decide)
    · exact rd_wr_same _ (f := LCH_CNT_EPMISS.CNT) _ (by decide)

end Sys2Proof.Proofs.LaunchAndFrames
end

section
/-!
PROOFS. Own effects of a lane's bring-up and of the frames of its delay measurement (spec/07).
-/
namespace Sys2Proof.Proofs.LaneBringUp

open Sys2Proof Sys2Proof.Machine Sys2Proof.Laws
open Host (Outcome)

variable {s : State}

/-- A lane's command runs its work while the main domains run, then the standby's watch and the scans' reports. -/
theorem onLane_next (hm : s.mainUp = true) {k : State → State} {t : State} (h : k s = t) :
    (.next (s.onLane k) : Outcome State Fault Refusal) = .next (t.twinWatch.scanReports) := by
  rw [onLane_up hm, h]

/-- The second sound test in a row: the lane goes to TRAIN (R155). -/
theorem detectTest_found {l : Nat} (hst : s.laneState l = 2) (hl : s.serialLocked l = true) (hf : 1 ≤ (s.lane l).found) :
    ∃ w, s.waitTill ((s.lane l).testAt + (if s.flag (LN.BACKOFF l) then 1000000000 else 10000000)) = w ∧ s.detectTest l true =
      ((w.modLane l (fun x => { x with testAt := w.now, found := (s.lane l).found + 1 })).startTrain l).modLane l
        (fun x => { x with exitAt := w.now, found := 0 }) := by
  refine ⟨_, rfl, ?_⟩
  unfold State.detectTest
  dsimp only
  rw [if_neg (by simp [hst]), if_pos (show (true && s.serialLocked l) = true by simp [hl]), if_pos (by omega)]

/-- A timeout before the eighth in a row leaves BACKOFF alone (R163). -/
theorem bringupTimeout_early {l st : Nat} (hst : st = 3 ∨ st = 4 ∨ st = 5) (h : s.laneState l = st) :
    ∃ w, ((s.waitTill ((s.lane l).since + bringupLimit st)).toDetect l).bump (LN.RETRIES l) = w ∧
      (w.rd (LN.RETRIES l) < 8 → s.bringupTimeout l = w.ev (laneEv l 3) (entLane l) st (w.rd (LN.RETRIES l))) := by
  refine ⟨_, rfl, fun hn => ?_⟩
  unfold State.bringupTimeout
  dsimp only
  rw [h, if_pos (by rcases hst with h | h | h <;> simp [h]), if_neg (by simp; omega)]

/-- A frame that passes every check takes the lane to DELAY (R157). -/
theorem capsRx_passes {l : Nat} (hl : l < 12) (c : FarCaps) {u : State}
    (hu : u = ((s.setReg (laneBase l + 0x14) (c.role % 256 + c.slots % 256 * 2 ^ 8 + c.features % 256 * 2 ^ 16 + c.portId % 256 * 2 ^ 24)).setReg
      (laneBase l + 0x18) (c.maker % 65536 + c.maxPayload % 65536 * 65536)).setReg (laneBase l + 0x1C) c.serial)
    (hc : u.capsCheck l c = none) :
    s.capsRx l c = ((((if l < 12 && c.role = 1 && (List.range 4).any (fun k => s.blockOn (4 * l + k) && !bit c.slots k) then
        u.ev (laneEv l 4) (entLane l) 6 c.slots else u).enterLane l 5).modLane l
          (fun x => { x with asym := c.asym, answered := 0, last8 := [], meas := none })), true) := by
  unfold State.capsRx
  dsimp only
  rw [← hu, hc]
  dsimp only
  rw [if_pos hl]

/-- Settles O16: each step of the bring-up leaves its own state on the lane. -/
theorem laneBringUp : Obligations.LaneBringUp := by
  unfold Obligations.LaneBringUp
  refine ⟨?_, ?_, ?_, ?_, ?_, ?_, ?_⟩
  · rintro lane _ s hm hst hl hf rfl
    obtain ⟨w, hw, hrun⟩ := detectTest_found hst hl hf
    rw [hw]
    exact onLane_next hm hrun
  · rintro lane inverted ctle dfe _ s hm hst hi rfl
    refine onLane_next hm ?_
    unfold State.trainDone
    rw [if_neg]
    cases inverted
    · simp [hst]
    · simp [hst, hi rfl]
  · rintro lane st _ s hm hst h rfl hn
    obtain ⟨w, hw, hrun⟩ := bringupTimeout_early hst h
    rw [hw] at hn ⊢
    exact onLane_next hm (hrun hn)
  · intro lane s hm hst
    exact onLane_next hm (if_pos hst)
  · rintro lane fseq f u v s hm hl hst hu hc rfl
    refine onLane_next hm ?_
    unfold State.capsFrame
    rw [if_neg (by simp [State.laneHears, hst])]
    dsimp only
    rw [if_neg (by simp [hst]), capsRx_passes hl (capsFar f) hu hc]
    dsimp only
    rw [if_neg (by simp; omega)]
    rfl
  · rintro lane _ s hm hst hme hs rfl
    refine onLane_next hm ?_
    unfold State.measStart
    dsimp only
    rw [if_pos (by simp [hst, hme, hs]), if_pos hst]
  · intro lane m s hm hl hst hme hn
    refine onLane_next hm ?_
    unfold State.sendReq
    dsimp only
    rw [hme]
    dsimp only
    rw [if_pos (by rcases hst with h | h <;> simp [h, hl, hn])]

/-- A first measurement of eight sound exchanges takes a cabinet lane from DELAY to ACTIVE (R160). -/
theorem measDone_enters {l : Nat} {m : Meas} {res : Int} (hl : l < 12) (hst : s.laneState l = 5) (hme : (s.lane l).meas = some m)
    (hat : (s.lane l).measAt = none) (hn : 8 ≤ m.sent ∧ 8 ≤ m.ds.length)
    (hres : res = divNear (sumI (((sortI m.ds).drop 2).take 4)) (8 * 65536)) (hr : 0 ≤ res ∧ res ≤ 16777215) :
    s.measDone l = (((((s.wr (LCH_DELAY.DELAY l) res.toNat).wr
      (LCH_DELAY.AGE l) 0).modLane l (fun x => { x with meas := none, measAt := some s.now, measBad := false })).sendTime l).deadlineCheck l).laneUp l := by
  have hbad : ¬ (decide (m.ds.length < 8) || decide (res < 0) || decide (16777215 < res)) = true := by simp; omega
  unfold State.measDone
  dsimp only
  rw [if_neg (Nat.not_le.mpr hl), hme]
  dsimp only
  rw [← hres, if_neg (by simp [hst, hn.1]), if_neg hbad, if_pos hst, if_neg (by simp [hat])]

/-- Settles O17: the frames of the measurement and the ALIVE frames on a lane that hears or sends them. -/
theorem laneBringUpPart2 : Obligations.LaneBringUpPart2 := by
  unfold Obligations.LaneBringUpPart2
  refine ⟨?_, ?_, ?_, ?_, ?_, ?_⟩
  · intro lane fseq xid wait s hm hst
    exact onLane_next hm (if_pos (by rcases hst with h | h <;> simp [h]))
  · rintro lane fseq xid t2Ns t2Frac t3Ns t3Frac m d o u s hm hl hst hu hme hx
    refine onLane_next hm ?_
    rw [if_pos (by rcases hst with h | h <;> simp [h]), ← hu]
    unfold State.respRx
    rw [hme]
    dsimp only
    rw [hx]
    dsimp only
    rw [if_pos hl]
  · intro lane m res s hm hl hst hme hat hn hres hr
    exact onLane_next hm (measDone_enters hl hst hme hat hn hres hr)
  · intro lane s hm ha
    exact onLane_next hm (if_pos ha)
  · intro lane s hm ha
    exact onLane_next hm (if_pos ha)
  · intro lane fseq s hm hh
    exact ⟨onLane_next hm (if_pos hh), lane_laneRx s fseq.toNat⟩

end Sys2Proof.Proofs.LaneBringUp
end

section
/-!
PROOFS. Own effects of a lane's errors, of its low power and of the eye scans (spec/07).
-/
namespace Sys2Proof.Proofs.LaneLossAndPower

open Sys2Proof Sys2Proof.Machine Sys2Proof.Laws Sys2Proof.Laws.LaneLossAndPower Sys2Proof.Proofs.LaneBringUp Sys2Proof.Proofs.Reports
open Host (Outcome)

variable {s : State} {l : Nat}

theorem signalDetect_wakes (h : s.laneState l = 7 ∨ s.laneState l = 1) : s.signalDetect l = s.lpWake l :=
  if_pos (by rcases h with h | h <;> simp [h])

/-- A wake from IDLE of at most 1 s (R180). -/
theorem lpWake_idle (h : s.laneState l = 7) (ht : s.now - (s.lane l).since ≤ 1000000000) :
    s.lpWake l = ((s.wakePattern l).ev 0x0506 (entLane l) 7 6).laneUp l := by
  unfold State.lpWake
  rw [h]
  exact if_pos ht

/-- A wake from DEEP (R181). -/
theorem lpWake_deep (h : s.laneState l = 1) :
    s.lpWake l = ((if s.groupOff l then s.emit (.pattern l .relock) else s).ev 0x0506 (entLane l) 1 2).toDetect l := by
  unfold State.lpWake
  rw [h]
  rfl

/-- Settles O18: a discard counts, and each loss takes the lane where its cause sends it. -/
theorem laneLossAndPower : Obligations.LaneLossAndPower := by
  unfold Obligations.LaneLossAndPower
  refine ⟨?_, ?_, ?_, ?_, ?_, ?_, ?_, ?_⟩
  · intro lane blocks s hm hh hf
    refine onLane_next hm ?_
    unfold State.badFrame
    rw [if_neg (by simp [hh]), hf]
  · intro lane blocks q y p s hm hh hf hk
    refine onLane_next hm ?_
    unfold State.badFrame
    rw [if_neg (by simp [hh]), hf]
    exact if_neg (by simp [hk])
  · intro lane s hm _ hn
    exact onLane_next hm (if_pos hn)
  · intro lane s hm hh
    exact onLane_next hm (if_pos hh)
  · intro lane s hm ha
    exact onLane_next hm (if_pos ha)
  · intro lane s hm ha
    exact ⟨onLane_next hm (if_pos ha), laneState_toDetect _ lane.isLt⟩
  · intro lane s hm hst
    exact onLane_next hm (signalDetect_wakes hst)
  · intro lane s hm hst ht
    exact onLane_next hm ((signalDetect_wakes (.inl hst)).trans (lpWake_idle hst ht))

/-- A lane's command of the host runs its work, then the standby's watch. -/
theorem laneCtl_next (hu : s.up = true) (hg : s.grade = .ph4812 → l < 12) {k : State → State} {t : State} (h : k s = t) :
    (.next (s.laneCtl l k) : Outcome State Fault Refusal) = .next t.twinWatch := by
  rw [laneCtl_up hu hg, h]

/-- In DORMANT and COMMISSION an ACTIVE lane asks for low power (R178). -/
theorem lpLow_asks (target : Nat) (hh : s.lpHeld l = false) (hm : s.glb.mode = .dormant ∨ s.glb.mode = .commission) (ha : s.laneActive l = true) :
    s.lpLow l target = ((s.wr (LN.LP l) target).modLane l (fun x => { x with lpReq := some target })).laneTx l 0 (lpFrame 0x14 target) := by
  unfold State.lpLow
  dsimp only
  rw [if_neg (by simp [hh]), if_pos (by rcases hm with h | h <;> simp [h]), if_pos (by simp [ha])]

/-- In the modes of operation a lane that carries frames is refused (R177). -/
theorem lpLow_refused (target : Nat) (hh : s.lpHeld l = false) (hm : s.glb.mode ≠ .dormant ∧ s.glb.mode ≠ .commission)
    (hc : 12 ≤ l ∨ s.carriesFrames l = true) : s.lpLow l target = s.ev 0x0507 (entLane l) target s.glb.mode.code := by
  obtain ⟨h1, h2⟩ := hm
  unfold State.lpLow
  rw [if_neg (by simp [hh]), if_neg]
  rcases hc with h | h
  · simp [h1, h2, Nat.not_lt.mpr h]
  · simp [h1, h2, h]

/-- Settles O19: the wake from DEEP, a retrain, and what the host asks of a lane's power. -/
theorem laneLossAndPowerPart2 : Obligations.LaneLossAndPowerPart2 := by
  unfold Obligations.LaneLossAndPowerPart2
  refine ⟨?_, ?_, ?_, ?_, ?_, ?_, ?_, ?_⟩
  · intro lane s hm hst
    exact onLane_next hm ((signalDetect_wakes (.inr hst)).trans (lpWake_deep hst))
  · intro lane s hu hg _
    exact laneCtl_next hu hg rfl
  · intro lane s hu hg hh
    exact laneCtl_next hu hg (if_neg (by simp [hh]))
  · intro lane s hu hg hh hm ha
    exact laneCtl_next hu hg (lpLow_asks 1 hh hm ha)
  · intro lane s hu hg hh hm ha
    exact laneCtl_next hu hg (lpLow_asks 2 hh hm ha)
  · intro lane s hu hg hh hm hc
    exact ⟨laneCtl_next hu hg (lpLow_refused 1 hh hm hc), laneCtl_next hu hg (lpLow_refused 2 hh hm hc)⟩
  · intro lane s hu hg hh ha hst
    refine laneCtl_next hu hg ?_
    unfold State.lpOff
    rw [if_neg (by simp [hh]), if_neg (by simp [ha]), if_neg hst]
  · intro lane s hu hg hh ha
    refine laneCtl_next hu hg ?_
    unfold State.lpOff
    rw [if_neg (by simp [hh]), if_pos ha]

/-- A scan with valid arguments on an ACTIVE cabinet lane starts (R182). -/
theorem askScan_starts {d : DescRef} {a : ScanArg} (hc : a.lane.toNat / 2048 = 3 ∧ a.lane.toNat % 2048 < 12)
    (hok : (scanOf a d).argsOk = true ∧ a.reservedZero = true) (hlen : 32 + 4 * (scanOf a d).points ≤ a.len.toNat)
    (hn : s.link.scans.length < 2 ∧ s.link.scans.any (fun x => x.lane = (scanOf a d).lane) = false)
    (ha : s.laneActive (a.lane.toNat % 2048) = true) : s.askScan d a = s.startScan (scanOf a d) := by
  obtain ⟨hcl, hlt⟩ := hc
  obtain ⟨hargs, hz⟩ := hok
  obtain ⟨h2, hfree⟩ := hn
  have hlane : (scanOf a d).lane = a.lane.toNat % 2048 := if_pos hcl
  unfold State.askScan
  dsimp only
  rw [if_neg (by simp [hcl]), checkEntity_ok (by rw [hcl]; exact hlt.trans_le (by decide)) (by rw [hcl]; rfl) (by rw [hcl]; rfl),
    if_neg (by simp [hargs, hz]), if_neg (Nat.not_lt.mpr hlen), if_neg (Nat.not_le.mpr h2), if_neg (by simp [hlane, ha]),
    if_neg (by simp only [hfree]; decide)]

theorem startScan_scans (s : State) (c : Scan) :
    (s.startScan c).link.scans = s.link.scans ++ [{ c with start := s.now, site := s.siteNs, ctle := s.rd (LN.CTLE c.lane), dfe := (s.lane c.lane).dfe }] := by
  obtain ⟨rings, out, h⟩ := reportStart_eq { s with link := { s.link with scans := s.link.scans ++
    [{ c with start := s.now, site := s.siteNs, ctle := s.rd (LN.CTLE c.lane), dfe := (s.lane c.lane).dfe }] } } c.ring c.idx []
  exact congrArg (fun t : State => t.link.scans) h

/-- Settles O20: low power asked and granted between two ends, the counters' clears, and the scans. -/
theorem laneLossAndPowerPart3 : Obligations.LaneLossAndPowerPart3 := by
  unfold Obligations.LaneLossAndPowerPart3
  refine ⟨?_, ?_, ?_, ?_, ?_, ?_⟩
  · rintro lane fseq target _ s hm ha rfl
    refine onLane_next hm ((if_pos (by simp [ha])).trans ?_)
    unfold State.lpReqRx
    simp only [Bool.or_eq_true, decide_eq_true_eq]
  · intro lane fseq target s hm hst hq
    refine onLane_next hm ((if_pos (by rcases hst with h | h <;> simp [h])).trans ?_)
    have hq' : ((s.laneRx lane.val fseq.toNat).lane lane.val).lpReq = some target.toNat := by rw [lane_laneRx]; exact hq
    unfold State.lpAck
    rw [hq']
    exact if_pos rfl
  · intro s hu
    refine ⟨_, congrArg Outcome.next (if_pos hu), clearLanes_frame _ s, fun l hl => ?_, fun o ho => ?_⟩
    · unfold State.clearClc
      rw [clearLanes_reg, clearLanes_reg, if_pos ⟨l, List.mem_range.mpr hl, .inl rfl⟩, if_pos ⟨l, List.mem_range.mpr hl, .inr rfl⟩]
      exact ⟨rfl, rfl⟩
    · unfold State.clearClc
      rw [clearLanes_reg, if_neg]
      rintro ⟨l, hl, h⟩
      obtain ⟨h1, h2⟩ := ho l (List.mem_range.mp hl)
      exact h.elim h1 h2
  · intro s hu hg
    have hrun : s.clearDlc = ((s.clearLane 12).clearLane 13).wr DLC_YOKE_STAT.YSEQ_GAP 0 := if_neg (by simp [hg])
    refine ⟨_, congrArg Outcome.next ((if_pos hu).trans hrun), rd_wr_same _ (f := DLC_YOKE_STAT.YSEQ_GAP) _ (by decide), ?_, ?_⟩
    · have hne : ∀ o, o ≠ DLC_YOKE_STAT.YSEQ_GAP.off → (((s.clearLane 12).clearLane 13).wr DLC_YOKE_STAT.YSEQ_GAP 0).reg o =
          ((s.clearLane 12).clearLane 13).reg o := fun o ho => reg_setReg_other _ _ (Ne.symm ho)
      rintro l (rfl | rfl) <;> (rw [hne _ (by decide), hne _ (by decide)]; simp [clearLane_reg])
    · exact onlyRegs_step (onlyRegs_trans (clearLane_onlyRegs s 12) (clearLane_onlyRegs _ 13)) _ _
  · intro d a s h hc hok hlen hn ha
    have hrun := askScan_starts (s := s.start d) (d := d) hc hok hlen hn ha
    exact ⟨congrArg Outcome.next ((run_ready h _).trans hrun), startScan_scans _ _⟩
  · rintro lane counts c _ s hm hc rfl
    refine onLane_next hm ?_
    unfold State.scanDone
    rw [hc]

end Sys2Proof.Proofs.LaneLossAndPower
end

section
/-!
PROOFS. Own effects of the host's commands to the Press's converters (spec/08).
-/
namespace Sys2Proof.Proofs.PressPart2

open Sys2Proof Sys2Proof.Machine Sys2Proof.Laws Sys2Proof.Laws.Press Sys2Proof.Proofs.Writes
open Host (Outcome)

variable {s : State}

theorem rd_modCv (s : State) (k : Nat) (f : Cce → Cce) (g : Fld) : (s.modCv k f).rd g = s.rd g := rfl

theorem disconnected (s : State) (k : Nat) : (s.wr (CCE_CTL.CONNECT k) 0).rd (CCE_CTL.CONNECT k) = 0 :=
  rd_wr_same s (f := CCE_CTL.CONNECT k) 0 (show 0 + 1 ≤ 32 by decide)

/-- The peaks' start values, converter by converter (R192). -/
def peakStarts : List (Fld × Nat) :=
  (List.range 4).flatMap fun k => [(CCE_PEAK_I.PEAK_I k, 0), (CCE_PEAK_BUS.MAX k, 0), (CCE_PEAK_BUS.MIN k, 0xFFFF)]

/-- The counters' start values, converter by converter (R192). -/
def countStarts : List (Fld × Nat) :=
  (List.range 4).flatMap fun k => [(CCE_CBC_CNT.CNT k, 0), (CCE_SKIM_CNT.DONE k, 0), (CCE_SKIM_CNT.ABORT k, 0)]

theorem peakStarts_fit : fit peakStarts := ⟨by decide, by decide⟩

theorem countStarts_fit : fit countStarts := ⟨by decide, by decide⟩

theorem clearCcePeaks_eq (s : State) : s.clearCcePeaks = writes s peakStarts := by
  unfold State.clearCcePeaks writes peakStarts
  rw [List.foldl_flatMap]
  rfl

theorem clearCceCounts_eq (s : State) : s.clearCceCounts = writes s countStarts := by
  unfold State.clearCceCounts writes countStarts
  rw [List.foldl_flatMap]
  rfl

/-- Settles O22: each command of the host moves one converter, and the clears write the start values. -/
theorem pressPart2 : Obligations.PressPart2 := by
  unfold Obligations.PressPart2
  refine ⟨?_, ?_, ?_, ?_, ?_, ?_⟩
  · intro conv t0 s hu hz
    obtain ⟨w, hw⟩ : ∃ w, s.waitTill (t0 + 10000000) = w := ⟨_, rfl⟩
    have hrun : exec (.zeroCurdSwitchOff conv) s = .next (w.zeroOff conv.val) := by
      show execZeroCurdSwitchOff conv s = _
      unfold execZeroCurdSwitchOff
      rw [if_neg (by simp [hu]), hz, ← hw]
    have hcv : (w.zeroOff conv.val).cv conv.val = { (w.cv conv.val).stop .off with zeroHold := true } :=
      (cv_wr ..).trans (cv_modCv ..)
    refine ⟨_, hrun, by rw [hcv]; rfl, by rw [hcv]; rfl, by rw [hcv], disconnected .., ?_, ?_⟩
    · exact (show (w.zeroOff conv.val).log = w.log from rfl).trans (by rw [← hw]; simp)
    · exact (show t0 + 10000000 ≤ w.now by rw [← hw]; exact le_now_waitTill s _)
  · intro conv s hu
    refine ⟨_, congrArg Outcome.next (if_pos hu), fun hm => ?_, fun hm => if_pos (by simp [hm])⟩
    have hrun : s.connectCv conv.val = s.wr (CCE_CTL.CONNECT conv.val) 1 := if_neg (by simp [hm])
    rw [hrun]
    exact ⟨rd_wr_same _ (f := CCE_CTL.CONNECT conv.val) _ (by show 0 + 1 ≤ 32; decide), onlyRegs_wr s _ _⟩
  · intro conv s hu hm ⟨hr, hz⟩
    have hrun : s.disconnectCv conv.val = (s.wr (CCE_CTL.CONNECT conv.val) 0).modCv conv.val (fun x => { x with zeroAt := some s.now, zeroRun := 0 }) := by
      unfold State.disconnectCv
      rw [if_neg (by simp [hm])]
      exact if_pos (by simp [hr, hz])
    refine ⟨_, congrArg Outcome.next ((if_pos hu).trans hrun), (rd_modCv ..).trans (disconnected ..), cv_modCv .., rfl, fun j hj => cv_setCv_other _ _ (Ne.symm hj)⟩
  · intro conv s hu hm hl
    have hrun : s.unlatchCv conv.val = ((s.setCv conv.val { s.cv conv.val with retries := 0, state := .off }).ev 0x070C (entConv conv.val) (s.cv conv.val).retries 0).armCv conv.val := by
      unfold State.unlatchCv
      rw [if_neg (by simp [hm])]
      simp only [hl]
      rfl
    exact congrArg Outcome.next ((if_pos hu).trans hrun)
  · intro s hu
    refine ⟨writes s peakStarts, congrArg Outcome.next ((if_pos hu).trans (clearCcePeaks_eq s)), fun k hk => ?_, onlyRegs_writes _ s _ (by decide)⟩
    have hin : ∀ x ∈ [(CCE_PEAK_I.PEAK_I k, 0), (CCE_PEAK_BUS.MAX k, 0), (CCE_PEAK_BUS.MIN k, 0xFFFF)], x ∈ peakStarts :=
      fun x hx => List.mem_flatMap.mpr ⟨k, List.mem_range.mpr hk, hx⟩
    exact ⟨rd_writes_eq s peakStarts_fit (hin (CCE_PEAK_I.PEAK_I k, 0) (by simp)) (by simp), rd_writes_eq s peakStarts_fit (hin (CCE_PEAK_BUS.MAX k, 0) (by simp)) (by simp),
      rd_writes_eq s peakStarts_fit (hin (CCE_PEAK_BUS.MIN k, 0xFFFF) (by simp)) (by simp)⟩
  · intro s hu
    refine ⟨writes s countStarts, congrArg Outcome.next ((if_pos hu).trans (clearCceCounts_eq s)), fun k hk => ?_, onlyRegs_writes _ s _ (by decide)⟩
    have hin : ∀ x ∈ [(CCE_CBC_CNT.CNT k, 0), (CCE_SKIM_CNT.DONE k, 0), (CCE_SKIM_CNT.ABORT k, 0)], x ∈ countStarts :=
      fun x hx => List.mem_flatMap.mpr ⟨k, List.mem_range.mpr hk, hx⟩
    exact ⟨rd_writes_eq s countStarts_fit (hin (CCE_CBC_CNT.CNT k, 0) (by simp)) (by simp), rd_writes_eq s countStarts_fit (hin (CCE_SKIM_CNT.DONE k, 0) (by simp)) (by simp),
      rd_writes_eq s countStarts_fit (hin (CCE_SKIM_CNT.ABORT k, 0) (by simp)) (by simp)⟩

end Sys2Proof.Proofs.PressPart2
end

section
/-!
PROOFS. Own effects of the metrology's samples, of its faults and of its readings (spec/09).
-/
namespace Sys2Proof.Proofs.Metrology

open Sys2Proof Sys2Proof.Machine Sys2Proof.Laws Sys2Proof.Laws.MetrologySamplesAndReadings
open Host (Outcome)

variable {s : State}

/-- A checkpoint replaces the copy that does not win and nothing else of the metrology (R217). -/
theorem store_keep (m : Mte) (c : Ckpt) : (m.store c).chans = m.chans ∧ (m.store c).meters = m.meters := by
  unfold Mte.store
  split
  · exact ⟨rfl, rfl⟩
  · exact ⟨rfl, rfl⟩
  · split <;> exact ⟨rfl, rfl⟩

theorem writeCkpt_keep (w : State) : { w.writeCkpt with mte := w.mte } = w ∧ w.writeCkpt.mte.chans = w.mte.chans ∧ w.writeCkpt.mte.meters = w.mte.meters := by
  unfold State.writeCkpt
  generalize (match w.ckpt with | none => 1 | some c => c.seq + 1) = n
  exact ⟨rfl, (store_keep ..).1, (store_keep ..).2⟩

/-- The samples of a window are taken by a port that runs (R205). -/
theorem meteringSample_port {port : Fin 28} (lead : Nat) (codesV codesI : List (BitVec 24)) (hu : s.up = true)
    (hc : s.mclk (port.val / 4 + if port.val < 24 then 0 else 1) = true) (hp : port.val < 24) (ho : s.portOn port.val = true) :
    exec (.meteringSample port lead codesV codesI) s = .next (s.portSample port.val lead codesV codesI) :=
  congrArg Outcome.next ((if_neg (by simp [hu, hc])).trans ((if_pos hp).trans (if_pos ho)))

/-- Settles O23: what a window leaves, taken or missing, and the checkpoints and faults. -/
theorem metrologySamplesAndReadings : Obligations.MetrologySamplesAndReadings := by
  unfold Obligations.MetrologySamplesAndReadings
  refine ⟨?_, ?_, ?_, ?_, ?_, ?_, ?_, ?_, ?_⟩
  · rintro port lead codesV codesI w u v i s hu hc hp ho hm hw rfl rfl hs3
    rw [meteringSample_port lead codesV codesI hu hc hp ho]
    unfold State.portSample
    obtain ⟨⟨w', m'⟩, hwe⟩ : ∃ x, s.windowEnd port.val 62500 = x := ⟨_, rfl⟩
    rw [hwe] at hm hw ⊢
    obtain rfl : w = w' := hw
    dsimp only at hm ⊢
    rw [if_neg (by simp [hm]), ← hs3]
  · rintro port lead codesV codesI _ s hu hc hp ho hm rfl
    rw [meteringSample_port lead codesV codesI hu hc hp ho]
    exact congrArg Outcome.next (if_pos hm)
  · intro port lead codesV codesI w m s hu hc hp hw
    refine congrArg Outcome.next ((if_neg (by simp [hu, hc])).trans ((if_neg (Nat.not_lt.mpr hp)).trans ?_))
    unfold State.auxSample
    rw [hw]
  · rintro point lead codesV codesI w u p h s hu hc ha hm hw ⟨hu2, hp⟩ rfl
    obtain ⟨⟨w', m'⟩, hwe⟩ : ∃ x, s.windowEnd (24 + point.val) 125000 = x := ⟨_, rfl⟩
    rw [hwe] at hm hw
    obtain rfl : w = w' := hw
    obtain rfl : m' = false := hm
    have hrun : exec (.acSample point lead codesV codesI) s = .next (s.acSample point.val lead codesV codesI) :=
      congrArg Outcome.next (if_pos (by simp [hu, hc, ha]))
    refine ⟨_, hrun, _, rfl, ?_⟩
    unfold State.acSample
    dsimp only
    rw [hwe]
    dsimp only
    rw [if_neg (by simp), ← hu2, ← hp]
  · rintro point lead codesV codesI _ s hu hc ha hm rfl
    exact congrArg Outcome.next ((if_pos (by simp [hu, hc, ha])).trans (if_pos hm))
  · intro point x s hu hc ha hw hf
    refine congrArg Outcome.next ((if_pos (by simp [hu, hc, ha])).trans ?_)
    unfold State.acWindow
    rw [hw]
    dsimp only
    rw [if_neg (by simp only [hf]; decide)]
  · rintro point f _ s hu ha rfl
    exact ⟨congrArg Outcome.next (if_pos (by simp [hu, ha])), by simp, by simp⟩
  · rintro _ s hu hb rfl
    exact ⟨_, congrArg Outcome.next (if_pos (by simp [hu, hb])), rfl, writeCkpt_keep _⟩
  · intro chan s hu hc he ht
    exact congrArg Outcome.next ((if_pos (by simp [hu, hc])).trans (stuck_ok he ht (by decide)))

/-- A job within the limits starts while fewer than 8 run (R220). -/
theorem mteCapture_starts {d : DescRef} {a : McapArg} (hm : s.glb.mode ≠ .dormant) (ha : mcapArgOk a = true)
    (hl : mcapSize a.kind.toNat a.count.toNat ≤ a.len.toNat) (hn : s.mte.caps.length < 8) :
    s.mteCapture d a = s.startMcap { ring := d.ring.val, idx := d.idx.toNat, a := a.a.toNat, b := a.b.toNat, kind := a.kind.toNat, count := a.count.toNat, addr := a.addr.toNat, corrected := a.flags.toNat = 1, freq := a.freq.toNat, hit := false, n := 0, data := [], sum := 0, sq := 0, lo := 0, hi := 0, imp := 0, exp := 0, zero := 0 } := by
  unfold State.mteCapture State.checkMode
  rw [if_pos (by simp [hm])]
  dsimp only
  rw [if_neg (by simp [ha]), if_neg (Nat.not_lt.mpr hl)]
  exact if_pos hn

theorem acLatch_keep (s : State) (g : Nat) : (s.acLatch g).log = s.log ∧ (s.acLatch g).mte = s.mte := by
  unfold State.acLatch
  constructor
  · exact foldl_keep State.log (by exact fun _ _ => rfl) _ s
  · exact foldl_keep State.mte (by exact fun _ _ => rfl) _ s

/-- Settles O24: faults and their ends, captures, boundaries and the latched readings. -/
theorem metrologySamplesAndReadingsPart2 : Obligations.MetrologySamplesAndReadingsPart2 := by
  unfold Obligations.MetrologySamplesAndReadingsPart2
  refine ⟨?_, ?_, ?_, ?_, ?_, ?_, ?_, ?_, ?_⟩
  · intro chan s hu hc he ht
    exact congrArg Outcome.next ((if_pos (by simp [hu, hc])).trans (stuck_ok he ht (by decide)))
  · rintro chan w s hu h4 h3 hl hw
    have hch : w.mch chan.val = s.mch chan.val := by unfold State.mch; rw [hw, waitTill_mte]
    refine congrArg Outcome.next ((if_pos (by simp [hu, h4])).trans ?_)
    rw [← hw]
    unfold State.chanBack
    dsimp only
    rw [hch, if_neg h3, if_neg (by simp [hl])]
  · intro chan t0 s hu he hf
    refine congrArg Outcome.next ((if_pos (by simp [hu, he])).trans ?_)
    unfold State.overrange
    dsimp only
    rw [hf]
  · intro chan s hu he hf
    refine congrArg Outcome.next ((if_pos (by simp [hu, he])).trans ?_)
    unfold State.overrange
    dsimp only
    rw [hf]
  · intro d a s h hm ha hl hn
    exact congrArg Outcome.next ((run_ready h _).trans (mteCapture_starts (s := s.start d) hm ha hl hn))
  · intro d shift amps j s hu hf hn hh
    refine congrArg Outcome.next ((if_neg (by simp [hu])).trans ?_)
    rw [hf]
    dsimp only
    rw [if_pos (by simp [hn])]
    unfold State.endMcap
    rw [hh]
    rfl
  · rintro _ s hu rfl
    exact ⟨congrArg Outcome.next (if_pos hu), by simp, by simp⟩
  · rintro entity _ _ s hu rfl rfl ⟨hi, he⟩
    refine congrArg Outcome.next ((if_pos hu).trans ?_)
    unfold State.rollLatch
    dsimp only
    rw [decide_eq_false (Nat.not_le.mpr hi), decide_eq_false (Nat.not_le.mpr he)]
    rfl
  · intro point s hu
    refine ⟨_, congrArg Outcome.next (if_pos hu), ?_, ?_, rfl⟩
    · exact (acLatch_keep s point.val).1
    · exact (acLatch_keep s point.val).2

end Sys2Proof.Proofs.Metrology
end

section
/-!
PROOFS. Own effects of the records and of the key vault (spec/10).
-/
namespace Sys2Proof.Proofs.RecordsAndKeys

open Sys2Proof Sys2Proof.Machine Sys2Proof.Laws Sys2Proof.Laws.RecordsAndKeys
open Host (Outcome)

variable {s : State}

/-- What an INTERVAL record leaves in the journal and of its chain (R229, R231). -/
structure IntervalBuilt (s t : State) (h : ChainHead) (r : Reading) (x : Rec) : Prop where
  work : t.rsl.work = s.rsl.work
  next : t.rsl.next = s.rsl.next + 1
  journal : t.rsl.journal = ((s.rsl.next, x) :: s.rsl.journal).take 61440
  type : x.type = 0x0101
  e : x.e = r.e
  seq : x.seq = h.seq + 1
  prevHash : x.prevHash = h.hash
  gen : x.gen = s.keyGen
  tStart : x.tStart = h.tEnd
  tEnd : x.tEnd = r.tBound
  closeImp : x.closeImp = r.imp
  closeExp : x.closeExp = r.exp
  tSeal : x.tSeal = s.siteNs
  head : t.head r.e = some { seq := h.seq + 1, j := s.rsl.next, hash := x.hash, calId := r.calId, tEnd := r.tBound, imp := r.imp, exp := r.exp }

/-- After the journaling of an INTERVAL record only the entity's merge and resume go. -/
theorem intervalRecord_rsl (s : State) (h : ChainHead) (r : Reading) (session key : Nat) :
    ∃ merges resume, (s.intervalRecord h r session key).rsl =
      { (s.journal (s.intervalRec h r session) key true).rsl with merges := merges, resume := resume } := by
  unfold State.intervalRecord
  generalize s.journal (s.intervalRec h r session) key true = u
  dsimp only
  split
  · exact ⟨_, _, rfl⟩
  · rw [ev_rsl]
    exact ⟨_, _, rfl⟩

theorem intervalRecord_built {h : ChainHead} {r : Reading} (hh : s.head r.e = some h) (session key : Nat) :
    ∃ x, IntervalBuilt s (s.intervalRecord h r session key) h r x := by
  obtain ⟨sig, hj⟩ := journal_rsl s (s.intervalRec h r session) key true
  obtain ⟨merges, resume, hrsl⟩ := intervalRecord_rsl s h r session key
  specialize hj _ rfl
  rw [hj] at hrsl
  rw [show (s.intervalRec h r session).e = r.e from rfl, hh] at hrsl
  refine ⟨_, ?_, ?_, by rw [hrsl], rfl, rfl, rfl, rfl, rfl, rfl, rfl, rfl, rfl, rfl, ?_⟩
  · rw [hrsl]
  · rw [hrsl]
  · unfold State.head
    rw [hrsl]
    dsimp only
    rw [tget_tset_same]
    rfl

/-- A reading of an entity with a chain, no takeover, no debt and the reserve free is recorded at once (R229, R239). -/
theorem buildInterval_records {h : ChainHead} {r : Reading} (session key : Nat) (hh : s.head r.e = some h)
    (ht : tget (fun _ => none) s.rsl.takeover r.e = none) (hu : s.rsl.unlinked.contains r.e = false)
    (hf : s.rd RSL_JRNL_CFG.RESERVE / 2 ≤ s.jFree) : s.buildInterval r session key = s.intervalRecord h r session key := by
  have hpay : (if s.canWrite r.e then s.payUnlinked r.e key else s) = s := by
    unfold State.payUnlinked
    rw [hu]
    simp
  unfold State.buildInterval
  rw [hh]
  dsimp only
  rw [hpay, hh, ht]
  exact if_neg (Nat.not_lt.mpr hf)

/-- The oldest reading is the next record when nothing waits and no key roll is under way (R235). -/
theorem buildRecord_interval {r : Reading} {session key : Nat} {l : List Work} (hs : s.sealing = true) (hb : s.glb.brownAt = none)
    (hc : s.rsl.cut = false) (hk : s.kvt.key = some key) (hr : s.kvt.rolls = []) (hw : s.rsl.waiting = [])
    (hl : s.rsl.work = .interval r session :: l) :
    s.buildRecord = State.buildInterval { s with rsl := { s.rsl with work := l } } r session key := by
  unfold State.buildRecord
  rw [hk]
  dsimp only
  rw [if_neg (by simp [hs, hb, hc]), if_pos (by simp [hr])]
  unfold State.buildNext
  rw [show s.rsl.waiting.find? s.canSession = none by rw [hw]; rfl, hl, List.find?_cons_of_pos (show s.workReady (.interval r session) = true from rfl)]
  dsimp only
  rw [List.erase_cons_head]

/-- An EXPORT of whole records with at least one to send (R260). -/
theorem recExport_some {d : DescRef} {addr len n : Nat} (h : len % 256 = 0) (hn : n = min (len / 256) (s.rsl.next - s.rsl.exported) ∧ n ≠ 0) :
    s.recExport d addr len = (State.showJrnl { s.emit (.host addr (s.recBytes s.rsl.exported n)) with rsl := { s.rsl with exported := s.rsl.exported + n } }).done d
      (leBytes 4 n ++ leBytes 8 s.rsl.exported) := by
  obtain ⟨rfl, h0⟩ := hn
  unfold State.recExport
  rw [if_neg (by simp [h])]
  dsimp only
  rw [if_neg h0]
  rfl

/-- An ACK that moves the position while no SESSION record waits (R262). -/
theorem recAck_moves {d : DescRef} {pos : Nat} (h : s.rsl.ack < pos ∧ pos ≤ s.rsl.exported) (hw : s.rsl.waiting = []) :
    s.recAck d pos = (State.showJrnl { s with rsl := { s.rsl with ack := pos, hdr := s.rsl.hdr.put pos } }).done d := by
  obtain ⟨h1, h2⟩ := h
  unfold State.recAck
  rw [if_neg (Nat.not_lt.mpr h2), if_pos h1]
  dsimp only
  rw [if_pos (by rw [showJrnl_rsl]; simp [hw])]

/-- Settles O25: the interval record, the refresh, and the host's readings and acknowledgement of the journal. -/
theorem recordsAndKeys : Obligations.RecordsAndKeys := by
  unfold Obligations.RecordsAndKeys
  refine ⟨?_, ?_, ?_, ?_, ?_, ?_⟩
  · intro r session key l h s ⟨hu, hs, hb, hc⟩ ⟨hk, hr, hw, hl⟩ ⟨hh, ht, hun⟩ hf
    obtain ⟨x, hx⟩ := intervalRecord_built (s := { s with rsl := { s.rsl with work := l } }) hh session key
    have hrun : exec (.recordBuild none) s = .next (State.intervalRecord { s with rsl := { s.rsl with work := l } } h r session key) :=
      congrArg Outcome.next ((if_pos hu).trans ((buildRecord_interval hs hb hc hk hr hw hl).trans
        (buildInterval_records (s := { s with rsl := { s.rsl with work := l } }) session key hh ht hun hf)))
    exact ⟨x, _, hrun, rfl, hx.work, hx.next, hx.journal, hx.type, hx.e, hx.seq, hx.prevHash, hx.gen, hx.tStart, hx.tEnd, hx.closeImp,
      hx.closeExp, hx.tSeal, hx.head⟩
  · rintro bad w u p s hu hb rfl rfl rfl
    exact congrArg Outcome.next (if_pos (by simp [hu, hb]))
  · intro d addr len n s h hl hn
    exact congrArg Outcome.next ((run_rec h _).trans (recExport_some (s := s.start d) hl hn))
  · intro d pos s h hb hp hw
    exact congrArg Outcome.next ((runWrite_rec h hb _).trans (recAck_moves (s := s.start d) hp hw))
  · intro d addr len first count s h hl h1 h2
    refine congrArg Outcome.next ((run_rec h _).trans ((if_neg (Nat.not_lt.mpr hl)).trans (if_neg ?_)))
    show ¬ (decide (first.toNat + 61440 < s.rsl.next) || decide (s.rsl.next < first.toNat + count.toNat)) = true
    simp
    omega
  · intro d addr len s h hl
    exact congrArg Outcome.next ((run_rec h _).trans (if_neg (Nat.not_lt.mpr hl)))

/-! ### The key vault -/

theorem recAttest_signs {d : DescRef} {addr len : Nat} {nonce : List Nat} (hl : 384 ≤ len) (hk : s.kvt.rootOk = true ∧ s.kvt.key.isSome = true) :
    s.recAttest d addr len nonce = (State.emit { s with free := s.free + 1 } (.host addr (s.statement nonce ++
      fixBytes 64 (ecSign s.idKey (s.statement nonce) (Config.freeNat s.free))))).done d := by
  obtain ⟨hr, hs⟩ := hk
  obtain ⟨key, hkey⟩ := Option.isSome_iff_exists.mp hs
  unfold State.recAttest
  rw [if_neg (Nat.not_lt.mpr hl), if_neg (by simp [hr, hkey])]

/-- A roll that is not cut goes on from the pending key (R250). -/
theorem rollTo_uncut (s : State) (d : DescRef) (new gen : Nat) (tgt : List Nat) :
    s.rollTo d new gen tgt none = ((s.setKvt {
      s.kvt with pend := some { gen := gen, target := tgt, pub := pub64 new }, rolls := s.chains, rollDesc := some d }).ev 0x0A03 0 gen (measTag tgt)).rollOn none := by
  unfold State.rollTo
  rfl

/-- A key roll with a root, a key and none pending tests the new key (R250). -/
theorem keyRoll_tests {d : DescRef} {len old : Nat} {target tgt : List Nat} {gen new : Nat}
    (hk : s.kvt.rootOk = true ∧ s.kvt.key = some old ∧ s.kvt.pend = none) (hl : len = 0 ∨ len = 48)
    (ht : tgt = if len = 0 then fixBytes 48 s.kvt.meas else fixBytes 48 target)
    (hg : gen = (s.keyGen + 1) % 2 ^ 16 ∧ new = s.meterKey gen tgt) :
    s.keyRoll d len target none = if !ecVerify (pub64 new) testMessage (fixBytes 64 (ecSign new testMessage (Config.freeNat s.free))) then
        (State.ev { s with free := s.free + 1 } 0x0A05 0 gen 0).fail d 0x0077
      else ((State.setKvt { s with free := s.free + 1 } {
        s.kvt with pend := some { gen := gen, target := tgt, pub := pub64 new }, rolls := s.chains, rollDesc := some d }).ev 0x0A03 0 gen (measTag tgt)).rollOn none := by
  obtain ⟨hr, hkey, hp⟩ := hk
  obtain ⟨rfl, rfl⟩ := hg
  have hlen : ¬ (decide (len ≠ 0) && decide (len ≠ 48)) = true := by rcases hl with h | h <;> simp [h]
  unfold State.keyRoll
  rw [if_neg hlen, hr, hkey]
  dsimp only
  rw [if_neg (by simp [hp]), ← ht, rollTo_uncut]
  rfl

/-- Settles O26: what the vault's descriptors do once their conditions hold. -/
theorem recordsAndKeysPart2 : Obligations.RecordsAndKeysPart2 := by
  unfold Obligations.RecordsAndKeysPart2
  refine ⟨?_, ?_, ?_, ?_, ?_, ?_⟩
  · intro d addr len nonce b s h hl hk hb
    rw [hb]
    exact congrArg Outcome.next ((run_rec h _).trans (recAttest_signs (s := s.start d) hl hk))
  · intro d len target old tgt gen new s h hb hk hl ht hg
    exact congrArg Outcome.next ((runWrite_rec h hb _).trans (keyRoll_tests (s := s.start d) hk hl ht hg))
  · intro d s h hb
    exact congrArg Outcome.next (runWrite_rec h hb _)
  · intro d force s h hb hm hn
    refine congrArg Outcome.next ((runWrite_rec h hb _).trans ?_)
    unfold State.enrol State.checkMode
    rw [if_neg (by simp [hn]), if_pos (by simp [hm])]
    dsimp only
    rw [if_neg (by simp [hn])]
    rfl
  · intro d u s h hb hm ⟨hub, hr⟩ hu
    refine congrArg Outcome.next ((runWrite_rec h hb _).trans ?_)
    unfold State.rebind State.checkMode
    rw [if_pos (by simp [hm])]
    dsimp only
    rw [if_neg (by simp [hub, hr]), hu]
    rfl
  · intro d addr len s h hl
    exact congrArg Outcome.next ((run_rec h _).trans (if_neg (Nat.not_lt.mpr hl)))

end Sys2Proof.Proofs.RecordsAndKeys
end

section
/-!
PROOFS. Own effects of the storage estimator (spec/11).
-/
namespace Sys2Proof.Proofs.StorageEstimator

open Sys2Proof Sys2Proof.Machine Sys2Proof.Laws Sys2Proof.Laws.StorageEstimator
open Host (Outcome)

variable {s : State}

/-- The filter's next output of a sound input outside SHADOW (R270). -/
theorem coulomb_sound {i : Nat} {r : Int} {w : State} (hq : (s.str i).qFault = 0) (hm : s.glb.mode ≠ .shadow)
    (hw : w = (match (s.str i).lastAt with | none => s | some t => s.waitTill (t + 6250))) :
    s.coulomb i r = (w.modStr i (fun y => { y.addWin w.tickFrom (s.strCurrent i r) with lastAt := some w.now })).enterOutput i w.now (s.strCurrent i r) := by
  unfold State.coulomb
  dsimp only
  rw [if_pos hq, if_neg hm, hw] <;> rfl

/-- The filter's next output of a sound input in SHADOW is held (R270). -/
theorem coulomb_held {i : Nat} {r : Int} {w : State} (hq : (s.str i).qFault = 0) (hm : s.glb.mode = .shadow)
    (hw : w = (match (s.str i).lastAt with | none => s | some t => s.waitTill (t + 6250))) :
    s.coulomb i r = (w.modStr i (fun y => { y.addWin w.tickFrom (s.strCurrent i r) with lastAt := some w.now })).modStr i
      (fun y => { y with held := y.held ++ [(w.now, s.strCurrent i r)] }) := by
  unfold State.coulomb
  dsimp only
  rw [if_pos hq, if_pos hm, hw] <;> rfl

/-- At the end of the rest timer a fresh frame with an OCV is the reference (R276). -/
theorem restEnd_takes {w : State} {i : Nat} {f : BmuFrame} (he : w.eocEnd i = none) (hf : w.freshFrame i = some f ∧ f.ocv = true) :
    w.restEnd i = w.reference i 0 (f.soc * w.cEff i / 10000) (w.rd SEE_REF_CFG.U_REF_REST) := by
  obtain ⟨hfr, ho⟩ := hf
  unfold State.restEnd State.restPoint
  rw [he]
  dsimp only
  rw [hfr]
  dsimp only
  rw [if_pos ho]

/-- A frame of a unit that was not stale and is the same one (R280). -/
theorem bmuFrame_same {i : Nat} {b : List Nat} (hx : (s.str i).stale = false ∧ (s.str i).frame.map (fun (g : BmuFrame) => g.serial) = some (field b 24 8))
    {v : State} (hv : v = s.modStr i (fun y => { y with frame := some (bmuParse b s.siteNs), stale := false, eodOkAt := if !decide (s.rd (SEE_VEOD.V_EOD i) * 102 ≤ (bmuParse b s.siteNs).vs * 100) then none else match y.eodOkAt with | none => some s.now | some t => some t }))
    (hc : (v.str i).coldWait = false) : s.bmuFrame i b = (v.eodCheck i).seeShow i := by
  obtain ⟨hst, hser⟩ := hx
  unfold State.bmuFrame
  dsimp only
  rw [hst, hser]
  generalize hu : State.bmuSerial _ i _ _ = u
  obtain rfl : u = v := by
    rw [← hu, hv, if_neg (by decide)]
    exact if_pos rfl
  rw [if_neg (by simp [hc])]

/-- Settles O27: outputs of the filter, references, faults and the frames of the units. -/
theorem storageEstimator : Obligations.StorageEstimator := by
  unfold Obligations.StorageEstimator
  refine ⟨?_, ?_, ?_, ?_, ?_, ?_, ?_, ?_, ?_⟩
  · intro string code c w s ho hc hq hm hcur hw
    rw [hcur]
    exact congrArg Outcome.next ((if_pos (by simp [ho, hc])).trans (coulomb_sound hq hm hw))
  · intro string code c w s ho hc hq hm hcur hw
    rw [hcur]
    exact congrArg Outcome.next ((if_pos (by simp [ho, hc])).trans (coulomb_held hq hm hw))
  · intro string t f w v s ho hm hr hw he hf hv
    refine congrArg Outcome.next ((if_neg (by simp [ho, hm])).trans ?_)
    rw [hr, hv]
    dsimp only
    rw [← hw, restEnd_takes he hf]
    rfl
  · intro string t w v s ho hm he hw hv
    refine congrArg Outcome.next ((if_neg (by simp [ho, hm])).trans ?_)
    rw [he, hv]
    dsimp only
    rw [← hw]
    rfl
  · intro string t f w s ho he ⟨hok, hf⟩ hw
    refine congrArg Outcome.next ((if_neg (by simp [ho, he])).trans ?_)
    rw [hok, hf, hw]
    rfl
  · intro string overflow k s ho hq hk
    rw [hk]
    exact congrArg Outcome.next (if_neg (by simp [ho, hq]))
  · intro string w s ho hq hw
    rw [hw]
    exact congrArg Outcome.next (if_neg (by simp [ho, hq]))
  · intro ctrl id ide frame b i v s hb hi hc hx hv hcold
    subst hb hi
    exact congrArg Outcome.next ((if_pos hc).trans (bmuFrame_same hx hv hcold))
  · intro string f w s ho ⟨hst, hf⟩ hw hfw
    refine congrArg Outcome.next ((if_neg (by simp [ho, hst])).trans ?_)
    rw [hf]
    dsimp only
    rw [← hw]
    unfold State.unitStale
    rw [hfw]

/-! ### Exchanges, adoption and the host's descriptors -/

theorem bufferRead_first {b : List Nat} {k : Nat} {g : Option Nat} (hr : s.see.reading = some (k, false, g)) (hb : s.glb.brownAt = none)
    (hg : s.blockGood b = true) : s.bufferRead true b = s.adopt b 1 := by
  unfold State.bufferRead
  rw [hr]
  exact if_pos (by simp [hb, hg])

/-- Settles O28: exchanges with the strings, the adoption of a saved state, and the host's descriptors. -/
theorem storageEstimatorPart2 : Obligations.StorageEstimatorPart2 := by
  unfold Obligations.StorageEstimatorPart2
  refine ⟨?_, ?_, ?_, ?_, ?_, ?_, ?_, ?_, ?_⟩
  · intro obj i t seq w u v nonce s ⟨hu, he, hm, hs⟩ ha hw hseq hn hv
    refine congrArg Outcome.next ((if_neg (by simp [hu, he, hm, hs])).trans ?_)
    rw [ha]
    dsimp only
    rw [← hw]
    unfold State.challenge
    rw [← hn, ← hseq]
    dsimp only
    rw [← hv]
  · intro ctrl id1 id2 ide frame1 frame2 e f1 f2 s ⟨hf1, hf2, he⟩ hc
    subst hf1 hf2
    show execAuthResponseReceive ctrl id1 id2 ide frame1 frame2 s = _
    unfold execAuthResponseReceive
    dsimp only
    rw [he]
    exact congrArg Outcome.next (if_pos hc)
  · intro e w s hu he hw
    show execAuthTimeout s = _
    unfold execAuthTimeout
    rw [he, hw]
    exact congrArg Outcome.next (if_pos hu)
  · intro v s hu hk ⟨he, hb⟩ hm
    refine congrArg Outcome.next ((if_pos hu).trans ((if_neg (by simpa using hk)).trans (if_pos ?_)))
    rcases hm with h | h <;> simp [h, he, hb]
  · intro block b k g v u s hu hr hb hbr hg hv hu2
    subst hb
    refine congrArg Outcome.next ((if_pos hu).trans ((bufferRead_first hr hbr hg).trans ?_))
    rw [hu2, hv]
    rfl
  · intro d buffer gen s h hb ⟨hbuf, hbeg⟩ hg
    refine congrArg Outcome.next ((run_see h hb _).trans ?_)
    rw [if_neg (by simp; omega), if_neg (by simp [hbeg]), hg]
    rfl
  · intro d string key k s h hm hs hk hc
    refine congrArg Outcome.next ((run_ready h _).trans ?_)
    subst hk
    dsimp only
    rw [seeArg_ok (s := s.start d) hs, if_neg (by simp [hc])]
    exact if_pos (by simp [hm])
  · intro d string s h hs
    exact congrArg Outcome.next ((run_ready h _).trans (seeArg_ok (s := s.start d) hs _))
  · intro string s hu hs
    exact congrArg Outcome.next (if_pos (by simp [hu, hs]))

end Sys2Proof.Proofs.StorageEstimator
end

section
/-!
PROOFS. Own effects of the pilot, of the vehicle's frames and of SLAC (spec/12).
-/
namespace Sys2Proof.Proofs.PilotSlacAndFrames

open Sys2Proof Sys2Proof.Machine Sys2Proof.Laws Sys2Proof.Laws.PilotSlacAndFrames
open Host (Outcome)

variable {s : State}

/-- A period with a steady level whose class is valid (R294). -/
theorem pilotPeriod_steady {p c n : Nat} {a b : Int} {w v y : State} (hs : s.pilotSteady p = true) (hw : w = s.waitSite (s.periodEnd p))
    (hv : v = w.wrS (PLU_CP_LVL.HIGH p) a) (hc : v.pilotClass p a b false = (c, false))
    (hn : n = if c = (s.port p).cand then (s.port p).candN + 1 else 1)
    (hy : y = v.modPort p (fun x => { x with cand := c, candN := min n 15, periodAt := some (1000000 * (w.siteNs / 1000000 + 1)), dutyNow := s.rd (PLU_CP_CTL.DUTY p), fNow := s.flag (PLU_CP_CTL.F p) })) :
    s.pilotPeriod p a b = if s.rd PLU_GCFG.CP_DEB ≤ n && c ≠ s.pilot p then y.pilotChange p c else y := by
  unfold State.pilotPeriod
  simp only [hs, Bool.not_true, Bool.false_and, Bool.false_eq_true, if_false, if_true]
  rw [← hw, ← hv, hc]
  dsimp only
  rw [← hn, if_neg (show ¬ (false = true) by decide), ← hy]

/-- A frame that fills a buffer: what it leaves, and the completion of the buffer's descriptor (R312). -/
theorem fillBuffer_completes {p addr kind stamp : Nat} {bytes : List Nat} {d : DescRef} {l : List (Nat × Nat × Nat)}
    (hr : (s.port p).rx = (d.ring.val, d.idx.toNat, addr) :: l) (hs : s.served d = true) :
    ∃ t, s.fillBuffer p (d.ring.val, d.idx.toNat, addr) kind bytes stamp = t ∧ t.regs = s.regs ∧ t.log = s.log ∧
      t.port p = { s.port p with rx := l } ∧ Out.host addr bytes ∈ t.out ∧
      t.answered d false false 0 0 ([kind, 0] ++ leBytes 2 bytes.length ++ leBytes 8 stamp) := by
  obtain ⟨u, hu⟩ : ∃ u, (s.modPort p (fun x => { x with rx := x.rx.erase (d.ring.val, d.idx.toNat, addr) })).emit (.host addr bytes) = u := ⟨_, rfl⟩
  have hsu : u.served d = true := by rw [← hu]; exact hs
  refine ⟨_, rfl, ?_⟩
  unfold State.fillBuffer
  dsimp only
  rw [hu]
  refine ⟨(complete_regs hsu ..).trans (by rw [← hu]; rfl), (complete_log hsu ..).trans (by rw [← hu]; rfl), ?_, ?_, complete_answered u hsu ..⟩
  · refine (port_congr (by simp) p).trans (?_ : u.port p = _)
    rw [← hu]
    refine (port_congr (emit_plu ..) p).trans ((port_modPort ..).trans ?_)
    rw [hr, List.erase_cons_head]
  · exact complete_out hsu _ (by rw [← hu]; exact List.mem_cons_self ..)

/-- A frame that is for the host, with a posted buffer (R312). -/
theorem vehicleFrame_fills {p lead : Nat} {f : List Nat} {b : Nat × Nat × Nat} {l : List (Nat × Nat × Nat)} (hc : s.ccs p = true)
    (hg : s.guards = true) (hf : (nth f 12 0 = 0x88 && nth f 13 0 = 0xE1) = false) (hr : (s.port p).rx = b :: l) :
    s.vehicleFrame p f lead = (s.modPort p (fun x => { x with lastSrc := field f 6 6 })).fillBuffer p b 0 f (s.siteNs - lead) := by
  have hmode : s.glb.mode ≠ .shadow := by simpa [State.guards] using hg
  have hrx : ((s.modPort p (fun x => { x with lastSrc := field f 6 6 })).port p).rx = b :: l := by rw [port_modPort]; exact hr
  unfold State.vehicleFrame
  dsimp only
  rw [if_pos hc, hrx]
  refine if_neg ?_
  rw [hc, Bool.true_and, hf]
  simp [hmode]

/-- A failed unicast frame on a CCS-type port (R316). -/
theorem unicastFail_ccs {p : Nat} {l : List Nat} (hl : l = s.now :: (s.port p).fails.take 2) (hc : s.ccs p = true) :
    ∃ u, u = ((s.bump (PLU_LINK_CNT.ERR p)).bump (PLU_LINK_CNT.RETX p)).modPort p (fun x => { x with fails := l, failAt := s.now }) ∧
      s.unicastFail p = if s.rd (PLU_PLC_STAT.MODE p) = 0 ∧ l.length = 3 ∧ s.now ≤ nth l 2 0 + 200000000 then
        (((u.wr (PLU_PLC_STAT.MODE p) 1).bump (PLU_IMP_CNT.FALLBACK p)).modPort p (fun x => { x with stdAt := s.now })).ev 0x0C05 (entPort p) 3 (s.port p).lastSrc else u := by
  subst hl
  refine ⟨_, rfl, ?_⟩
  unfold State.unicastFail
  dsimp only
  rw [if_neg (by simp [hc])]
  simp only [Bool.and_eq_true, decide_eq_true_eq, and_assoc]

/-- Settles O29: the pilot's periods and control, beacons, frames of the vehicle and the first answer of SLAC. -/
theorem pilotSlacAndFrames : Obligations.PilotSlacAndFrames := by
  unfold Obligations.PilotSlacAndFrames
  refine ⟨?_, ?_, ?_, ?_, ?_, ?_, ?_, ?_⟩
  · intro port high low l w v y c n s ho hs hl hw hv hc hn hy
    subst hl
    exact congrArg Outcome.next ((if_pos ho).trans (pilotPeriod_steady hs hw hv hc hn hy))
  · intro port v s ⟨hu, hp, hh⟩
    exact congrArg Outcome.next ((if_neg (by simp [hu])).trans ((if_pos hp).trans (if_neg (by simp [hh]))))
  · intro port t w s ho ⟨hc, hg⟩ ht hw
    subst ht
    refine congrArg Outcome.next ((if_pos (by simp [ho, hc, hg])).trans ?_)
    rw [hw]
    rfl
  · intro port frame lead s f d addr l ⟨ho, hc, hg⟩ ⟨hf, hm⟩ ⟨hr, hs⟩
    subst hf
    obtain ⟨v, hv⟩ : ∃ v, s.modPort port.val (fun x => { x with lastSrc := field (frame.map (·.toNat)) 6 6 }) = v := ⟨_, rfl⟩
    have hport : v.port port.val = { s.port port.val with lastSrc := field (frame.map (·.toNat)) 6 6 } := by rw [← hv]; exact port_modPort ..
    have hrun : exec (.vehicleFrameReceive port frame lead) s =
        .next (v.fillBuffer port.val (d.ring.val, d.idx.toNat, addr) 0 (frame.map (·.toNat)) (s.siteNs - lead)) :=
      congrArg Outcome.next ((if_pos ho).trans ((vehicleFrame_fills hc hg hm hr).trans (by rw [hv])))
    obtain ⟨t, ht, h1, h2, h3, h4, h5⟩ := fillBuffer_completes (s := v) (p := port.val) (d := d) (addr := addr) (kind := 0)
      (bytes := frame.map (·.toNat)) (stamp := s.siteNs - lead) (l := l) (by rw [hport]; exact hr) (by rw [← hv]; exact hs)
    rw [ht] at hrun
    exact ⟨t, hrun, h1.trans (by rw [← hv]; rfl), h2.trans (by rw [← hv]; rfl), by rw [h3, hport], by rw [h3], h4, h5⟩
  · rintro port s p l ⟨ho, rfl, hl⟩
    refine ⟨fun hc => congrArg Outcome.next ((if_pos ho).trans (if_pos (by simp [hc]))), fun hc => ?_⟩
    obtain ⟨u, hu, hrun⟩ := unicastFail_ccs hl hc
    exact ⟨u, hu, congrArg Outcome.next ((if_pos ho).trans hrun)⟩
  · intro port s w ⟨ho, hm⟩ hw
    refine congrArg Outcome.next ((if_pos (by simp [ho, hm])).trans ?_)
    have hp : w.port port.val = s.port port.val := port_congr (by rw [hw]; simp) _
    rw [← hw]
    unfold State.roboOff
    rw [hp]
  · intro port s ⟨ho, hc⟩
    exact congrArg Outcome.next (if_pos (by simp [ho, hc]))
  · intro port runId r u s ho ⟨hc, hg⟩ hrow hfind hu ⟨ha, hm⟩
    refine congrArg Outcome.next ((if_neg (by simp [ho, hc, hg])).trans ?_)
    rw [hrow]
    dsimp only
    rw [hfind]
    dsimp only
    rw [← hu]
    exact if_pos (by simp [ha, hm])

/-! ### Rounds of SLAC and the port's frames -/

/-- A window that closes at an armed nearest port with the margin reached (R303). -/
theorem slacClose_matches {r p : Nat} {x : Round} {u : State} (hp : p = s.nearest r)
    (ha : s.flag (PLU_CP_STAT.ARMED p) = true ∧ (s.port p).mute = false) (hm : (s.rd PLU_GCFG.SLAC_MARGIN : Int) ≤ s.slacMargin r p)
    (hu : u = ((((s.setRow r (some { x with closedAt := some s.now })).toVehicle p 2 false (leBytes 8 x.runId)).associate p).ev 0x0C02 (entPort p) x.runId (enc 64 (s.slacMargin r p)))) :
    s.slacClose r x = u.postItem p 1 (u.slacRecord r p 0 (s.rd (PLU_CP_STAT.ROUNDS p)) (s.slacMargin r p) x.runId s.siteNs) := by
  obtain ⟨h1, h2⟩ := ha
  subst hp
  have harmed : (s.flag (PLU_CP_STAT.ARMED (s.nearest r)) && !(s.port (s.nearest r)).mute) = true := by simp [h1, h2]
  have hres : (if (!(s.flag (PLU_CP_STAT.ARMED (s.nearest r)) && !(s.port (s.nearest r)).mute)) = true then 2
      else if s.slacMargin r (s.nearest r) < (s.rd PLU_GCFG.SLAC_MARGIN : Nat) then 1 else 0) = 0 := by
    rw [harmed, if_neg (by simp), if_neg (Int.not_lt.mpr hm)]
  unfold State.slacClose
  dsimp only
  rw [hres, if_pos rfl, ← hu]

/-- A frame of a length within the limits that is none of PLC management waits (R310). -/
theorem frame_waits {d : DescRef} {len : BitVec 32} {data : List (BitVec 8)} {b : List Nat} (hr : s.ready d 0x0C01 = true) (hg : s.guards = true)
    (hb : fitData len.toNat (data.map (·.toNat)) = b) (h1 : 60 ≤ len.toNat) (h2 : len.toNat ≤ 1514)
    (hm : (nth b 12 0 = 0x88 && nth b 13 0 = 0xE1) = false) :
    exec (.frame d true len data) s =
      .next ((s.start d).modPort d.ring.val (fun x => { x with tx := x.tx ++ [(d.ring.val, d.idx.toNat, s.now, b)] })) := by
  subst hb
  refine congrArg Outcome.next ((runTx_ready hr hg _).trans (if_neg ?_))
  rw [Bool.or_eq_true, hm]
  simp
  omega

/-- The descriptor of a port's oldest frame that is dropped after its time (R311). -/
theorem frameTxTimeout_drops {d : DescRef} {port : Fin 24} {t : Nat} {b : List Nat} {l : List (Nat × Nat × Nat × List Nat)}
    (ho : s.pluOn port.val = true) (ht : (s.port port.val).tx = (d.ring.val, d.idx.toNat, t, b) :: l) :
    ∃ w, s.waitTill (t + 200000000) = w ∧ exec (.frameTxTimeout port) s =
      .next ((w.modPort port.val (fun x => { x with tx := l })).complete d.ring.val d.idx.toNat false true 0 0x009F) := by
  refine ⟨_, rfl, ?_⟩
  show execFrameTxTimeout port s = _
  unfold execFrameTxTimeout
  dsimp only
  rw [ht]
  exact congrArg Outcome.next (if_neg (by simp [ho]))

/-- A posted buffer waits while nothing waits for it (R313). -/
theorem portRx_waits {d : DescRef} {len : BitVec 32} {addr : BitVec 64} (hr : s.ready d 0x0C02 = true) (hl : 1536 ≤ len.toNat)
    (hi : (s.port (d.ring.val - 24)).items = []) :
    exec (.portRx d true len addr) s =
      .next (((s.start d).waitOutside d).modPort (d.ring.val - 24) (fun x => { x with rx := x.rx ++ [(d.ring.val, d.idx.toNat, addr.toNat)] })) := by
  obtain ⟨v, hv⟩ : ∃ v, ((s.start d).waitOutside d).modPort (d.ring.val - 24) (fun x => { x with rx := x.rx ++ [(d.ring.val, d.idx.toNat, addr.toNat)] }) = v := ⟨_, rfl⟩
  have hport : (v.port (d.ring.val - 24)).items = [] := by rw [← hv, port_modPort]; exact hi
  show execPortRx d true len addr s = _
  unfold execPortRx
  dsimp only
  rw [run_ready hr]
  rw [if_neg (by simp; omega), hv, hport]

/-- Settles O30: a round's sounds, its close and its end; the frames a port is to send or has posted; its counters. -/
theorem pilotSlacAndFramesPart2 : Obligations.PilotSlacAndFramesPart2 := by
  unfold Obligations.PilotSlacAndFramesPart2
  refine ⟨?_, ?_, ?_, ?_, ?_, ?_, ?_, ?_⟩
  · intro runId atten s r x ⟨hu, hrow, hx, hc⟩
    show execSlacSound runId atten s = _
    unfold execSlacSound
    rw [hrow]
    dsimp only
    rw [hx]
    exact congrArg Outcome.next (if_neg (by simp [hu, hc]))
  · intro runId r p x u s hu hrow ⟨hx, hc⟩ hp ha hm huu
    show execSlacWindowClose runId s = _
    unfold execSlacWindowClose
    rw [hrow]
    dsimp only
    rw [hx]
    exact congrArg Outcome.next ((if_neg (by simp [hu, hc])).trans (slacClose_matches hp ha hm huu))
  · intro runId s r t ⟨hu, hrow, hx⟩
    show execSlacRowFree runId s = _
    unfold execSlacRowFree
    rw [hrow]
    dsimp only
    rw [hx]
    exact congrArg Outcome.next (if_pos hu)
  · intro d len data s b ⟨hr, hg⟩ ⟨hb, h1, h2, hm⟩
    exact frame_waits hr hg hb h1 h2 hm
  · intro port lead r i t b l s ho ht
    show execFrameSent port lead s = _
    unfold execFrameSent
    dsimp only
    rw [ht]
    exact congrArg Outcome.next (if_neg (by simp [ho]))
  · intro port s d t b l ⟨ho, ht, hs⟩
    obtain ⟨w, hw, hrun⟩ := frameTxTimeout_drops ho ht
    have hsv : (w.modPort port.val (fun x => { x with tx := l })).served d = true := by
      refine (served_congr d ?_).trans hs
      show w.hif.rings = s.hif.rings
      rw [← hw, waitTill_hif]
    refine ⟨_, hrun, (complete_regs hsv ..).trans ?_, (complete_log hsv ..).trans ?_, ?_, ?_, complete_answered _ hsv ..⟩
    · show w.regs = s.regs
      rw [← hw, waitTill_regs]
    · show w.log = s.log
      rw [← hw, waitTill_log]
    · rw [complete_now]
      show _ ≤ w.now
      rw [← hw]
      exact le_now_waitTill s _
    · refine (port_congr (complete_plu ..) _).trans ((port_modPort ..).trans ?_)
      rw [port_congr (s := s) (by rw [← hw, waitTill_plu]) port.val]
  · intro d len addr s ⟨hr, hl, hi⟩
    exact portRx_waits hr hl hi
  · intro port s ⟨hu, hp⟩
    exact congrArg Outcome.next ((if_neg (by simp [hu])).trans (if_pos hp))

end Sys2Proof.Proofs.PilotSlacAndFrames
end

section
/-!
PROOFS. Own effects of the session guard (spec/12).
-/
namespace Sys2Proof.Proofs.SessionGuard

open Sys2Proof Sys2Proof.Machine Sys2Proof.Laws Sys2Proof.Laws.SessionGuard
open Host (Outcome)

variable {s : State} {d : DescRef} {p : Nat}

/-- A session start with nothing against it (R320). -/
theorem sessionStart_runs {evcc : BitVec 48} {maxV maxI maxP : BitVec 32} {contract : List (BitVec 8)} (hr : s.ready d 0x0C01 = true)
    (hm : s.glb.mode = .active) (hmax : maxV.toNat ≠ 0 ∧ maxI.toNat ≠ 0 ∧ maxP.toNat ≠ 0)
    (hp : s.session d.ring.val = 0 ∧ s.capTripped d.ring.val = false ∧ s.connected d.ring.val = true ∧ s.flag RSL_JRNL_STAT.LOW = false)
    (hl : (if s.ccs d.ring.val then s.flag (PLU_CP_STAT.ASSOC d.ring.val) else s.flag (PLU_CP_STAT.LINK d.ring.val)) = true) :
    exec (.sessionStart d true evcc maxV maxI maxP contract) s =
      .next (((s.start d).startSession d.ring.val evcc.toNat maxV.toNat maxI.toNat maxP.toNat (contract.map (·.toNat))).done d
        (leBytes 4 (s.nextSession d.ring.val) ++ leBytes 8 s.siteNs)) := by
  obtain ⟨hv, hi, hpw⟩ := hmax
  obtain ⟨hs, ht, hc, hlow⟩ := hp
  refine congrArg Outcome.next ((run_ready hr _).trans ((if_pos (decide_eq_true hm)).trans ?_))
  have hs' : (s.start d).session d.ring.val = 0 := hs
  have ht' : (s.start d).capTripped d.ring.val = false := ht
  have hc' : (s.start d).connected d.ring.val = true := hc
  have hl' : (if (s.start d).ccs d.ring.val then (s.start d).flag (PLU_CP_STAT.ASSOC d.ring.val) else (s.start d).flag (PLU_CP_STAT.LINK d.ring.val)) = true := hl
  dsimp only
  rw [if_neg (by simp [hv, hi, hpw]), hs', if_neg (by decide), if_neg (by decide), ht', if_neg (by decide), hc', if_neg (by decide), hl',
    if_neg (by decide), if_neg (by simp [hlow])]
  rfl

/-- A check that finds nothing leaves the state and the code. -/
theorem check_pass (s : State) (p v w c : Nat) : s.check p false v w c = (s, c) := rfl

/-- What a counter reads after a count goes by the registers alone. -/
theorem bump_regs_congr {t : State} (h : t.regs = s.regs) (f : Fld) : (t.bump f).regs = (s.bump f).regs := by
  unfold State.bump
  rw [rd_regs h]
  unfold State.wr State.setReg State.reg
  simp only [h]

/-- A value within 0 and the limit is not clamped. -/
theorem clampI_id {hi i : Int} (h0 : 0 ≤ i) (h1 : i ≤ hi) : clampI 0 hi i = i := by
  unfold clampI
  omega

/-- A request's port: reached in time and restating no maximum, only its time is new (R294, R296). -/
theorem requestTimed_inTime {x : Plu} (hx : s.port p = x)
    (h : s.now - x.reqAt ≤ 1000000 * s.rd (PLU_GUARD.PERIOD p) + 1000000 * s.rd (PLU_GUARD.TOL p)) :
    s.requestTimed p 0 0 0 = s.modPort p (fun y => { y with reqAt := s.now }) := by
  subst hx
  have hkeep : ∀ o, keepMax (0 : BitVec 32) o = o := fun _ => rfl
  have htime : s.timeRequest p = s := if_pos h
  unfold State.requestTimed
  rw [htime]
  simp only [hkeep]

section
variable {reqI reqV reqP presentV : BitVec 32} {x : Plu} (hx : s.port p = x)
  (hi : 0 ≤ reqI.toInt ∧ reqI.toInt ≤ (s.rd (PLU_LIM_I.LIM_I p) : Nat) ∧ reqI.toInt ≤ (x.maxI : Nat))
  (hv : 0 ≤ reqV.toInt ∧ reqV.toInt ≤ (s.rd (PLU_LIM_V.LIM_V p) : Nat) ∧ reqV.toInt ≤ (x.maxV : Nat))
  (hp : 0 ≤ reqP.toInt ∧ reqP.toInt ≤ (s.rd (PLU_LIM_P.LIM_P p) : Nat) ∧ reqP.toInt ≤ (x.maxP : Nat))
  (hfar : s.farV p presentV = false)
include hx hi hv hp hfar

/-- A request within every limit asks for its own values (R294). -/
theorem requestOf_within : s.requestOf p reqI reqV reqP presentV = { i := reqI.toInt, v := reqV.toInt, p := reqP.toInt } := by
  subst hx
  unfold State.requestOf
  dsimp only
  rw [hfar, clampI_id hi.1 hi.2.1, clampI_id hv.1 (by omega), clampI_id hp.1 (by omega), min_eq_left hi.2.2]
  rfl

/-- A request within every limit passes every check (R295). -/
theorem requestChecks_within : s.requestChecks p reqI reqV reqP presentV = (s, 0) := by
  subst hx
  have h1 : (reqI.toInt < 0 || (s.rd (PLU_LIM_I.LIM_I p) : Int) < reqI.toInt : Bool) = false := by simp; omega
  have h2 : decide (((s.port p).maxI : Int) < clampI 0 (s.rd (PLU_LIM_I.LIM_I p) : Nat) reqI.toInt) = false := by
    rw [clampI_id hi.1 hi.2.1]
    simp; omega
  have h3 : (reqV.toInt < 0 || ((min (s.rd (PLU_LIM_V.LIM_V p)) (s.port p).maxV : Nat) : Int) < reqV.toInt : Bool) = false := by simp; omega
  have h4 : (reqP.toInt < 0 || ((min (s.rd (PLU_LIM_P.LIM_P p)) (s.port p).maxP : Nat) : Int) < reqP.toInt : Bool) = false := by simp; omega
  unfold State.requestChecks
  dsimp only
  rw [h1, check_pass, h2, check_pass, h3, check_pass, h4, check_pass, hfar, check_pass]

end

/-- A reason to end a session, while there is one (R299). -/
theorem guardExit_session {r : Nat} (hs : s.session p = 1) :
    ∃ t, s.guardExit p r = t ∧ t.regs = s.regs ∧ t.now = s.now ∧
      t.port p = { s.port p with exits := (if (s.port p).exits.contains r then (s.port p).exits else r :: (s.port p).exits) } := by
  refine ⟨_, rfl, ?_⟩
  unfold State.guardExit
  rw [hs]
  by_cases he : (s.port p).exits.contains r = true
  · rw [if_neg (by simpa using he), if_pos he]
    exact ⟨rfl, rfl, rfl⟩
  · rw [if_pos (by simpa using he), if_neg he]
    exact ⟨rfl, rfl, port_modPort ..⟩

/-- A class C violation in a session without one: counted, remembered, and the session is to end for reason 1 (R298, R299). -/
theorem classC_first {cause : Nat} (hs : s.session p = 1) (hc : (s.port p).classC = none) :
    ∃ t, s.classC p cause = t ∧ t.regs = (s.bump (PLU_VIOL.C_CNT p)).regs ∧ t.now = s.now ∧
      t.port p = { s.port p with classC := some cause, exits := (if (s.port p).exits.contains 1 then (s.port p).exits else 1 :: (s.port p).exits) } := by
  obtain ⟨v, hv⟩ : ∃ v, s.violate p 3 cause 0 = v := ⟨_, rfl⟩
  have hvr : v.regs = (s.bump (PLU_VIOL.C_CNT p)).regs := by rw [← hv]; exact ev_regs ..
  have hvn : v.now = s.now := by rw [← hv]; exact ev_now ..
  have hvp : v.port p = s.port p := by rw [← hv]; exact port_congr (ev_plu ..) p
  obtain ⟨m, hm⟩ : ∃ m, v.modPort p (fun x => { x with classC := match x.classC with | none => some cause | some c => some c }) = m := ⟨_, rfl⟩
  have hmr : m.regs = (s.bump (PLU_VIOL.C_CNT p)).regs := by rw [← hm]; exact hvr
  have hmn : m.now = s.now := by rw [← hm]; exact hvn
  have hmp : m.port p = { s.port p with classC := some cause } := by rw [← hm, port_modPort, hvp, hc]
  have hms : m.session p = 1 := by
    refine (rd_regs hmr _).trans ((rd_wr_other s _ ?_).trans hs)
    show 0x5002C + 0x400 * p ≠ 0x50024 + 0x400 * p
    omega
  obtain ⟨t, ht, h1, h2, h3⟩ := guardExit_session (r := 1) hms
  refine ⟨t, ?_, h1.trans hmr, h2.trans hmn, by rw [h3, hmp]⟩
  unfold State.classC
  rw [hv, if_pos hs]
  exact (congrArg (fun u : State => u.guardExit p 1) hm).trans ht

/-- Settles O31: the start and the end of a session, the requests in it, the reports of violations, and the guard's times. -/
theorem sessionGuard : Obligations.SessionGuard := by
  unfold Obligations.SessionGuard
  refine ⟨?_, ?_, ?_, ?_, ?_, ?_⟩
  · intro d evcc maxV maxI maxP contract p id v u s hr hm hp hmax hs hl hid hv hu
    subst hp
    refine ⟨_, (sessionStart_runs hr hm hmax hs hl).trans ?_, rfl⟩
    rw [hu, hv, hid]
    rfl
  · intro d reqI reqV reqP presentV s p x ⟨hr, hg, hd, hs, hx⟩ hi hv hp ⟨hfar, htime⟩
    obtain ⟨m, hm⟩ : ∃ m, (s.start d).modPort p (fun y => { y with reqAt := s.now }) = m := ⟨_, rfl⟩
    have hmx : m.port p = { x with reqAt := s.now } := by
      rw [← hm, port_modPort]
      exact congrArg (fun y : Plu => { y with reqAt := s.now }) hx
    have hmregs : m.regs = s.regs := by rw [← hm]; rfl
    have hfar' : m.farV p presentV = false := (farV_congr (by rw [← hm]; rfl) (by rw [← hm]; rfl) p presentV).trans hfar
    have hrd : ∀ f, m.rd f = s.rd f := rd_regs hmregs
    have hi' : 0 ≤ reqI.toInt ∧ reqI.toInt ≤ (m.rd (PLU_LIM_I.LIM_I p) : Nat) ∧ reqI.toInt ≤ (x.maxI : Nat) := by rw [hrd]; exact hi
    have hv' : 0 ≤ reqV.toInt ∧ reqV.toInt ≤ (m.rd (PLU_LIM_V.LIM_V p) : Nat) ∧ reqV.toInt ≤ (x.maxV : Nat) := by rw [hrd]; exact hv
    have hp' : 0 ≤ reqP.toInt ∧ reqP.toInt ≤ (m.rd (PLU_LIM_P.LIM_P p) : Nat) ∧ reqP.toInt ≤ (x.maxP : Nat) := by rw [hrd]; exact hp
    obtain ⟨q, hq⟩ : ∃ q : Req, { i := reqI.toInt, v := reqV.toInt, p := reqP.toInt } = q := ⟨_, rfl⟩
    have hof : m.requestOf p reqI reqV reqP presentV = q := (requestOf_within hmx hi' hv' hp' hfar').trans hq
    have hchk : m.requestChecks p reqI reqV reqP presentV = (m, 0) := requestChecks_within hmx hi' hv' hp' hfar'
    have hti : (s.start d).requestTimed p 0 0 0 = m := (requestTimed_inTime (s := s.start d) hx htime).trans hm
    obtain ⟨n, hn⟩ : ∃ n, m.postRequest p q = n := ⟨_, rfl⟩
    have hrun : exec (.request d true reqI reqV reqP presentV 0 0 0) s = .next (n.done d (sBytes 4 q.i ++ sBytes 4 q.v ++ sBytes 4 q.p)) := by
      subst hd
      refine congrArg Outcome.next ((runTx_ready hr hg _).trans ?_)
      have hs' : (s.start d).session d.ring.val = 1 := hs
      rw [hs', if_neg (by decide), if_neg (by decide), if_neg (by decide), hti]
      dsimp only
      rw [hof, hchk, ← hn]
    have hserved : n.served d = true := still_served hr (by rw [← hn, ← hm]; rfl)
    refine ⟨_, hrun, (done_regs hserved ..).trans ?_, (done_log hserved ..).trans ?_, (port_congr (done_plu ..) p).trans ?_, (done_alp ..).trans ?_, ?_⟩
    · rw [← hn]; exact hmregs
    · rw [← hn, ← hm]; rfl
    · rw [← hn, ← hq]
      refine (port_congr (t := State.postRequest m p _) (s := m.modPort p (fun y => { y with lastI := reqI.toInt, lastP := reqP.toInt })) rfl p).trans ?_
      rw [port_modPort, hmx]
    · rw [← hn, ← hq, ← hm]; rfl
    · rw [← hq]
      exact complete_answered n hserved ..
  · intro d reason p s hr hg hp hs hre
    subst hp
    refine congrArg Outcome.next ((runTx_ready hr hg _).trans ?_)
    have hs' : (s.start d).session d.ring.val = 1 := hs
    rw [if_neg (by rcases hre with h | h <;> simp [h]), hs', if_neg (by decide)]
  · intro d cause s p ⟨hr, hg, hd, h1, h3⟩
    subst hd
    obtain ⟨v, hv⟩ : ∃ v, (s.start d).violate d.ring.val 1 cause.toNat 0 = v := ⟨_, rfl⟩
    have hrun : exec (.report d true 1 cause) s = .next (v.done d) := by
      refine congrArg Outcome.next ((runTx_ready hr hg _).trans ?_)
      rw [if_neg (by simp [violationListed, h1, h3]), if_neg (by decide), if_neg (by decide), ← hv]
    have hserved : v.served d = true := still_served hr (by rw [← hv]; exact congrArg Hif.rings (ev_hif ..))
    refine ⟨_, hrun, (done_regs hserved ..).trans ?_, (done_plu ..).trans ?_, complete_answered v hserved ..⟩
    · rw [← hv]; exact ev_regs ..
    · rw [← hv]; exact ev_plu ..
  · intro port s p ⟨ho, hp, hg, hs, hc⟩
    subst hp
    obtain ⟨w, hw⟩ : ∃ w, s.waitTill ((s.port port.val).reqAt + 1000000 * s.rd (PLU_TMO.SESSION_TMO port.val)) = w := ⟨_, rfl⟩
    have hregs : w.regs = s.regs := by rw [← hw]; exact waitTill_regs ..
    have hport : w.port port.val = s.port port.val := port_congr (by rw [← hw]; exact waitTill_plu ..) _
    obtain ⟨t, ht, h1, h2, h3⟩ := classC_first (s := w) (p := port.val) (cause := 4) ((rd_regs hregs _).trans hs) (by rw [hport]; exact hc)
    refine ⟨t, congrArg Outcome.next ((if_pos (by simp [ho, hg, hs, hc])).trans ?_), h1.trans ?_, ?_, ?_⟩
    · rw [hw, ht]
    · exact bump_regs_congr hregs _
    · rw [h2, ← hw]; exact le_now_waitTill ..
    · rw [h3, hport]
  · intro port p t w v s hu hp ⟨hs, hc⟩ hw hv
    subst hp
    show execCooloffEnd port s = _
    unfold execCooloffEnd
    dsimp only
    rw [hc]
    refine congrArg Outcome.next ((if_neg (by simp [hu, hs])).trans ?_)
    rw [← hw, hv]
    rfl

end Sys2Proof.Proofs.SessionGuard
end

section
/-!
PROOFS. Own effects of the CAN controllers (spec/13).
-/
namespace Sys2Proof.Proofs.CanControllers

open Sys2Proof Sys2Proof.Machine Sys2Proof.Laws Sys2Proof.Laws.CanControllers
open Host (Outcome)

variable {s : State} {n : Nat}

/-- A frame taken without an overrun, for the HKC alone, that the HKC does not take at once (R311). -/
theorem canStore_hkc {o : Nat} {f : CanFrame} (hnew : s.flag (CAN_OBJ_STAT.NEW n o) = false) (hd : s.rd (CAN_OBJ_CFG.DEST n o) = 0) :
    s.canStore n o f false = ((s.modCan n (fun c => { c with held := tset (fun _ => none) c.held o (some f), ovrRun := c.ovrRun.filter (· ≠ o) })).bumpWrap
      (CAN_OBJ_STAT.CNT n o)).wr (CAN_OBJ_STAT.NEW n o) 1 := by
  unfold State.canStore
  simp [hnew, hd]

/-- A valid frame that is no reference message, with REC at most 127 (R311, R320). -/
theorem canReceive_plain {id lead : Nat} {ide fdf brs hkcTakes : Bool} {data : List Nat} {v : State} (hr : s.isRef n id ide data = false)
    (hrec : s.rd (CAN_STAT.REC n) ≤ 127)
    (hv : v = (s.wr (CAN_STAT.REC n) (s.rd (CAN_STAT.REC n) - 1)).canErrState n (s.rd (CAN_STAT.TEC n)) (s.rd (CAN_STAT.REC n))) :
    s.canReceive n id ide fdf brs data lead hkcTakes =
      match (List.range 128).find? (fun o => s.flag (CAN_OBJ_CFG.EN n o) && !s.flag (CAN_OBJ_CFG.DIR n o) &&
        (s.flag (CAN_OBJ_CFG.IDE n o) == ide) && (Nat.xor id (s.rd (CAN_OBJ_ID.ID n o)) &&& s.rd (CAN_OBJ_MASK.MASK n o)) == 0) with
      | none => v.bump (CAN_DROP.NOMATCH n)
      | some o => v.canStore n o { id := id, ide := ide, fdf := fdf, brs := brs, suspect := s.canSuspect n id ide, data := data, stamp := s.siteNs } hkcTakes := by
  subst hv
  have h : ¬ 127 < s.rd (CAN_STAT.REC n) := by omega
  unfold State.canReceive
  simp only [h, if_false, hr, Bool.false_eq_true] <;> rfl

/-- An error frame that is no bit error in the data field, TEC staying at most 255 (R320). -/
theorem canError_counts {k : Nat} (hk : k ≠ 3) (ht : s.rd (CAN_STAT.TEC n) + (canErrInc k).1 ≤ 255) :
    s.canError n k = ((((((s.bump (CAN_CNT.ERRFRAME n)).wr (CAN_STAT.TEC n) (min (s.rd (CAN_STAT.TEC n) + (canErrInc k).1) 255)).wr (CAN_STAT.REC n)
      (min (s.rd (CAN_STAT.REC n) + (canErrInc k).2) 255)).modCan n (fun c => { c with tx := if 2 ≤ k then none else c.tx })).canErrState n
        (s.rd (CAN_STAT.TEC n)) (s.rd (CAN_STAT.REC n))).canFill n) := by
  have h : ¬ 255 < s.rd (CAN_STAT.TEC n) + (canErrInc k).1 := by omega
  unfold State.canError
  simp only [h, hk, if_false]
  split <;> rfl

/-- An error of a transmitter that takes TEC beyond 255: bus-off (R320, R321). -/
theorem canError_busOff (ht : 255 < s.rd (CAN_STAT.TEC n) + 8) :
    ∃ u : State, s.canError n 2 = u.canFill n ∧ (u.can n).tx = none ∧ (u.can n).offAt = s.now ∧
      (u.can n).recAt = (if s.flag (CAN_CTL.AUTO_REC n) then some (s.now, false) else none) ∧
      u.rd (CAN_STAT.ESTATE n) = (if s.flag (CAN_CTL.AUTO_REC n) then 3 else 2) := by
  obtain ⟨v, hv⟩ : ∃ v, (((((s.bump (CAN_CNT.ERRFRAME n)).wr (CAN_STAT.TEC n) (min (s.rd (CAN_STAT.TEC n) + (canErrInc 2).1) 255)).wr (CAN_STAT.REC n)
      (min (s.rd (CAN_STAT.REC n) + (canErrInc 2).2) 255)).modCan n (fun c => { c with tx := none })).canErrState n
        (s.rd (CAN_STAT.TEC n)) (s.rd (CAN_STAT.REC n))) = v := ⟨_, rfl⟩
  obtain ⟨e, he⟩ : ∃ e : Nat, (if s.flag (CAN_CTL.AUTO_REC n) then 3 else 2) = e := ⟨_, rfl⟩
  have he2 : e < 2 ^ 2 := by rw [← he]; split <;> decide
  obtain ⟨w, hw⟩ : ∃ w, (v.wr (CAN_STAT.ESTATE n) e).modCan n (fun c => { c with
    tx := none, offAt := s.now, recAt := if s.flag (CAN_CTL.AUTO_REC n) then some (s.now, false) else none }) = w := ⟨_, rfl⟩
  have hcan : w.can n = { v.can n with tx := none, offAt := s.now, recAt := if s.flag (CAN_CTL.AUTO_REC n) then some (s.now, false) else none } := by
    rw [← hw]
    exact can_modCan ..
  have hrd : w.rd (CAN_STAT.ESTATE n) = e := by
    rw [← hw]
    exact (rd_wr_same v e (f := CAN_STAT.ESTATE n) (by show 0 + 2 ≤ 32; decide)).trans (Nat.mod_eq_of_lt he2)
  obtain ⟨held, hheld⟩ : ∃ held, s.canError n 2 = (w.ev 0x0D03 (entCan n) held s.tickNum).canFill n := by
    refine ⟨(v.can n).pend.length + ([0, 1, 2].filter (fun b => (v.canBuf n b).isSome)).length, ?_⟩
    unfold State.canError
    simp only [show 255 < s.rd (CAN_STAT.TEC n) + (canErrInc 2).1 from ht, if_true, show (2 : Nat) ≠ 3 by decide, if_false]
    rw [← hw, ← he, ← hv]
    split <;> rfl
  have hev : (w.ev 0x0D03 (entCan n) held s.tickNum).can n = w.can n := can_congr (ev_cans ..) n
  exact ⟨_, hheld, by rw [hev, hcan], by rw [hev, hcan], by rw [hev, hcan], (rd_regs (ev_regs ..) _).trans (hrd.trans he.symm)⟩

/-- Asking a controller to sleep or to wake does not change whether it sleeps (R316). -/
theorem sleep_wr_ctl (v : Nat) : (s.wr (CAN_CTL.SLEEP n) v).flag (CAN_STAT.SLEEP n) = s.flag (CAN_STAT.SLEEP n) := by
  unfold State.flag
  rw [rd_wr_other]
  show 0x58000 + 0x1000 * n ≠ 0x58010 + 0x1000 * n
  omega

/-- Settles O32: frames received and sent, deadlines, error frames, bus-off and its end. -/
theorem canControllers : Obligations.CanControllers := by
  unfold Obligations.CanControllers
  refine ⟨?_, ?_, ?_, ?_, ?_, ?_, ?_, ?_⟩
  · intro ctrl id ide brs data lead s v n i l ⟨ho, hn, hi⟩ ⟨hl, hr, hrec⟩ hv
    subst hn hi hl
    have hrun : exec (.canFrameReceive ctrl id ide false brs data lead false) s =
        .next (s.canReceive ctrl.val (if ide then id.toNat else id.toNat % 2048) ide false brs ((data.map (·.toNat)).take 64) lead false) :=
      congrArg Outcome.next (if_pos (by simp [ho]))
    rw [hrun, canReceive_plain hr hrec hv]
    refine ⟨fun hnone => ?_, fun o hsome hnew hdest => ?_⟩
    · rw [List.find?_eq_none.mpr fun o hm => by rw [hnone o (List.mem_range.mp hm)]; decide]
    · rw [hsome]
      exact congrArg Outcome.next (canStore_hkc hnew hdest)
  · intro ctrl s n b ⟨ho, hn, hm, ht⟩ hb
    subst hn
    refine congrArg Outcome.next ((if_neg (by simp [ho])).trans ((if_pos rfl).trans ?_))
    unfold State.canStartTx
    rw [if_neg (by simp [ho, hm, ht])]
    dsimp only
    rw [hb]
  · intro ctrl s n b sof q ⟨ho, hn, ht⟩ ⟨hb, hq⟩
    subst hn
    refine congrArg Outcome.next ((if_neg (by simp [ho])).trans ((if_neg (by decide)).trans ?_))
    unfold State.canSent
    rw [ht]
    dsimp only
    rw [hb]
    dsimp only
    rw [hq]
  · intro ctrl s w t ⟨ha, ht⟩ hw
    subst hw
    refine congrArg Outcome.next ((if_neg (by simp [ha])).trans ?_)
    rw [ht]
    rfl
  · intro ctrl kind s n ⟨ho, hn, hk⟩ htx ht
    subst hn
    exact congrArg Outcome.next ((if_pos (by simpa [ho] using htx)).trans (canError_counts hk ht))
  · intro ctrl s n ⟨ho, hn, htx⟩ ht
    subst hn
    obtain ⟨u, hu, hfacts⟩ := canError_busOff ht
    exact ⟨u, congrArg Outcome.next ((if_pos (by simp [ho, htx])).trans hu), hfacts⟩
  · intro ctrl s x hx
    show execCanSuspectExpire ctrl s = _
    unfold execCanSuspectExpire
    rw [hx]
    rfl
  · intro ctrl s w n t host ⟨hr, hn, he, ht⟩ hw
    subst hn hw
    refine congrArg Outcome.next ((if_pos (by simp [hr, he])).trans ?_)
    unfold State.canRecovered
    rw [ht]

/-- Settles O33: recovery, sleep, the reference message, blocked objects, the counters, and frames of the host. -/
theorem canControllersPart2 : Obligations.CanControllersPart2 := by
  unfold Obligations.CanControllersPart2
  refine ⟨?_, ?_, ?_, ?_, ?_, ?_, ?_, ?_⟩
  · intro ctrl s ⟨hu, hn, he⟩
    exact congrArg Outcome.next ((if_pos (by simp [hu, hn])).trans (if_pos he))
  · intro ctrl s n ⟨hu, hn, h5, hs, ht⟩
    subst hn
    have hs1 : (s.wr (CAN_CTL.SLEEP ctrl.val) 1).flag (CAN_STAT.SLEEP ctrl.val) = false := (sleep_wr_ctl 1).trans hs
    refine congrArg Outcome.next ((if_pos (by simp [hu, h5])).trans ((if_neg (by simp [hs1])).trans ?_))
    unfold State.canSleep State.canSent
    have ht' : ((s.wr (CAN_CTL.SLEEP ctrl.val) 1).can ctrl.val).tx = none := ht
    rw [ht']
  · intro ctrl s v n ⟨hu, hn, h5, hm, hs⟩ hv
    subst hn
    have hvs : v.flag (CAN_STAT.SLEEP ctrl.val) = true := by rw [hv]; exact (sleep_wr_ctl 0).trans hs
    have hvm : v.glb.mode ≠ .dormant := by rw [hv]; exact hm
    refine congrArg Outcome.next ((if_pos (by simp [hu, h5])).trans ?_)
    rw [← hv]
    exact if_neg (by simp [hvs, hvm])
  · intro ctrl s v n p t ⟨hu, hn, hm, hsend⟩ ⟨hp, hp0, ha, ht⟩ ⟨hv, hr⟩
    subst hn
    have hvr : (v.can ctrl.val).ref = none := by
      rw [hv, can_modCan]
      exact (congrArg CanCtl.ref (can_congr (waitSite_cans ..) _)).trans hr
    refine congrArg Outcome.next ((if_pos hu).trans ?_)
    unfold State.canRefMessage
    dsimp only
    rw [if_neg (by simp [hm, hsend, ← hp, hp0]), ha]
    dsimp only
    rw [← hp, ← ht, ← hv, hvr]
  · intro ctrl obj s ⟨hu, hn⟩
    exact congrArg Outcome.next (if_pos (by simp [hu, hn]))
  · intro ctrl s ⟨hu, hn⟩
    exact congrArg Outcome.next (if_pos (by simp [hu, hn]))
  · intro d ctrl obj len data deadline s n o ⟨hr, hn, ho, h5, h128⟩ ⟨hlen, hfd⟩ ⟨htx, hown, hbl, hsend⟩
    subst hn ho
    have hf : (s.start d).canFdf ctrl.toNat obj.toNat = s.canFdf ctrl.toNat obj.toNat := rfl
    have htx' : (s.start d).canTxObj ctrl.toNat obj.toNat = true := htx
    have hown' : (s.start d).flag (CAN_OBJ_CFG.OWNER ctrl.toNat obj.toNat) = true := hown
    have hbl' : (s.start d).flag (CAN_OBJ_STAT.BLOCKED ctrl.toNat obj.toNat) = false := hbl
    have hsend' : (s.start d).canMaySend ctrl.toNat = true := hsend
    have hargs : ¬ ((!true || 5 ≤ ctrl.toNat || 128 ≤ obj.toNat || !canLenOk len.toNat ||
        (8 < len.toNat && (s.start d).flag (CAN_OBJ_CFG.EN ctrl.toNat obj.toNat) && !(s.start d).canFdf ctrl.toNat obj.toNat)) = true) := by
      rw [hf, hlen, Bool.or_eq_true]
      rcases hfd with hfd | hfd <;> simp [hfd] <;> omega
    refine congrArg Outcome.next ((run_ready hr _).trans ((if_neg hargs).trans ?_))
    rw [if_neg (by rw [htx', hown']; decide), if_neg (by rw [hbl']; decide), if_neg (by rw [hsend']; decide)]
  · intro d len addr s ⟨hr, hlen⟩
    refine congrArg Outcome.next ((run_ready hr _).trans ((if_neg (by simp; omega)).trans ?_))
    rfl

end Sys2Proof.Proofs.CanControllers
end

section
/-!
PROOFS. Own effects of the Rind's cycle, of its times and tests, and of its connections (spec/14).
-/
namespace Sys2Proof.Proofs.SafetyIsland

open Sys2Proof Sys2Proof.Machine Sys2Proof.Laws
open Host (Outcome)

variable {s : State}

/-- A cycle without an internal fault (R329). -/
theorem rindCycle_sound {x : RindIn} (h : x.fault = none) :
    s.rindCycle x = (((((s.rindBegin x).rindPairs x).1.rindWatch x).readbackOff x.soRead false).1.rindDecide x
      (((s.rindBegin x).rindPairs x).2.any (fun i => s.pairFunc i == 4)) ((((s.rindBegin x).rindPairs x).1.rindWatch x).readbackOff x.soRead false).2) := by
  unfold State.rindCycle
  rw [h]

/-- A heartbeat that does not show HALT: what the Rind remembers of it (spec/02 R35). -/
theorem heartbeat_notHalt {w : Nat} {u : State} (hw : w / 2 ^ 24 % 8 ≠ 5)
    (hu : u = { s with sfi := { s.sfi with hb := some w, hbAt := s.now, hbStop := false, grace := false, lossLogged := false, haltAt := none, haltOpen := false } }) :
    s.heartbeat w = if 2 ≤ w / 2 ^ 24 % 8 && w / 2 ^ 24 % 8 ≤ 5 then u else (u.driveSo.setHold false).mirror := by
  subst hu
  unfold State.heartbeat
  simp only [if_pos hw]

/-- SAFE_GRACE has passed in a loss not yet judged, whose switch-off is not withheld (spec/02 R35, R342). -/
theorem graceCheck_trips (hl : s.hbLoss = true) (ht : s.sfi.hbAt + 1000000 * s.par 0x004 2 ≤ s.now) (hg : s.sfi.lossLogged = false)
    (hw : s.withheld = false) :
    s.graceCheck = (State.evS { s.cause 9 0 with sfi := { (s.cause 9 0).sfi with grace := true, lossLogged := true } } 0x0E08 0
      (s.sfi.hb.getD 0 % 2 ^ 16) (b2n false)).trip 0 9 0 0 0 := by
  unfold State.graceCheck
  rw [if_neg (by simp [hl])]
  dsimp only
  rw [if_pos ht, hw, if_neg (by decide), hg, if_neg (by decide)]

/-- The terminals on a source after its test pulse (R331). -/
def pulsedTerms (s : State) (src : Nat) (follows : BitVec 16) (stuck : Bool) : State :=
  ((List.range 16).filter (fun ch => s.tpSource ch == src + 1)).foldl (fun (a : State) ch => if (stuck || !follows.getLsbD ch) && !(a.term ch).tpf then (a.setTerm ch { a.term ch with tpf := (stuck || !follows.getLsbD ch) }).evS 0x0E05 (ent 14 ch) 2 (ch / 2) else a.setTerm ch { a.term ch with tpf := (stuck || !follows.getLsbD ch) }) s

/-- A source's stuck state and its LIMP request (R358). -/
def stuckSource (v : State) (src : Nat) (stuck : Bool) : State :=
  State.limpCause { v with sfi := { v.sfi with tpsStuck := setBit v.sfi.tpsStuck src stuck } } (2000 + src) 0 8 stuck

/-- A test pulse in terms of what it leaves of the terminals. -/
theorem testPulse_eq (src : Nat) (follows : BitVec 16) (read : BitVec 8) (stuck : Bool) :
    s.testPulse src follows read stuck = if src ≠ 0 then (stuckSource (pulsedTerms s src follows stuck) src stuck).rindActs
      else if ((stuckSource (pulsedTerms s src follows stuck) src stuck).readbackOff read true).2 then
        ((stuckSource (pulsedTerms s src follows stuck) src stuck).readbackOff read true).1.rindActs.rindFault 6
      else ((stuckSource (pulsedTerms s src follows stuck) src stuck).readbackOff read true).1.rindActs := rfl

/-- A pulse of TPS1 (R331). -/
theorem testPulse_one {follows : BitVec 16} {read : BitVec 8} {stuck : Bool} {v : State} (hv : v = pulsedTerms s 1 follows stuck) :
    s.testPulse 1 follows read stuck = (stuckSource v 1 stuck).rindActs := by
  rw [testPulse_eq, if_pos (by decide), hv]

/-- A pulse of TPS0 in whose gap no energised output reads on (R331, R334). -/
theorem testPulse_zero {follows : BitVec 16} {read : BitVec 8} {stuck : Bool} {v r : State} (hv : v = pulsedTerms s 0 follows stuck)
    (hr : (stuckSource v 0 stuck).readbackOff read true = (r, false)) : s.testPulse 0 follows read stuck = r.rindActs := by
  rw [testPulse_eq, if_neg (by decide), ← hv, hr, if_neg (show ¬ (false = true) by decide)]

/-- Settles O34: the logic cycle, the heartbeat and its loss, and the times of the safety functions. -/
theorem safetyIsland : Obligations.SafetyIsland := by
  unfold Obligations.SafetyIsland
  refine ⟨?_, ?_, ?_, ?_, ?_, ?_, ?_⟩
  · intro x w a c s hr hf hw ha hc
    refine congrArg Outcome.next ((if_pos hr).trans ?_)
    rw [rindCycle_sound hf, ← hw, ← ha, ← hc]
  · intro w l u s hr hl hm hu
    have hw : w / 2 ^ 24 % 8 ≠ 5 := fun h => by rw [h] at hm; exact absurd hm (by decide)
    show execHeartbeatReceive s = _
    unfold execHeartbeatReceive
    rw [hl]
    refine congrArg Outcome.next ((if_pos hr).trans ((heartbeat_notHalt hw hu).trans (if_neg (by rw [hm]; decide))))
  · intro w l s hr hl ⟨h2, h4⟩
    show execHeartbeatReceive s = _
    unfold execHeartbeatReceive
    rw [hl]
    refine congrArg Outcome.next ((if_pos hr).trans ((heartbeat_notHalt (by omega) rfl).trans (if_pos ?_)))
    rw [Bool.and_eq_true, decide_eq_true_eq, decide_eq_true_eq]
    omega
  · intro w s hr hb hs hw
    subst hw
    exact if_neg (by simp [hr, hs, hb])
  · intro w v s hr ⟨hl, hg⟩ hw ⟨hwl, hwt, hwg, hww⟩ hv
    subst hv
    refine (if_neg (by simp [hr])).trans ((if_pos (by simp [hl, hg])).trans (congrArg Outcome.next ?_))
    rw [← hw, graceCheck_trips hwl hwt hwg hww]
  · intro which idx key need n act w s hr hwh hf hn ⟨h0, h1⟩ hw
    refine congrArg Outcome.next ((if_neg (by simp [hr])).trans ((if_neg hwh).trans ?_))
    unfold State.functionExpire
    rw [hf]
    dsimp only
    rw [← hn, ← hw]
    exact if_neg (by rw [Bool.or_eq_true, decide_eq_true_eq, decide_eq_true_eq]; omega)
  · intro idx need n w s hr hi hneed hn ⟨h0, h1⟩ hw
    refine congrArg Outcome.next ((if_neg (by simp [hr])).trans ((if_pos rfl).trans ?_))
    unfold State.offConfirm
    dsimp only
    rw [← hneed, ← hn, ← hw]
    exact if_neg (by simp only [Bool.or_eq_true, decide_eq_true_eq]; omega)

/-- Settles O35: the delay of category 1, discrepancies, test pulses, the outputs' feedback and the relay hold. -/
theorem safetyIslandPart2 : Obligations.SafetyIslandPart2 := by
  unfold Obligations.SafetyIslandPart2
  refine ⟨?_, ?_, ?_, ?_, ?_, ?_, ?_⟩
  · intro t w s hr ht hw
    show execC1GraceExpire s = _
    unfold execC1GraceExpire
    rw [ht]
    refine congrArg Outcome.next ((if_pos hr).trans ?_)
    rw [← hw]
    rfl
  · intro pair t w v u s hr ⟨hd, hf⟩ hw hv hu
    subst hu
    subst hv
    show execDiscrepancyTimeout pair s = _
    unfold execDiscrepancyTimeout
    dsimp only
    rw [hd]
    refine (if_neg (by simp [hr, hf])).trans (congrArg Outcome.next ?_)
    rw [← hw]
    rfl
  · intro follows soRead stuck w v s hr hw hv
    refine congrArg Outcome.next ((if_pos hr).trans ?_)
    rw [show b2n true = 1 from rfl, ← hw]
    exact testPulse_one hv
  · intro follows soRead stuck w v r s hr hw hv hread
    refine congrArg Outcome.next ((if_pos hr).trans ?_)
    rw [show b2n false = 0 from rfl, ← hw]
    exact testPulse_zero hv hread
  · intro out t w s hr ⟨ht, he⟩ hw hf
    show execEdmTimeout out s = _
    unfold execEdmTimeout
    rw [ht]
    refine (if_neg (by simp [hr, he])).trans (congrArg (fun u : State => Outcome.next u.rindActs) ?_)
    rw [← hw]
    exact if_neg (by simp [hf])
  · intro t w s hr hm ⟨hp, ht⟩ hw
    show execRelayHoldTake s = _
    unfold execRelayHoldTake
    rw [if_neg (by simp [hr, hm]), hp, if_neg (by decide), ht, hw]
  · intro s hr hm hp
    exact (if_neg (by simp [hr, hm])).trans (if_pos hp)

/-- The next frame of a peer connection in RUN that owes no answer (R351, R353). -/
theorem connSend_data {c q : Nat} (hrole : s.connRole c = 2) (hrun : (s.conn c).state = 2) (hans : (s.conn c).answer = false)
    (hq : q = low 32 ((s.conn c).tx.getD 0 + 1)) :
    s.connSend c = (s.setConn c { s.conn c with tx := some q, sentAt := some s.now, answer := false }).connCan c
      (soelaone (s.par (0x400 + 16 * c) 2) 0 q (s.siteNs % 2 ^ 32) (s.connPayload c)) := by
  unfold State.connSend
  dsimp only
  rw [hrole, hrun, hans, if_neg (by decide), if_neg (by decide), if_pos rfl, if_pos rfl, ← hq]
  rfl

/-- A frame whose length or CRC is wrong (R350). -/
theorem connReceive_wrong {c : Nat} {b : List Nat}
    (h : nth b 3 0 ≠ s.par (0x403 + 16 * c) 1 ∨ b.length ≠ 16 + s.par (0x403 + 16 * c) 1 ∨
      field b (12 + s.par (0x403 + 16 * c) 1) 4 ≠ crcS (b.take (12 + s.par (0x403 + 16 * c) 1))) :
    s.connReceive c b = s.connFault c 1 :=
  if_pos (by simpa [or_assoc] using h)

/-- Settles O36: TWIN_ALIVE, the frames of connections and their time, and the refresh of the stores. -/
theorem safetyIslandPart3 : Obligations.SafetyIslandPart3 := by
  unfold Obligations.SafetyIslandPart3
  refine ⟨?_, ?_, ?_, ?_, ?_, ?_, ?_⟩
  · intro s hr
    exact (if_neg (by simp [hr])).trans (if_pos rfl)
  · intro s hr ha
    exact (if_neg (by simp [hr])).trans ((if_neg (by decide)).trans (if_neg (by simp [ha])))
  · intro conn t q w s hr ⟨hrole, hsent⟩ hw ⟨hwr, hws, hwa, hq⟩
    refine ⟨_, rfl, ?_⟩
    show execSoelaoneSend conn s = _
    unfold execSoelaoneSend
    dsimp only
    rw [if_neg (by simp [hr, hrole]), hsent]
    dsimp only
    rw [← hw, connSend_data hwr hws hwa hq]
  · intro frame s hid
    show execSoelaoneReceive frame s = _
    unfold execSoelaoneReceive
    dsimp only
    rw [hid]
  · intro frame b c n s hr hb hid hn hwrong
    subst hn
    show execSoelaoneReceive frame s = _
    unfold execSoelaoneReceive
    dsimp only
    rw [← hb, hid]
    exact congrArg Outcome.next ((if_pos hr).trans (congrArg State.rindActs (connReceive_wrong hwrong)))
  · intro conn w s hr hrole hst hw
    subst hw
    exact if_neg (by rcases hst with h | h <;> simp [hr, hrole, h])
  · intro w s hr hw
    subst hw
    exact congrArg Outcome.next (if_pos hr)

end Sys2Proof.Proofs.SafetyIsland
end

section
/-!
PROOFS. Own effects of the safety parameters' commands (spec/14).
-/
namespace Sys2Proof.Proofs.SafetyParameters

open Sys2Proof Sys2Proof.Machine Sys2Proof.Laws
open Host (Outcome)

variable {s : State} {a v : Nat}

/-- A write of the staged image's data in terms of the word at ADDR (R355, R360). -/
theorem pdataWrite_at (ha : a = s.rd SFI_PADDR.ADDR / 4 * 4) :
    s.pdataWrite v = if 0x500 ≤ a || v = s.pdata then s.wr SFI_PADDR.ADDR ((a + 4) % 2048)
      else if s.glb.mode ≠ .commission then (s.wr SFI_PADDR.ADDR ((a + 4) % 2048)).ev 0x0141 0 SFI_PDATA.DATA.off v
      else if s.confirming then
        State.paramRefuse { s.wr SFI_PADDR.ADDR ((a + 4) % 2048) with sfi := { (s.wr SFI_PADDR.ADDR ((a + 4) % 2048)).sfi with staged := tset defImage (s.wr SFI_PADDR.ADDR ((a + 4) % 2048)).sfi.staged a v } } 6 0
      else { s.wr SFI_PADDR.ADDR ((a + 4) % 2048) with sfi := { (s.wr SFI_PADDR.ADDR ((a + 4) % 2048)).sfi with staged := tset defImage (s.wr SFI_PADDR.ADDR ((a + 4) % 2048)).sfi.staged a v } } := by
  subst ha
  rfl

/-- Settles O37: writes and reads of the staged image, and the request of a confirmation. -/
theorem safetyParameters : Obligations.SafetyParameters := by
  unfold Obligations.SafetyParameters
  refine ⟨?_, ?_, ?_, ?_, ?_, ?_⟩
  · intro v a u s hu hm ⟨h5, ha⟩ hv hw hc
    refine congrArg Outcome.next ((if_pos hu).trans ((pdataWrite_at ha).trans ?_))
    rw [if_neg (by simp [hv]; omega), if_neg (by simp [hm]), if_neg (by simp [hc]), ← hw]
  · intro v a s hu hm ⟨h5, ha⟩ hv
    refine congrArg Outcome.next ((if_pos hu).trans ((pdataWrite_at ha).trans ?_))
    rw [if_neg (by simp [hv]; omega), if_pos hm]
  · intro v a s hu ha h
    refine congrArg Outcome.next ((if_pos hu).trans ((pdataWrite_at ha).trans ?_))
    rw [if_pos (by simpa using h)]
  · intro a s hu ha
    subst ha
    exact congrArg Outcome.next (if_pos hu)
  · intro v s hu hv hm
    exact congrArg Outcome.next ((if_pos hu).trans ((if_neg (by simp [hv])).trans (if_neg (by simp [hm]))))
  · intro v s hu hv hm
    exact congrArg Outcome.next ((if_pos hu).trans ((if_neg (by simp [hv])).trans (if_pos hm)))

/-- Settles O38: the confirmation's steps, and the password. -/
theorem safetyParametersPart2 : Obligations.SafetyParametersPart2 := by
  unfold Obligations.SafetyParametersPart2
  refine ⟨?_, ?_, ?_, ?_, ?_, ?_⟩
  · intro s hr hst
    exact congrArg Outcome.next ((if_pos hr).trans (if_neg (by simp [hst])))
  · intro v i s hu ⟨hm, hst⟩ hv hi ⟨h8, h4⟩
    refine congrArg Outcome.next ((if_pos hu).trans ((if_neg (by simp [hm, hst])).trans ((if_neg (by simp [hv])).trans (if_neg ?_))))
    rw [← hi, h4]
    simpa using h8
  · intro v s hu ⟨hm, hst⟩ hv
    exact congrArg Outcome.next ((if_pos hu).trans ((if_neg (by simp [hm, hst])).trans (if_pos hv)))
  · intro t w s ht hst hw
    show execConfirmTimeout s = _
    unfold execConfirmTimeout
    rw [ht]
    exact congrArg Outcome.next ((if_pos hst).trans (by rw [hw]))
  · intro v u salt s hu hv hm hs
    refine congrArg Outcome.next ((if_pos hu).trans ((if_neg (by simp [hv, hm])).trans ?_))
    rw [← hs]
  · intro t w s ht hw
    subst hw
    show execPasswordLockoutEnd s = _
    unfold execPasswordLockoutEnd
    rw [ht]
    rfl

end Sys2Proof.Proofs.SafetyParameters
end

section
/-!
PROOFS. Own effects of the thermal manager, of the die sensors and of the load switches (spec/15).
-/
namespace Sys2Proof.Proofs.ThermalAndLoadSwitches

open Sys2Proof Sys2Proof.Machine Sys2Proof.Laws
open Host (Outcome)

variable {s : State} {n : Nat}

/-! ### Conversions and die sensors -/

/-- A slot of the slow round (R363). -/
theorem hkaSlot_slow {value pin k : Nat} {w : State} (hw : w = s.slotWait)
    (hf : (if s.hkaTime / 100000 % 20 < 16 then w.thm.fast[s.hkaTime / 100000 % 20]? else none) = none) (hk : w.thm.slow = some k) :
    s.hkaSlot value pin = w.slowConversion k value pin := by
  subst hw
  unfold State.hkaSlot
  dsimp only
  rw [hf]
  dsimp only
  rw [hk]

/-- A slot that serves a promoted channel (R363). -/
theorem hkaSlot_fast {value pin c : Nat} {w : State} (hw : w = s.slotWait) (hs : s.hkaTime / 100000 % 20 < 16)
    (hc : w.thm.fast[s.hkaTime / 100000 % 20]? = some c) : s.hkaSlot value pin = w.chanReading c (w.hkaTemp c value) pin := by
  subst hw
  unfold State.hkaSlot
  dsimp only
  rw [if_pos hs, hc]

/-- Readings of the die sensors outside a die hold (R371). -/
theorem dieSensorRead_noHold {temps : List (BitVec 16)} {l : List Int} (hl : l = (temps.take 12).map (fun (t : BitVec 16) => t.toInt))
    (hn : l.length = 12) (hh : s.thm.dieHold = none) (hu : s.mainUp = true) {u : State}
    (hw : u = ((List.range 12).zip l).foldl (fun (a : State) x => a.dieReading x.1 x.2) { s with thm := { s.thm with dieT := l } }) :
    exec (.dieSensorRead temps) s =
      .next (if ((s.rd THM_DIE_CFG.TRIP : Nat) : Int) ≤ (hottest l).2 then u.dieTripped (hottest l).1 (hottest l).2 else u) := by
  show execDieSensorRead temps s = _
  unfold execDieSensorRead
  dsimp only
  rw [← hl, if_neg (by omega)]
  split
  · next h => rw [hh] at h; cases h
  · subst hw
    exact if_neg (by simp [hu])

/-- Readings of the die sensors in a die hold (R371). -/
theorem dieSensorRead_hold {temps : List (BitVec 16)} {l : List Int} {t0 i : Nat} {peak top : Int}
    (hl : l = (temps.take 12).map (fun (t : BitVec 16) => t.toInt)) (hn : l.length = 12) (hh : s.thm.dieHold = some (t0, peak))
    (ht : hottest l = (i, top)) :
    exec (.dieSensorRead temps) s = .next { s with thm := { s.thm with
      dieT := l, dieHold := some (t0, max peak top), dieSensor := if peak < top then i else s.thm.dieSensor,
      dieCool := if !decide (top ≤ (s.thm.dieTrip : Int) - 150) then none else match s.thm.dieCool with | none => some s.now | some t => some t } } := by
  show execDieSensorRead temps s = _
  unfold execDieSensorRead
  dsimp only
  rw [← hl, if_neg (by omega), ht, hh] <;> rfl

/-- Settles O39: conversions and rounds of the housekeeping ADC, and the die sensors. -/
theorem thermalAndLoadSwitches : Obligations.ThermalAndLoadSwitches := by
  unfold Obligations.ThermalAndLoadSwitches
  refine ⟨?_, ?_, ?_, ?_, ?_, ?_, ?_, ?_, ?_⟩
  · intro value pin k w v s hu hw hf hk h96 hv
    refine congrArg Outcome.next ((if_pos hu).trans ((hkaSlot_slow hw hf hk).trans ?_))
    unfold State.slowConversion
    dsimp only
    rw [if_pos h96, if_pos (show k + 1 < 124 by omega), ← hv]
  · intro value pin c w s hu hw hs hc
    exact congrArg Outcome.next ((if_pos hu).trans (hkaSlot_fast hw hs hc))
  · intro value pin k w v s hu hw hf hk ⟨h96, h112⟩ hv
    refine congrArg Outcome.next ((if_pos hu).trans ((hkaSlot_slow hw hf hk).trans ?_))
    unfold State.slowConversion
    dsimp only
    rw [if_neg (show ¬ k < 96 by omega), if_pos h112, if_pos (show k + 1 < 124 by omega), ← hv]
  · intro w s hu hv hw
    subst hw
    exact congrArg Outcome.next ((if_pos hu).trans (if_pos hv))
  · intro w s hu hv hw
    subst hw
    exact congrArg Outcome.next ((if_pos hu).trans (if_neg (by simp [hv])))
  · intro temps l s hl hn hh hu htop
    exact (dieSensorRead_noHold hl hn hh hu rfl).trans (congrArg Outcome.next (if_neg (by omega)))
  · intro temps l u s hl hn hh hu htop hw
    exact (dieSensorRead_noHold hl hn hh hu hw).trans (congrArg Outcome.next (if_pos htop))
  · intro temps l t0 i peak top s hl hn hh ht
    exact dieSensorRead_hold hl hn hh ht
  · intro t0 t peak w v s hh hc hw hv
    subst hv
    subst hw
    show execDieTripRelease s = _
    unfold execDieTripRelease
    rw [hh, hc]
    rfl

/-! ### Load switches -/

/-- A trip with retries left starts the retry timer (R373). -/
theorem tripLsw_retries {cause : Nat} {u : State}
    (hu : u = if cause = 1 then (s.bump (LSB_CH_CNT.TRIPS n)).bump (LSB_CH_CNT.SHORTS n) else s.bump (LSB_CH_CNT.TRIPS n))
    (h : (s.lsw n).used < s.rd (LSB_CH_CFG.RETRIES n)) :
    s.tripLsw n cause false = (u.setLsw n { s.lsw n with
      on := false, lastTrip := cause, inrushAt := none, inrushLeft := none, locked := false, retryAt := some (s.now + 1000000 * s.rd (LSB_CH_RETRY.RETRY_DELAY n)), retryLeft := none }).ev
        0x1101 (entSwitch n) cause (s.lsw n).used := by
  subst hu
  have hl : ¬ s.rd (LSB_CH_CFG.RETRIES n) ≤ (s.lsw n).used := by omega
  unfold State.tripLsw
  simp [hl]

/-- A trip with every retry used locks the switch (R373). -/
theorem tripLsw_locks {cause : Nat} {u : State}
    (hu : u = if cause = 1 then (s.bump (LSB_CH_CNT.TRIPS n)).bump (LSB_CH_CNT.SHORTS n) else s.bump (LSB_CH_CNT.TRIPS n))
    (h : s.rd (LSB_CH_CFG.RETRIES n) ≤ (s.lsw n).used) :
    s.tripLsw n cause false = ((u.setLsw n { s.lsw n with
      on := false, lastTrip := cause, inrushAt := none, inrushLeft := none, locked := true, retryAt := none, retryLeft := none }).ev
        0x1101 (entSwitch n) cause (s.lsw n).used).ev 0x1103 (entSwitch n) cause (s.rd (LSB_CH_CFG.RETRIES n)) := by
  subst hu
  unfold State.tripLsw
  simp [h]

/-- Outside SHADOW a host write of LSB_ON acts (R376). -/
theorem hostLsbOn_acts {v : Nat} (hm : s.glb.mode ≠ .shadow) :
    s.hostLsbOn v = (List.range 24).foldl (fun (u : State) n => (if v.testBit n then u else u.setLsw n { u.lsw n with retryAt := none, retryLeft := none }).driveLsw n) (s.wr LSB_ON.ON v) :=
  if_neg (by simpa using hm)

/-- Settles O40: the peaks, the host's commands to the switches, short circuits and overloads. -/
theorem thermalAndLoadSwitchesPart2 : Obligations.ThermalAndLoadSwitchesPart2 := by
  unfold Obligations.ThermalAndLoadSwitchesPart2
  refine ⟨?_, ?_, ?_, ?_, ?_, ?_, ?_, ?_, ?_⟩
  · intro s hu
    exact congrArg Outcome.next (if_pos hu)
  · rintro v _ s hu hm rfl
    exact congrArg Outcome.next ((if_pos hu).trans (hostLsbOn_acts hm))
  · rintro v _ s hu hm rfl
    exact congrArg Outcome.next ((if_pos hu).trans (hostLsbOn_acts hm))
  · rintro v _ s hu hm rfl
    exact congrArg Outcome.next ((if_pos hu).trans (hostLsbOn_acts hm))
  · intro v s hu
    exact congrArg Outcome.next (if_pos hu)
  · intro s hu
    exact congrArg Outcome.next (if_pos hu)
  · intro sw s hon hused
    exact congrArg Outcome.next ((if_pos hon).trans (tripLsw_retries rfl hused))
  · intro sw s hon hused
    exact congrArg Outcome.next ((if_pos hon).trans (tripLsw_locks rfl hused))
  · intro sw s hon huv hused
    exact congrArg Outcome.next ((if_pos (by simp [hon, huv])).trans (tripLsw_retries rfl hused))

/-- Settles O41: the switches' thermal trips, retries and inrush times, and the supply VSW. -/
theorem thermalAndLoadSwitchesPart3 : Obligations.ThermalAndLoadSwitchesPart3 := by
  unfold Obligations.ThermalAndLoadSwitchesPart3
  refine ⟨?_, ?_, ?_, ?_, ?_, ?_, ?_, ?_⟩
  · intro sw u v s ht hu hv
    subst hv
    subst hu
    exact congrArg Outcome.next (if_neg (by simp [ht]))
  · intro sw u s ht hu
    subst hu
    exact congrArg Outcome.next (if_neg (by simp [ht]))
  · intro sw t w s ht huv hw
    refine congrArg Outcome.next ?_
    unfold State.retryLsw
    rw [ht]
    exact (if_neg (by simp [huv])).trans (by rw [hw])
  · intro sw w s hon hw
    subst hw
    exact congrArg Outcome.next (if_pos hon)
  · intro sw t w s ht hw
    show execLsbInrushEnd sw s = _
    unfold execLsbInrushEnd
    rw [ht, hw]
    rfl
  · intro vsw u s huv hu
    subst hu
    exact congrArg Outcome.next (if_neg (by simp [huv]))
  · intro t w s huv hoff hw
    refine congrArg Outcome.next ?_
    unfold State.vswOff
    rw [huv]
    exact (if_neg (by simp [hoff])).trans (by rw [hw])
  · intro vsw t u s huv hu
    subst hu
    exact congrArg Outcome.next (if_neg (by simp [huv]))

end Sys2Proof.Proofs.ThermalAndLoadSwitches
end

section
/-!
PROOFS. Own effects of the twin's frames, of its health and of a promotion (spec/16).
-/
namespace Sys2Proof.Proofs.TwinUnits

open Sys2Proof Sys2Proof.Machine Sys2Proof.Laws
open Host (Outcome)

variable {s u : State}

/-- A frame that is taken from an admitted peer acts (R384, R396). -/
theorem twinTake_taken {h : TwinHead} (hu : s.twinRx h = (u, true) ∧ u.twin.admitted = true) (k : State → State) : s.twinTake h k = k u := by
  obtain ⟨hrx, ha⟩ := hu
  unfold State.twinTake
  rw [hrx]
  exact if_pos (by simp [ha])

/-! ### Snapshots and deltas -/

section
variable {part tick cmp : Nat} {data : List Nat} {l : List (Nat × Nat × Nat × List Nat)} (hm : s.glb.mode = .shadow)
  (hl : l = (tick, part, cmp, data) :: s.twin.snaps.filter (fun x => x.1 = tick && x.2.1 ≠ part))
include hm hl

/-- A snapshot part without the second one of its tick is held (R390). -/
theorem snapRx_held (h1 : l.find? (fun x => x.2.1 = 1) = none) :
    s.snapRx part tick cmp data = { s with twin := { s.twin with snaps := l } } := by
  unfold State.snapRx
  rw [if_neg (by simp [hm])]
  dsimp only
  rw [← hl, h1]
  cases l.find? (fun x => x.2.1 = 0) <;> rfl

/-- The part that completes a snapshot the standby may replay (R390). -/
theorem snapRx_replays {a b : Nat × Nat × Nat × List Nat} {v : State} (h0 : l.find? (fun x => x.2.1 = 0) = some a)
    (h1 : l.find? (fun x => x.2.1 = 1) = some b)
    (hc : s.flag GLB_TWIN_STAT.CONTIG = true ∧ low 32 (s.rd GLB_TWIN_DTICK.TICK + 1) = tick ∧ s.rd GLB_TWIN_STAT.SUB = 3)
    (hv : v = { s with twin := { s.twin with snaps := [] } }) :
    s.snapRx part tick cmp data = v.replayed (v.replayCmp (snapOf (a.2.2.2 ++ b.2.2.2)) == cmp) := by
  obtain ⟨hcontig, htick, hsub⟩ := hc
  subst hv
  unfold State.snapRx
  rw [if_neg (by simp [hm])]
  dsimp only
  rw [← hl, h0, h1]
  exact if_pos (by simp [hcontig, htick, hsub])

end

/-- A delta part in SHADOW (R387). -/
theorem deltaRx_shadow {f : DeltaFrame} {p : DPart} {v : State} {next : Nat} (hm : s.glb.mode = .shadow)
    (hp : p = { tick := f.tick.toNat, part := f.part.toNat, last := f.flags.toNat.testBit 0, items := f.items })
    (hv : v = { s with twin := { s.twin with parts := s.twin.parts.filter (fun (q : DPart) => decide (diff32 p.tick q.tick < 256) && !(q.tick == p.tick && q.part == p.part)) ++ [p], peerMode := some f.mode.toNat }, alp := { s.alp with leadHalt := f.mode = 5 } })
    (hn : next = low 32 (s.rd GLB_TWIN_DTICK.TICK + 1)) :
    s.deltaRx f = (if decide (0 < diff32 p.tick next) && (v.deltaOf next).isNone || p.tick == next && p.last && (v.deltaOf next).isNone
      then v.breakRun else v).applyDeltas 257 := by
  subst hn
  subst hv
  subst hp
  exact if_neg (by simp [hm])

/-! ### Epoch copies -/

/-- A chunk opens a copy where none is held (R387). -/
theorem chunkRx_opens {f : ChunkFrame} (hm : s.glb.mode = .shadow) (hc : s.twin.copy = none) :
    s.chunkRx f = { s with twin := { s.twin with copy := some { eseq := f.eseq.toNat, tick := f.tick.toNat, chunks := f.chunks.toNat, got := [(f.chunk.toNat, f.items)] } } } := by
  unfold State.chunkRx
  rw [if_neg (by simp [hm])]
  dsimp only
  rw [hc]
  dsimp only
  rw [if_neg (by decide), hc]
  rfl

/-- A copy that is discarded (R389). -/
theorem dropCopy_held {c : ECopy} {r : Nat} (hc : s.twin.copy = some c) :
    s.dropCopy r = (State.bump { s with twin := { s.twin with copy := none } } GLB_TWIN_CNT.DISCARD).ev 0x0611 0 c.eseq r := by
  unfold State.dropCopy
  rw [hc]

section
variable {f : CommitFrame} {c : ECopy} (hc : s.glb.mode = .shadow ∧ s.twin.copy = some c ∧ c.eseq = f.eseq.toNat)
include hc

/-- A commit for a copy that is whole and right (R389). -/
theorem commitRx_adopts (hall : (List.range f.chunks.toNat).all (fun i => c.got.any (fun (g : Nat × List RepItem) => g.1 = i)) = true)
    (hlen : f.total.toNat = 89600 ∧ c.chunks = f.chunks.toNat)
    (hd : (copyDigest (c.got.flatMap (fun (g : Nat × List RepItem) => g.2))).take 32 = f.digest.map (fun (b : BitVec 8) => b.toNat)) :
    s.commitRx f = s.adoptCopy c := by
  obtain ⟨hm, hcopy, he⟩ := hc
  obtain ⟨ht, hch⟩ := hlen
  unfold State.commitRx
  rw [if_neg (by simp [hm]), hcopy]
  dsimp only
  rw [if_neg (by simp [he]), hall, ht, hch, hd]
  exact if_pos (by simp only [beq_self_eq_true, Bool.and_self])

/-- A commit whose length is not that of a copy (R389). -/
theorem commitRx_drops (ht : f.total.toNat ≠ 89600) :
    s.commitRx f = (State.bump { s with twin := { s.twin with copy := none } } GLB_TWIN_CNT.DISCARD).ev 0x0611 0 c.eseq 2 := by
  obtain ⟨hm, hcopy, he⟩ := hc
  have hlen : (f.total.toNat == 89600) = false := by simpa using ht
  refine Eq.trans ?_ (dropCopy_held hcopy)
  unfold State.commitRx
  rw [if_neg (by simp [hm]), hcopy]
  dsimp only
  rw [if_neg (by simp [he]), hlen]
  exact if_neg (by simp only [Bool.and_false, Bool.false_and]; decide)

end

/-- Settles O42: deltas, snapshots and epoch copies of the leading unit. -/
theorem twinUnits : Obligations.TwinUnits := by
  unfold Obligations.TwinUnits
  refine ⟨?_, ?_, ?_, ?_, ?_, ?_, ?_, ?_, ?_⟩
  · intro n late l q u parts s hup hd hu hsend hp
    subst hp
    refine congrArg Outcome.next ((if_pos hup).trans ?_)
    unfold State.sendDelta
    rw [hd]
    subst hu
    exact if_neg (by rw [hsend]; decide)
  · intro h part tick cmp data u l s hup hrx hm hl h1
    refine congrArg Outcome.next ((if_pos hup).trans (congrArg State.twinWatch ?_))
    exact (twinTake_taken hrx _).trans (snapRx_held hm hl h1)
  · intro h part tick cmp data u v l a b s hup hrx hm hl ⟨h0, h1⟩ hc hv
    refine congrArg Outcome.next ((if_pos hup).trans (congrArg State.twinWatch ?_))
    exact (twinTake_taken hrx _).trans (snapRx_replays hm hl h0 h1 hc hv)
  · intro h f u v p next s hup hrx hm hp hv hn
    refine congrArg Outcome.next ((if_pos hup).trans (congrArg State.twinWatch ?_))
    exact (twinTake_taken hrx _).trans (deltaRx_shadow hm hp hv hn)
  · intro w s hup ⟨hm, hc⟩ hw hwc
    refine (if_neg (by simp [hup, hm, hc])).trans (congrArg Outcome.next ?_)
    rw [← hw]
    exact if_pos hwc
  · intro h f u s hup hrx ⟨hm, hc⟩
    exact congrArg Outcome.next ((if_pos hup).trans ((twinTake_taken hrx _).trans (chunkRx_opens hm hc)))
  · intro h f u c s hup hrx hc hall hlen hd
    refine congrArg Outcome.next ((if_pos hup).trans (congrArg State.twinWatch ?_))
    exact (twinTake_taken hrx _).trans (commitRx_adopts hc hall hlen hd)
  · intro h f u c s hup hrx hc ht
    refine congrArg Outcome.next ((if_pos hup).trans (congrArg State.twinWatch ?_))
    exact (twinTake_taken hrx _).trans (commitRx_drops hc ht)
  · intro c w s hup hc hw hwc
    show execEpochCommitTimeout s = _
    unfold execEpochCommitTimeout
    rw [hc]
    refine congrArg Outcome.next ((if_pos hup).trans ?_)
    rw [← hw]
    exact dropCopy_held hwc

/-! ### Health and promotion -/

/-- The health report does not tell when it is sent (R394). -/
theorem healthPayload_sent (k : Nat) : State.healthPayload { s with twin := { s.twin with healthSent := some k } } = s.healthPayload := rfl

/-- Settles O43: health reports, the peer going down, a promotion, RESYNC and the memory march. -/
theorem twinUnitsPart2 : Obligations.TwinUnitsPart2 := by
  unfold Obligations.TwinUnitsPart2
  refine ⟨?_, ?_, ?_, ?_, ?_, ?_, ?_, ?_, ?_⟩
  · intro k w u s hup ht hk hw hu
    refine (if_neg (by simp [hup, ht])).trans (congrArg Outcome.next ?_)
    rw [← hk, ← hw, hu, healthPayload_sent]
    rfl
  · intro h words u v l s hup hrx hl hv
    refine ⟨_, rfl, ?_⟩
    subst hl
    subst hv
    show execHealthReceive h words s = _
    unfold execHealthReceive
    rw [if_neg (by simp [hup]), hrx]
    exact congrArg Outcome.next (if_pos rfl)
  · intro t w s hup ht hw
    subst hw
    show execHealthTimeout s = _
    unfold execHealthTimeout
    rw [ht]
    exact if_neg (by simp [hup])
  · intro h cause tick u v s hup hrx hv hno
    subst hv
    refine congrArg Outcome.next ((if_pos hup).trans ((twinTake_taken hrx _).trans ?_))
    exact if_neg (by rw [hno]; decide)
  · intro h cause tick u v s hup hrx hv ⟨hr, hl⟩
    subst hv
    refine congrArg Outcome.next ((if_pos hup).trans ((twinTake_taken hrx _).trans ?_))
    exact if_pos (by rw [hr, hl]; decide)
  · intro d s hr hm hf
    have hm' : ((s.start d).glb.mode == .shadow) = true := by simpa using hm
    have hf' : (s.start d).flag GLB_TWIN_STAT.FIT = true := hf
    refine congrArg Outcome.next ((run_ready hr _).trans ((if_pos hm').trans ?_))
    dsimp only
    rw [if_neg (by rw [hf']; decide), if_neg (by decide)]
  · intro d z s hr hm hf
    have hm' : ((s.start d).glb.mode == .shadow) = true := by simpa using hm
    have hf' : (s.start d).flag GLB_TWIN_STAT.FIT = false := hf
    refine congrArg Outcome.next ((run_ready hr _).trans ((if_pos hm').trans ?_))
    exact if_pos (by rw [hf']; decide)
  · intro v u s hup hv hm hu
    subst hu
    exact congrArg Outcome.next ((if_pos hup).trans (if_neg (by simp [hv, hm])))
  · intro corrected uncorrectable w m s hup ⟨ht, hrun⟩ hw hm
    subst hm
    subst hw
    exact if_neg (by simp [hup, ht, hrun])

end Sys2Proof.Proofs.TwinUnits
end

section
/-!
PROOFS. Own effects of the rings, of the link, of the attention vector, of the event log and of the self-test (spec/17).
-/
namespace Sys2Proof.Proofs.HostRings

open Sys2Proof Sys2Proof.Machine Sys2Proof.Laws
open Host (Outcome)

variable {s : State}

/-! ### Doorbells and rings -/

/-- An aligned 32-bit write of a doorbell reaches its ring (R405). -/
theorem doorbell_aligned {off : BitVec 12} {size r : Nat} {v : BitVec 32} (hu : s.up = true) (h : size = 4 ∧ off.toNat = 0x40 * r ∧ r < 64) :
    exec (.doorbell off size v) s = .next (s.doorbell r v.toNat) := by
  obtain ⟨hs, ho, hr⟩ := h
  have hdiv : off.toNat / 0x40 = r := by omega
  have hmod : off.toNat % 0x40 = 0 := by omega
  exact congrArg Outcome.next ((if_pos (by simp [hu, hs, hdiv, hmod, hr])).trans (by rw [hdiv]))

/-- A doorbell of a ring that is enabled, its tail not behind the head (R416). -/
theorem doorbell_enabled {r v : Nat} (he : s.flag (HIF_RING_CFG.EN r) = true) (hh : 0 ≤ diff32 v (s.ring r).head) :
    s.doorbell r v = if s.depth r < low 32 (v + 2 ^ 32 - (s.ring r).oldest) then s.haltRing r 1 0 0
      else (s.setRing r { s.ring r with tail := v }).shadow r :=
  if_neg (by simp only [he, Bool.not_true, Bool.false_or, decide_eq_true_eq]; omega)

/-- A fetch turn of the next ring to serve (R418). -/
theorem fetchTurn_some {l : List FetchDesc} {r : Nat} (h : s.fetchOrder.find? (fun r => s.wantsFetch r && s.poolFor r != 0) = some r) :
    s.fetchTurn l = ((State.fetchRing { s with hif := { s.hif with lastRing := r } } r 8 l).markStalls).shadow r := by
  unfold State.fetchTurn
  rw [h]

/-- A fetch turn with no ring to serve (R418). -/
theorem fetchTurn_none {l : List FetchDesc} (h : s.fetchOrder.find? (fun r => s.wantsFetch r && s.poolFor r != 0) = none) :
    s.fetchTurn l = s.markStalls := by
  unfold State.fetchTurn
  rw [h]

/-- A ring that is enabled with nothing in flight (R420). -/
theorem enableRing_empty {r v : Nat} {u : State} (he : s.flag (HIF_RING_CFG.EN r) = false) (hu : u = s.ringFields r v)
    (hf : (u.ring r).flights = []) :
    s.enableRing r v = ((u.wr (HIF_RING_CFG.EN r) 1).setRing r
      { u.ring r with head := 0, tail := 0, halted := false, cause := 0, run := true, stall := false, wait := false, atCap := false }).shadow r := by
  subst hu
  exact (if_neg (by simp [he])).trans (if_pos (by rw [hf]; rfl))

/-- Settles O44: doorbells, the fetch of descriptors, enabling and disabling of rings, and failed accesses to host memory. -/
theorem ringsAndFetch : Obligations.RingsAndFetch := by
  unfold Obligations.RingsAndFetch
  refine ⟨?_, ?_, ?_, ?_, ?_, ?_, ?_, ?_, ?_, ?_⟩
  · intro off size v r s hu h he hh hd
    exact (doorbell_aligned hu h).trans (congrArg Outcome.next ((doorbell_enabled he hh).trans (if_neg (Nat.not_lt.mpr hd))))
  · intro off size v r s hu h hno
    refine (doorbell_aligned hu h).trans (congrArg Outcome.next (if_pos ?_))
    rcases hno with hno | hno <;> simp [hno]
  · intro off size v r s hu h he hh hd
    exact (doorbell_aligned hu h).trans (congrArg Outcome.next ((doorbell_enabled he hh).trans (if_pos hd)))
  · intro off size v s hno
    refine congrArg Outcome.next (if_neg ?_)
    rcases hno with hno | hno <;> simp [hno]
  · intro fetched r s hu hr
    exact congrArg Outcome.next ((if_pos hu).trans (fetchTurn_some hr))
  · intro fetched s hu hr
    exact congrArg Outcome.next ((if_pos hu).trans (fetchTurn_none hr))
  · intro ring v u s hu he hw hf
    exact congrArg Outcome.next ((if_pos hu).trans (enableRing_empty he hw hf))
  · intro ring v u s hu he hw
    subst hw
    exact congrArg Outcome.next ((if_pos hu).trans (if_pos he))
  · intro d kind s hu hk
    exact congrArg Outcome.next ((if_neg (by simp [hu])).trans (if_pos hk))
  · intro d kind f s hu hk hr hf
    show execHostAccessFailure d kind s = _
    unfold execHostAccessFailure
    rw [hf]
    exact congrArg Outcome.next ((if_neg (by simp [hu])).trans ((if_neg (by omega)).trans (if_pos hr)))

/-! ### The link and the attention vector -/

/-- Settles O45: the link, resets of the host interface, bus mastering and D3hot. -/
theorem linkAndAttention : Obligations.LinkAndAttention := by
  unfold Obligations.LinkAndAttention
  refine ⟨?_, ?_, ?_, ?_, ?_, ?_, ?_, ?_⟩
  · intro u s hu hl hw
    subst hw
    exact if_pos (by simp [hu, hl])
  · intro speed width u s hu hl hw
    subst hw
    exact if_pos (by simp [hu, hl])
  · intro u s hu hw
    subst hw
    exact if_pos hu
  · intro s hu
    exact congrArg Outcome.next (if_pos hu)
  · intro u s hu hb hw
    subst hw
    exact if_pos (by simp [hu, hb])
  · intro s hu
    exact congrArg Outcome.next (if_pos hu)
  · intro u s hu hd hw
    subst hw
    exact if_pos (by simp [hu, hd])
  · intro s hu
    exact congrArg Outcome.next (if_pos hu)

/-- Settles O46: the attention causes, MSI-X, and the counters of the host interface. -/
theorem linkAndAttentionPart2 : Obligations.LinkAndAttentionPart2 := by
  unfold Obligations.LinkAndAttentionPart2
  refine ⟨?_, ?_, ?_, ?_, ?_, ?_, ?_⟩
  · intro v u s hu hw
    subst hw
    exact congrArg Outcome.next (if_pos hu)
  · intro u s hu he hw
    subst hw
    exact if_pos (by simp [hu, he])
  · intro s hu
    exact congrArg Outcome.next (if_pos hu)
  · intro u s hu hw
    subst hw
    exact if_pos hu
  · intro u s hu hw
    subst hw
    exact if_pos hu
  · intro function s hu
    exact congrArg Outcome.next (if_neg (by simp [hu]))
  · intro u s hu hw
    subst hw
    exact congrArg Outcome.next (if_pos hu)

/-! ### Events and the self-test -/

/-- An event read whose sequence and length are valid, of events the log still holds and not waiting (R426). -/
theorem eventRead_runs {d : DescRef} {first addr : BitVec 64} {len : BitVec 32} {wait : Bool} (hr : s.ready d 0x0101 = true)
    (hf : first.toNat ≤ s.log.head) (hlen : len.toNat % 32 = 0 ∧ 32 ≤ len.toNat ∧ len.toNat ≤ 1048576) :
    exec (.eventRead d first addr len wait true) s = .next (if first.toNat < s.evOldest then
        (s.start d).deliverEvents d.ring.val d.idx.toNat s.evOldest addr.toNat len.toNat 0x00C2
      else if first.toNat = s.log.head && wait then
        { (s.start d).waitOutside d with hif := { ((s.start d).waitOutside d).hif with evWaits := ((s.start d).waitOutside d).hif.evWaits ++ [{ ring := d.ring.val, idx := d.idx.toNat, first := first.toNat, addr := addr.toNat, len := len.toNat }] } }
      else (s.start d).deliverEvents d.ring.val d.idx.toNat first.toNat addr.toNat len.toNat 0) := by
  refine congrArg Outcome.next ((run_ready hr _).trans ((if_neg ?_).trans (if_neg ?_)))
  · simp only [Bool.not_true, Bool.or_false, decide_eq_true_eq]
    exact Nat.not_lt.mpr hf
  · simp only [Bool.or_eq_true, decide_eq_true_eq]
    omega

/-- A SELF_TEST descriptor with no test running (R427). -/
theorem selfTestDesc_begins {d : DescRef} {kind : Nat} (hr : s.ready d 0x0102 = true) (hn : s.hif.selfTest = none) :
    s.selfTestDesc d kind true = (s.start d).beginSelfTest d.ring.val d.idx.toNat kind := by
  have hn' : (s.start d).hif.selfTest = none := hn
  refine (run_ready hr _).trans ((if_neg (by decide)).trans (if_neg ?_))
  rw [hn']
  decide

/-- A SELF_TEST descriptor while a test runs (R427). -/
theorem selfTestDesc_waits {d : DescRef} {kind : Nat} {x : Nat × Nat × Nat × Nat} {u : State} (hr : s.ready d 0x0102 = true)
    (hx : s.hif.selfTest = some x) (hu : u = (s.start d).waitShared d) :
    s.selfTestDesc d kind true = { u with hif := { u.hif with selfWait := u.hif.selfWait ++ [(d.ring.val, d.idx.toNat, kind)] } } := by
  subst hu
  have hx' : (s.start d).hif.selfTest = some x := hx
  refine (run_ready hr _).trans ((if_neg (by decide)).trans (if_pos ?_))
  rw [hx']
  rfl

/-- The end of a lane-delay test without a failure, none waiting (R427). -/
theorem selfTestDone_lane {b r idx lim : Nat} {u : State} (hs : s.hif.selfTest = some (r, idx, 1, lim))
    (hu : u = (s.waitTill (min lim (s.now + 10))).complete r idx false false 0 0 (leBytes 4 0 ++ leBytes 4 0)) (hw : u.hif.selfWait = []) :
    s.selfTestDone 0 b = { u with hif := { u.hif with selfTest := none } } := by
  subst hu
  unfold State.selfTestDone
  rw [hs]
  simp only [show ¬ (1 : Nat) = 2 by decide, show ¬ (1 : Nat) = 0 by decide, if_false, if_true, bne_self_eq_false, Bool.false_eq_true]
  rw [hw]

/-- Settles O47: NOP, event reads and the latch of the log's head. -/
theorem eventsAndSelfTest : Obligations.EventsAndSelfTest := by
  unfold Obligations.EventsAndSelfTest
  refine ⟨?_, ?_, ?_, ?_, ?_, ?_, ?_⟩
  · intro d s hr
    exact congrArg Outcome.next ((run_ready hr _).trans (if_pos rfl))
  · intro d s hr
    exact congrArg Outcome.next ((run_ready hr _).trans (if_neg (by decide)))
  · intro d first addr len wait s hr hf hlen ho hw
    rw [eventRead_runs hr hf hlen, if_neg (Nat.not_lt.mpr ho), if_neg (by rcases hw with h | h <;> simp [h])]
  · intro d first addr len wait s hr hf hlen ho
    rw [eventRead_runs hr hf hlen, if_pos ho]
  · intro d first addr len wait s hr hf hlen ⟨hh, hw⟩ ho
    refine ⟨_, rfl, ?_⟩
    rw [eventRead_runs hr hf hlen, if_neg (by omega), if_pos (by simp [hh, hw])]
  · intro w s hu hw ho
    show execEventReadWake s = _
    unfold execEventReadWake
    rw [hw]
    refine (if_pos hu).trans (congrArg Outcome.next ?_)
    rw [max_eq_left ho, if_neg (Nat.not_lt.mpr ho)]
  · intro s hu
    exact congrArg Outcome.next (if_pos hu)

/-- Settles O48: the latch of the log's oldest event, and the self-test. -/
theorem eventsAndSelfTestPart2 : Obligations.EventsAndSelfTestPart2 := by
  unfold Obligations.EventsAndSelfTestPart2
  refine ⟨?_, ?_, ?_, ?_, ?_, ?_⟩
  · intro s hu
    exact congrArg Outcome.next (if_pos hu)
  · intro d u s hr hn hu
    subst hu
    exact congrArg Outcome.next (selfTestDesc_begins hr hn)
  · intro d u s hr hn hu
    subst hu
    exact congrArg Outcome.next (selfTestDesc_begins hr hn)
  · intro d u s hr hn hu
    subst hu
    exact congrArg Outcome.next (selfTestDesc_begins hr hn)
  · intro d x u s hr hx hu
    exact ⟨congrArg Outcome.next (selfTestDesc_waits hr hx hu), congrArg Outcome.next (selfTestDesc_waits hr hx hu),
      congrArg Outcome.next (selfTestDesc_waits hr hx hu)⟩
  · intro a b r idx lim w u s hup hs ha hw hu hwait
    rw [hw] at hu
    refine congrArg Outcome.next ((if_pos hup).trans ?_)
    rw [ha]
    exact selfTestDone_lane hs hu hwait

end Sys2Proof.Proofs.HostRings
end
